-- ==== Sys2Proof/Word.lean ====
section
/-! DEFINITION. The vocabulary of the WX-840: its sizes, and the named sets of values that its commands and its
records draw on. Every name is the spec's own. -/

namespace Sys2Proof.Machine

/-- One byte of a record on the link. -/
abbrev Byte := BitVec 8

/-! ## Sizes (00_scope.md, section 4) -/

/-- Columns of the sensor, and values in one row of a slot. -/
abbrev columns : Nat := 5120
/-- Rows of the sensor. -/
abbrev sensorRows : Nat := 3840
/-- Pixels of one tile, which is one plane of a frame slot. -/
abbrev tilePixels : Nat := 19660800
/-- Rows of one band and of one stripe. -/
abbrev bandRows : Nat := 64
/-- Pixels of one band. -/
abbrev bandPixels : Nat := 327680
/-- Bands of a tile, and stripes of a tile. -/
abbrev bandCount : Nat := 60
/-- Frame slots of FST, numbered 0 to 47. -/
abbrev slotCount : Nat := 48
/-- Records the job table can hold (R1). -/
abbrev jobCapacity : Nat := 32
/-- Notices the notice queue can hold (R155). -/
abbrev noticeCapacity : Nat := 64
/-- Credits the stripe counter can hold (R156). -/
abbrev creditCapacity : Nat := 1024
/-- The longest exposure time, in xu. -/
abbrev maxTime : Nat := 80000
/-- Full panel output. -/
abbrev maxDrive : Nat := 4096
/-- The drive that the throttle caps the panel at (R126). -/
abbrev throttleDrive : Nat := 1024

/-! ## Blocks and parties -/

/-- The ten blocks of Table 2.1. -/
inductive Block where
  | liu | prc | bpl | fst | sfe | blu | trs | bme | cru | sou
  deriving DecidableEq, Repr

/-- A tile named by its job id and its visiting sequence number (00_scope.md, section 4). -/
structure TileRef where
  job : Nat
  seq : Nat
  deriving DecidableEq, Repr

/-- Who asked BPL for a plan (R44): PRC for a tile, or CRU for a profile, naming its flat drive. -/
inductive Planner where
  | prc (tile : TileRef)
  | cru (profile : Nat) (flatDrive : Nat)
  deriving DecidableEq, Repr

/-- Who asked SFE for an exposure (chapter 7): PRC for a tile, BPL for a plan request, or CRU. -/
inductive ExposureClient where
  | prc (tile : TileRef)
  | bpl (planner : Planner)
  | cru
  deriving DecidableEq, Repr

/-- Who asked TRS for a load, move or unload (R140 to R142). HOME's own legs have no client. -/
inductive TrsClient where
  | prc | cru
  deriving DecidableEq, Repr

/-- The requesters of the memory port (R109). -/
inductive PortClient where
  | sfe | bme | sou
  deriving DecidableEq, Repr

/-! ## Plans -/

/-- One entry of a bracket plan: a time in xu and a drive (R3, R53). -/
structure PlanEntry where
  time : Nat
  drive : Nat
  deriving DecidableEq, Repr

/-- The planning flags that a plan completion carries (R54). -/
structure PlanFlags where
  rangeShort : Bool := false
  brightShort : Bool := false
  darkShort : Bool := false
  tCapped : Bool := false
  deriving DecidableEq, Repr

/-- The nine tile flags of Table 1.6, in the bit order of Table 10.5. -/
structure TileFlags where
  rangeShort : Bool := false
  brightShort : Bool := false
  darkShort : Bool := false
  tCapped : Bool := false
  darkStale : Bool := false
  lampDev : Bool := false
  throttled : Bool := false
  retried : Bool := false
  limit : Bool := false
  deriving DecidableEq, Repr

/-! ## Jobs and the run -/

/-- Which face of the plate is toward the sensor (Table 1.1). -/
inductive View where
  | glassSide | emulsionSide
  deriving DecidableEq, Repr

/-- The output code of the merged pixels; LINEAR16 has a shift of 0 to 16 (Table 1.1). -/
inductive Encoding where
  | density16
  | linear16 (shift : Nat)
  deriving DecidableEq, Repr

/-- How the bracket of each tile is planned (Table 1.1). -/
inductive Policy where
  | auto (dSpan : Nat)
  | fixed (plan : List PlanEntry)
  deriving DecidableEq, Repr

/-- The job states of Table 1.3. -/
inductive JobState where
  | queued | loading | capturing | unloading | draining | done | failed | aborted
  deriving DecidableEq, Repr

/-- The failure causes of Table 1.4. -/
inductive FailCause where
  | noCarrier | transport | sensor | command
  deriving DecidableEq, Repr

/-- The outcome field of a job record (R9). -/
inductive JobOutcome where
  | done
  | failed (cause : FailCause)
  | aborted
  deriving DecidableEq, Repr

/-- The tile states of Table 1.5. -/
inductive TileState where
  | masked | pending | positioning | metering | planned | exposing | exposed | merging | merged | sending
  | sent | abandoned
  deriving DecidableEq, Repr

/-- The hold causes of Table 2.2. -/
inductive HoldCause where
  | transport | sensor | lamp | darkStale | notCalibrated | requested | step | link
  deriving DecidableEq, Repr

/-- The run states of Table 2.1; the hold cause is present in HELD only (R17). -/
inductive RunState where
  | idle | running | holding
  | held (cause : HoldCause)
  | quiescing
  deriving DecidableEq, Repr

/-! ## Frame store -/

/-- The names under which a slot is a reference (Table 6.1). -/
inductive RefName where
  | bias | rate
  | flat (profile : Nat)
  deriving DecidableEq, Repr

/-- The roles of a calibration work slot (Table 6.1). -/
inductive CalRole where
  | workLow | workHigh | exposure | biasResult | rateResult | flatResult
  deriving DecidableEq, Repr

/-- The slot states of Table 6.1, each with its owner (R99). -/
inductive SlotState where
  | free
  | reserved (tile : TileRef)
  | exposing (tile : TileRef)
  | raw (tile : TileRef)
  | dest (tile : TileRef)
  | merged (tile : TileRef)
  | streaming
  | ref (name : RefName)
  | calwork (role : CalRole)
  deriving DecidableEq, Repr

/-- The changes of one slot of a tile that Table 6.2 lists for SFE, BME, SOU and PRC. Admission, the release of a
whole tile, and CRU's changes have commands of their own. -/
inductive SlotChange where
  | reservedToExposing | exposingToRaw | exposingToReserved | reservedToDest | rawToFree | destToMerged | destToFree
  | reservedToFree | exposingToFree | mergedToStreaming | mergedToFree | streamingToFree
  deriving DecidableEq, Repr

/-- The kinds of calibration (Table 5.1); a flat calibration names its profile. -/
inductive CalKind where
  | dark
  | flat (profile : Nat)
  deriving DecidableEq, Repr

/-- The failure causes of a calibration (Table 5.2). -/
inductive CalCause where
  | sensor | lamp | transport | flatLow
  deriving DecidableEq, Repr

/-- The result of a calibration, as CAL_DONE carries it (R97). -/
inductive CalResult where
  | ok
  | failed (cause : CalCause)
  | cancelled
  deriving DecidableEq, Repr

/-! ## Sensor, lamp and transport -/

/-- The lamp condition of an exposure request and of a lamp-ready ask (R113, R130). -/
inductive LampCond where
  | settled (drive : Nat)
  | dark
  deriving DecidableEq, Repr

/-- Where a frame is read to (section 7.2). -/
inductive Target where
  | slot (n : Nat) (tile : TileRef)
  | calwork (n : Nat)
  | histogram
  deriving DecidableEq, Repr

/-- The fault causes of the lamp (Table 8.1). -/
inductive LampFault where
  | unstable | noLight
  deriving DecidableEq, Repr

/-- The fault causes of SFE (R112). -/
inductive SensorFault where
  | readout | init
  deriving DecidableEq, Repr

/-- The fault causes of TRS (Table 9.1). -/
inductive TrsFault where
  | timeout | noCarrierSeen | orphan | lostCarrier
  deriving DecidableEq, Repr

/-- The target point of a move (R141): a point of the plate in 0.1 mm, or the aperture centre of the reference
carrier, which is a fixed station point. -/
inductive StageTarget where
  | point (x y : Int)
  | aperture
  deriving DecidableEq, Repr

/-- A magazine entry (R138). -/
inductive MagEntry where
  | vacant | present | out | unknown
  deriving DecidableEq, Repr

/-! ## Parameters (Table 10.3) -/

/-- The rounding modes of Table 4.3. -/
inductive RoundingMode where
  | nearestUp | nearestEven
  deriving DecidableEq, Repr

/-- What PRC does with stale dark references (R23). -/
inductive DarkPolicy where
  | hold | continue
  deriving DecidableEq, Repr

/-- Whether the run stops after each plate (R28). -/
inductive RunMode where
  | auto | step
  deriving DecidableEq, Repr

/-- The exposure ratio between successive exposures of a bracket. -/
inductive StepRatio where
  | r4 | r8 | r16
  deriving DecidableEq, Repr

/-- The ratio as a number. -/
def StepRatio.val : StepRatio → Nat
  | .r4 => 4
  | .r8 => 8
  | .r16 => 16

/-- The seven maskable notice kinds, as the marks of notice_enable. -/
structure NoticeMask where
  jobState : Bool := true
  tileDone : Bool := true
  runState : Bool := true
  lampState : Bool := true
  sensorState : Bool := true
  transportState : Bool := true
  calDone : Bool := true
  deriving DecidableEq, Repr

/-- The parameters of Table 10.3, by name. -/
inductive Param where
  | satCode | roundingMode | meterTime | topCode | hiPpm | stepRatio | settleMs | motionTimeoutMs | darkTolerance
  | darkPolicy | darkTime | flatDrive | lampLimit | lampHyst | sensorLimit | sensorHyst | settleTolerance
  | lampIdleS | runMode | noticeEnable
  deriving DecidableEq, Repr

/-! ## Frames

A plane of 5120 × 3840 values is held by its runs: pairs of a count and the value that many pixels in row order
share. `Machine/Planes.lean` gives the one canonical form and the operations. -/

/-- Pixel values in row order, as runs of equal values. -/
abbrev Runs (α : Type) := List (Nat × α)

end Sys2Proof.Machine
end

