-- ==== Sys2Proof/Syntax.lean ====
section
/-! DEFINITION. The commands of the block: one constructor of `Instr` for each row of spec/opcode_table.json, in the
table's order. A row is a record from the host, a report or request between two blocks, an event of the station
equipment, or the expiry of a timer. The operands are those the governing rule gives the row; a reading that the
block takes from the station at the event itself (the presence sensor, a temperature, a frame) is an operand of
the event, marked "reading" below. -/

namespace Sys2Proof.Machine

/-- The part of a command record that every command has (R149): the host's tag, and whether the payload has the
length and the operand form that its command needs. -/
structure Hdr where
  tag : Byte
  fits : Bool
  deriving DecidableEq, Repr

/-- The operand of GET_PARAM (R151): a parameter (`none` names no parameter), or the weight table from an index. -/
inductive GetWhat where
  | param (p : Option Param)
  | weights (start : Nat)
  deriving DecidableEq, Repr

/-- An exposure request (section 7.2). `stage` is the condition that the stage be at rest. -/
structure ExposureReq where
  client : ExposureClient
  time : Nat
  target : Target
  lamp : LampCond
  stage : Bool
  deriving DecidableEq, Repr

/-- What SFE hands to PRC at the completion of a tile's exposure (R119). `withFrame` is false when FST refused the
slot because the tile had been released. -/
structure ExposureDone where
  tile : TileRef
  time : Nat
  drive : Nat
  m : Nat
  temp : Int
  slot : Nat
  throttled : Bool
  withFrame : Bool
  deriving DecidableEq, Repr

/-- One unit of port work (R109): one row of one slot. `codes` is the row's content for a write of SFE (reading). -/
structure PortUnit where
  client : PortClient
  write : Bool
  slot : Nat
  row : Nat
  codes : Runs Nat
  deriving DecidableEq, Repr

/-- The two kinds of accumulation (R78). -/
inductive AccKind where
  | raw
  | darkCorrected (time : Nat)
  deriving DecidableEq, Repr

/-- What reaches CRU when its load, move or unload ends badly (R96): NO_CARRIER, a fault, or a refusal by TRS. -/
inductive CalTrsReport where
  | noCarrier | fault | refused
  deriving DecidableEq, Repr

end Sys2Proof.Machine

namespace Sys2Proof

open Machine

/-- The commands, one for each row of spec/opcode_table.json. -/
inductive Instr where
  -- link, frames and host commands (chapter 10)
  | powerOn (seen : Bool)
  | attach
  | detach
  | badFrame (transfer : List Byte)
  | badKind (kind tag : Byte)
  | recordSent
  | identify (h : Hdr)
  | setParam (h : Hdr) (p : Option Param) (value : Nat)
  | getParam (h : Hdr) (what : GetWhat)
  | loadTable (h : Hdr) (start : Nat) (entries : List Nat)
  | home (h : Hdr)
  | queryMagazine (h : Hdr)
  | calibrateDark (h : Hdr)
  | calibrateFlat (h : Hdr) (profile : Nat)
  | calibrateCancel (h : Hdr)
  | submitJob (h : Hdr) (payload : List Byte)
  | queryJob (h : Hdr) (job start : Nat)
  | releaseJob (h : Hdr) (job : Nat)
  | abortJob (h : Hdr) (job : Nat)
  | hold (h : Hdr)
  | resume (h : Hdr)
  | grantStripes (h : Hdr) (n : Nat)
  | queryStatus (h : Hdr) (clear : Bool)
  | clearStage (h : Hdr) (seen : Bool)
  | resetSoft (h : Hdr)
  | resetFull (h : Hdr)
  | quiesceAck (b : Block) (seen : Bool)
  | resetTimeout (seen : Bool)
  -- the plate run (chapter 2)
  | startJob
  | holdPoint
  | loadComplete
  | noCarrier
  | settleCompletion
  | planCompletion (tile : TileRef) (plan : List PlanEntry) (attempts : Nat) (flags : PlanFlags)
  | admissionGrant (tile : TileRef) (slots : List Nat)
  | exposureEnd (tile : TileRef) (m : Nat)
  | exposureCompletion (r : ExposureDone)
  | retryReport (tile : TileRef) (metering : Bool)
  | secondReadoutFailure (tile : TileRef)
  | transportFault
  | backlightFault (cause : LampFault)
  | unloadComplete
  | trsEmptyReport
  | reinitEndReport
  | cruIdleReport
  -- the bracket planner (chapter 3)
  | planRequest (r : Planner)
  | planWithdraw (r : Planner)
  | attemptCompletion (r : Planner) (attempt m : Nat)
  -- the frame store (chapter 6)
  | admissionRequest (tile : TileRef) (n : Nat)
  | admissionWithdraw (tile : TileRef)
  | slotChange (slot : Nat) (change : SlotChange) (tile : TileRef)
  | tileRelease (tile : TileRef)
  | calworkRequest (kind : CalKind)
  | calCommit (entries : List (Nat × RefName))
  | calworkReturn (slots : List Nat)
  | portUnitRequest (u : PortUnit)
  | portUnitDone
  -- the sensor front end (chapter 7)
  | exposureRequest (r : ExposureReq)
  | lampReadyGrant
  | interlockGrant
  | lampLost
  | lampFaultReport
  | stageFaultReport
  | goAhead
  | exposureWithdraw (c : ExposureClient)
  | exposureTimerExpiry (since : Nat)
  | readoutCompletion (frame : Runs Nat)
  | readoutTimeout
  | flushCompletion
  | sensorTempSample (t : Int)
  | reinitRequest
  | reinitComplete
  | reinitTimeout
  -- the backlight unit (chapter 8)
  | lightRequest (d : Nat)
  | monitorSample (v : Nat)
  | lampSettleTimeout
  | panelTempSample (t : Int)
  | lampReadyAsk (cond : LampCond) (time : Nat)
  | lampReadyRelease (since : Nat)
  | darkHold
  | darkHoldRelease
  | leaveFault
  | idleTimerExpiry
  | deferredStandby
  -- the transport (chapter 9)
  | loadRequest (c : TrsClient) (position : Nat)
  | moveRequest (c : TrsClient) (target : StageTarget)
  | unloadRequest (c : TrsClient) (seen : Bool)
  | interlockAsk
  | interlockRelease
  | loadLegCompletion (seen : Bool)
  | moveLegCompletion
  | settleTimerExpiry
  | unloadLegCompletion
  | homeUnloadLegDone
  | homeAxisLegDone
  | homeScanLegDone (present : BitVec 20)
  | motionTimeout (seen : Bool) (scanned : List (Nat × Bool))
  | lostCarrier
  -- the bracket merge (chapter 4)
  | mergeTakeUp
  | bandCompletion
  | bmeAbandon (tile : TileRef)
  | calWorkRequest (low high : Nat)
  | accumulateRequest (slot : Nat) (kind : AccKind)
  | biasFinish (result : Nat)
  | rateFinish (time biasSlot result : Nat)
  | workClear
  | flatMean (result : Nat)
  | flatGain (result mean yClear : Nat)
  | calRelease
  -- the calibration reference unit (chapter 5)
  | calworkGrant
  | calWorkAccepted (ok : Bool) (low high : Nat)
  | calFrameComplete (temp : Int) (m : Option Nat)
  | accumulationComplete
  | biasFinishComplete (b0 : Nat)
  | clearComplete
  | rateFinishComplete
  | flatLoadComplete
  | flatSettleComplete
  | flatPlanCompletion (entry : PlanEntry) (flags : PlanFlags)
  | flatMeanComplete (mean : Nat)
  | flatGainComplete (defects lClear : Nat)
  | flatUnloadComplete
  | calSensorFailure
  | calLampFault
  | calTransportFault (r : CalTrsReport)
  -- the stripe output unit (chapter 10)
  | stripeStart
  | stripeEnd
  | souAbandon (tile : TileRef)
  | interlockAskWithdraw
  deriving DecidableEq, Repr

/-- A command as it travels between blocks: a reading that the receiver takes from the station when it takes the
command is no part of the message, so it is set to a fixed value. -/
def Instr.asMessage : Instr → Instr
  | .unloadRequest c _ => .unloadRequest c true
  | .quiesceAck b _ => .quiesceAck b true
  | c => c

end Sys2Proof
end

