-- ==== Sys2Proof/Decode.lean ====
section
/-! DEFINITION. The commands that a word of the table's bits spells. No row of spec/opcode_table.json gives bits: a
command reaches the part as a record on the link, or as an event, and the records' layouts (Table 10.4) give the
kinds no values. So no word spells a command. -/

namespace Sys2Proof

/-- The command that a word spells: none, since no row gives bits. -/
def decodeTableWord (_nbits _w : Nat) : Option Instr := none

end Sys2Proof
end

