-- ==== Sys2Proof/Config.lean ====
section
/-! DEFINITION. The free values: what the spec computes with but gives no value for. Each is a constant without a
body, so that nothing can be proved of it but what holds for every value. `State.freeCount` is the counter they are
applied to where a fresh value is wanted each time. None of them is met in a run that the rules allow; each stands at
a corner of one operation's operands (log entries 14 to 18, 20 and 32). -/

namespace Sys2Proof.Config

/-- The measured intensity of an exposure when no monitor sample at all was ever taken before it (R131 gives the mean
of the window's samples, or else the last sample before the window). Log entry 14. -/
opaque freeIntensity : Nat → Nat

/-- The value read for a pixel of a reference that the reference set does not hold when a merge context is fixed
(R60 names the reference slots; R20 starts no job without them). Log entry 15. -/
opaque missingReference : Nat

/-- The log value of 0, which R73 gives for values of 1 or more only. Log entry 16. -/
opaque logOfZero : Nat

/-- The dark rate that a rate finish with a time of 0 xu writes, from the excess (R79 divides by the time).
Log entry 17. -/
opaque rateAtZeroTime : Nat → Nat

/-- The clear intensity of a flat calibration whose exposure value is 0, from the flat mean (R93 divides by the
exposure value). Log entry 18. -/
opaque clearAtZeroExposure : Nat → Nat

/-- What the work plane holds for a sum that passes 32 bits (R78 adds every frame whatever the count), cut to 32 bits
where it is used. Log entry 32. -/
opaque sumOverflow : Nat → Nat

/-- What a bias finish or a flat mean writes for a mean that passes 16 bits, cut to 16 bits where it is used. Log
entry 32. -/
opaque meanOverflow : Nat → Nat

/-- The logic revision that IDENTIFY gives (R153); the spec names no value. Log entry 20. -/
opaque logicRevision : Nat

end Sys2Proof.Config
end

