-- ==== Sys2Proof/Machine/State.lean ====
section
/-! DEFINITION. Everything the spec gives the WX-840, block by block, as plain data, and the state after power-on.
Each structure is one block of Table 2.1 (or one record of a block); its docstring names the rule that lists it. -/

namespace Sys2Proof.Machine

/-! ## Stops -/

/-- No command of this block stops the machine: every rule of the spec gives every command an effect in every state
(a refusal of the spec is a reply, or a request turned back). So there is no fault. -/
inductive Fault where
  deriving DecidableEq, Repr

/-- Reasons for which a command has no meaning in the model. -/
inductive Refusal where
  /-- Raised by an arm of `exec` for a row of the table that has no meaning yet. Safe. No arm is in this case. -/
  | notModelled (mnemonic : String)
  deriving DecidableEq, Repr

/-! ## Records of the job table (chapter 1) -/

/-- The tile statistics of Table 4.5. -/
structure Stats where
  clippedBright : Nat := 0
  clippedDense : Nat := 0
  overClear : Nat := 0
  denseLimit : Nat := 0
  limit : Nat := 0
  minCode : Option Nat := none
  maxCode : Option Nat := none
  deriving DecidableEq, Repr

/-- An exposure record (R13). -/
structure ExposureRecord where
  time : Nat
  drive : Nat
  m : Nat
  temp : Int
  slot : Nat
  lampDev : Bool
  throttled : Bool
  deriving DecidableEq, Repr

/-- A tile record (R11). -/
structure Tile where
  row : Nat
  col : Nat
  maskIndex : Nat
  seq : Nat
  cx : Int
  cy : Int
  state : TileState
  attempts : Nat := 0
  plan : Option (List PlanEntry) := none
  exposures : List ExposureRecord := []
  flags : TileFlags := {}
  stats : Option Stats := none
  deriving DecidableEq, Repr

/-- A job record (Table 1.1). -/
structure Job where
  id : Nat
  position : Nat
  width : Nat
  height : Nat
  overlap : Nat
  view : View
  profile : Nat
  policy : Policy
  mask : BitVec 64
  encoding : Encoding
  rush : Bool
  label : Option (List Byte)
  cols : Nat
  rows : Nat
  state : JobState
  outcome : Option JobOutcome
  tiles : List Tile
  sent : Nat
  abandoned : Nat
  masked : Nat
  deriving DecidableEq, Repr

/-! ## Small records shared by several blocks -/

/-- The stage record of TRS (R137). -/
inductive StageRecord where
  | none
  | carrier (origin : Nat)
  | unknownCarrier
  deriving DecidableEq, Repr

/-- The stage position (R137). -/
inductive StagePos where
  | unknown | transfer | aperture
  | point (x y : Int)
  deriving DecidableEq, Repr

/-- The legs of HOME (R145). -/
inductive HomeLeg where
  | unload | axis | scan
  deriving DecidableEq, Repr

/-- The transport states of Table 9.1. HOMING carries its leg; `homingStopped` is a HOME that a quiesce has stopped
after the leg named, until the reset is applied (R147). -/
inductive TrsState where
  | unhomed
  | homing (leg : HomeLeg)
  | homingStopped (leg : HomeLeg)
  | empty | loading | atRest | moving | settling | unloading
  | fault (cause : TrsFault)
  deriving DecidableEq, Repr

/-- The lamp states of Table 8.1. -/
inductive LampState where
  | standby | warming | settling | settled | dark
  | fault (cause : LampFault)
  deriving DecidableEq, Repr

/-- The states of SFE (Table 7.1). -/
inductive SfeState where
  | idle | armed | exposing | reading | held | fault
  deriving DecidableEq, Repr

/-- The states of BME (Table 4.1). -/
inductive BmeState where
  | idle | merging | abandoning | calReady | calBusy
  deriving DecidableEq, Repr

/-- The states of CRU (Table 5.1). -/
inductive CruState where
  | idle | waiting | darkBias | darkRate | flatLoad | flatMeter | flatFrames | flatUnload | cancelling
  deriving DecidableEq, Repr

/-- The two resets (R160). -/
inductive ResetKind where
  | soft | full
  deriving DecidableEq, Repr

/-- The kinds of command that a reply names (Table 10.2). `raw` is a kind byte that names no command, or that of a
badly framed transfer (R149). -/
inductive CommandKind where
  | identify | setParam | getParam | loadTable | home | queryMagazine | calibrate | submitJob | queryJob | releaseJob
  | abortJob | hold | resume | grantStripes | queryStatus | clearStage | reset
  | raw (kind : Byte)
  deriving DecidableEq, Repr

/-- The status codes of Table 10.1. -/
inductive Status where
  | ok | clamped | badFrame | badKind | badArg | tableFull | dupId | slotClaimed | unknownJob | busy | wrongState
  | notHomed | notCalibrated
  deriving DecidableEq, Repr

/-! ## Parameters -/

/-- The parameter table (Table 10.3), with its defaults. -/
structure Params where
  satCode : Nat := 15800
  roundingMode : RoundingMode := .nearestUp
  meterTime : Nat := 10
  topCode : Nat := 12000
  hiPpm : Nat := 500
  stepRatio : StepRatio := .r8
  settleMs : Nat := 150
  motionTimeoutMs : Nat := 20000
  darkTolerance : Nat := 32
  darkPolicy : DarkPolicy := .hold
  darkTime : Nat := 20000
  flatDrive : Nat := 4096
  lampLimit : Nat := 960
  lampHyst : Nat := 80
  sensorLimit : Nat := 800
  sensorHyst : Nat := 48
  settleTolerance : Nat := 8
  lampIdleS : Nat := 120
  runMode : RunMode := .auto
  noticeEnable : NoticeMask := {}
  deriving DecidableEq, Repr

/-- The default weight table (section 4.2.6, R152): entry k is 0 below 4, 2k below 128, and 255 from there on. -/
def defaultWeights : Vector Nat 256 :=
  Vector.ofFn fun k => if k.val < 4 then 0 else if k.val < 128 then 2 * k.val else 255

/-- The sticky event set (R154). -/
structure Sticky where
  lampUnstable : Bool := false
  throttleSeen : Bool := false
  sensorHeldSeen : Bool := false
  noticeOverflow : Bool := false
  badFrameSeen : Bool := false
  deriving DecidableEq, Repr

/-! ## Calibration references and frame store contents -/

/-- The dark entry of the reference set (Table 5.1). -/
structure DarkEntry where
  biasSlot : Option Nat := none
  rateSlot : Option Nat := none
  b0 : Nat := 0
  temp : Int := 0
  valid : Bool := false
  deriving DecidableEq, Repr

/-- One optics profile of the reference set (Table 5.1). -/
structure Profile where
  flatSlot : Option Nat := none
  yClear : Nat := 0
  lClear : Nat := 0
  valid : Bool := false
  deriving DecidableEq, Repr

/-! ## Notices and replies (chapter 10) -/

/-- The notices, each with what its rule says it carries. -/
inductive Notice where
  /-- R16. -/
  | jobState (id : Nat) (label : Option (List Byte)) (state : JobState) (outcome : Option JobOutcome)
      (sent abandoned masked : Nat)
  /-- R16; the statistics only for a tile that was MERGED before it ended. -/
  | tileDone (id row col seq : Nat) (state : TileState) (flags : TileFlags) (stats : Option Stats)
  /-- R17. -/
  | runState (run : RunState) (active head : Option Nat)
  /-- R136. -/
  | lampState (state : LampState) (throttle : Bool) (commanded : Nat) (panelTemp : Int)
  /-- R124. -/
  | sensorState (state : SfeState) (cause : Option SensorFault) (temp : Int) (mark : Bool)
  /-- R148; the entries only at a completed scan. -/
  | transportState (state : TrsState) (homed : Bool) (stage : StageRecord) (entries : Option (Vector MagEntry 20))
  /-- R97. -/
  | calDone (kind : CalKind) (result : CalResult) (dark : Option (Nat × Int)) (mean : Option Nat)
      (flat : Option (PlanEntry × Nat × Nat × Nat × Nat × PlanFlags))
  /-- R155: the count of notices dropped. -/
  | overflow (count : Nat)
  deriving DecidableEq, Repr

/-- What QUERY_STATUS reports of SFE (R112). -/
structure SfeReport where
  state : SfeState
  cause : Option SensorFault
  temp : Int
  mark : Bool
  held : Option (ExposureClient × Target)
  deriving DecidableEq, Repr

/-- The number of slots in each state (R99). -/
structure SlotCounts where
  free : Nat
  reserved : Nat
  exposing : Nat
  raw : Nat
  dest : Nat
  merged : Nat
  streaming : Nat
  ref : Nat
  calwork : Nat
  deriving DecidableEq, Repr

/-- The items of QUERY_STATUS (R153), block by block. -/
structure StatusReport where
  run : RunState
  active : Option Nat
  head : Option Nat
  bmeState : BmeState
  bmeTile : Option (TileRef × Nat)
  mergeQueue : Nat
  slots : SlotCounts
  admission : Option (TileRef × Nat)
  sfe : SfeReport
  lamp : LampState
  requested : Nat
  commanded : Nat
  throttle : Bool
  panelTemp : Int
  lastSample : Option Nat
  trs : TrsState
  cru : CruState
  calRequest : Option CalKind
  darkValid : Bool
  profilesValid : Vector Bool 4
  b0 : Nat
  darkTemp : Int
  stripeInTransfer : Bool
  credits : Nat
  outputQueue : Nat
  outputHead : Option (TileRef × Nat)
  attached : Bool
  notices : Nat
  overflow : Nat
  sticky : Sticky
  deriving DecidableEq, Repr

/-- The summary of QUERY_JOB (R15). -/
structure JobSummary where
  id : Nat
  position : Nat
  label : Option (List Byte)
  view : View
  profile : Nat
  policy : Policy
  encoding : Encoding
  rush : Bool
  cols : Nat
  rows : Nat
  state : JobState
  outcome : Option JobOutcome
  sent : Nat
  abandoned : Nat
  masked : Nat
  deriving DecidableEq, Repr

/-- The value of a parameter as a reply carries it (log entry 8 gives the codes of the named values). -/
abbrev ParamValue := Nat

/-- What a reply carries beside its status and kind. -/
inductive ReplyBody where
  | none
  | identity (vendor family part : String) (revision frameSlots jobRecords notices credits : Nat)
  | param (p : Param) (value : ParamValue)
  | weights (entries : List Nat)
  | accepted (cols rows unmasked : Nat)
  | job (summary : JobSummary) (tiles : List Tile)
  | grant (accepted counter : Nat)
  | magazine (entries : Vector MagEntry 20) (stage : StageRecord) (pos : StagePos) (state : TrsState) (homed : Bool)
  | status (report : StatusReport)
  | reset (kind : ResetKind) (forced : List Block) (run : RunState)
  deriving DecidableEq, Repr

/-- A reply record (R149, R150). -/
structure Reply where
  tag : Byte
  status : Status
  kind : CommandKind
  body : ReplyBody
  deriving DecidableEq, Repr

/-- A record that has left on the control pipe: a reply, or a notice with its sequence number as the tag (R150). -/
inductive Record where
  | reply (r : Reply)
  | notice (seq : Nat) (n : Notice)
  deriving DecidableEq, Repr

/-! ## The blocks -/

/-- A reset in progress at LIU (R160): its kind and tag, the blocks that have not acknowledged, the replies to the
commands refused with BUSY meanwhile, and whether a detach has taken the RESET reply. While this is present the 10 s
reset timer runs. -/
structure ResetWork where
  kind : ResetKind
  tag : Byte
  waiting : List Block
  busy : List Reply := []
  replyLost : Bool := false
  deriving DecidableEq, Repr

/-- LIU (R149 to R161). `sent` is the record that left last: the model's view of the outgoing pipe. -/
structure Liu where
  attached : Bool
  params : Params
  weights : Vector Nat 256
  sticky : Sticky
  replies : List Reply
  notices : List Notice
  overflow : Nat
  noticeSeq : Nat
  resetWork : Option ResetWork
  sent : Option Record
  deriving DecidableEq, Repr

/-- PRC's request outstanding with TRS. -/
inductive TrsRequest where
  | load
  | move (seq : Nat)
  /-- the move that brings the stage back to a retried tile (R27) -/
  | moveBack (seq : Nat)
  | unload
  /-- a recovery unload (R38) -/
  | recovery
  deriving DecidableEq, Repr

/-- PRC (R1, R17) with the requests it has outstanding (R31) and what it has put off: `holdByLink` is that the hold
was begun by a detach (R31), `retryBack` the tile whose repeat waits for the stage to come back (R27), `unloadNext` an
unload or recovery unload put off to the settle completion of the move in progress (R35, R39), `recoveryJob` the job
that owned the carrier under recovery (R38), `lampAfterUnload` a lamp fault reported while UNLOADING (R40). -/
structure Prc where
  jobs : List Job
  queue : List Nat
  run : RunState
  active : Option Nat
  abortMark : Bool
  holdByLink : Bool
  trsReq : Option TrsRequest
  planReq : Option TileRef
  admReq : Option TileRef
  expReq : Option TileRef
  retryBack : Option TileRef
  unloadNext : Option TrsRequest
  recoveryJob : Option Nat
  lampAfterUnload : Bool
  deriving DecidableEq, Repr

/-- The copies a plan request uses (R45). -/
structure PlanCopies where
  meterTime : Nat
  topCode : Nat
  hiPpm : Nat
  stepRatio : StepRatio
  satCode : Nat
  dSpan : Nat
  b0 : Nat
  deriving DecidableEq, Repr

/-- How an attempt came out (R49). -/
inductive AttemptResult where
  | overexposed | underexposed
  | metered (cHi : Nat)
  deriving DecidableEq, Repr

/-- The metering attempt state (R44). -/
structure Metering where
  planner : Planner
  attempt : Nat
  time : Nat
  drive : Nat
  copies : PlanCopies
  m : Option Nat := none
  last : Option AttemptResult := none
  deriving DecidableEq, Repr

/-- BPL (R44): IDLE is the absence of a metering. -/
structure Bpl where
  work : Option Metering
  deriving DecidableEq, Repr

/-- The memory port (R109): the unit being served, at most one waiting unit of each requester, and the arbiter's mark
of which of BME and SOU was served last. A unit of SFE in service whose readout writes no more has its write mark cleared
(R122, log entry 37). -/
structure Port where
  serving : Option PortUnit
  waitSfe : Option PortUnit
  waitBme : Option PortUnit
  waitSou : Option PortUnit
  last : PortClient
  deriving DecidableEq, Repr

/-- FST (R99): slot states, the admission wait, the port, the quiesce mark, and the planes of the 48 slots. -/
structure Fst where
  slots : Vector SlotState 48
  wait : Option (TileRef × Nat)
  port : Port
  quiesce : Bool
  planes : Vector (Runs Nat) 48
  deriving DecidableEq, Repr

/-- The phase of an ARMED request (R114): waiting for the go-ahead, for lamp ready, or for the stage interlock. -/
inductive ArmPhase where
  | goAhead | lamp | stage
  deriving DecidableEq, Repr

/-- A request held by SFE, with its retry count; `cleared` is that the go-ahead for a repeat has been given. -/
structure HeldReq where
  req : ExposureReq
  retry : Nat
  cleared : Bool
  deriving DecidableEq, Repr

/-- The exposure in progress (R112); `throttled` is that the throttle flag was set at some point of it (R13). While
it is present the exposure timer runs. -/
structure Exposing where
  req : ExposureReq
  retry : Nat
  throttled : Bool
  deriving DecidableEq, Repr

/-- What a readout is for: an exposure, or a flush with the count of flushes that have timed out (R118). -/
inductive ReadKind where
  | frame (e : Exposing) (m : Option Nat) (temp : Int)
  | flush (failed : Nat)
  deriving DecidableEq, Repr

/-- The readout in progress (R112): the row reached, whether the port has refused the target (`noFrame`, R118), and
whether the requester has withdrawn it (`dropped`, R122). While it is present the readout timer runs. -/
structure Readout where
  kind : ReadKind
  row : Nat := 0
  noFrame : Bool := false
  dropped : Bool := false
  deriving DecidableEq, Repr

/-- SFE (R112). After a reset it is in FAULT with the re-initialisation mark and no cause until the sensor has been
initialised (R125, log entry 5). -/
structure Sfe where
  state : SfeState
  phase : ArmPhase
  held : Option HeldReq
  exposing : Option Exposing
  readout : Option Readout
  hist : Vector Nat 64
  temp : Int
  mark : Bool
  cause : Option SensorFault
  reinit : Bool
  quiesce : Bool
  deriving DecidableEq, Repr

/-- A lamp-ready ask or grant (R130): the condition and the exposure time. -/
structure LampAsk where
  cond : LampCond
  time : Nat
  deriving DecidableEq, Repr

/-- BLU (R126). The history holds (time in xu, sample), newest first; `clock` is the time of the last sample. The
settle timer and the idle timer hold the value they were started with while they run. `lit` is the lit time in ms.
`deferred` is a standby put off by R135. -/
structure Blu where
  state : LampState
  requested : Nat
  commanded : Nat
  throttle : Bool
  panelTemp : Int
  history : List (Nat × Nat)
  clock : Nat
  settleCount : Nat
  settleTimer : Option Nat
  zeroCount : Nat
  lit : Nat
  ask : Option LampAsk
  grant : Option LampAsk
  driveChanged : Bool
  pendingDrive : Option Nat
  remembered : Option LampFault
  idleTimer : Option Nat
  deferred : Bool
  quiesce : Bool
  deriving DecidableEq, Repr

/-- A request that TRS is carrying out. A load keeps the position it was asked for as its origin (R140). -/
inductive TrsWork where
  | load (c : TrsClient) (position : Nat)
  | move (c : TrsClient) (target : StageTarget)
  | unload (c : TrsClient)
  deriving DecidableEq, Repr

/-- SFE's interlock ask or grant at TRS (R139). `grantedAsked` is a grant with an ask behind it, taken while a motion is
pending (log entry 34). -/
inductive Interlock where
  | none | asked | granted | grantedAsked
  deriving DecidableEq, Repr

/-- TRS (R137). The timers hold the value they were started with while they run. `heldLoad` is a load of CRU held
during HOMING (R140): its position. -/
structure Trs where
  state : TrsState
  homed : Bool
  stage : StageRecord
  pos : StagePos
  magazine : Vector MagEntry 20
  motionTimer : Option Nat
  settleTimer : Option Nat
  work : Option TrsWork
  pendingMotion : Option TrsWork
  interlock : Interlock
  heldLoad : Option Nat
  quiesce : Bool
  deriving DecidableEq, Repr

/-- One exposure of a merge context (R60). -/
structure MergeExposure where
  time : Nat
  m : Nat
  slot : Nat
  deriving DecidableEq, Repr

/-- The merge context of a tile (R60). A reference slot is absent only where the reference set holds none. -/
structure MergeCtx where
  exposures : List MergeExposure
  dest : Option Nat
  bias : Option Nat
  rate : Option Nat
  flat : Option Nat
  lClear : Nat
  encoding : Encoding
  view : View
  satCode : Nat
  rounding : RoundingMode
  weights : Vector Nat 256
  deriving DecidableEq, Repr

/-- The tile being merged (R58). -/
structure MergeWork where
  tile : TileRef
  ctx : MergeCtx
  band : Nat
  acc : Stats
  deriving DecidableEq, Repr

/-- An operation of calibration mode (R78 to R80). -/
inductive CalOp where
  | accumulate (slot : Nat) (kind : AccKind)
  | clear
  | biasFinish (result : Nat)
  | rateFinish (time biasSlot result : Nat)
  | flatMean (result : Nat)
  | flatGain (result mean yClear : Nat)
  deriving DecidableEq, Repr

/-- The calibration work of BME (R77): the slots of the work plane, the operation in progress with its band, the
total and the defect count it has gathered, and whether a release waits for its band (R82). -/
structure CalWork where
  low : Nat
  high : Nat
  op : Option CalOp := none
  band : Nat := 0
  total : Nat := 0
  defects : Nat := 0
  released : Bool := false
  deriving DecidableEq, Repr

/-- BME (R58). -/
structure Bme where
  state : BmeState
  queue : List TileRef
  merge : Option MergeWork
  cal : Option CalWork
  quiesce : Bool
  deriving DecidableEq, Repr

/-- CRU's request outstanding with TRS. -/
inductive CalMotion where
  | load | move | unload
  deriving DecidableEq, Repr

/-- CRU (Table 5.1), with the values it holds that are not yet in force (R88, R93), the copies it took (R88, R91),
and its requests outstanding with SFE and TRS. -/
structure Cru where
  state : CruState
  request : Option CalKind
  work : List (Nat × CalRole)
  frames : Nat
  tempSum : Int
  mSum : Nat
  plan : Option PlanEntry
  planFlags : PlanFlags
  pend : Option CalResult
  darkTime : Nat
  flatDrive : Nat
  newB0 : Nat
  mean : Option Nat
  mFlat : Nat
  newYClear : Nat
  newLClear : Nat
  defects : Nat
  frameReq : Bool
  trsReq : Option CalMotion
  quiesce : Bool
  dark : DarkEntry
  profiles : Vector Profile 4
  deriving DecidableEq, Repr

/-- One entry of the output queue (R156). -/
structure OutEntry where
  tile : TileRef
  slot : Nat
  deriving DecidableEq, Repr

/-- The stripe header (Table 10.5), field by field. -/
structure StripeHeader where
  job : Nat
  row : Nat
  outCol : Nat
  seq : Nat
  index : Nat
  encoding : Encoding
  cols : Nat
  rows : Nat
  last : Bool
  restart : Bool
  view : View
  flags : TileFlags
  deriving DecidableEq, Repr

/-- A stripe as the host takes it: the header and the 64 rows of codes (R156). -/
structure Stripe where
  header : StripeHeader
  payload : Runs Nat
  deriving DecidableEq, Repr

/-- SOU (R156). `started` is that the head tile is SENDING; `dropHead` that it was abandoned with a stripe in transfer
(R158). `taken` is the stripe the host took last: the model's view of the image pipe. -/
structure Sou where
  queue : List OutEntry
  index : Nat
  credits : Nat
  transfer : Option StripeHeader
  restart : Bool
  started : Bool
  dropHead : Bool
  quiesce : Bool
  taken : Option Stripe
  deriving DecidableEq, Repr

/-- The whole state of the part. `inFlight` holds the requests and reports between blocks that have been sent and not
yet taken, oldest first; `pending` is the queue of the commands that are waiting; `freeCount` is the model's own
counter for free values. -/
structure State where
  liu : Liu
  prc : Prc
  bpl : Bpl
  fst : Fst
  sfe : Sfe
  blu : Blu
  trs : Trs
  bme : Bme
  cru : Cru
  sou : Sou
  inFlight : List Instr
  freeCount : Nat
  pending : List Instr
  deriving DecidableEq, Repr

/-! ## After power-on -/

/-- LIU and its tables after power-on (R161). -/
def Liu.reset : Liu where
  attached := false
  params := {}
  weights := defaultWeights
  sticky := {}
  replies := []
  notices := []
  overflow := 0
  noticeSeq := 0
  resetWork := none
  sent := none

/-- PRC after power-on and after either reset (R1, R17). -/
def Prc.reset : Prc where
  jobs := []
  queue := []
  run := .idle
  active := none
  abortMark := false
  holdByLink := false
  trsReq := none
  planReq := none
  admReq := none
  expReq := none
  retryBack := none
  unloadNext := none
  recoveryJob := none
  lampAfterUnload := false

/-- The memory port after power-on and after either reset (R109). -/
def Port.reset : Port where
  serving := none
  waitSfe := none
  waitBme := none
  waitSou := none
  last := .sou

/-- What a slot reads as when nothing has been written to it: one run of zeros (log entry 3). -/
def blankPlane : Runs Nat := [(19660800, 0)]

/-- FST after power-on (Table 6.4). -/
def Fst.reset : Fst where
  slots := Vector.replicate 48 .free
  wait := none
  port := Port.reset
  quiesce := false
  planes := Vector.replicate 48 blankPlane

/-- SFE after power-on, once the sensor has been initialised (R112). -/
def Sfe.reset : Sfe where
  state := .idle
  phase := .goAhead
  held := none
  exposing := none
  readout := none
  hist := Vector.replicate 64 0
  temp := 0
  mark := false
  cause := none
  reinit := false
  quiesce := false

/-- BLU after power-on (R126); the idle timer runs, since no job is active and CRU is IDLE (R135). -/
def Blu.reset : Blu where
  state := .standby
  requested := 0
  commanded := 0
  throttle := false
  panelTemp := 0
  history := []
  clock := 0
  settleCount := 0
  settleTimer := none
  zeroCount := 0
  lit := 0
  ask := none
  grant := none
  driveChanged := false
  pendingDrive := none
  remembered := none
  idleTimer := some 120
  deferred := false
  quiesce := false

/-- TRS after power-on (R137): `seen` is the presence sensor's reading. -/
def Trs.reset (seen : Bool) : Trs where
  state := .unhomed
  homed := false
  stage := if seen then .unknownCarrier else .none
  pos := .unknown
  magazine := Vector.replicate 20 .unknown
  motionTimer := none
  settleTimer := none
  work := none
  pendingMotion := none
  interlock := .none
  heldLoad := none
  quiesce := false

/-- BME after power-on and after either reset (R58). -/
def Bme.reset : Bme where
  state := .idle
  queue := []
  merge := none
  cal := none
  quiesce := false

/-- CRU after power-on and after a full reset (R83). -/
def Cru.reset : Cru where
  state := .idle
  request := none
  work := []
  frames := 0
  tempSum := 0
  mSum := 0
  plan := none
  planFlags := {}
  pend := none
  darkTime := 0
  flatDrive := 0
  newB0 := 0
  mean := none
  mFlat := 0
  newYClear := 0
  newLClear := 0
  defects := 0
  frameReq := false
  trsReq := none
  quiesce := false
  dark := {}
  profiles := Vector.replicate 4 {}

/-- SOU after power-on and after either reset (R156). -/
def Sou.reset : Sou where
  queue := []
  index := 0
  credits := 0
  transfer := none
  restart := false
  started := false
  dropHead := false
  quiesce := false
  taken := none

/-- The part right after power-on, with no carrier on the stage (R161 and the chapter of each block). -/
def State.reset : State where
  liu := Liu.reset
  prc := Prc.reset
  bpl := { work := none }
  fst := Fst.reset
  sfe := Sfe.reset
  blu := Blu.reset
  trs := Trs.reset false
  bme := Bme.reset
  cru := Cru.reset
  sou := Sou.reset
  inFlight := []
  freeCount := 0
  pending := []

end Sys2Proof.Machine
end

