-- ==== Sys2Proof/Machine/Flags.lean ====
section
/-! DEFINITION. Every flag computation of the spec: the tile flags (R12), the flags of an exposure record (R13), the
ranks of the hold causes (R18), the notice marks (R155), and what counts as active, finished or at an end. -/

namespace Sys2Proof.Machine

/-- LAMP_DEV (R13): 20 × |m − drive| exceeds the requested drive. -/
def lampDeviates (m drive : Nat) : Bool := decide (drive < 20 * (max m drive - min m drive))

/-- The tile flags with the planning flags of a plan completion added (R54). -/
def TileFlags.addPlanning (f : TileFlags) (p : PlanFlags) : TileFlags :=
  { f with rangeShort := f.rangeShort || p.rangeShort, brightShort := f.brightShort || p.brightShort
           darkShort := f.darkShort || p.darkShort, tCapped := f.tCapped || p.tCapped }

/-- The tile flags when a tile is planned again: the first five are cleared (R11, R12). -/
def TileFlags.clearPlanning (f : TileFlags) : TileFlags :=
  { f with rangeShort := false, brightShort := false, darkShort := false, tCapped := false, darkStale := false }

/-- The tile flags with those of an exposure record added (R13). -/
def TileFlags.addExposure (f : TileFlags) (r : ExposureRecord) : TileFlags :=
  { f with lampDev := f.lampDev || r.lampDev, throttled := f.throttled || r.throttled }

/-- The rank of a hold cause (Table 2.2). -/
def HoldCause.rank : HoldCause → Nat
  | .transport => 3
  | .sensor => 2
  | .lamp => 1
  | .darkStale | .notCalibrated | .requested | .step | .link => 0

/-- Whether a job is finished (Table 1.3). -/
def JobState.finished : JobState → Bool
  | .done | .failed | .aborted => true
  | .queued | .loading | .capturing | .unloading | .draining => false

/-- Whether a job is active (Table 1.3). -/
def JobState.isActive : JobState → Bool
  | .loading | .capturing | .unloading => true
  | .queued | .draining | .done | .failed | .aborted => false

/-- Whether a tile is in an end state (section 1.9). -/
def TileState.ended : TileState → Bool
  | .masked | .sent | .abandoned => true
  | .pending | .positioning | .metering | .planned | .exposing | .exposed | .merging | .merged | .sending => false

/-- Whether a tile is on its way through merge and output: EXPOSED, MERGING, MERGED or SENDING (R28, R37). -/
def TileState.inFlight : TileState → Bool
  | .exposed | .merging | .merged | .sending => true
  | .masked | .pending | .positioning | .metering | .planned | .exposing | .sent | .abandoned => false

/-- Whether a tile has still to be captured: a job's capture is complete when none of its tiles is (R26). -/
def TileState.uncaptured : TileState → Bool
  | .pending | .positioning | .metering | .planned | .exposing => true
  | .masked | .exposed | .merging | .merged | .sending | .sent | .abandoned => false

/-- Whether a tile is admitted and neither merged nor abandoned, so that run-locked values stand (R61, R151). -/
def TileState.locks : TileState → Bool
  | .exposing | .exposed | .merging => true
  | .masked | .pending | .positioning | .metering | .planned | .merged | .sending | .sent | .abandoned => false

/-- Whether notice_enable admits a notice (R155); OVERFLOW is not masked. -/
def Notice.enabled (m : NoticeMask) : Notice → Bool
  | .jobState .. => m.jobState
  | .tileDone .. => m.tileDone
  | .runState .. => m.runState
  | .lampState .. => m.lampState
  | .sensorState .. => m.sensorState
  | .transportState .. => m.transportState
  | .calDone .. => m.calDone
  | .overflow _ => true

/-- Whether the lamp is lit (Table 8.1). -/
def LampState.lit : LampState → Bool
  | .warming | .settling | .settled => true
  | .standby | .dark | .fault _ => false

/-- The commanded drive of a lit lamp (R126). -/
def cappedDrive (throttle : Bool) (requested : Nat) : Nat := if throttle then min requested throttleDrive else requested

/-- The hysteresis of R123 and R132: set above the limit, cleared below the limit less the hysteresis. -/
def hysteresis (mark : Bool) (sample : Int) (limit hyst : Nat) : Bool :=
  if mark then !decide (sample < (limit : Int) - hyst) else decide ((limit : Int) < sample)

/-- Whether two temperatures differ by more than the tolerance (R98). -/
def staleBetween (a b : Int) (tolerance : Nat) : Bool := decide (tolerance < (a - b).natAbs)

end Sys2Proof.Machine
end

