-- ==== Sys2Proof/Machine/Operands.lean ====
section
/-! DEFINITION. Every operand form of the commands: the byte layout of SUBMIT_JOB (Table 10.4) with its parser, its
encoder and its field check (R2), the tile grid and tile list (R4 to R7), the ranges of the parameters (R151), and
the byte layout of the stripe header (Table 10.5). -/

namespace Sys2Proof.Machine

/-! ## Little-endian fields -/

/-- The little-endian number of some bytes. -/
def leNat : List Byte → Nat
  | [] => 0
  | b :: bs => b.toNat + 256 * leNat bs

/-- The low `k` bytes of a number, little-endian. -/
def leBytes : Nat → Nat → List Byte
  | 0, _ => []
  | k + 1, n => BitVec.ofNat 8 n :: leBytes k (n / 256)

/-- The little-endian field of `k` bytes at byte `at`. -/
def field (p : List Byte) (start k : Nat) : Nat := leNat ((p.drop start).take k)

/-! ## SUBMIT_JOB (Table 10.4) -/

/-- The fields of a SUBMIT_JOB payload as the host wrote them, before any check. -/
structure Submission where
  jobId : Nat
  position : Nat
  view : Nat
  width : Nat
  height : Nat
  overlap : Nat
  profile : Nat
  policy : Nat
  encoding : Nat
  shift : Nat
  rush : Nat
  dSpan : Nat
  mask : BitVec 64
  plan : List PlanEntry
  label : List Byte
  deriving DecidableEq, Repr

/-- `k` plan entries of 6 bytes each: time in 4 bytes, drive in 2. -/
def parsePlan : Nat → List Byte → List PlanEntry
  | 0, _ => []
  | k + 1, p => { time := field p 0 4, drive := field p 4 2 } :: parsePlan k (p.drop 6)

/-- The payload's fields, when its length is the one its plan count and label length call for (Table 10.4). -/
def parseSubmission (p : List Byte) : Option Submission :=
  if p.length < 26 then none
  else if p.length ≠ 26 + 6 * field p 24 1 + field p 25 1 then none
  else some
    { jobId := field p 0 2, position := field p 2 1, view := field p 3 1, width := field p 4 2, height := field p 6 2
      overlap := field p 8 1, profile := field p 9 1, policy := field p 10 1, encoding := field p 11 1
      shift := field p 12 1, rush := field p 13 1, dSpan := field p 14 2, mask := BitVec.ofNat 64 (field p 16 8)
      plan := parsePlan (field p 24 1) (p.drop 26), label := p.drop (26 + 6 * field p 24 1) }

/-- The bytes of one plan entry. -/
def planEntryBytes (e : PlanEntry) : List Byte := leBytes 4 e.time ++ leBytes 2 e.drive

/-- The payload that Table 10.4 gives for some fields. -/
def encodeSubmission (s : Submission) : List Byte :=
  leBytes 2 s.jobId ++ leBytes 1 s.position ++ leBytes 1 s.view ++ leBytes 2 s.width ++ leBytes 2 s.height
    ++ leBytes 1 s.overlap ++ leBytes 1 s.profile ++ leBytes 1 s.policy ++ leBytes 1 s.encoding ++ leBytes 1 s.shift
    ++ leBytes 1 s.rush ++ leBytes 2 s.dSpan ++ leBytes 8 s.mask.toNat ++ leBytes 1 s.plan.length
    ++ leBytes 1 s.label.length ++ s.plan.flatMap planEntryBytes ++ s.label

/-- Whether every field fits the bytes that Table 10.4 gives it. -/
def Submission.fits (s : Submission) : Bool :=
  decide (s.jobId < 65536) && decide (s.position < 256) && decide (s.view < 256) && decide (s.width < 65536)
    && decide (s.height < 65536) && decide (s.overlap < 256) && decide (s.profile < 256) && decide (s.policy < 256)
    && decide (s.encoding < 256) && decide (s.shift < 256) && decide (s.rush < 256) && decide (s.dSpan < 65536)
    && decide (s.plan.length < 256) && decide (s.label.length < 256)
    && s.plan.all fun e => decide (e.time < 4294967296) && decide (e.drive < 65536)

/-! ## The tile grid (R4) -/

/-- ceil(a / b) of naturals. -/
def ceilDiv (a b : Nat) : Nat := (a + b - 1) / b

/-- cols of R4 step 2. -/
def gridCols (width overlap : Nat) : Nat := if width ≤ 700 then 1 else 1 + ceilDiv (width - 700) (700 - overlap)

/-- rows of R4 step 2. -/
def gridRows (height overlap : Nat) : Nat := if height ≤ 525 then 1 else 1 + ceilDiv (height - 525) (525 - overlap)

/-- x0 of R4 steps 3 and 4: the floor of half of what the span leaves of the width. -/
def gridX0 (width overlap cols : Nat) : Int := ((width : Int) - (700 + ((cols : Int) - 1) * (700 - overlap))) / 2

/-- y0 of R4 steps 3 and 4. -/
def gridY0 (height overlap rows : Nat) : Int := ((height : Int) - (525 + ((rows : Int) - 1) * (525 - overlap))) / 2

/-- The x of the centres of column `c` (R4 step 5). -/
def centreX (width overlap cols c : Nat) : Int := gridX0 width overlap cols + 350 + c * (700 - overlap)

/-- The y of the centres of row `r` (R4 step 5). -/
def centreY (height overlap rows r : Nat) : Int := gridY0 height overlap rows + 262 + r * (525 - overlap)

/-! ## Visiting order and tile list (R5, R7) -/

/-- The column of the place `k` within row `r` in serpentine order (R7): forward in even rows, backward in odd. -/
def serpentineCol (cols r k : Nat) : Nat := if r % 2 = 0 then k else cols - 1 - k

/-- The tile record that acceptance creates at place `seq` of the list (R5, R7). -/
def newTile (s : Submission) (cols rows seq : Nat) : Tile :=
  let r := seq / cols
  let c := serpentineCol cols r (seq % cols)
  { row := r, col := c, maskIndex := r * 8 + c, seq := seq
    cx := centreX s.width s.overlap cols c, cy := centreY s.height s.overlap rows r
    state := if s.mask.getLsbD (r * 8 + c) then .pending else .masked }

/-- The tile list (R7). -/
def newTiles (s : Submission) (cols rows : Nat) : List Tile := (List.range (cols * rows)).map (newTile s cols rows)

/-! ## The field check and the clamps (R2, R3) -/

/-- R2 stage 1, all but the length of the payload, which the parser has settled. -/
def fieldCheck (s : Submission) : Bool :=
  let cols := gridCols s.width s.overlap
  let rows := gridRows s.height s.overlap
  decide (s.jobId ≠ 0) && decide (1 ≤ s.position) && decide (s.position ≤ 19)
    && decide (300 ≤ s.width) && decide (s.width ≤ 4000) && decide (300 ≤ s.height) && decide (s.height ≤ 4000)
    && decide (s.overlap ≤ 100) && decide (s.view ≤ 1) && decide (s.policy ≤ 1) && decide (s.encoding ≤ 1)
    && decide (s.rush ≤ 1) && (decide (s.encoding = 0) || decide (s.shift ≤ 16)) && decide (s.profile ≤ 3)
    && decide (s.label.length ≤ 32) && (decide (s.policy = 1) || decide (s.dSpan ≤ 20480))
    && (decide (s.policy = 0) || (decide (1 ≤ s.plan.length) && decide (s.plan.length ≤ 6)))
    && decide (cols ≤ 8) && decide (rows ≤ 8)
    && (newTiles s cols rows).any fun t => decide (t.state = .pending)

/-- A number brought into a range. -/
def clampTo (lo hi v : Nat) : Nat := max lo (min hi v)

/-- One entry of a FIXED plan clamped (R3). -/
def clampEntry (e : PlanEntry) : PlanEntry := { time := clampTo 1 80000 e.time, drive := clampTo 1 4096 e.drive }

/-- The job record that an accepted submission builds (R2, R3, R5, R7). -/
def newJob (s : Submission) : Job :=
  let cols := gridCols s.width s.overlap
  let rows := gridRows s.height s.overlap
  let tiles := newTiles s cols rows
  { id := s.jobId, position := s.position, width := s.width, height := s.height, overlap := s.overlap
    view := if s.view = 0 then .glassSide else .emulsionSide
    profile := s.profile
    policy := if s.policy = 0 then .auto s.dSpan else .fixed (s.plan.map clampEntry)
    mask := s.mask
    encoding := if s.encoding = 0 then .density16 else .linear16 s.shift
    rush := decide (s.rush = 1)
    label := if s.label = [] then none else some s.label
    cols := cols, rows := rows, state := .queued, outcome := none, tiles := tiles
    sent := 0, abandoned := 0, masked := tiles.countP fun t => decide (t.state = .masked) }

/-- Whether R3 changed an entry. -/
def submissionClamped (s : Submission) : Bool := decide (s.policy = 1) && decide (s.plan.map clampEntry ≠ s.plan)

/-! ## Parameters (Table 10.3, R151) -/

/-- The range of a parameter: numeric, a set of that many named values, or the marks of notice_enable. -/
inductive ParamKind where
  | numeric (lo hi : Nat)
  | named (count : Nat)
  | steps
  | idle
  | marks
  deriving DecidableEq, Repr

/-- The kinds and ranges of Table 10.3. -/
def Param.kind : Param → ParamKind
  | .satCode => .numeric 8192 16383
  | .roundingMode => .named 2
  | .meterTime => .numeric 1 1000
  | .topCode => .numeric 4096 15000
  | .hiPpm => .numeric 1 10000
  | .stepRatio => .steps
  | .settleMs => .numeric 0 2000
  | .motionTimeoutMs => .numeric 1000 60000
  | .darkTolerance => .numeric 8 160
  | .darkPolicy => .named 2
  | .darkTime => .numeric 1000 80000
  | .flatDrive => .numeric 256 4096
  | .lampLimit => .numeric 400 1200
  | .lampHyst => .numeric 16 240
  | .sensorLimit => .numeric 320 960
  | .sensorHyst => .numeric 16 160
  | .settleTolerance => .numeric 1 64
  | .lampIdleS => .idle
  | .runMode => .named 2
  | .noticeEnable => .marks

/-- The value that R151 stores for a value of a parameter, or none where it refuses the value. -/
def storedValue (p : Param) (v : Nat) : Option Nat :=
  match p.kind with
  | .numeric lo hi => some (clampTo lo hi v)
  | .named n => if v < n then some v else none
  | .steps => if v = 4 ∨ v = 8 ∨ v = 16 then some v else none
  | .idle => some (if v = 0 then 0 else clampTo 10 3600 v)
  | .marks => some (v % 128)

/-- Whether a parameter is run-locked (Table 10.3). -/
def Param.runLocked : Param → Bool
  | .satCode | .roundingMode => true
  | _ => false

/-- The marks of notice_enable as a number: bit i is the i-th kind of Table 10.4 (log entry 8). -/
def NoticeMask.val (m : NoticeMask) : Nat :=
  (if m.jobState then 1 else 0) + (if m.tileDone then 2 else 0) + (if m.runState then 4 else 0)
    + (if m.lampState then 8 else 0) + (if m.sensorState then 16 else 0) + (if m.transportState then 32 else 0)
    + (if m.calDone then 64 else 0)

/-- The marks that a number stands for. -/
def NoticeMask.ofNat (v : Nat) : NoticeMask :=
  { jobState := v.testBit 0, tileDone := v.testBit 1, runState := v.testBit 2, lampState := v.testBit 3
    sensorState := v.testBit 4, transportState := v.testBit 5, calDone := v.testBit 6 }

/-- The value of a parameter (R151). The codes of the named values are log entry 8. -/
def Params.get (t : Params) : Param → Nat
  | .satCode => t.satCode
  | .roundingMode => match t.roundingMode with | .nearestUp => 0 | .nearestEven => 1
  | .meterTime => t.meterTime
  | .topCode => t.topCode
  | .hiPpm => t.hiPpm
  | .stepRatio => t.stepRatio.val
  | .settleMs => t.settleMs
  | .motionTimeoutMs => t.motionTimeoutMs
  | .darkTolerance => t.darkTolerance
  | .darkPolicy => match t.darkPolicy with | .hold => 0 | .continue => 1
  | .darkTime => t.darkTime
  | .flatDrive => t.flatDrive
  | .lampLimit => t.lampLimit
  | .lampHyst => t.lampHyst
  | .sensorLimit => t.sensorLimit
  | .sensorHyst => t.sensorHyst
  | .settleTolerance => t.settleTolerance
  | .lampIdleS => t.lampIdleS
  | .runMode => match t.runMode with | .auto => 0 | .step => 1
  | .noticeEnable => t.noticeEnable.val

/-- The parameter table with one value stored. -/
def Params.set (t : Params) (p : Param) (v : Nat) : Params :=
  match p with
  | .satCode => { t with satCode := v }
  | .roundingMode => { t with roundingMode := if v = 0 then .nearestUp else .nearestEven }
  | .meterTime => { t with meterTime := v }
  | .topCode => { t with topCode := v }
  | .hiPpm => { t with hiPpm := v }
  | .stepRatio => { t with stepRatio := if v = 4 then .r4 else if v = 8 then .r8 else .r16 }
  | .settleMs => { t with settleMs := v }
  | .motionTimeoutMs => { t with motionTimeoutMs := v }
  | .darkTolerance => { t with darkTolerance := v }
  | .darkPolicy => { t with darkPolicy := if v = 0 then .hold else .continue }
  | .darkTime => { t with darkTime := v }
  | .flatDrive => { t with flatDrive := v }
  | .lampLimit => { t with lampLimit := v }
  | .lampHyst => { t with lampHyst := v }
  | .sensorLimit => { t with sensorLimit := v }
  | .sensorHyst => { t with sensorHyst := v }
  | .settleTolerance => { t with settleTolerance := v }
  | .lampIdleS => { t with lampIdleS := v }
  | .runMode => { t with runMode := if v = 0 then .auto else .step }
  | .noticeEnable => { t with noticeEnable := NoticeMask.ofNat v }

/-- Whether every numeric parameter lies in its range of Table 10.3. -/
def Params.inRange (t : Params) : Bool :=
  decide (8192 ≤ t.satCode ∧ t.satCode ≤ 16383) && decide (1 ≤ t.meterTime ∧ t.meterTime ≤ 1000)
    && decide (4096 ≤ t.topCode ∧ t.topCode ≤ 15000) && decide (1 ≤ t.hiPpm ∧ t.hiPpm ≤ 10000)
    && decide (t.settleMs ≤ 2000) && decide (1000 ≤ t.motionTimeoutMs ∧ t.motionTimeoutMs ≤ 60000)
    && decide (8 ≤ t.darkTolerance ∧ t.darkTolerance ≤ 160) && decide (1000 ≤ t.darkTime ∧ t.darkTime ≤ 80000)
    && decide (256 ≤ t.flatDrive ∧ t.flatDrive ≤ 4096) && decide (400 ≤ t.lampLimit ∧ t.lampLimit ≤ 1200)
    && decide (16 ≤ t.lampHyst ∧ t.lampHyst ≤ 240) && decide (320 ≤ t.sensorLimit ∧ t.sensorLimit ≤ 960)
    && decide (16 ≤ t.sensorHyst ∧ t.sensorHyst ≤ 160) && decide (1 ≤ t.settleTolerance ∧ t.settleTolerance ≤ 64)
    && (decide (t.lampIdleS = 0) || decide (10 ≤ t.lampIdleS ∧ t.lampIdleS ≤ 3600))

/-! ## The stripe header (Table 10.5) -/

/-- The tile flags as bits 0 to 8 (Table 10.5). -/
def TileFlags.val (f : TileFlags) : Nat :=
  (if f.rangeShort then 1 else 0) + (if f.brightShort then 2 else 0) + (if f.darkShort then 4 else 0)
    + (if f.tCapped then 8 else 0) + (if f.darkStale then 16 else 0) + (if f.lampDev then 32 else 0)
    + (if f.throttled then 64 else 0) + (if f.retried then 128 else 0) + (if f.limit then 256 else 0)

/-- The 32 bytes of a stripe header. -/
def stripeHeaderBytes (h : StripeHeader) : List Byte :=
  let enc : Nat × Nat := match h.encoding with | .density16 => (0, 0) | .linear16 s => (1, s)
  leBytes 2 h.job ++ leBytes 1 h.row ++ leBytes 1 h.outCol ++ leBytes 1 h.seq ++ leBytes 1 h.index
    ++ leBytes 2 (64 * h.index) ++ leBytes 2 64 ++ leBytes 1 enc.1 ++ leBytes 1 enc.2
    ++ leBytes 1 h.cols ++ leBytes 1 h.rows
    ++ leBytes 1 ((if h.last then 1 else 0) + (if h.restart then 2 else 0))
    ++ leBytes 1 (match h.view with | .glassSide => 0 | .emulsionSide => 1)
    ++ leBytes 2 h.flags.val ++ leBytes 4 655360 ++ List.replicate 10 0

/-! ## Records (section 10.1, R149) -/

/-- Whether the framing of a transfer is wrong (R149). -/
def badFraming (transfer : List Byte) : Bool :=
  decide (transfer.length < 4) || decide (1020 < field transfer 2 2)
    || decide (4 + field transfer 2 2 ≠ transfer.length)

/-- The status byte of a reply (Table 10.1). -/
def Status.code : Status → Nat
  | .ok => 0
  | .clamped => 1
  | .badFrame => 2
  | .badKind => 3
  | .badArg => 4
  | .tableFull => 5
  | .dupId => 6
  | .slotClaimed => 7
  | .unknownJob => 8
  | .busy => 9
  | .wrongState => 10
  | .notHomed => 11
  | .notCalibrated => 12

end Sys2Proof.Machine
end

