-- ==== Sys2Proof/Machine/Planes.lean ====
section
/-! DEFINITION. Planes of pixel values as runs in ONE canonical form: no run is empty and no two neighbours hold the
same value, so that equal planes are equal data. A plane of a slot has 19,660,800 pixels in row order (00_scope.md,
section 4). The operations work run by run; what each does to a single pixel is stated in `Laws/Planes.lean`. -/

namespace Sys2Proof.Machine

variable {α β γ : Type}

/-- The number of pixels in a list of runs. -/
def runsLength (rs : Runs α) : Nat := (rs.map (·.1)).sum

/-- The value of pixel `i`, if there is one. -/
def runsGet? : Runs α → Nat → Option α
  | [], _ => none
  | (n, v) :: rs, i => if i < n then some v else runsGet? rs (i - n)

/-- Put a run in front, keeping the canonical form. -/
def runsPush [DecidableEq α] (n : Nat) (v : α) (rs : Runs α) : Runs α :=
  if n = 0 then rs
  else match rs with
    | [] => [(n, v)]
    | (m, w) :: rest => if v = w then (n + m, w) :: rest else (n, v) :: (m, w) :: rest

/-- The canonical form of a list of runs: the same pixels, with no empty run and no equal neighbours. -/
def runsNorm [DecidableEq α] (rs : Runs α) : Runs α :=
  rs.foldr (fun r acc => runsPush r.1 r.2 acc) []

/-- Whether a list of runs is in canonical form. -/
def runsCanonical [DecidableEq α] : Runs α → Bool
  | [] => true
  | [(n, _)] => decide (n ≠ 0)
  | (n, v) :: (m, w) :: rest => decide (n ≠ 0) && decide (v ≠ w) && runsCanonical ((m, w) :: rest)

/-- The first `k` pixels. -/
def runsTake : Nat → Runs α → Runs α
  | _, [] => []
  | k, (n, v) :: rs => if k < n then (if k = 0 then [] else [(k, v)]) else (n, v) :: runsTake (k - n) rs

/-- All but the first `k` pixels. -/
def runsDrop : Nat → Runs α → Runs α
  | _, [] => []
  | k, (n, v) :: rs => if k < n then (n - k, v) :: rs else runsDrop (k - n) rs

/-- `k` pixels from the pixel `start` on. -/
def runsSlice (start k : Nat) (rs : Runs α) : Runs α := runsTake k (runsDrop start rs)

/-- Exactly `k` pixels: the first `k`, filled up with `d` where there are fewer. -/
def runsFit (k : Nat) (d : α) (rs : Runs α) : Runs α := runsTake k (rs ++ [(k, d)])

/-- Apply a function to every pixel. -/
def runsMap (f : α → β) (rs : Runs α) : Runs β := rs.map fun r => (r.1, f r.2)

/-- Pair the pixels of two planes, run by run; `fuel` bounds the number of cuts. -/
def runsZipFuel : Nat → Runs α → Runs β → Runs (α × β)
  | 0, _, _ => []
  | _ + 1, [], _ => []
  | _ + 1, _ :: _, [] => []
  | k + 1, (n, a) :: xs, (m, b) :: ys =>
    if n < m then (n, (a, b)) :: runsZipFuel k xs ((m - n, b) :: ys)
    else if m < n then (m, (a, b)) :: runsZipFuel k ((n - m, a) :: xs) ys
    else (n, (a, b)) :: runsZipFuel k xs ys

/-- Pair the pixels of two planes. -/
def runsZip (xs : Runs α) (ys : Runs β) : Runs (α × β) := runsZipFuel (xs.length + ys.length) xs ys

/-- For every pixel of `k`, the list of its values in several planes, in the planes' order. -/
def runsAlign (k : Nat) (planes : List (Runs Nat)) : Runs (List Nat) :=
  planes.foldr (fun p acc => runsMap (fun v => v.1 :: v.2) (runsZip p acc)) [(k, [])]

/-- Mirror each of `rows` rows left to right (R8, R62). -/
def mirrorRows : Nat → Runs α → Runs α
  | 0, _ => []
  | r + 1, rs => (runsTake columns rs).reverse ++ mirrorRows r (runsDrop columns rs)

/-- Write the pixels of `new` over those of a plane from the pixel `start` on, keeping the canonical form. -/
def planeSplice (start : Nat) (new plane : Runs Nat) : Runs Nat :=
  runsNorm (runsTake start plane ++ new ++ runsDrop (start + runsLength new) plane)

/-- Whether a plane of a slot is in the one canonical form: canonical runs over exactly the pixels of a tile, each
value of 16 bits. -/
def planeWf (p : Runs Nat) : Bool :=
  runsCanonical p && decide (runsLength p = tilePixels) && p.all fun r => decide (r.2 < 65536)

/-- The sum of a function over every pixel. -/
def runsSum (f : α → Nat) (rs : Runs α) : Nat := (rs.map fun r => r.1 * f r.2).sum

/-! ## Planes of the frame store -/

/-- The frame store's memory is in its one canonical form (this block's `Memory.wf`): every plane is. -/
def Memory.wf (planes : Vector (Runs Nat) 48) : Bool := planes.toList.all planeWf

/-- The plane of a slot. A slot number above 47 names no plane and reads as no pixels. -/
def Fst.plane (f : Fst) (slot : Nat) : Runs Nat := (f.planes[slot]?).getD []

/-- The state of a slot; a slot number above 47 names no slot, and no request for it succeeds. -/
def Fst.slot (f : Fst) (slot : Nat) : Option SlotState := f.slots[slot]?

/-- One pixel of a slot: row and column. -/
def Fst.pixel (f : Fst) (slot row col : Nat) : Option Nat := runsGet? (f.plane slot) (row * columns + col)

/-- A value as a slot holds it: 16 bits. -/
def clip16 (v : Nat) : Nat := v % 65536

/-- Write pixel values into a slot from the pixel `start` on; nothing past the last pixel of the plane is written. -/
def Fst.write (f : Fst) (slot start : Nat) (new : Runs Nat) : Fst :=
  let part := runsTake (tilePixels - start) (runsMap clip16 new)
  { f with planes := f.planes.setIfInBounds slot (planeSplice start part (f.plane slot)) }

end Sys2Proof.Machine
end

