-- ==== Sys2Proof/Machine/Ops.lean ====
section
/-! DEFINITION. The operations that several commands share: messages between blocks, notices and replies (LIU), job
and tile records and the run state (PRC), slot changes (FST), and the lamp's idle timer (BLU). -/

namespace Sys2Proof.Machine

/-- What a command answers. -/
abbrev Result := Host.Outcome State Fault Refusal

/-! ## Messages between blocks

A request or report that has a row of its own in the table is taken in a step of its own (log entry 1): the step that
sends it puts the row's command in `inFlight`; the command takes its message out when it is taken. -/

/-- Send a command to the block that takes it. -/
def State.emit (s : State) (c : Instr) : State := { s with inFlight := s.inFlight ++ [c.asMessage] }

/-- Take a command's message, if there is one. -/
def State.deliver (s : State) (c : Instr) : State := { s with inFlight := s.inFlight.erase c.asMessage }

/-- The messages that `p` picks end on their way: what they ask or answer has been withdrawn. -/
def State.recall (s : State) (p : Instr → Bool) : State := { s with inFlight := s.inFlight.filter fun c => !p c }

/-! ## Notices, sticky events, replies (LIU) -/

/-- A block raises a notice (R155). -/
def Liu.raise (l : Liu) (n : Notice) : Liu :=
  if !n.enabled l.params.noticeEnable then l
  else if decide (l.notices.length < noticeCapacity) && decide (l.overflow = 0) then
    { l with notices := l.notices ++ [n] }
  else { l with overflow := min 65535 (l.overflow + 1), sticky := { l.sticky with noticeOverflow := true } }

/-- A block raises a notice (R155). -/
def State.notice (s : State) (n : Notice) : State := { s with liu := s.liu.raise n }

/-- A LAMP_STATE notice (R136). -/
def State.lampNotice (s : State) : State :=
  s.notice (.lampState s.blu.state s.blu.throttle s.blu.commanded s.blu.panelTemp)

/-- A SENSOR_STATE notice (R124). -/
def State.sensorNotice (s : State) : State :=
  s.notice (.sensorState s.sfe.state s.sfe.cause s.sfe.temp s.sfe.mark)

/-- A TRANSPORT_STATE notice, with the entries when a scan has been completed (R148). -/
def State.transportNotice (s : State) (scan : Bool) : State :=
  s.notice (.transportState s.trs.state s.trs.homed s.trs.stage (if scan then some s.trs.magazine else none))

/-- What the owner of a command answers it with. -/
structure Answer where
  state : State
  status : Status
  body : ReplyBody

/-- An answer that refuses the command and leaves everything as it was. -/
def Answer.refuse (s : State) (status : Status) : Answer := { state := s, status := status, body := .none }

/-- An answer OK that carries nothing. -/
def Answer.okay (s : State) : Answer := { state := s, status := .ok, body := .none }

/-- A command record is taken (R149, R150): none arrives while the link is detached; while a reset is in progress it
is refused with BUSY, its reply kept until the RESET reply has been queued; a payload that does not fit is refused
with BAD_ARG; otherwise its owner decides it. The reply carries the command's tag. A reply given before the owner has
looked, BUSY or that BAD_ARG, carries nothing more, that of a SET_PARAM too: R151 leaves it open whether the reply then
carries the value now stored, and the empty body is the model's choice (log entry 36). -/
def command (h : Hdr) (kind : CommandKind) (owner : State → Answer) (s : State) : State :=
  if s.liu.attached = false then s
  else match s.liu.resetWork with
    | some w =>
      let r : Reply := { tag := h.tag, status := .busy, kind := kind, body := .none }
      { s with liu := { s.liu with resetWork := some { w with busy := w.busy ++ [r] } } }
    | none =>
      let a := if h.fits then owner s else Answer.refuse s .badArg
      let r : Reply := { tag := h.tag, status := a.status, kind := kind, body := a.body }
      { a.state with liu := { a.state.liu with replies := a.state.liu.replies ++ [r] } }

/-! ## Job and tile records (PRC) -/

/-- The record with a job id (R1). -/
def Prc.job? (p : Prc) (id : Nat) : Option Job := p.jobs.find? fun j => decide (j.id = id)

/-- The tile record named (R7). -/
def Prc.tile? (p : Prc) (t : TileRef) : Option Tile :=
  (p.job? t.job).bind fun j => j.tiles.find? fun x => decide (x.seq = t.seq)

/-- Change one job record. -/
def Prc.mapJob (p : Prc) (id : Nat) (f : Job → Job) : Prc :=
  { p with jobs := p.jobs.map fun j => if j.id = id then f j else j }

/-- Change one tile record. -/
def Prc.mapTile (p : Prc) (t : TileRef) (f : Tile → Tile) : Prc :=
  p.mapJob t.job fun j => { j with tiles := j.tiles.map fun x => if x.seq = t.seq then f x else x }

/-- Change one tile record. While the run is QUIESCING no job or tile record changes (R43). -/
def State.mapTile (s : State) (t : TileRef) (f : Tile → Tile) : State :=
  if s.prc.run = .quiescing then s else { s with prc := s.prc.mapTile t f }

/-- The state of a tile, if its record is in the table. -/
def Prc.tileState? (p : Prc) (t : TileRef) : Option TileState := (p.tile? t).map (·.state)

/-- The record of the active job (R17). -/
def Prc.activeJob? (p : Prc) : Option Job := p.active.bind p.job?

/-- Whether a tile of the active job is EXPOSING. -/
def Prc.activeExposing (p : Prc) : Bool :=
  match p.activeJob? with
  | some j => j.tiles.any fun x => decide (x.state = .exposing)
  | none => false

/-- The sum of the three counts (R14). -/
def Job.ended (j : Job) : Nat := j.sent + j.abandoned + j.masked

/-- The JOB_STATE notice of a record (R16). -/
def Job.notice (j : Job) : Notice := .jobState j.id j.label j.state j.outcome j.sent j.abandoned j.masked

/-- A job's state and outcome change; a finished record changes no further (R9, R16). -/
def State.setJob (s : State) (id : Nat) (st : JobState) (out : Option JobOutcome) : State :=
  match s.prc.job? id with
  | none => s
  | some j =>
    if j.state.finished || decide (s.prc.run = .quiescing) then s
    else
      ({ s with prc := s.prc.mapJob id fun x => { x with state := st, outcome := out } }).notice
        { j with state := st, outcome := out }.notice

/-- A tile goes to a state that is not an end state; a tile in an end state stays in it (section 1.9). -/
def State.moveTile (s : State) (t : TileRef) (st : TileState) : State :=
  s.mapTile t fun x => if x.state.ended then x else { x with state := st }

/-- A tile goes to SENT or ABANDONED (R14, R16): its job counts it and a TILE_DONE notice is queued. A tile in an end state
stays in it (section 1.9), an abandoned one whose LAST stripe then ends too (log entry 38). -/
def State.endTile (s : State) (t : TileRef) (sent : Bool) : State :=
  match s.prc.tile? t with
  | none => s
  | some x =>
    if x.state.ended || decide (s.prc.run = .quiescing) then s
    else
      let st : TileState := if sent then .sent else .abandoned
      let s := s.mapTile t fun y => { y with state := st }
      let s := { s with prc := s.prc.mapJob t.job fun j =>
        if sent then { j with sent := j.sent + 1 } else { j with abandoned := j.abandoned + 1 } }
      s.notice (.tileDone t.job x.row x.col x.seq st x.flags x.stats)

/-- A DRAINING job whose last tile has ended goes to its pending outcome (R29). -/
def State.drainJob (s : State) (id : Nat) : State :=
  match s.prc.job? id with
  | none => s
  | some j =>
    if j.state = .draining ∧ j.ended = j.cols * j.rows then
      match j.outcome with
      | some (.failed c) => s.setJob id .failed (some (.failed c))
      | some .aborted => s.setJob id .aborted (some .aborted)
      | some .done | none => s.setJob id .done (some .done)
    else s

/-! ## The run state (R17, R18) -/

/-- The RUN_STATE notice as things stand (R17). -/
def State.runNotice (s : State) : State := s.notice (.runState s.prc.run s.prc.active s.prc.queue.head?)

/-- The run goes to a state; a change is notified (R17). -/
def State.setRun (s : State) (r : RunState) : State :=
  if s.prc.run = r then s else ({ s with prc := { s.prc with run := r } }).runNotice

/-- An event calls for the run to go to HELD with a cause (R18). -/
def State.goHeld (s : State) (c : HoldCause) : State :=
  match s.prc.run with
  | .idle | .running | .holding => s.setRun (.held c)
  | .held c0 => if c0.rank ≤ c.rank then s.setRun (.held c) else s
  | .quiescing => s

/-! ## Slots (FST) -/

/-- The tile that owns a slot (R99). -/
def SlotState.tile? : SlotState → Option TileRef
  | .reserved t | .exposing t | .raw t | .dest t | .merged t => some t
  | .free | .streaming | .ref _ | .calwork _ => none

/-- The slots whose state satisfies a test, in ascending order. -/
def Fst.slotsWhere (f : Fst) (p : SlotState → Bool) : List Nat :=
  (List.range slotCount).filter fun i => ((f.slot i).map p).getD false

/-- The number of FREE slots. -/
def Fst.freeCount (f : Fst) : Nat := (f.slotsWhere fun x => decide (x = .free)).length

/-- The `n` lowest-numbered FREE slots (R100). -/
def Fst.lowestFree (f : Fst) (n : Nat) : List Nat := (f.slotsWhere fun x => decide (x = .free)).take n

/-- A slot takes a state. -/
def Fst.setSlot (f : Fst) (i : Nat) (x : SlotState) : Fst := { f with slots := f.slots.setIfInBounds i x }

/-- Several slots take one state. -/
def Fst.setSlots (f : Fst) (l : List Nat) (x : SlotState) : Fst := l.foldl (fun g i => g.setSlot i x) f

/-- A slot takes a state. -/
def State.setSlot (s : State) (i : Nat) (x : SlotState) : State := { s with fst := s.fst.setSlot i x }

/-- FST grants n + 1 slots to a tile and reports them (R101). -/
def State.grantSlots (s : State) (t : TileRef) (n : Nat) : State :=
  let l := s.fst.lowestFree (n + 1)
  ({ s with fst := s.fst.setSlots l (.reserved t) }).emit (.admissionGrant t l)

/-- The waiting admission is granted when enough slots are FREE (R102). -/
def State.grantWait (s : State) : State :=
  match s.fst.wait with
  | none => s
  | some (t, n) =>
    if n + 1 ≤ s.fst.freeCount then ({ s with fst := { s.fst with wait := none } }).grantSlots t n else s

/-- The number of slots a calibration asks for (R86, R108). -/
def CalKind.slots : CalKind → Nat
  | .dark => 5
  | .flat _ => 4

/-- The roles of a calibration's slots in ascending slot number (R86). -/
def CalKind.roles : CalKind → List CalRole
  | .dark => [.workLow, .workHigh, .exposure, .biasResult, .rateResult]
  | .flat _ => [.workLow, .workHigh, .exposure, .flatResult]

/-- FST turns slots to CALWORK, each under its role (R108). -/
def Fst.takeCalwork (f : Fst) (pairs : List (Nat × CalRole)) : Fst :=
  pairs.foldl (fun g p => g.setSlot p.1 (.calwork p.2)) f

/-- The slots a calibration would get, with their roles (R86, R108). -/
def Fst.calworkPairs (f : Fst) (k : CalKind) : List (Nat × CalRole) := (f.lowestFree k.slots).zip k.roles

/-- Whether FST grants a calibration's slots (R108). -/
def Fst.calworkReady (f : Fst) (k : CalKind) : Bool := decide (k.slots ≤ f.freeCount) && !f.quiesce

/-- Whether BME can take calibration work (R77, R86). -/
def Bme.free (b : Bme) : Bool := decide (b.state = .idle) && decide (b.queue = []) && !b.quiesce

/-- A waiting CRU tests for BME and for slots, and takes them when both are there (R86). -/
def State.cruTest (s : State) : State :=
  match s.cru.state, s.cru.request with
  | .waiting, some k =>
    if decide (s.cru.work = []) && s.bme.free && s.fst.calworkReady k then
      match s.fst.calworkPairs k with
      | (lo, r0) :: (hi, r1) :: rest =>
        let pairs := (lo, r0) :: (hi, r1) :: rest
        ({ s with fst := s.fst.takeCalwork pairs, cru := { s.cru with work := pairs } }).emit (.calWorkRequest lo hi)
      | _ => s
    else s
  | _, _ => s

/-- What follows, in the same event, when slots have returned to FREE: the waiting admission first, then CRU
(R86, R102). -/
def State.afterFree (s : State) : State := s.grantWait.cruTest

/-- Slots return to FREE in one event (R102). -/
def State.freeSlots (s : State) (l : List Nat) : State := ({ s with fst := s.fst.setSlots l .free }).afterFree

/-- The slots of a tile among RESERVED, EXPOSING and RAW (R104). -/
def Fst.exposureSlots (f : Fst) (t : TileRef) : List Nat :=
  f.slotsWhere fun x => decide (x = .reserved t) || decide (x = .exposing t) || decide (x = .raw t)

/-- The slots of a tile among RAW, RESERVED and DEST (R64, R65). -/
def Fst.mergeSlots (f : Fst) (t : TileRef) : List Nat :=
  f.slotsWhere fun x => decide (x = .raw t) || decide (x = .reserved t) || decide (x = .dest t)

/-! ## The idle timer of the lamp (R135) -/

/-- The condition under which the idle timer runs. -/
def State.idleCondition (s : State) : Bool := decide (s.prc.active = none) && decide (s.cru.state = .idle)

/-- The idle timer starts, or starts again, when its condition holds. -/
def State.startIdle (s : State) : State :=
  if s.idleCondition then
    { s with blu := { s.blu with
        idleTimer := if s.liu.params.lampIdleS = 0 then none else some s.liu.params.lampIdleS, deferred := false } }
  else s

/-- The idle timer stops, and a deferred standby is cancelled. -/
def State.stopIdle (s : State) : State := { s with blu := { s.blu with idleTimer := none, deferred := false } }

/-! ## Calibration in progress -/

/-- Whether a flat calibration has left WAITING (R87). -/
def Cru.flatRunning (c : Cru) : Bool :=
  match c.state, c.request with
  | .flatLoad, _ | .flatMeter, _ | .flatFrames, _ | .flatUnload, _ => true
  | .cancelling, some (.flat _) => true
  | _, _ => false

/-- The slot that holds a role of the calibration in progress. -/
def Cru.slotOf (c : Cru) (r : CalRole) : Option Nat := (c.work.find? fun p => decide (p.2 = r)).map (·.1)

/-- A block that is asked to quiesce acknowledges, while a reset is in progress (R160). -/
def State.ack (s : State) (b : Block) : State :=
  match s.liu.resetWork with
  | some _ => s.emit (.quiesceAck b true)
  | none => s

end Sys2Proof.Machine
end

