-- ==== Sys2Proof/Machine/Backlight.lean ====
section
/-! DEFINITION. The backlight unit (chapter 8): lamp states and drive, samples, lamp-ready grants, the measured
intensity, the throttle, the dark hold, recovery and standby. The entry into FAULT, and the monitor samples that may
cause it, stand in `Faults.lean`, and so do the dark hold and its release, which may cut an exposure short. -/

namespace Sys2Proof.Machine

/-! ## Drive and states -/

/-- The commanded drive follows from the state, the requested drive and the throttle flag (R126). -/
def Blu.recommand (b : Blu) : Blu :=
  { b with commanded := if b.state.lit then cappedDrive b.throttle b.requested else 0 }

/-- Entry into STANDBY (R135, R136). -/
def State.enterStandby (s : State) : State :=
  ({ s with blu := { s.blu with
      state := .standby, requested := 0, commanded := 0, settleCount := 0, settleTimer := none, zeroCount := 0
      deferred := false } }).lampNotice

/-- Entry into WARMING at a drive (Table 8.2, R133). -/
def State.enterWarming (s : State) (d : Nat) : State :=
  ({ s with blu := ({ s.blu with
      state := .warming, requested := d, settleCount := 0, settleTimer := some 30000, zeroCount := 0, lit := 0 } :
      Blu).recommand }).lampNotice

/-- Entry into SETTLING, or its restart: count 0, timer 2 s (Tables 8.2 and 8.3). -/
def Blu.startSettling (b : Blu) : Blu :=
  ({ b with state := .settling, settleCount := 0, settleTimer := some 2000 } : Blu).recommand

/-- A deferred standby is carried out when its three conditions hold (R135). -/
def State.tryStandby (s : State) : State :=
  if s.blu.deferred ∧ s.blu.state = .settled ∧ 5000 ≤ s.blu.lit ∧ s.blu.grant = none then s.enterStandby else s

/-- Whether SFE holds a lit exposure request that it has not begun. -/
def Sfe.wantsLight (f : Sfe) : Bool :=
  match f.held with
  | some h => (match h.req.lamp with | .settled _ => true | .dark => false)
  | none => false

/-! ## Lamp ready (R130) -/

/-- Whether the condition of an ask holds (R130). -/
def Blu.ready (b : Blu) (c : LampCond) : Bool :=
  match c with
  | .settled d => decide (b.state = .settled) && decide (b.requested = d)
  | .dark => decide (b.state = .dark)

/-- A waiting ask is granted when its condition holds (R130). -/
def State.tryLampGrant (s : State) : State :=
  match s.blu.ask with
  | some a =>
    if s.blu.ready a.cond then
      ({ s with blu := { s.blu with ask := none, grant := some a, driveChanged := false } }).emit .lampReadyGrant
    else s
  | none => s

/-! ## Light requests (R128) -/

/-- A light request for drive `d`, by the lamp's state (Table 8.2). -/
def State.applyLight (s : State) (d : Nat) : State :=
  match s.blu.state with
  | .standby => s.enterWarming d
  | .warming =>
    if s.blu.requested = d then s
    else { s with blu := ({ s.blu with requested := d, settleCount := 0 } : Blu).recommand }
  | .settling =>
    if s.blu.requested = d then s else { s with blu := ({ s.blu with requested := d } : Blu).startSettling }
  | .settled =>
    if s.blu.requested = d then s
    else if s.blu.grant.isSome then ({ s with blu := { s.blu with pendingDrive := some d } }).emit .lampLost
    else if cappedDrive s.blu.throttle d = s.blu.commanded then { s with blu := { s.blu with requested := d } }
    else { s with blu := ({ s.blu with requested := d } : Blu).startSettling }
  | .dark => { s with blu := { s.blu with pendingDrive := some d } }
  | .fault c => (s.emit (.backlightFault c)).emit .calLampFault

/-! ## Measured intensity (R131) -/

/-- The samples within the window of `t` xu that ends at `now`. R131 does not say whether an end of the window belongs
to it: a sample at the instant the window begins is outside, and one at its end inside (log entry 33). -/
def windowSamples (history : List (Nat × Nat)) (now t : Nat) : List Nat :=
  (history.filter fun p => decide (now < p.1 + t) && decide (p.1 ≤ now)).map (·.2)

/-- The last sample taken before the window began (the history is newest first); one at the instant it begins counts
as taken before it (log entry 33). -/
def sampleBefore (history : List (Nat × Nat)) (now t : Nat) : Option Nat :=
  (history.find? fun p => decide (p.1 + t ≤ now)).map (·.2)

/-- The mean rounded half up (R131). -/
def roundedMean (l : List Nat) : Nat := (l.sum + l.length / 2) / l.length

/-- m of an exposure (R131), before the rule that 0 is given as 1; `free` stands where no sample was ever taken. -/
def windowIntensity (history : List (Nat × Nat)) (now t free : Nat) : Nat :=
  match windowSamples history now t with
  | [] => (sampleBefore history now t).getD (max 1 (min maxDrive free))
  | l => roundedMean l

/-- m of an exposure (R131). -/
def measuredIntensity (history : List (Nat × Nat)) (now t free : Nat) : Nat :=
  max 1 (windowIntensity history now t free)

/-! ## The end of a grant (R130) -/

/-- What follows when a grant has ended: the pending drive, or re-settling, and then a deferred standby (R130). -/
def State.afterGrant (s : State) : State :=
  let changed := s.blu.driveChanged
  let s := { s with blu := { s.blu with driveChanged := false } }
  let s := match s.blu.pendingDrive with
    | some d =>
      let s := { s with blu := { s.blu with pendingDrive := none } }
      if s.blu.quiesce then s else s.applyLight d
    | none =>
      if changed && decide (s.blu.state = LampState.settled) then { s with blu := s.blu.startSettling } else s
  s.tryStandby

/-- The pending drive of a dark grant stays for the release of the dark hold (R133): only a lit grant's end applies
it. -/
def State.endGrant (s : State) (a : LampAsk) : State :=
  let s := { s with blu := { s.blu with grant := none } }
  match a.cond with
  | .settled _ => s.afterGrant
  | .dark => s.tryStandby

/-- SFE releases a grant or withdraws an ask (R130): the answer is m for a lit grant. `since` is the time since the
last monitor sample, in xu. -/
def State.lampRelease (s : State) (since : Nat) : State × Option Nat :=
  match s.blu.grant with
  | some a =>
    let m := measuredIntensity s.blu.history (s.blu.clock + since) a.time (Config.freeIntensity s.freeCount)
    let s' := ({ s with freeCount := s.freeCount + 1 }).endGrant a
    match a.cond with
    | .settled _ => (s', some m)
    | .dark => (s', none)
  | none => ({ s with blu := { s.blu with ask := none } }, none)

/-- SFE asks for lamp ready (R130, R134). An ask replaces a grant or an ask that SFE still holds. -/
def State.lampAsk (s : State) (a : LampAsk) : State :=
  let s := match s.blu.grant with
    | some g => s.endGrant g
    | none => s
  match s.blu.state, a.cond with
  | .fault _, .settled _ => ({ s with blu := { s.blu with ask := none } }).emit .lampFaultReport
  | _, _ => ({ s with blu := { s.blu with ask := some a } }).tryLampGrant

/-! ## Samples (R127, R129) -/

/-- The settle count that completes a warm-up or a drive change (Table 8.1). -/
def settleGoal (st : LampState) : Option Nat :=
  match st with
  | .warming => some 64
  | .settling => some 8
  | .standby | .settled | .dark | .fault _ => none

/-- The lamp has been found steady (R129). A waiting ask is granted before a deferred standby is looked at, so that a grant
given here keeps the standby deferred: R129 and R135 give no order (log entry 34). -/
def State.settleComplete (s : State) : State :=
  (({ s with blu := { s.blu with state := .settled, settleTimer := none, settleCount := 0 } }).tryLampGrant).tryStandby

/-- A sample enters the history, samples older than 8 s leave it, and the lit time runs on (R126, R127). -/
def Blu.takeSample (b : Blu) (v : Nat) : Blu :=
  let now := b.clock + 10
  { b with
    clock := now
    history := (now, v) :: b.history.filter fun p => decide (now ≤ p.1 + 80000)
    lit := if b.state.lit then b.lit + 1 else b.lit }

/-- The settle count after a sample that follows `prev` (R127). -/
def settleAfter (count tolerance v : Nat) (prev : Option Nat) : Nat :=
  match prev with
  | some p => if v ≠ 0 ∧ max v p - min v p ≤ tolerance then count + 1 else 0
  | none => 0

/-! ## Throttle (R132) -/

/-- The effect of a throttle change on the lamp (Table 8.3). -/
def State.throttleChanged (s : State) : State :=
  let old := s.blu.commanded
  let b := s.blu.recommand
  if b.commanded = old then { s with blu := b }
  else match b.state with
    | .warming => { s with blu := { b with settleCount := 0 } }
    | .settling => { s with blu := b.startSettling }
    | .settled =>
      if b.grant.isSome then
        let s := { s with blu := { b with driveChanged := true } }
        if b.commanded < old then s.emit .lampLost else s
      else { s with blu := b.startSettling }
    | .standby | .dark | .fault _ => { s with blu := b }

/-- A panel temperature sample (R132). A flag set during an exposure marks that exposure (R13). -/
def State.panelSample (s : State) (t : Int) : State :=
  let old := s.blu.throttle
  let new := hysteresis old t s.liu.params.lampLimit s.liu.params.lampHyst
  let s := { s with blu := { s.blu with panelTemp := t, throttle := new } }
  if new = old then s
  else
    let s := s.throttleChanged
    let s := if new then
      { s with
        liu := { s.liu with sticky := { s.liu.sticky with throttleSeen := true } }
        sfe := { s.sfe with exposing := s.sfe.exposing.map fun e => { e with throttled := true } } }
      else s
    s.lampNotice

/-! ## Entry into DARK (R133) and recovery (R134) -/

/-- The fault cause of a lamp in FAULT. -/
def LampState.faultCause : LampState → Option LampFault
  | .fault c => some c
  | .standby | .warming | .settling | .settled | .dark => none

/-- BLU enters DARK (R133): a grant held ends with a lamp-lost report to SFE, an exit from FAULT is notified (R136), and
a dark ask that waits is granted. -/
def State.enterDark (s : State) : State :=
  let lost := s.blu.grant.isSome
  let faulted := s.blu.state.faultCause.isSome
  let remembered := if faulted then s.blu.state.faultCause else s.blu.remembered
  let s := { s with blu := { s.blu with
    state := .dark, commanded := 0, settleCount := 0, settleTimer := none, zeroCount := 0, lit := 0, grant := none
    driveChanged := false, remembered := remembered } }
  let s := if lost then s.emit .lampLost else s
  let s := if faulted then s.lampNotice else s
  s.tryLampGrant

/-- PRC asks BLU to leave FAULT (R134). -/
def State.leaveFault (s : State) : State :=
  match s.blu.state with
  | .fault _ =>
    ({ s with blu := { s.blu with state := .standby, requested := 0, commanded := 0 } }).lampNotice
  | _ => s

/-! ## The commands -/

/-- LIGHT_REQUEST (R128, R134, R135, R136). -/
def execLightRequest (d : Nat) (s : State) : Result :=
  let s := s.deliver (.lightRequest d)
  .next (if s.blu.quiesce then s else (s.startIdle.applyLight d).tryLampGrant)

/-- PANEL_TEMP_SAMPLE (R132). -/
def execPanelTempSample (t : Int) (s : State) : Result := .next (s.panelSample t)

/-- LAMP_READY_ASK (R130). -/
def execLampReadyAsk (cond : LampCond) (time : Nat) (s : State) : Result :=
  .next ((s.deliver (.lampReadyAsk cond time)).lampAsk { cond := cond, time := time })

/-- LAMP_READY_RELEASE (R130, R131). -/
def execLampReadyRelease (since : Nat) (s : State) : Result :=
  .next ((s.deliver (.lampReadyRelease since)).lampRelease since).1

/-- LEAVE_FAULT (R134). -/
def execLeaveFault (s : State) : Result := .next (s.deliver .leaveFault).leaveFault

/-- IDLE_TIMER_EXPIRY (R135): a lit lamp enters STANDBY when the three conditions hold, or defers the standby. -/
def execIdleTimerExpiry (s : State) : Result :=
  .next (match s.blu.idleTimer with
    | some _ =>
      let s := { s with blu := { s.blu with idleTimer := none } }
      if s.blu.state.lit then ({ s with blu := { s.blu with deferred := true } }).tryStandby else s
    | none => s)

/-- DEFERRED_STANDBY (R135). -/
def execDeferredStandby (s : State) : Result := .next s.tryStandby

end Sys2Proof.Machine
end

