-- ==== Sys2Proof/Machine/FrameStore.lean ====
section
/-! DEFINITION. The frame store (chapter 6): slot changes, admission, release, calibration slots, and the memory port
with its arbiter. -/

namespace Sys2Proof.Machine

/-! ## Slot changes (R100, Table 6.2) -/

/-- The state that a change expects the slot in, under the tile it names. A STREAMING slot carries no owner. -/
def SlotChange.before (c : SlotChange) (t : TileRef) : SlotState :=
  match c with
  | .reservedToExposing | .reservedToDest | .reservedToFree => .reserved t
  | .exposingToRaw | .exposingToReserved | .exposingToFree => .exposing t
  | .rawToFree => .raw t
  | .destToMerged | .destToFree => .dest t
  | .mergedToStreaming | .mergedToFree => .merged t
  | .streamingToFree => .streaming

/-- The state that a change gives the slot. -/
def SlotChange.after (c : SlotChange) (t : TileRef) : SlotState :=
  match c with
  | .reservedToExposing => .exposing t
  | .exposingToRaw => .raw t
  | .exposingToReserved => .reserved t
  | .reservedToDest => .dest t
  | .destToMerged => .merged t
  | .mergedToStreaming => .streaming
  | .rawToFree | .destToFree | .reservedToFree | .exposingToFree | .mergedToFree | .streamingToFree => .free

/-- Whether FST makes a change (R100): the slot is in the state and under the owner that the request expects. -/
def Fst.allows (f : Fst) (slot : Nat) (c : SlotChange) (t : TileRef) : Bool :=
  decide (f.slot slot = some (c.before t))

/-- A change is asked of FST (R100): it is made, or refused with the slot left as it is. A free may grant the waiting
admission in the same event (R102). -/
def State.changeSlot (s : State) (slot : Nat) (c : SlotChange) (t : TileRef) : State :=
  if s.fst.allows slot c t then
    match c.after t with
    | .free => s.freeSlots [slot]
    | x => s.setSlot slot x
  else s

/-! ## Admission (R101, R102, R104) -/

/-- PRC's request is turned back (R101): it is outstanding no more, also when the request that waits in FST is for the same
tile, whose later grant PRC then discards (log entry 32). A request that PRC has outstanding for another tile stays. -/
def State.admissionRefused (s : State) (t : TileRef) : State :=
  { s with prc := { s.prc with admReq := if s.prc.admReq = some t then none else s.prc.admReq } }

/-- An admission request (R101). -/
def State.askSlots (s : State) (t : TileRef) (n : Nat) : State :=
  if s.fst.quiesce || s.fst.wait.isSome then s.admissionRefused t
  else if n + 1 ≤ s.fst.freeCount then s.grantSlots t n
  else { s with fst := { s.fst with wait := some (t, n) } }

/-- A withdrawal of an admission request (R102): the wait empties, or a grant already made is taken back. DESIGN
CHOICE: one taken before its request finds nothing, and the request is granted after it (log entry 51). -/
def State.withdrawAdmission (s : State) (t : TileRef) : State :=
  match s.fst.wait with
  | some (u, _) =>
    if u = t then { s with fst := { s.fst with wait := none } }
    else s.freeSlots (s.fst.exposureSlots t)
  | none => s.freeSlots (s.fst.exposureSlots t)

/-! ## Calibration slots (R108) -/

/-- Whether a reference name is one of the six of Table 6.1. -/
def RefName.valid : RefName → Bool
  | .bias | .rate => true
  | .flat p => decide (p < 4)

/-- Whether a slot is CALWORK. -/
def Fst.isCalwork (f : Fst) (i : Nat) : Bool :=
  match f.slot i with
  | some (.calwork _) => true
  | _ => false

/-- One entry of a commit (R108): the CALWORK slot becomes REF under its name, and the slot that held the name before
goes to FREE. A slot that is not CALWORK is refused by R100. DESIGN CHOICE: the role that R99 gives a CALWORK slot as its
owner is not looked at, since R108's commit names none (log entry 47). -/
def Fst.commitRef (f : Fst) (i : Nat) (name : RefName) : Fst :=
  if f.isCalwork i && name.valid then
    (f.setSlots (f.slotsWhere fun x => decide (x = .ref name)) .free).setSlot i (.ref name)
  else f

/-- A commit, all in one event (R108). DESIGN CHOICE: entry by entry, so that one whose slot is not CALWORK is left out and
the others are carried out (log entry 53). -/
def Fst.commit (f : Fst) (entries : List (Nat × RefName)) : Fst := entries.foldl (fun g e => g.commitRef e.1 e.2) f

/-- A commit; the frees count toward the admission wait (R102). -/
def State.commitRefs (s : State) (entries : List (Nat × RefName)) : State :=
  ({ s with fst := s.fst.commit entries }).afterFree

/-- CALWORK slots return to FREE (R108), whatever their roles: R108's return names none (DESIGN CHOICE, log entry 47).
A slot named that is not CALWORK is left as it is, and the others go to FREE (DESIGN CHOICE, log entry 53). -/
def State.returnCalwork (s : State) (l : List Nat) : State := s.freeSlots (l.filter s.fst.isCalwork)

/-- A request for CALWORK slots (R108): granted to CRU under the roles of R86, or refused. -/
def State.requestCalwork (s : State) (k : CalKind) : State :=
  if s.fst.calworkReady k then
    let pairs := s.fst.calworkPairs k
    let s' := { s with fst := s.fst.takeCalwork pairs }
    match s.cru.state, s.cru.request, pairs with
    | .waiting, some k', (lo, _) :: (hi, _) :: _ =>
      if k' = k ∧ s.cru.work = [] then
        ({ s' with cru := { s'.cru with work := pairs } }).emit (.calWorkRequest lo hi)
      else s'
    | _, _, _ => s'
  else s

/-! ## The memory port (R109, R110) -/

/-- Whether BME is in calibration mode (R77). -/
def BmeState.inCal : BmeState → Bool
  | .calReady | .calBusy => true
  | .idle | .merging | .abandoning => false

/-- Table 6.3: whether the port lets a requester write or read a slot, by the slot's state and, for BME, by its mode
(`cal`: calibration mode). -/
def portTable (c : PortClient) (write cal : Bool) (x : SlotState) : Bool :=
  match c, write, x with
  | .sfe, true, .exposing _ | .sfe, true, .calwork _ => true
  | .bme, false, .raw _ => !cal
  | .bme, false, .ref _ => true
  | .bme, false, .calwork _ => cal
  | .bme, true, .dest _ => !cal
  | .bme, true, .calwork _ => cal
  | .sou, false, .streaming => true
  | _, _, _ => false

/-- Whether the port carries out an access as the slots stand (R110). -/
def Fst.portAllows (f : Fst) (c : PortClient) (write cal : Bool) (slot : Nat) : Bool :=
  match f.slot slot with
  | some x => portTable c write cal x
  | none => false

/-- Whether the port carries out a unit as things stand (R110). -/
def State.portAllows (s : State) (u : PortUnit) : Bool :=
  s.fst.portAllows u.client u.write s.bme.state.inCal u.slot

/-- Whether a requester holds a unit at the port. -/
def Port.holds (p : Port) (c : PortClient) : Bool :=
  (match p.serving with | some u => decide (u.client = c) | none => false)
    || (match c with | .sfe => p.waitSfe.isSome | .bme => p.waitBme.isSome | .sou => p.waitSou.isSome)

/-- A unit joins the requests waiting. -/
def Port.enqueue (p : Port) (u : PortUnit) : Port :=
  match u.client with
  | .sfe => { p with waitSfe := some u }
  | .bme => { p with waitBme := some u }
  | .sou => { p with waitSou := some u }

/-- The arbiter's choice among the requests waiting (R109): SFE first, then BME and SOU in turn. -/
def Port.choose (p : Port) : Option PortUnit :=
  match p.waitSfe, p.waitBme, p.waitSou with
  | some u, _, _ => some u
  | none, some b, some o => if p.last = .bme then some o else some b
  | none, some b, none => some b
  | none, none, some o => some o
  | none, none, none => none

/-- The chosen unit leaves the requests waiting; the mark records which of BME and SOU is served. -/
def Port.take (p : Port) (u : PortUnit) : Port :=
  match u.client with
  | .sfe => { p with serving := some u, waitSfe := none }
  | .bme => { p with serving := some u, waitBme := none, last := .bme }
  | .sou => { p with serving := some u, waitSou := none, last := .sou }

/-- The readout in progress whose target is a slot. -/
def Sfe.readsInto (f : Sfe) (slot : Nat) : Bool :=
  match f.readout with
  | some r =>
    match r.kind with
    | .frame e _ _ =>
      match e.req.target with
      | .slot n _ => decide (n = slot)
      | .calwork n => decide (n = slot)
      | .histogram => false
    | .flush _ => false
  | none => false

/-- Whether SFE writes rows into a slot: those of the readout in progress (R118), until the port has refused it (R118) or
its requester has withdrawn it (R122). -/
def Sfe.writesInto (f : Sfe) (slot : Nat) : Bool :=
  f.readsInto slot && (match f.readout with
    | some r => !r.noFrame && !r.dropped
    | none => false)

/-- Whether a unit is a row of SFE that no readout in progress writes (log entry 37). -/
def State.unitStopped (s : State) (u : PortUnit) : Bool := decide (u.client = .sfe) && !s.sfe.writesInto u.slot

/-- SFE gives up what it has at the port when its readout ends or is withdrawn: the row waiting leaves the port, and the one
in service writes nothing at its end (its write mark is cleared), whatever becomes of its slot meanwhile. R122 says so of a
withdrawal. R119 and R120 do not say it of a row in service at the readout's end or at its timeout: of the first the
completion itself writes what is left of the frame, and of the second the model writes the row no more (log entry 37). -/
def Port.giveUpSfe (p : Port) : Port :=
  { p with
    serving := p.serving.map fun u => if u.client = .sfe then { u with write := false } else u
    waitSfe := none }

/-- The port has refused a write of the readout (R110, R118): SFE writes no further row. -/
def State.readoutRefused (s : State) (u : PortUnit) : State :=
  if decide (u.client = .sfe) && s.sfe.readsInto u.slot then
    { s with sfe := { s.sfe with readout := s.sfe.readout.map fun r => { r with noFrame := true } } }
  else s

/-- The idle port serves the unit that the arbiter chooses; a unit that Table 6.3 does not allow is refused, and the
arbiter chooses again. There are at most three requests to look at. -/
def State.servePort : Nat → State → State
  | 0, s => s
  | k + 1, s =>
    match s.fst.port.choose with
    | none => s
    | some u =>
      let taken := s.fst.port.take u
      if s.portAllows u then { s with fst := { s.fst with port := taken } }
      else
        let s' := { s with fst := { s.fst with port := { taken with serving := none, last := s.fst.port.last } } }
        State.servePort k (s'.readoutRefused u)

/-- A request for a unit of port work (R109); a requester that already holds one asks for no other, and SFE asks for none
but of a readout in progress that still writes (R118, R122, log entry 37). DESIGN CHOICE: requests come from outside in any
order of rows and slots; no step of the model issues one, and the completion of a band, a stripe or a readout needs none
served (log entry 42). -/
def State.requestUnit (s : State) (u : PortUnit) : State :=
  if s.fst.port.holds u.client || s.unitStopped u then s
  else
    let s := { s with fst := { s.fst with port := s.fst.port.enqueue u } }
    if s.fst.port.serving = none then State.servePort 3 s else s

/-- A raw code as the sensor gives it: 14 bits. -/
def capCode (c : Nat) : Nat := min 16383 c

/-- The row of a unit as it is written: 5120 raw codes. -/
def PortUnit.rowCodes (u : PortUnit) : Runs Nat := runsFit columns 0 (runsMap capCode u.codes)

/-- The readout has reached the row after `row`. -/
def Sfe.advance (f : Sfe) (slot row : Nat) : Sfe :=
  if f.readsInto slot then
    { f with readout := f.readout.map fun r =>
        if r.row = row ∧ r.noFrame = false then { r with row := row + 1 } else r }
  else f

/-- The write of a unit of SFE (R118), and the row that the readout has reached. The other units move values whose
content the band completions and stripe ends give (R109). A row that its readout no longer writes is not written (R118,
R122, `Port.giveUpSfe`). The slot's state is looked at when a unit is served and again at the end of a unit of SFE (log
entry 35). -/
def State.finishUnit (s : State) (u : PortUnit) : State :=
  match u.client, u.write with
  | .sfe, true =>
    if s.unitStopped u then s
    else if s.portAllows u then
      if u.row < sensorRows then
        { s with fst := s.fst.write u.slot (u.row * columns) u.rowCodes, sfe := s.sfe.advance u.slot u.row }
      else s
    else s.readoutRefused u
  | _, _ => s

/-- The port finishes a unit and serves the next (R109). -/
def State.unitDone (s : State) : State :=
  match s.fst.port.serving with
  | none => s
  | some u =>
    let s := s.finishUnit u
    State.servePort 3 { s with fst := { s.fst with port := { s.fst.port with serving := none } } }

/-! ## The commands -/

/-- ADMISSION_REQUEST (R101). -/
def execAdmissionRequest (tile : TileRef) (n : Nat) (s : State) : Result :=
  .next ((s.deliver (.admissionRequest tile n)).askSlots tile n)

/-- ADMISSION_WITHDRAW (R102). -/
def execAdmissionWithdraw (tile : TileRef) (s : State) : Result :=
  .next ((s.deliver (.admissionWithdraw tile)).withdrawAdmission tile)

/-- SLOT_CHANGE (R100, R105 to R107). -/
def execSlotChange (slot : Nat) (change : SlotChange) (tile : TileRef) (s : State) : Result :=
  .next ((s.deliver (.slotChange slot change tile)).changeSlot slot change tile)

/-- TILE_RELEASE (R104). DESIGN CHOICE: one still on its way when the tile's record was released and its id submitted anew
(R10) frees the slots of the tile of that number in the new record (log entry 52). -/
def execTileRelease (tile : TileRef) (s : State) : Result :=
  .next ((s.deliver (.tileRelease tile)).freeSlots (s.fst.exposureSlots tile))

/-- CALWORK_REQUEST (R108). -/
def execCalworkRequest (kind : CalKind) (s : State) : Result :=
  .next ((s.deliver (.calworkRequest kind)).requestCalwork kind)

/-- CAL_COMMIT (R108). -/
def execCalCommit (entries : List (Nat × RefName)) (s : State) : Result :=
  .next ((s.deliver (.calCommit entries)).commitRefs entries)

/-- CALWORK_RETURN (R108). -/
def execCalworkReturn (slots : List Nat) (s : State) : Result :=
  .next ((s.deliver (.calworkReturn slots)).returnCalwork slots)

/-- PORT_UNIT_REQUEST (R109, R110). -/
def execPortUnitRequest (u : PortUnit) (s : State) : Result :=
  .next ((s.deliver (.portUnitRequest u)).requestUnit u)

/-- PORT_UNIT_DONE (R109, R118). -/
def execPortUnitDone (s : State) : Result := .next (s.deliver .portUnitDone).unitDone

end Sys2Proof.Machine
end

