-- ==== Sys2Proof/Machine/LogTable.lean ====
section
/-! DEFINITION. The fixed log table LT of R73: entry k is round(65536 × log10(1 + k / 4096)). The spec gives the
formula and three entries worked out (LT[137], LT[1504], LT[4095]); the 4096 numbers are computed from the formula.
Each row below holds 64 entries. -/

namespace Sys2Proof.Machine

/-- Entries 0 to 63 of LT. -/
def logRow0 : List Nat :=
  [0, 7, 14, 21, 28, 35, 42, 49, 56, 62, 69, 76, 83, 90, 97, 104,
   111, 118, 125, 132, 139, 146, 152, 159, 166, 173, 180, 187, 194, 201, 208, 215,
   221, 228, 235, 242, 249, 256, 263, 270, 277, 283, 290, 297, 304, 311, 318, 325,
   332, 338, 345, 352, 359, 366, 373, 380, 386, 393, 400, 407, 414, 421, 428, 434]

/-- Entries 64 to 127 of LT. -/
def logRow1 : List Nat :=
  [441, 448, 455, 462, 469, 475, 482, 489, 496, 503, 510, 516, 523, 530, 537, 544,
   551, 557, 564, 571, 578, 585, 591, 598, 605, 612, 619, 625, 632, 639, 646, 653,
   659, 666, 673, 680, 687, 693, 700, 707, 714, 720, 727, 734, 741, 748, 754, 761,
   768, 775, 781, 788, 795, 802, 808, 815, 822, 829, 835, 842, 849, 856, 862, 869]

/-- Entries 128 to 191 of LT. -/
def logRow2 : List Nat :=
  [876, 883, 889, 896, 903, 909, 916, 923, 930, 936, 943, 950, 957, 963, 970, 977,
   983, 990, 997, 1004, 1010, 1017, 1024, 1030, 1037, 1044, 1050, 1057, 1064, 1071, 1077, 1084,
   1091, 1097, 1104, 1111, 1117, 1124, 1131, 1137, 1144, 1151, 1157, 1164, 1171, 1177, 1184, 1191,
   1197, 1204, 1211, 1217, 1224, 1231, 1237, 1244, 1251, 1257, 1264, 1271, 1277, 1284, 1291, 1297]

/-- Entries 192 to 255 of LT. -/
def logRow3 : List Nat :=
  [1304, 1310, 1317, 1324, 1330, 1337, 1344, 1350, 1357, 1364, 1370, 1377, 1383, 1390, 1397, 1403,
   1410, 1416, 1423, 1430, 1436, 1443, 1449, 1456, 1463, 1469, 1476, 1482, 1489, 1496, 1502, 1509,
   1515, 1522, 1529, 1535, 1542, 1548, 1555, 1562, 1568, 1575, 1581, 1588, 1594, 1601, 1608, 1614,
   1621, 1627, 1634, 1640, 1647, 1653, 1660, 1667, 1673, 1680, 1686, 1693, 1699, 1706, 1712, 1719]

/-- Entries 256 to 319 of LT. -/
def logRow4 : List Nat :=
  [1725, 1732, 1739, 1745, 1752, 1758, 1765, 1771, 1778, 1784, 1791, 1797, 1804, 1810, 1817, 1823,
   1830, 1836, 1843, 1849, 1856, 1863, 1869, 1876, 1882, 1889, 1895, 1902, 1908, 1915, 1921, 1928,
   1934, 1940, 1947, 1953, 1960, 1966, 1973, 1979, 1986, 1992, 1999, 2005, 2012, 2018, 2025, 2031,
   2038, 2044, 2051, 2057, 2064, 2070, 2076, 2083, 2089, 2096, 2102, 2109, 2115, 2122, 2128, 2135]

/-- Entries 320 to 383 of LT. -/
def logRow5 : List Nat :=
  [2141, 2147, 2154, 2160, 2167, 2173, 2180, 2186, 2193, 2199, 2205, 2212, 2218, 2225, 2231, 2238,
   2244, 2250, 2257, 2263, 2270, 2276, 2282, 2289, 2295, 2302, 2308, 2314, 2321, 2327, 2334, 2340,
   2347, 2353, 2359, 2366, 2372, 2378, 2385, 2391, 2398, 2404, 2410, 2417, 2423, 2430, 2436, 2442,
   2449, 2455, 2461, 2468, 2474, 2481, 2487, 2493, 2500, 2506, 2512, 2519, 2525, 2531, 2538, 2544]

/-- Entries 384 to 447 of LT. -/
def logRow6 : List Nat :=
  [2551, 2557, 2563, 2570, 2576, 2582, 2589, 2595, 2601, 2608, 2614, 2620, 2627, 2633, 2639, 2646,
   2652, 2658, 2665, 2671, 2677, 2684, 2690, 2696, 2703, 2709, 2715, 2722, 2728, 2734, 2740, 2747,
   2753, 2759, 2766, 2772, 2778, 2785, 2791, 2797, 2804, 2810, 2816, 2822, 2829, 2835, 2841, 2848,
   2854, 2860, 2866, 2873, 2879, 2885, 2892, 2898, 2904, 2910, 2917, 2923, 2929, 2935, 2942, 2948]

/-- Entries 448 to 511 of LT. -/
def logRow7 : List Nat :=
  [2954, 2961, 2967, 2973, 2979, 2986, 2992, 2998, 3004, 3011, 3017, 3023, 3029, 3036, 3042, 3048,
   3054, 3061, 3067, 3073, 3079, 3085, 3092, 3098, 3104, 3110, 3117, 3123, 3129, 3135, 3142, 3148,
   3154, 3160, 3166, 3173, 3179, 3185, 3191, 3197, 3204, 3210, 3216, 3222, 3229, 3235, 3241, 3247,
   3253, 3260, 3266, 3272, 3278, 3284, 3290, 3297, 3303, 3309, 3315, 3321, 3328, 3334, 3340, 3346]

/-- Entries 512 to 575 of LT. -/
def logRow8 : List Nat :=
  [3352, 3359, 3365, 3371, 3377, 3383, 3389, 3396, 3402, 3408, 3414, 3420, 3426, 3433, 3439, 3445,
   3451, 3457, 3463, 3469, 3476, 3482, 3488, 3494, 3500, 3506, 3512, 3519, 3525, 3531, 3537, 3543,
   3549, 3555, 3562, 3568, 3574, 3580, 3586, 3592, 3598, 3604, 3611, 3617, 3623, 3629, 3635, 3641,
   3647, 3653, 3659, 3666, 3672, 3678, 3684, 3690, 3696, 3702, 3708, 3714, 3721, 3727, 3733, 3739]

/-- Entries 576 to 639 of LT. -/
def logRow9 : List Nat :=
  [3745, 3751, 3757, 3763, 3769, 3775, 3781, 3788, 3794, 3800, 3806, 3812, 3818, 3824, 3830, 3836,
   3842, 3848, 3854, 3860, 3866, 3873, 3879, 3885, 3891, 3897, 3903, 3909, 3915, 3921, 3927, 3933,
   3939, 3945, 3951, 3957, 3963, 3969, 3975, 3982, 3988, 3994, 4000, 4006, 4012, 4018, 4024, 4030,
   4036, 4042, 4048, 4054, 4060, 4066, 4072, 4078, 4084, 4090, 4096, 4102, 4108, 4114, 4120, 4126]

/-- Entries 640 to 703 of LT. -/
def logRow10 : List Nat :=
  [4132, 4138, 4144, 4150, 4156, 4162, 4168, 4174, 4180, 4186, 4192, 4198, 4204, 4210, 4216, 4222,
   4228, 4234, 4240, 4246, 4252, 4258, 4264, 4270, 4276, 4282, 4288, 4294, 4300, 4306, 4312, 4318,
   4324, 4330, 4336, 4342, 4348, 4354, 4360, 4366, 4372, 4377, 4383, 4389, 4395, 4401, 4407, 4413,
   4419, 4425, 4431, 4437, 4443, 4449, 4455, 4461, 4467, 4473, 4479, 4485, 4490, 4496, 4502, 4508]

/-- Entries 704 to 767 of LT. -/
def logRow11 : List Nat :=
  [4514, 4520, 4526, 4532, 4538, 4544, 4550, 4556, 4562, 4568, 4573, 4579, 4585, 4591, 4597, 4603,
   4609, 4615, 4621, 4627, 4633, 4638, 4644, 4650, 4656, 4662, 4668, 4674, 4680, 4686, 4692, 4697,
   4703, 4709, 4715, 4721, 4727, 4733, 4739, 4745, 4750, 4756, 4762, 4768, 4774, 4780, 4786, 4792,
   4797, 4803, 4809, 4815, 4821, 4827, 4833, 4838, 4844, 4850, 4856, 4862, 4868, 4874, 4879, 4885]

/-- Entries 768 to 831 of LT. -/
def logRow12 : List Nat :=
  [4891, 4897, 4903, 4909, 4915, 4920, 4926, 4932, 4938, 4944, 4950, 4955, 4961, 4967, 4973, 4979,
   4985, 4990, 4996, 5002, 5008, 5014, 5020, 5025, 5031, 5037, 5043, 5049, 5055, 5060, 5066, 5072,
   5078, 5084, 5089, 5095, 5101, 5107, 5113, 5118, 5124, 5130, 5136, 5142, 5147, 5153, 5159, 5165,
   5171, 5176, 5182, 5188, 5194, 5200, 5205, 5211, 5217, 5223, 5229, 5234, 5240, 5246, 5252, 5257]

/-- Entries 832 to 895 of LT. -/
def logRow13 : List Nat :=
  [5263, 5269, 5275, 5281, 5286, 5292, 5298, 5304, 5309, 5315, 5321, 5327, 5332, 5338, 5344, 5350,
   5356, 5361, 5367, 5373, 5379, 5384, 5390, 5396, 5402, 5407, 5413, 5419, 5425, 5430, 5436, 5442,
   5447, 5453, 5459, 5465, 5470, 5476, 5482, 5488, 5493, 5499, 5505, 5511, 5516, 5522, 5528, 5533,
   5539, 5545, 5551, 5556, 5562, 5568, 5573, 5579, 5585, 5591, 5596, 5602, 5608, 5613, 5619, 5625]

/-- Entries 896 to 959 of LT. -/
def logRow14 : List Nat :=
  [5631, 5636, 5642, 5648, 5653, 5659, 5665, 5670, 5676, 5682, 5687, 5693, 5699, 5705, 5710, 5716,
   5722, 5727, 5733, 5739, 5744, 5750, 5756, 5761, 5767, 5773, 5778, 5784, 5790, 5795, 5801, 5807,
   5812, 5818, 5824, 5829, 5835, 5841, 5846, 5852, 5858, 5863, 5869, 5875, 5880, 5886, 5892, 5897,
   5903, 5909, 5914, 5920, 5925, 5931, 5937, 5942, 5948, 5954, 5959, 5965, 5971, 5976, 5982, 5987]

/-- Entries 960 to 1023 of LT. -/
def logRow15 : List Nat :=
  [5993, 5999, 6004, 6010, 6016, 6021, 6027, 6032, 6038, 6044, 6049, 6055, 6061, 6066, 6072, 6077,
   6083, 6089, 6094, 6100, 6105, 6111, 6117, 6122, 6128, 6133, 6139, 6145, 6150, 6156, 6161, 6167,
   6173, 6178, 6184, 6189, 6195, 6201, 6206, 6212, 6217, 6223, 6229, 6234, 6240, 6245, 6251, 6256,
   6262, 6268, 6273, 6279, 6284, 6290, 6295, 6301, 6307, 6312, 6318, 6323, 6329, 6334, 6340, 6346]

/-- Entries 1024 to 1087 of LT. -/
def logRow16 : List Nat :=
  [6351, 6357, 6362, 6368, 6373, 6379, 6384, 6390, 6396, 6401, 6407, 6412, 6418, 6423, 6429, 6434,
   6440, 6445, 6451, 6457, 6462, 6468, 6473, 6479, 6484, 6490, 6495, 6501, 6506, 6512, 6517, 6523,
   6528, 6534, 6539, 6545, 6551, 6556, 6562, 6567, 6573, 6578, 6584, 6589, 6595, 6600, 6606, 6611,
   6617, 6622, 6628, 6633, 6639, 6644, 6650, 6655, 6661, 6666, 6672, 6677, 6683, 6688, 6694, 6699]

/-- Entries 1088 to 1151 of LT. -/
def logRow17 : List Nat :=
  [6705, 6710, 6716, 6721, 6727, 6732, 6738, 6743, 6749, 6754, 6760, 6765, 6770, 6776, 6781, 6787,
   6792, 6798, 6803, 6809, 6814, 6820, 6825, 6831, 6836, 6842, 6847, 6853, 6858, 6863, 6869, 6874,
   6880, 6885, 6891, 6896, 6902, 6907, 6913, 6918, 6923, 6929, 6934, 6940, 6945, 6951, 6956, 6962,
   6967, 6972, 6978, 6983, 6989, 6994, 7000, 7005, 7010, 7016, 7021, 7027, 7032, 7038, 7043, 7048]

/-- Entries 1152 to 1215 of LT. -/
def logRow18 : List Nat :=
  [7054, 7059, 7065, 7070, 7076, 7081, 7086, 7092, 7097, 7103, 7108, 7113, 7119, 7124, 7130, 7135,
   7141, 7146, 7151, 7157, 7162, 7168, 7173, 7178, 7184, 7189, 7195, 7200, 7205, 7211, 7216, 7222,
   7227, 7232, 7238, 7243, 7248, 7254, 7259, 7265, 7270, 7275, 7281, 7286, 7292, 7297, 7302, 7308,
   7313, 7318, 7324, 7329, 7335, 7340, 7345, 7351, 7356, 7361, 7367, 7372, 7377, 7383, 7388, 7394]

/-- Entries 1216 to 1279 of LT. -/
def logRow19 : List Nat :=
  [7399, 7404, 7410, 7415, 7420, 7426, 7431, 7436, 7442, 7447, 7452, 7458, 7463, 7468, 7474, 7479,
   7484, 7490, 7495, 7501, 7506, 7511, 7517, 7522, 7527, 7533, 7538, 7543, 7549, 7554, 7559, 7565,
   7570, 7575, 7580, 7586, 7591, 7596, 7602, 7607, 7612, 7618, 7623, 7628, 7634, 7639, 7644, 7650,
   7655, 7660, 7666, 7671, 7676, 7681, 7687, 7692, 7697, 7703, 7708, 7713, 7719, 7724, 7729, 7734]

/-- Entries 1280 to 1343 of LT. -/
def logRow20 : List Nat :=
  [7740, 7745, 7750, 7756, 7761, 7766, 7772, 7777, 7782, 7787, 7793, 7798, 7803, 7808, 7814, 7819,
   7824, 7830, 7835, 7840, 7845, 7851, 7856, 7861, 7867, 7872, 7877, 7882, 7888, 7893, 7898, 7903,
   7909, 7914, 7919, 7924, 7930, 7935, 7940, 7945, 7951, 7956, 7961, 7967, 7972, 7977, 7982, 7988,
   7993, 7998, 8003, 8008, 8014, 8019, 8024, 8029, 8035, 8040, 8045, 8050, 8056, 8061, 8066, 8071]

/-- Entries 1344 to 1407 of LT. -/
def logRow21 : List Nat :=
  [8077, 8082, 8087, 8092, 8098, 8103, 8108, 8113, 8118, 8124, 8129, 8134, 8139, 8145, 8150, 8155,
   8160, 8165, 8171, 8176, 8181, 8186, 8191, 8197, 8202, 8207, 8212, 8218, 8223, 8228, 8233, 8238,
   8244, 8249, 8254, 8259, 8264, 8270, 8275, 8280, 8285, 8290, 8295, 8301, 8306, 8311, 8316, 8321,
   8327, 8332, 8337, 8342, 8347, 8353, 8358, 8363, 8368, 8373, 8378, 8384, 8389, 8394, 8399, 8404]

/-- Entries 1408 to 1471 of LT. -/
def logRow22 : List Nat :=
  [8409, 8415, 8420, 8425, 8430, 8435, 8440, 8446, 8451, 8456, 8461, 8466, 8471, 8477, 8482, 8487,
   8492, 8497, 8502, 8508, 8513, 8518, 8523, 8528, 8533, 8538, 8544, 8549, 8554, 8559, 8564, 8569,
   8574, 8580, 8585, 8590, 8595, 8600, 8605, 8610, 8616, 8621, 8626, 8631, 8636, 8641, 8646, 8651,
   8657, 8662, 8667, 8672, 8677, 8682, 8687, 8692, 8698, 8703, 8708, 8713, 8718, 8723, 8728, 8733]

/-- Entries 1472 to 1535 of LT. -/
def logRow23 : List Nat :=
  [8739, 8744, 8749, 8754, 8759, 8764, 8769, 8774, 8779, 8784, 8790, 8795, 8800, 8805, 8810, 8815,
   8820, 8825, 8830, 8835, 8841, 8846, 8851, 8856, 8861, 8866, 8871, 8876, 8881, 8886, 8891, 8897,
   8902, 8907, 8912, 8917, 8922, 8927, 8932, 8937, 8942, 8947, 8952, 8957, 8963, 8968, 8973, 8978,
   8983, 8988, 8993, 8998, 9003, 9008, 9013, 9018, 9023, 9028, 9033, 9039, 9044, 9049, 9054, 9059]

/-- Entries 1536 to 1599 of LT. -/
def logRow24 : List Nat :=
  [9064, 9069, 9074, 9079, 9084, 9089, 9094, 9099, 9104, 9109, 9114, 9119, 9124, 9129, 9134, 9140,
   9145, 9150, 9155, 9160, 9165, 9170, 9175, 9180, 9185, 9190, 9195, 9200, 9205, 9210, 9215, 9220,
   9225, 9230, 9235, 9240, 9245, 9250, 9255, 9260, 9265, 9270, 9275, 9280, 9285, 9290, 9295, 9300,
   9305, 9310, 9315, 9320, 9325, 9330, 9335, 9340, 9345, 9350, 9355, 9360, 9365, 9370, 9375, 9380]

/-- Entries 1600 to 1663 of LT. -/
def logRow25 : List Nat :=
  [9385, 9390, 9395, 9400, 9405, 9410, 9415, 9420, 9425, 9430, 9435, 9440, 9445, 9450, 9455, 9460,
   9465, 9470, 9475, 9480, 9485, 9490, 9495, 9500, 9505, 9510, 9515, 9520, 9525, 9530, 9535, 9540,
   9545, 9550, 9555, 9560, 9565, 9570, 9575, 9580, 9585, 9590, 9595, 9599, 9604, 9609, 9614, 9619,
   9624, 9629, 9634, 9639, 9644, 9649, 9654, 9659, 9664, 9669, 9674, 9679, 9684, 9689, 9694, 9698]

/-- Entries 1664 to 1727 of LT. -/
def logRow26 : List Nat :=
  [9703, 9708, 9713, 9718, 9723, 9728, 9733, 9738, 9743, 9748, 9753, 9758, 9763, 9768, 9773, 9777,
   9782, 9787, 9792, 9797, 9802, 9807, 9812, 9817, 9822, 9827, 9832, 9837, 9841, 9846, 9851, 9856,
   9861, 9866, 9871, 9876, 9881, 9886, 9891, 9895, 9900, 9905, 9910, 9915, 9920, 9925, 9930, 9935,
   9940, 9945, 9949, 9954, 9959, 9964, 9969, 9974, 9979, 9984, 9989, 9993, 9998, 10003, 10008, 10013]

/-- Entries 1728 to 1791 of LT. -/
def logRow27 : List Nat :=
  [10018, 10023, 10028, 10033, 10037, 10042, 10047, 10052, 10057, 10062, 10067, 10072, 10077, 10081, 10086, 10091,
   10096, 10101, 10106, 10111, 10115, 10120, 10125, 10130, 10135, 10140, 10145, 10150, 10154, 10159, 10164, 10169,
   10174, 10179, 10184, 10188, 10193, 10198, 10203, 10208, 10213, 10218, 10222, 10227, 10232, 10237, 10242, 10247,
   10252, 10256, 10261, 10266, 10271, 10276, 10281, 10285, 10290, 10295, 10300, 10305, 10310, 10314, 10319, 10324]

/-- Entries 1792 to 1855 of LT. -/
def logRow28 : List Nat :=
  [10329, 10334, 10339, 10343, 10348, 10353, 10358, 10363, 10368, 10372, 10377, 10382, 10387, 10392, 10397, 10401,
   10406, 10411, 10416, 10421, 10426, 10430, 10435, 10440, 10445, 10450, 10454, 10459, 10464, 10469, 10474, 10478,
   10483, 10488, 10493, 10498, 10502, 10507, 10512, 10517, 10522, 10526, 10531, 10536, 10541, 10546, 10550, 10555,
   10560, 10565, 10570, 10574, 10579, 10584, 10589, 10594, 10598, 10603, 10608, 10613, 10618, 10622, 10627, 10632]

/-- Entries 1856 to 1919 of LT. -/
def logRow29 : List Nat :=
  [10637, 10641, 10646, 10651, 10656, 10661, 10665, 10670, 10675, 10680, 10684, 10689, 10694, 10699, 10704, 10708,
   10713, 10718, 10723, 10727, 10732, 10737, 10742, 10746, 10751, 10756, 10761, 10766, 10770, 10775, 10780, 10785,
   10789, 10794, 10799, 10804, 10808, 10813, 10818, 10823, 10827, 10832, 10837, 10842, 10846, 10851, 10856, 10861,
   10865, 10870, 10875, 10880, 10884, 10889, 10894, 10898, 10903, 10908, 10913, 10917, 10922, 10927, 10932, 10936]

/-- Entries 1920 to 1983 of LT. -/
def logRow30 : List Nat :=
  [10941, 10946, 10951, 10955, 10960, 10965, 10969, 10974, 10979, 10984, 10988, 10993, 10998, 11003, 11007, 11012,
   11017, 11021, 11026, 11031, 11036, 11040, 11045, 11050, 11054, 11059, 11064, 11069, 11073, 11078, 11083, 11087,
   11092, 11097, 11101, 11106, 11111, 11116, 11120, 11125, 11130, 11134, 11139, 11144, 11149, 11153, 11158, 11163,
   11167, 11172, 11177, 11181, 11186, 11191, 11195, 11200, 11205, 11209, 11214, 11219, 11224, 11228, 11233, 11238]

/-- Entries 1984 to 2047 of LT. -/
def logRow31 : List Nat :=
  [11242, 11247, 11252, 11256, 11261, 11266, 11270, 11275, 11280, 11284, 11289, 11294, 11298, 11303, 11308, 11312,
   11317, 11322, 11326, 11331, 11336, 11340, 11345, 11350, 11354, 11359, 11364, 11368, 11373, 11378, 11382, 11387,
   11392, 11396, 11401, 11406, 11410, 11415, 11420, 11424, 11429, 11434, 11438, 11443, 11448, 11452, 11457, 11461,
   11466, 11471, 11475, 11480, 11485, 11489, 11494, 11499, 11503, 11508, 11513, 11517, 11522, 11526, 11531, 11536]

/-- Entries 2048 to 2111 of LT. -/
def logRow32 : List Nat :=
  [11540, 11545, 11550, 11554, 11559, 11563, 11568, 11573, 11577, 11582, 11587, 11591, 11596, 11600, 11605, 11610,
   11614, 11619, 11624, 11628, 11633, 11637, 11642, 11647, 11651, 11656, 11661, 11665, 11670, 11674, 11679, 11684,
   11688, 11693, 11697, 11702, 11707, 11711, 11716, 11720, 11725, 11730, 11734, 11739, 11743, 11748, 11753, 11757,
   11762, 11766, 11771, 11776, 11780, 11785, 11789, 11794, 11799, 11803, 11808, 11812, 11817, 11822, 11826, 11831]

/-- Entries 2112 to 2175 of LT. -/
def logRow33 : List Nat :=
  [11835, 11840, 11844, 11849, 11854, 11858, 11863, 11867, 11872, 11876, 11881, 11886, 11890, 11895, 11899, 11904,
   11909, 11913, 11918, 11922, 11927, 11931, 11936, 11941, 11945, 11950, 11954, 11959, 11963, 11968, 11972, 11977,
   11982, 11986, 11991, 11995, 12000, 12004, 12009, 12014, 12018, 12023, 12027, 12032, 12036, 12041, 12045, 12050,
   12054, 12059, 12064, 12068, 12073, 12077, 12082, 12086, 12091, 12095, 12100, 12104, 12109, 12114, 12118, 12123]

/-- Entries 2176 to 2239 of LT. -/
def logRow34 : List Nat :=
  [12127, 12132, 12136, 12141, 12145, 12150, 12154, 12159, 12163, 12168, 12173, 12177, 12182, 12186, 12191, 12195,
   12200, 12204, 12209, 12213, 12218, 12222, 12227, 12231, 12236, 12240, 12245, 12249, 12254, 12258, 12263, 12268,
   12272, 12277, 12281, 12286, 12290, 12295, 12299, 12304, 12308, 12313, 12317, 12322, 12326, 12331, 12335, 12340,
   12344, 12349, 12353, 12358, 12362, 12367, 12371, 12376, 12380, 12385, 12389, 12394, 12398, 12403, 12407, 12412]

/-- Entries 2240 to 2303 of LT. -/
def logRow35 : List Nat :=
  [12416, 12421, 12425, 12430, 12434, 12439, 12443, 12448, 12452, 12457, 12461, 12466, 12470, 12474, 12479, 12483,
   12488, 12492, 12497, 12501, 12506, 12510, 12515, 12519, 12524, 12528, 12533, 12537, 12542, 12546, 12551, 12555,
   12560, 12564, 12568, 12573, 12577, 12582, 12586, 12591, 12595, 12600, 12604, 12609, 12613, 12618, 12622, 12626,
   12631, 12635, 12640, 12644, 12649, 12653, 12658, 12662, 12667, 12671, 12675, 12680, 12684, 12689, 12693, 12698]

/-- Entries 2304 to 2367 of LT. -/
def logRow36 : List Nat :=
  [12702, 12707, 12711, 12716, 12720, 12724, 12729, 12733, 12738, 12742, 12747, 12751, 12756, 12760, 12764, 12769,
   12773, 12778, 12782, 12787, 12791, 12795, 12800, 12804, 12809, 12813, 12818, 12822, 12826, 12831, 12835, 12840,
   12844, 12849, 12853, 12857, 12862, 12866, 12871, 12875, 12880, 12884, 12888, 12893, 12897, 12902, 12906, 12910,
   12915, 12919, 12924, 12928, 12933, 12937, 12941, 12946, 12950, 12955, 12959, 12963, 12968, 12972, 12977, 12981]

/-- Entries 2368 to 2431 of LT. -/
def logRow37 : List Nat :=
  [12985, 12990, 12994, 12999, 13003, 13007, 13012, 13016, 13021, 13025, 13029, 13034, 13038, 13043, 13047, 13051,
   13056, 13060, 13065, 13069, 13073, 13078, 13082, 13086, 13091, 13095, 13100, 13104, 13108, 13113, 13117, 13122,
   13126, 13130, 13135, 13139, 13143, 13148, 13152, 13157, 13161, 13165, 13170, 13174, 13178, 13183, 13187, 13192,
   13196, 13200, 13205, 13209, 13213, 13218, 13222, 13227, 13231, 13235, 13240, 13244, 13248, 13253, 13257, 13261]

/-- Entries 2432 to 2495 of LT. -/
def logRow38 : List Nat :=
  [13266, 13270, 13275, 13279, 13283, 13288, 13292, 13296, 13301, 13305, 13309, 13314, 13318, 13322, 13327, 13331,
   13335, 13340, 13344, 13349, 13353, 13357, 13362, 13366, 13370, 13375, 13379, 13383, 13388, 13392, 13396, 13401,
   13405, 13409, 13414, 13418, 13422, 13427, 13431, 13435, 13440, 13444, 13448, 13453, 13457, 13461, 13466, 13470,
   13474, 13479, 13483, 13487, 13492, 13496, 13500, 13505, 13509, 13513, 13518, 13522, 13526, 13531, 13535, 13539]

/-- Entries 2496 to 2559 of LT. -/
def logRow39 : List Nat :=
  [13543, 13548, 13552, 13556, 13561, 13565, 13569, 13574, 13578, 13582, 13587, 13591, 13595, 13600, 13604, 13608,
   13612, 13617, 13621, 13625, 13630, 13634, 13638, 13643, 13647, 13651, 13656, 13660, 13664, 13668, 13673, 13677,
   13681, 13686, 13690, 13694, 13699, 13703, 13707, 13711, 13716, 13720, 13724, 13729, 13733, 13737, 13741, 13746,
   13750, 13754, 13759, 13763, 13767, 13771, 13776, 13780, 13784, 13789, 13793, 13797, 13801, 13806, 13810, 13814]

/-- Entries 2560 to 2623 of LT. -/
def logRow40 : List Nat :=
  [13818, 13823, 13827, 13831, 13836, 13840, 13844, 13848, 13853, 13857, 13861, 13865, 13870, 13874, 13878, 13883,
   13887, 13891, 13895, 13900, 13904, 13908, 13912, 13917, 13921, 13925, 13929, 13934, 13938, 13942, 13946, 13951,
   13955, 13959, 13964, 13968, 13972, 13976, 13981, 13985, 13989, 13993, 13998, 14002, 14006, 14010, 14015, 14019,
   14023, 14027, 14031, 14036, 14040, 14044, 14048, 14053, 14057, 14061, 14065, 14070, 14074, 14078, 14082, 14087]

/-- Entries 2624 to 2687 of LT. -/
def logRow41 : List Nat :=
  [14091, 14095, 14099, 14104, 14108, 14112, 14116, 14120, 14125, 14129, 14133, 14137, 14142, 14146, 14150, 14154,
   14159, 14163, 14167, 14171, 14175, 14180, 14184, 14188, 14192, 14197, 14201, 14205, 14209, 14213, 14218, 14222,
   14226, 14230, 14234, 14239, 14243, 14247, 14251, 14256, 14260, 14264, 14268, 14272, 14277, 14281, 14285, 14289,
   14293, 14298, 14302, 14306, 14310, 14314, 14319, 14323, 14327, 14331, 14335, 14340, 14344, 14348, 14352, 14356]

/-- Entries 2688 to 2751 of LT. -/
def logRow42 : List Nat :=
  [14361, 14365, 14369, 14373, 14377, 14382, 14386, 14390, 14394, 14398, 14403, 14407, 14411, 14415, 14419, 14423,
   14428, 14432, 14436, 14440, 14444, 14449, 14453, 14457, 14461, 14465, 14470, 14474, 14478, 14482, 14486, 14490,
   14495, 14499, 14503, 14507, 14511, 14515, 14520, 14524, 14528, 14532, 14536, 14540, 14545, 14549, 14553, 14557,
   14561, 14565, 14570, 14574, 14578, 14582, 14586, 14590, 14595, 14599, 14603, 14607, 14611, 14615, 14620, 14624]

/-- Entries 2752 to 2815 of LT. -/
def logRow43 : List Nat :=
  [14628, 14632, 14636, 14640, 14645, 14649, 14653, 14657, 14661, 14665, 14669, 14674, 14678, 14682, 14686, 14690,
   14694, 14698, 14703, 14707, 14711, 14715, 14719, 14723, 14727, 14732, 14736, 14740, 14744, 14748, 14752, 14756,
   14761, 14765, 14769, 14773, 14777, 14781, 14785, 14790, 14794, 14798, 14802, 14806, 14810, 14814, 14818, 14823,
   14827, 14831, 14835, 14839, 14843, 14847, 14851, 14856, 14860, 14864, 14868, 14872, 14876, 14880, 14884, 14889]

/-- Entries 2816 to 2879 of LT. -/
def logRow44 : List Nat :=
  [14893, 14897, 14901, 14905, 14909, 14913, 14917, 14921, 14926, 14930, 14934, 14938, 14942, 14946, 14950, 14954,
   14958, 14963, 14967, 14971, 14975, 14979, 14983, 14987, 14991, 14995, 15000, 15004, 15008, 15012, 15016, 15020,
   15024, 15028, 15032, 15036, 15041, 15045, 15049, 15053, 15057, 15061, 15065, 15069, 15073, 15077, 15081, 15086,
   15090, 15094, 15098, 15102, 15106, 15110, 15114, 15118, 15122, 15126, 15130, 15135, 15139, 15143, 15147, 15151]

/-- Entries 2880 to 2943 of LT. -/
def logRow45 : List Nat :=
  [15155, 15159, 15163, 15167, 15171, 15175, 15179, 15184, 15188, 15192, 15196, 15200, 15204, 15208, 15212, 15216,
   15220, 15224, 15228, 15232, 15236, 15241, 15245, 15249, 15253, 15257, 15261, 15265, 15269, 15273, 15277, 15281,
   15285, 15289, 15293, 15297, 15301, 15306, 15310, 15314, 15318, 15322, 15326, 15330, 15334, 15338, 15342, 15346,
   15350, 15354, 15358, 15362, 15366, 15370, 15374, 15378, 15383, 15387, 15391, 15395, 15399, 15403, 15407, 15411]

/-- Entries 2944 to 3007 of LT. -/
def logRow46 : List Nat :=
  [15415, 15419, 15423, 15427, 15431, 15435, 15439, 15443, 15447, 15451, 15455, 15459, 15463, 15467, 15471, 15475,
   15480, 15484, 15488, 15492, 15496, 15500, 15504, 15508, 15512, 15516, 15520, 15524, 15528, 15532, 15536, 15540,
   15544, 15548, 15552, 15556, 15560, 15564, 15568, 15572, 15576, 15580, 15584, 15588, 15592, 15596, 15600, 15604,
   15608, 15612, 15616, 15620, 15624, 15628, 15632, 15636, 15640, 15644, 15648, 15652, 15656, 15660, 15664, 15668]

/-- Entries 3008 to 3071 of LT. -/
def logRow47 : List Nat :=
  [15672, 15676, 15680, 15684, 15688, 15693, 15697, 15701, 15705, 15709, 15713, 15717, 15721, 15725, 15729, 15733,
   15737, 15741, 15745, 15748, 15752, 15756, 15760, 15764, 15768, 15772, 15776, 15780, 15784, 15788, 15792, 15796,
   15800, 15804, 15808, 15812, 15816, 15820, 15824, 15828, 15832, 15836, 15840, 15844, 15848, 15852, 15856, 15860,
   15864, 15868, 15872, 15876, 15880, 15884, 15888, 15892, 15896, 15900, 15904, 15908, 15912, 15916, 15920, 15924]

/-- Entries 3072 to 3135 of LT. -/
def logRow48 : List Nat :=
  [15928, 15932, 15936, 15940, 15944, 15948, 15952, 15956, 15959, 15963, 15967, 15971, 15975, 15979, 15983, 15987,
   15991, 15995, 15999, 16003, 16007, 16011, 16015, 16019, 16023, 16027, 16031, 16035, 16039, 16043, 16047, 16051,
   16055, 16058, 16062, 16066, 16070, 16074, 16078, 16082, 16086, 16090, 16094, 16098, 16102, 16106, 16110, 16114,
   16118, 16122, 16126, 16130, 16133, 16137, 16141, 16145, 16149, 16153, 16157, 16161, 16165, 16169, 16173, 16177]

/-- Entries 3136 to 3199 of LT. -/
def logRow49 : List Nat :=
  [16181, 16185, 16189, 16193, 16196, 16200, 16204, 16208, 16212, 16216, 16220, 16224, 16228, 16232, 16236, 16240,
   16244, 16248, 16251, 16255, 16259, 16263, 16267, 16271, 16275, 16279, 16283, 16287, 16291, 16295, 16299, 16302,
   16306, 16310, 16314, 16318, 16322, 16326, 16330, 16334, 16338, 16342, 16346, 16349, 16353, 16357, 16361, 16365,
   16369, 16373, 16377, 16381, 16385, 16389, 16392, 16396, 16400, 16404, 16408, 16412, 16416, 16420, 16424, 16428]

/-- Entries 3200 to 3263 of LT. -/
def logRow50 : List Nat :=
  [16432, 16435, 16439, 16443, 16447, 16451, 16455, 16459, 16463, 16467, 16470, 16474, 16478, 16482, 16486, 16490,
   16494, 16498, 16502, 16506, 16509, 16513, 16517, 16521, 16525, 16529, 16533, 16537, 16541, 16544, 16548, 16552,
   16556, 16560, 16564, 16568, 16572, 16575, 16579, 16583, 16587, 16591, 16595, 16599, 16603, 16607, 16610, 16614,
   16618, 16622, 16626, 16630, 16634, 16638, 16641, 16645, 16649, 16653, 16657, 16661, 16665, 16668, 16672, 16676]

/-- Entries 3264 to 3327 of LT. -/
def logRow51 : List Nat :=
  [16680, 16684, 16688, 16692, 16696, 16699, 16703, 16707, 16711, 16715, 16719, 16723, 16726, 16730, 16734, 16738,
   16742, 16746, 16750, 16753, 16757, 16761, 16765, 16769, 16773, 16777, 16780, 16784, 16788, 16792, 16796, 16800,
   16804, 16807, 16811, 16815, 16819, 16823, 16827, 16831, 16834, 16838, 16842, 16846, 16850, 16854, 16857, 16861,
   16865, 16869, 16873, 16877, 16880, 16884, 16888, 16892, 16896, 16900, 16903, 16907, 16911, 16915, 16919, 16923]

/-- Entries 3328 to 3391 of LT. -/
def logRow52 : List Nat :=
  [16927, 16930, 16934, 16938, 16942, 16946, 16950, 16953, 16957, 16961, 16965, 16969, 16972, 16976, 16980, 16984,
   16988, 16992, 16995, 16999, 17003, 17007, 17011, 17015, 17018, 17022, 17026, 17030, 17034, 17037, 17041, 17045,
   17049, 17053, 17057, 17060, 17064, 17068, 17072, 17076, 17079, 17083, 17087, 17091, 17095, 17099, 17102, 17106,
   17110, 17114, 17118, 17121, 17125, 17129, 17133, 17137, 17140, 17144, 17148, 17152, 17156, 17159, 17163, 17167]

/-- Entries 3392 to 3455 of LT. -/
def logRow53 : List Nat :=
  [17171, 17175, 17178, 17182, 17186, 17190, 17194, 17197, 17201, 17205, 17209, 17213, 17216, 17220, 17224, 17228,
   17232, 17235, 17239, 17243, 17247, 17251, 17254, 17258, 17262, 17266, 17269, 17273, 17277, 17281, 17285, 17288,
   17292, 17296, 17300, 17304, 17307, 17311, 17315, 17319, 17322, 17326, 17330, 17334, 17338, 17341, 17345, 17349,
   17353, 17356, 17360, 17364, 17368, 17372, 17375, 17379, 17383, 17387, 17390, 17394, 17398, 17402, 17406, 17409]

/-- Entries 3456 to 3519 of LT. -/
def logRow54 : List Nat :=
  [17413, 17417, 17421, 17424, 17428, 17432, 17436, 17439, 17443, 17447, 17451, 17454, 17458, 17462, 17466, 17470,
   17473, 17477, 17481, 17485, 17488, 17492, 17496, 17500, 17503, 17507, 17511, 17515, 17518, 17522, 17526, 17530,
   17533, 17537, 17541, 17545, 17548, 17552, 17556, 17560, 17563, 17567, 17571, 17575, 17578, 17582, 17586, 17590,
   17593, 17597, 17601, 17605, 17608, 17612, 17616, 17620, 17623, 17627, 17631, 17635, 17638, 17642, 17646, 17649]

/-- Entries 3520 to 3583 of LT. -/
def logRow55 : List Nat :=
  [17653, 17657, 17661, 17664, 17668, 17672, 17676, 17679, 17683, 17687, 17691, 17694, 17698, 17702, 17706, 17709,
   17713, 17717, 17720, 17724, 17728, 17732, 17735, 17739, 17743, 17747, 17750, 17754, 17758, 17761, 17765, 17769,
   17773, 17776, 17780, 17784, 17787, 17791, 17795, 17799, 17802, 17806, 17810, 17813, 17817, 17821, 17825, 17828,
   17832, 17836, 17839, 17843, 17847, 17851, 17854, 17858, 17862, 17865, 17869, 17873, 17877, 17880, 17884, 17888]

/-- Entries 3584 to 3647 of LT. -/
def logRow56 : List Nat :=
  [17891, 17895, 17899, 17903, 17906, 17910, 17914, 17917, 17921, 17925, 17928, 17932, 17936, 17940, 17943, 17947,
   17951, 17954, 17958, 17962, 17965, 17969, 17973, 17977, 17980, 17984, 17988, 17991, 17995, 17999, 18002, 18006,
   18010, 18013, 18017, 18021, 18025, 18028, 18032, 18036, 18039, 18043, 18047, 18050, 18054, 18058, 18061, 18065,
   18069, 18072, 18076, 18080, 18083, 18087, 18091, 18095, 18098, 18102, 18106, 18109, 18113, 18117, 18120, 18124]

/-- Entries 3648 to 3711 of LT. -/
def logRow57 : List Nat :=
  [18128, 18131, 18135, 18139, 18142, 18146, 18150, 18153, 18157, 18161, 18164, 18168, 18172, 18175, 18179, 18183,
   18186, 18190, 18194, 18197, 18201, 18205, 18208, 18212, 18216, 18219, 18223, 18227, 18230, 18234, 18238, 18241,
   18245, 18249, 18252, 18256, 18260, 18263, 18267, 18271, 18274, 18278, 18282, 18285, 18289, 18293, 18296, 18300,
   18303, 18307, 18311, 18314, 18318, 18322, 18325, 18329, 18333, 18336, 18340, 18344, 18347, 18351, 18355, 18358]

/-- Entries 3712 to 3775 of LT. -/
def logRow58 : List Nat :=
  [18362, 18366, 18369, 18373, 18376, 18380, 18384, 18387, 18391, 18395, 18398, 18402, 18406, 18409, 18413, 18416,
   18420, 18424, 18427, 18431, 18435, 18438, 18442, 18446, 18449, 18453, 18456, 18460, 18464, 18467, 18471, 18475,
   18478, 18482, 18486, 18489, 18493, 18496, 18500, 18504, 18507, 18511, 18515, 18518, 18522, 18525, 18529, 18533,
   18536, 18540, 18544, 18547, 18551, 18554, 18558, 18562, 18565, 18569, 18573, 18576, 18580, 18583, 18587, 18591]

/-- Entries 3776 to 3839 of LT. -/
def logRow59 : List Nat :=
  [18594, 18598, 18601, 18605, 18609, 18612, 18616, 18620, 18623, 18627, 18630, 18634, 18638, 18641, 18645, 18648,
   18652, 18656, 18659, 18663, 18666, 18670, 18674, 18677, 18681, 18684, 18688, 18692, 18695, 18699, 18702, 18706,
   18710, 18713, 18717, 18720, 18724, 18728, 18731, 18735, 18738, 18742, 18746, 18749, 18753, 18756, 18760, 18764,
   18767, 18771, 18774, 18778, 18782, 18785, 18789, 18792, 18796, 18800, 18803, 18807, 18810, 18814, 18817, 18821]

/-- Entries 3840 to 3903 of LT. -/
def logRow60 : List Nat :=
  [18825, 18828, 18832, 18835, 18839, 18843, 18846, 18850, 18853, 18857, 18861, 18864, 18868, 18871, 18875, 18878,
   18882, 18886, 18889, 18893, 18896, 18900, 18903, 18907, 18911, 18914, 18918, 18921, 18925, 18928, 18932, 18936,
   18939, 18943, 18946, 18950, 18953, 18957, 18961, 18964, 18968, 18971, 18975, 18978, 18982, 18986, 18989, 18993,
   18996, 19000, 19003, 19007, 19011, 19014, 19018, 19021, 19025, 19028, 19032, 19035, 19039, 19043, 19046, 19050]

/-- Entries 3904 to 3967 of LT. -/
def logRow61 : List Nat :=
  [19053, 19057, 19060, 19064, 19068, 19071, 19075, 19078, 19082, 19085, 19089, 19092, 19096, 19099, 19103, 19107,
   19110, 19114, 19117, 19121, 19124, 19128, 19131, 19135, 19139, 19142, 19146, 19149, 19153, 19156, 19160, 19163,
   19167, 19170, 19174, 19178, 19181, 19185, 19188, 19192, 19195, 19199, 19202, 19206, 19209, 19213, 19216, 19220,
   19224, 19227, 19231, 19234, 19238, 19241, 19245, 19248, 19252, 19255, 19259, 19262, 19266, 19269, 19273, 19277]

/-- Entries 3968 to 4031 of LT. -/
def logRow62 : List Nat :=
  [19280, 19284, 19287, 19291, 19294, 19298, 19301, 19305, 19308, 19312, 19315, 19319, 19322, 19326, 19329, 19333,
   19336, 19340, 19344, 19347, 19351, 19354, 19358, 19361, 19365, 19368, 19372, 19375, 19379, 19382, 19386, 19389,
   19393, 19396, 19400, 19403, 19407, 19410, 19414, 19417, 19421, 19424, 19428, 19431, 19435, 19438, 19442, 19445,
   19449, 19452, 19456, 19460, 19463, 19467, 19470, 19474, 19477, 19481, 19484, 19488, 19491, 19495, 19498, 19502]

/-- Entries 4032 to 4095 of LT. -/
def logRow63 : List Nat :=
  [19505, 19509, 19512, 19516, 19519, 19523, 19526, 19530, 19533, 19537, 19540, 19544, 19547, 19551, 19554, 19558,
   19561, 19565, 19568, 19572, 19575, 19579, 19582, 19585, 19589, 19592, 19596, 19599, 19603, 19606, 19610, 19613,
   19617, 19620, 19624, 19627, 19631, 19634, 19638, 19641, 19645, 19648, 19652, 19655, 19659, 19662, 19666, 19669,
   19673, 19676, 19680, 19683, 19687, 19690, 19694, 19697, 19700, 19704, 19707, 19711, 19714, 19718, 19721, 19725]

/-- The rows of LT in order. -/
def logRows : List (List Nat) :=
  [logRow0, logRow1, logRow2, logRow3, logRow4, logRow5, logRow6, logRow7,
   logRow8, logRow9, logRow10, logRow11, logRow12, logRow13, logRow14, logRow15,
   logRow16, logRow17, logRow18, logRow19, logRow20, logRow21, logRow22, logRow23,
   logRow24, logRow25, logRow26, logRow27, logRow28, logRow29, logRow30, logRow31,
   logRow32, logRow33, logRow34, logRow35, logRow36, logRow37, logRow38, logRow39,
   logRow40, logRow41, logRow42, logRow43, logRow44, logRow45, logRow46, logRow47,
   logRow48, logRow49, logRow50, logRow51, logRow52, logRow53, logRow54, logRow55,
   logRow56, logRow57, logRow58, logRow59, logRow60, logRow61, logRow62, logRow63]

/-- LT[k] (R73), for k from 0 to 4095. -/
def logEntry (k : Nat) : Nat := (logRows.getD (k / 64) []).getD (k % 64) 0

end Sys2Proof.Machine
end

