-- ==== Sys2Proof/Machine/MergeMath.lean ====
section
/-! DEFINITION. The arithmetic of one pixel (chapter 4, section 4.2) and of the calibration operations on one pixel
(section 4.4). Every step is in exact integers, as the rules say. -/

namespace Sys2Proof.Machine

/-! ## From raw code to weighted sums (R67 to R69) -/

/-- The dark signal of an exposure of time `t` (R67 step 1). -/
def darkSignal (rate t : Nat) : Nat := min 16383 ((rate * t + 2048) / 4096)

/-- The signal of an exposure, floored at 0 (R67 step 2); subtraction of naturals is floored. -/
def pixelSignal (c bias rate t : Nat) : Nat := c - (bias + darkSignal rate t)

/-- The flat-corrected signal (R68 step 1). -/
def flatSignal (s gain : Nat) : Nat := (s * gain + 8192) / 16384

/-- The weight of a raw code (R68 step 3). -/
def pixelWeight (weights : Vector Nat 256) (satCode c : Nat) : Nat :=
  if c < satCode then (weights[c / 64]?).getD 0 else 0

/-- The references of one pixel. -/
structure PixelRef where
  bias : Nat
  rate : Nat
  gain : Nat
  deriving DecidableEq, Repr

/-- The sums A and B over the exposures of a pixel (R69). `codes` are the raw codes in the exposures' order. -/
def pixelSums (weights : Vector Nat 256) (satCode : Nat) (r : PixelRef) :
    List MergeExposure → List Nat → Nat × Nat
  | e :: es, c :: cs =>
    let rest := pixelSums weights satCode r es cs
    let w := pixelWeight weights satCode c
    (w * flatSignal (pixelSignal c r.bias r.rate e.time) r.gain + rest.1, w * (e.time * e.m) + rest.2)
  | _, _ => (0, 0)

/-! ## The linear value (R70, R71) -/

/-- A × 2^24 / B rounded by the mode (R70, Table 4.3). -/
def linearRounded (mode : RoundingMode) (a b : Nat) : Nat :=
  let q := a * 16777216 / b
  let r := a * 16777216 % b
  match mode with
  | .nearestUp => if b ≤ 2 * r then q + 1 else q
  | .nearestEven => if b < 2 * r ∨ (2 * r = b ∧ q % 2 = 1) then q + 1 else q

/-- The greatest linear value (R71). -/
def maxLinear : Nat := 4294967295

/-! ## The log value (R73) -/

/-- L(Y) for Y of 1 or more; the log of 0 is free. -/
def logValue (y : Nat) : Nat :=
  if y = 0 then Config.logOfZero
  else
    let e := Nat.log2 y
    e * 19728 + logEntry ((y - 2 ^ e) * 4096 / 2 ^ e)

/-! ## The two encodings (R74, R75) -/

/-- What a pixel gives: its code and how it counts (R76). -/
structure PixelOut where
  code : Nat
  resolved : Bool := true
  clippedBright : Bool := false
  clippedDense : Bool := false
  overClear : Bool := false
  denseLimit : Bool := false
  limit : Bool := false
  deriving DecidableEq, Repr

/-- The DENSITY16 code before its limits (R74 step 2): floor((L_clear − L(Y) + 8) / 16). -/
def densityRaw (lClear y : Nat) : Int := ((lClear : Int) - logValue y + 8) / 16

/-- The DENSITY16 code of a resolved pixel (R74); `clamped` is that R71 clamped its Y. -/
def densityOut (lClear y : Nat) (clamped : Bool) : PixelOut :=
  if y = 0 then { code := 65534, denseLimit := true, limit := clamped }
  else
    let d := densityRaw lClear y
    if d < 0 then { code := 0, overClear := true, limit := clamped }
    else if 65534 < d then { code := 65534, denseLimit := true, limit := clamped }
    else { code := d.toNat, limit := clamped }

/-- The LINEAR16 code before its limit (R75). -/
def linearRaw (shift y : Nat) : Nat := if shift = 0 then y else (y + 2 ^ (shift - 1)) / 2 ^ shift

/-- The LINEAR16 code of a resolved pixel (R75). -/
def linearOut (shift y : Nat) (clamped : Bool) : PixelOut :=
  if 65535 < linearRaw shift y then { code := 65535, limit := true }
  else { code := linearRaw shift y, limit := clamped }

/-- An unresolved pixel (R72): clipped bright when some exposure reached sat_code, else clipped dense. -/
def unresolvedOut (satCode : Nat) (encoding : Encoding) (codes : List Nat) : PixelOut :=
  if codes.any fun c => decide (satCode ≤ c) then
    { code := (match encoding with | .density16 => 0 | .linear16 _ => 65535), resolved := false, clippedBright := true }
  else
    { code := (match encoding with | .density16 => 65535 | .linear16 _ => 0), resolved := false, clippedDense := true }

/-- One pixel of the merge (R67 to R75). -/
def mergePixel (ctx : MergeCtx) (r : PixelRef) (codes : List Nat) : PixelOut :=
  let ab := pixelSums ctx.weights ctx.satCode r ctx.exposures codes
  if ab.2 = 0 then unresolvedOut ctx.satCode ctx.encoding (codes.take ctx.exposures.length)
  else
    let y := linearRounded ctx.rounding ab.1 ab.2
    match ctx.encoding with
    | .density16 => densityOut ctx.lClear (min y maxLinear) (decide (maxLinear < y))
    | .linear16 shift => linearOut shift (min y maxLinear) (decide (maxLinear < y))

/-! ## Statistics (R76) -/

/-- Count `n` if the mark is set. -/
def countIf (mark : Bool) (n : Nat) : Nat := if mark then n else 0

/-- The lesser of a code and the least so far. -/
def minCodeOf (c : Nat) : Option Nat → Nat
  | none => c
  | some d => min c d

/-- The greater of a code and the greatest so far. -/
def maxCodeOf (c : Nat) : Option Nat → Nat
  | none => c
  | some d => max c d

/-- Add `n` pixels of one outcome to the accumulators (R76). -/
def Stats.add (a : Stats) (n : Nat) (p : PixelOut) : Stats :=
  { clippedBright := a.clippedBright + countIf p.clippedBright n
    clippedDense := a.clippedDense + countIf p.clippedDense n
    overClear := a.overClear + countIf p.overClear n
    denseLimit := a.denseLimit + countIf p.denseLimit n
    limit := a.limit + countIf p.limit n
    minCode := if p.resolved && decide (n ≠ 0) then some (minCodeOf p.code a.minCode) else a.minCode
    maxCode := if p.resolved && decide (n ≠ 0) then some (maxCodeOf p.code a.maxCode) else a.maxCode }

/-- Add every pixel of a band (R62, R76). -/
def Stats.addRuns (a : Stats) (band : Runs PixelOut) : Stats := band.foldl (fun acc r => acc.add r.1 r.2) a

/-! ## Calibration operations on one pixel (R78 to R80) -/

/-- What an accumulation adds to a pixel's sum (R78). -/
def accTerm (kind : AccKind) (c bias rate : Nat) : Nat :=
  match kind with
  | .raw => c
  | .darkCorrected t => pixelSignal c bias rate t

/-- A 32-bit sum of the work plane. R78 adds every frame whatever the count and says nothing of a sum that passes 32
bits: what stands in the plane then is a free value (log entry 32). -/
def clip32 (v : Nat) : Nat := if v < 4294967296 then v else Config.sumOverflow v % 4294967296

/-- B_p or μ_p: the mean of 16 summed frames rounded half up (R79, R80); a free value where it passes the 16 bits of a
slot (log entry 32). -/
def meanOf16 (sum : Nat) : Nat :=
  let m := (sum + 8) / 16
  if m < 65536 then m else Config.meanOverflow m % 65536

/-- The mean over the tile rounded half up (R79, R80). -/
def tileMean (total : Nat) : Nat := (total + 9830400) / 19660800

/-- Q_p (R79); subtraction of naturals gives 0 where the excess is 0 or less. -/
def ratePixel (time sum bias : Nat) : Nat :=
  let excess := sum - 16 * bias
  if excess = 0 then 0
  else if time = 0 then clip16 (Config.rateAtZeroTime excess)
  else min 65535 ((2 * excess * 4096 + 16 * time) / (2 * 16 * time))

/-- The flat gain before its limits (R80). -/
def gainRaw (mean mu : Nat) : Nat := (2 * 16384 * mean + mu) / (2 * mu)

/-- f_p (R80). -/
def gainPixel (mean mu : Nat) : Nat := if mu = 0 then 32767 else max 8192 (min 32767 (gainRaw mean mu))

/-- Whether f_p was raised, lowered or set for μ_p = 0 (R80). -/
def gainDefect (mean mu : Nat) : Bool := decide (mu = 0) || decide (gainRaw mean mu < 8192) || decide (32767 < gainRaw mean mu)

/-- Y_clear of a flat calibration (R93): μ̄ × 2^24 / E_f rounded half up and limited; free where E_f is 0. -/
def clearIntensity (mean eFlat : Nat) : Nat :=
  if eFlat = 0 then min maxLinear (Config.clearAtZeroExposure mean)
  else min maxLinear ((2 * mean * 16777216 + eFlat) / (2 * eFlat))

end Sys2Proof.Machine
end

