-- ==== Sys2Proof/Machine/Calibration.lean ====
section
/-! DEFINITION. The calibration reference unit (chapter 5): acceptance, the dark and flat calibrations, cancel,
failures and the commit of references. -/

namespace Sys2Proof.Machine

/-! ## Ending a calibration (R97) -/

/-- CRU returns to IDLE: the working values are discarded and the request becomes absent (Table 5.1). -/
def Cru.clear (c : Cru) : Cru := { Cru.reset with quiesce := c.quiesce, dark := c.dark, profiles := c.profiles }

/-- The CAL_DONE notice of a calibration that ends with a result (R97). -/
def Cru.doneNotice (c : Cru) (k : CalKind) (r : CalResult) : Notice :=
  .calDone k r
    (if k = .dark ∧ r = .ok then some (c.dark.b0, c.dark.temp) else none)
    (if k = .dark then none else c.mean)
    (match k, r, c.plan with
      | .flat _, .ok, some e => some (e, c.mFlat, c.newYClear, c.newLClear, c.defects, c.planFlags)
      | _, _, _ => none)

/-- The calibration ends (R97): CAL_DONE is queued, CRU returns to IDLE and reports it to PRC (R87). -/
def State.calEnd (s : State) (r : CalResult) : State :=
  match s.cru.request with
  | some k =>
    let s := s.notice (s.cru.doneNotice k r)
    (({ s with cru := s.cru.clear }).emit .cruIdleReport).startIdle
  | none => s

/-- CRU releases BME and asks FST to return its CALWORK slots (R95, R96). -/
def State.calFreeWork (s : State) : State :=
  let l := s.cru.work.map (·.1)
  ({ s with cru := { s.cru with work := [] } }.emit .calRelease).emit (.calworkReturn l)

/-- CRU enters FLAT_UNLOAD (R94). -/
def State.calUnload (s : State) : State :=
  ({ s with cru := { s.cru with state := .flatUnload, trsReq := some .unload, frameReq := false } }).emit
    (.unloadRequest .cru true)

/-- A calibration that has a pending result gives its helpers back: a DARK ends, a FLAT enters FLAT_UNLOAD
(R95, R96). -/
def State.calGiveUp (s : State) (r : CalResult) : State :=
  let s := { s with cru := { s.cru with pend := some r, frameReq := false } }
  match s.cru.request with
  | some .dark => ((s.calFreeWork).emit .darkHoldRelease).calEnd r
  | some (.flat _) => s.calFreeWork.calUnload
  | none => s

/-- A FLAT that ends without an unload (R95 on NO_CARRIER, R96 on a fault during the load). -/
def State.calStop (s : State) (r : CalResult) : State := s.calFreeWork.calEnd r

/-! ## Frames (R88, R89, R93) -/

/-- The exposure request of the next frame. -/
def Cru.frameRequest (c : Cru) : Option ExposureReq :=
  match c.slotOf .exposure with
  | none => none
  | some n =>
    match c.state, c.plan with
    | .darkBias, _ => some { client := .cru, time := 1, target := .calwork n, lamp := .dark, stage := false }
    | .darkRate, _ => some { client := .cru, time := c.darkTime, target := .calwork n, lamp := .dark, stage := false }
    | .flatFrames, some e =>
      some { client := .cru, time := e.time, target := .calwork n, lamp := .settled e.drive, stage := true }
    | _, _ => none

/-- CRU requests the next frame; for a flat frame it gives BLU the light request first (R93). -/
def State.calFrame (s : State) : State :=
  match s.cru.frameRequest with
  | none => s
  | some r =>
    let s := match r.lamp with
      | .settled d => s.emit (.lightRequest d)
      | .dark => s
    ({ s with cru := { s.cru with frameReq := true } }).emit (.exposureRequest r)

/-- Whether a readout is of a frame of CRU that has not been withdrawn. A withdrawn one hands nothing over (R122). -/
def Readout.ofCalFrame (r : Readout) : Bool :=
  match r.kind with
  | .frame e _ _ => decide (e.req.client = .cru) && !r.dropped
  | .flush _ => false

/-- Whether SFE is exposing or reading the frame that CRU awaits: then it runs to its completion at a cancel (R95). A
request of CRU that SFE holds has not begun, and what SFE exposes or reads beside it, or reads on after a withdrawal
(R122), is an earlier calibration's. A frame whose repeat waits in SFE (R120) is in progress no more: R95 is silent, and
this is the model's choice (log entry 45). -/
def Sfe.hasCalFrame (f : Sfe) : Bool :=
  decide (f.held.map (·.req.client) ≠ some .cru)
    && ((match f.exposing with | some e => decide (e.req.client = .cru) | none => false)
      || (match f.readout with | some r => r.ofCalFrame | none => false))

/-- CRU takes its frame request back from SFE, when one is outstanding (R122). -/
def State.calWithdrawFrame (s : State) : State :=
  if s.cru.frameReq then s.emit (.exposureWithdraw .cru) else s

/-- The flat planner as BPL knows it (R92). -/
def Cru.planner? (c : Cru) : Option Planner :=
  match c.request with
  | some (.flat p) => some (.cru p c.flatDrive)
  | _ => none

/-- CRU withdraws its plan request (R48). -/
def State.calWithdrawPlan (s : State) : State :=
  match s.cru.planner? with
  | some p => s.emit (.planWithdraw p)
  | none => s

/-- A frame of CRU has been cut short by SFE (R116): under a cancel, what waited for it goes on. -/
def State.calFrameCut (s : State) : State :=
  let s := { s with cru := { s.cru with frameReq := false } }
  if s.cru.state = .cancelling ∧ s.cru.trsReq = none then s.calGiveUp (s.cru.pend.getD .cancelled) else s

/-! ## Acceptance (R84, R85, R86) -/

/-- A calibration is accepted: WAITING, and CRU tests for its slots and for BME at once (R86); the idle timer stops
(R135). -/
def State.calAccept (s : State) (k : CalKind) : State :=
  (({ s with cru := { s.cru with state := .waiting, request := some k } }).stopIdle).cruTest

/-- CALIBRATE DARK (R84). -/
def State.calibrateDark (s : State) : Answer :=
  if s.cru.state ≠ .idle then .refuse s .busy
  else if s.prc.active.isSome && (match s.prc.run with | .held _ => false | _ => true) then .refuse s .wrongState
  else if s.prc.activeExposing then .refuse s .wrongState
  else .okay (s.calAccept .dark)

/-- CALIBRATE FLAT p (R85). -/
def State.calibrateFlat (s : State) (p : Nat) : Answer :=
  if 3 < p then .refuse s .badArg
  else if s.cru.state ≠ .idle then .refuse s .busy
  else if s.prc.active.isSome then .refuse s .wrongState
  else if s.trs.state = .unhomed then .refuse s .notHomed
  else if s.trs.state ≠ .empty then .refuse s .wrongState
  else if s.cru.dark.valid = false then .refuse s .notCalibrated
  else .okay (s.calAccept (.flat p))

/-- Whether CRU waits for the answer of BME to a work request that names these work slots. -/
def Cru.awaits (c : Cru) (low high : Nat) : Bool :=
  decide (c.state = .waiting) && decide (c.slotOf .workLow = some low) && decide (c.slotOf .workHigh = some high)

/-- BME's answer to the work request (R86, R88, R91). An acceptance that CRU no longer waits for, since it was
cancelled meanwhile, is given back. -/
def State.calAnswered (s : State) (ok : Bool) (low high : Nat) : State :=
  if s.cru.awaits low high then
    if ok then
      match s.cru.request with
      | some .dark =>
        (({ s with cru := { s.cru with
            state := .darkBias, darkTime := s.liu.params.darkTime, frames := 0, tempSum := 0 } }).emit
          .darkHold).calFrame
      | some (.flat _) =>
        ({ s with cru := { s.cru with
            state := .flatLoad, flatDrive := s.liu.params.flatDrive, trsReq := some .load } }).emit
          (.loadRequest .cru 0)
      | none => s
    else
      let l := s.cru.work.map (·.1)
      ({ s with cru := { s.cru with work := [] } }).emit (.calworkReturn l)
  else if ok && decide (s.cru.slotOf .workLow ≠ some low) then s.emit .calRelease
  else s

/-! ## Frames and operations complete

DESIGN CHOICE: a report names no calibration, so that a late one of a calibration that has ended is taken as the present
one's where that one waits for such a report (log entry 44). This is so of every report of this section and the next. -/

/-- A calibration frame completes (R88, R89, R93); of a late one, log entry 44. -/
def State.calFrameDone (s : State) (temp : Int) (m : Option Nat) : State :=
  if !s.cru.frameReq then s
  else
    let s := { s with cru := { s.cru with frameReq := false } }
    if s.cru.quiesce then s
    else match s.cru.state, s.cru.slotOf .exposure with
      | .darkBias, some n | .darkRate, some n =>
        ({ s with cru := { s.cru with tempSum := s.cru.tempSum + temp } }).emit (.accumulateRequest n .raw)
      | .flatFrames, some n =>
        let t := match s.cru.plan with
          | some e => e.time
          | none => 0
        ({ s with cru := { s.cru with mSum := s.cru.mSum + m.getD 0 } }).emit
          (.accumulateRequest n (.darkCorrected t))
      | .cancelling, _ => s.calGiveUp (s.cru.pend.getD .cancelled)
      | _, _ => s

/-- What CRU gives BME after the 16th accumulation (R88, R89, R93). -/
def Cru.finishRequest (c : Cru) : Option Instr :=
  match c.state, c.slotOf .biasResult, c.slotOf .rateResult, c.slotOf .flatResult with
  | .darkBias, some b, _, _ => some (.biasFinish b)
  | .darkRate, some b, some r, _ => some (.rateFinish c.darkTime b r)
  | .flatFrames, _, _, some f => some (.flatMean f)
  | _, _, _, _ => none

/-- Whether CRU is taking frames. -/
def CruState.series : CruState → Bool
  | .darkBias | .darkRate | .flatFrames => true
  | .idle | .waiting | .flatLoad | .flatMeter | .flatUnload | .cancelling => false

/-- An accumulation completes (R88, R89, R93); of a late one, log entry 44. -/
def State.calAccumulated (s : State) : State :=
  if s.cru.quiesce || s.cru.frameReq || !s.cru.state.series || decide (16 ≤ s.cru.frames) then s
  else
    let s := { s with cru := { s.cru with frames := s.cru.frames + 1 } }
    if s.cru.frames < 16 then s.calFrame
    else match s.cru.finishRequest with
      | some c => s.emit c
      | none => s

/-- Whether CRU is at the end of a series in a given state. -/
def Cru.seriesDone (c : Cru) (st : CruState) : Bool :=
  decide (c.state = st) && decide (c.frames = 16) && !c.quiesce

/-- The bias finish completes (R88). -/
def State.calBiasDone (s : State) (b0 : Nat) : State :=
  if s.cru.seriesDone .darkBias then ({ s with cru := { s.cru with newB0 := b0 } }).emit .workClear else s

/-- The clear completes (R88, R89). -/
def State.calClearDone (s : State) : State :=
  if s.cru.seriesDone .darkBias then
    ({ s with cru := { s.cru with state := .darkRate, frames := 0 } }).calFrame
  else s

/-- The slots of some roles. -/
def Cru.slotsOf (c : Cru) (roles : List CalRole) : List Nat := roles.filterMap c.slotOf

/-- The dark reference temperature of 32 frames (R90). -/
def darkTemp (sum : Int) : Int := (sum + 16) / 32

/-- The rate finish completes: the commit of a dark calibration, in one event (R90). -/
def State.calRateDone (s : State) : State :=
  match s.cru.seriesDone .darkRate, s.cru.slotOf .biasResult, s.cru.slotOf .rateResult with
  | true, some b, some r =>
    let f := s.fst.commit [(b, .bias), (r, .rate)]
    let f := f.setSlots ((s.cru.slotsOf [.workLow, .workHigh, .exposure]).filter f.isCalwork) .free
    let entry : DarkEntry := { biasSlot := some b, rateSlot := some r, b0 := s.cru.newB0
                               temp := darkTemp s.cru.tempSum, valid := true }
    let s := { s with fst := f, cru := { s.cru with dark := entry, work := [] } }
    (((s.emit .calRelease).emit .darkHoldRelease).afterFree).calEnd .ok
  | _, _, _ => s

/-- The flat mean completes (R93). -/
def State.calMeanDone (s : State) (mean : Nat) : State :=
  match s.cru.seriesDone .flatFrames, s.cru.slotOf .flatResult, s.cru.plan with
  | true, some f, some e =>
    let s := { s with cru := { s.cru with mean := some mean } }
    if mean < 2048 then s.calGiveUp (.failed .flatLow)
    else
      let mf := (s.cru.mSum + 8) / 16
      let y := clearIntensity mean (e.time * mf)
      ({ s with cru := { s.cru with mFlat := mf, newYClear := y } }).emit (.flatGain f mean y)
  | _, _, _ => s

/-- The flat gain completes (R93): BME and all slots but the result are given back, and the carrier is unloaded. -/
def State.calGainDone (s : State) (defects lClear : Nat) : State :=
  if s.cru.seriesDone .flatFrames && s.cru.mean.isSome then
    let l := s.cru.slotsOf [.workLow, .workHigh, .exposure]
    let rest := s.cru.work.filter fun p => decide (p.2 = .flatResult)
    let s := { s with cru := { s.cru with defects := defects, newLClear := lClear, work := rest } }
    ((s.emit .calRelease).emit (.calworkReturn l)).calUnload
  else s

/-! ## The motions of a flat calibration (R91, R94) -/

/-- The reference carrier is on the stage (R91); under a cancel it is unloaded (R95). -/
def State.calLoaded (s : State) : State :=
  if s.cru.quiesce then s
  else match s.cru.state, s.cru.trsReq with
    | .flatLoad, some .load =>
      ({ s with cru := { s.cru with trsReq := some .move } }).emit (.moveRequest .cru .aperture)
    | .cancelling, some .load => s.calGiveUp (s.cru.pend.getD .cancelled)
    | _, _ => s

/-- The stage has settled at the aperture centre (R91, R92); under a cancel the carrier is unloaded (R95). -/
def State.calSettled (s : State) : State :=
  if s.cru.quiesce then s
  else match s.cru.state, s.cru.trsReq, s.cru.planner? with
    | .flatLoad, some .move, some p =>
      ({ s with cru := { s.cru with state := .flatMeter, trsReq := none } }).emit (.planRequest p)
    | .cancelling, some .move, _ => s.calGiveUp (s.cru.pend.getD .cancelled)
    | _, _, _ => s

/-- The flat plan completes (R92, R93); a late one of a plan request withdrawn is taken in a new FLAT_METER (log entry 44). -/
def State.calPlanned (s : State) (e : PlanEntry) (flags : PlanFlags) : State :=
  if s.cru.state = .flatMeter ∧ s.cru.quiesce = false then
    ({ s with cru := { s.cru with
        state := .flatFrames, plan := some e, planFlags := flags, frames := 0, mSum := 0 } }).calFrame
  else s

/-- The commit of profile `p`, in one event (R94). -/
def State.calCommitFlat (s : State) (p f : Nat) : State :=
  let entry : Profile := { flatSlot := some f, yClear := s.cru.newYClear, lClear := s.cru.newLClear, valid := true }
  let s := { s with
    fst := s.fst.commit [(f, .flat p)]
    cru := { s.cru with profiles := s.cru.profiles.setIfInBounds p entry, work := [] } }
  s.afterFree.calEnd .ok

/-- CRU gives a result slot that it still holds back, and the calibration ends (R94). -/
def State.calFinish (s : State) (r : CalResult) : State :=
  let l := s.cru.work.map (·.1)
  let s := { s with cru := { s.cru with work := [] } }
  let s := if l = [] then s else s.emit (.calworkReturn l)
  s.calEnd r

/-- The unload completes (R94). -/
def State.calUnloaded (s : State) : State :=
  if s.cru.state = .flatUnload ∧ s.cru.quiesce = false then
    match s.cru.pend, s.cru.request, s.cru.slotOf .flatResult with
    | some r, _, _ => s.calFinish r
    | none, some (.flat p), some f => s.calCommitFlat p f
    | none, _, _ => s.calFinish .cancelled
  else s

/-! ## Cancel (R95) -/

/-- CALIBRATE CANCEL in a series: the frame in progress runs to its completion, else all happens at the cancel. R95 does
not name the state in which a FLAT_FRAMES cancel waits for its frame: the model takes CANCELLING, as for a dark series
(log entry 32). -/
def State.calCancelSeries (s : State) : State :=
  if s.cru.frameReq && s.sfe.hasCalFrame then
    { s with cru := { s.cru with state := .cancelling, pend := some .cancelled, trsReq := none } }
  else (s.calWithdrawFrame).calGiveUp .cancelled

/-- CALIBRATE CANCEL (R95). -/
def State.calCancel (s : State) : Answer :=
  match s.cru.state with
  | .idle => .refuse s .wrongState
  | .waiting => .okay (s.calFinish .cancelled)
  | .darkBias | .darkRate | .flatFrames => .okay s.calCancelSeries
  | .flatLoad => .okay { s with cru := { s.cru with state := .cancelling, pend := some .cancelled } }
  | .flatMeter => .okay (s.calWithdrawPlan.calGiveUp .cancelled)
  | .flatUnload =>
    match s.cru.pend with
    | some (.failed _) => .okay s
    | _ => .okay { s with cru := { s.cru with pend := some .cancelled } }
  | .cancelling => .okay s

/-! ## Failures (R96) -/

/-- The pending result after a failure: the first cause stands, but a transport fault replaces any. -/
def failResult (pend : Option CalResult) (c : CalCause) : CalResult :=
  match pend with
  | some (.failed d) => if c = .transport then .failed .transport else .failed d
  | some .ok | some .cancelled | none => .failed c

/-- A second readout failure (R96, SENSOR). -/
def State.calSensorFailed (s : State) : State :=
  if s.cru.quiesce then s
  else match s.cru.state with
    | .darkBias | .darkRate | .flatMeter | .flatFrames => s.calGiveUp (failResult s.cru.pend .sensor)
    | .cancelling => if s.cru.trsReq = none then s.calGiveUp (failResult s.cru.pend .sensor) else s
    | .idle | .waiting | .flatLoad | .flatUnload => s

/-- A backlight FAULT (R92, R93, R96): it acts in FLAT_METER and FLAT_FRAMES only, as R134 says, so that in CANCELLING it
changes nothing (log entries 27 and 32). -/
def State.calLampFailed (s : State) : State :=
  if s.cru.quiesce then s
  else match s.cru.state with
    | .flatMeter => s.calWithdrawPlan.calGiveUp (failResult s.cru.pend .lamp)
    | .flatFrames => s.calWithdrawFrame.calGiveUp (failResult s.cru.pend .lamp)
    | .idle | .waiting | .darkBias | .darkRate | .flatLoad | .flatUnload | .cancelling => s

/-- A load, move or unload of CRU ends badly, or the carrier is lost (R91, R94, R95, R96). A load or move that TRS
refuses as busy, which these rules do not name, ends the calibration as a fault does (log entry 32). Under a cancel, a
load that meets NO_CARRIER ends CANCELLED by R95, and one that meets a fault FAILED by R96 (log entry 11).
DESIGN CHOICE: an unload that TRS turns back ends the calibration FAILED(TRANSPORT) whatever result was pending; Table 5.2
names that refusal under TRANSPORT alone (log entry 46). -/
def State.calTransportFailed (s : State) (r : CalTrsReport) : State :=
  if s.cru.quiesce then s
  else match s.cru.state, s.cru.trsReq, r with
    | .flatLoad, some .load, _ => s.calStop (.failed .transport)
    | .flatLoad, _, _ => s.calGiveUp (failResult s.cru.pend .transport)
    | .cancelling, some .load, .noCarrier => s.calStop (s.cru.pend.getD .cancelled)
    | .cancelling, some .load, _ => s.calStop (failResult s.cru.pend .transport)
    | .cancelling, _, _ => s.calWithdrawFrame.calGiveUp (failResult s.cru.pend .transport)
    | .flatMeter, _, _ => s.calWithdrawPlan.calGiveUp (failResult s.cru.pend .transport)
    | .flatFrames, _, _ => s.calWithdrawFrame.calGiveUp (failResult s.cru.pend .transport)
    | .flatUnload, _, _ => s.calFinish (failResult s.cru.pend .transport)
    | .idle, _, _ | .waiting, _, _ | .darkBias, _, _ | .darkRate, _, _ => s

/-! ## Quiesce (R97) -/

/-- CRU quiesces: it acknowledges at once, queues no notice and commits nothing. -/
def State.calQuiesce (s : State) : State :=
  let s := match s.cru.state with
    | .idle | .waiting => { s with cru := s.cru.clear }
    | .flatMeter => s.calWithdrawPlan
    | .darkBias | .darkRate | .flatLoad | .flatFrames | .flatUnload | .cancelling => s
  ({ s with cru := { s.cru with quiesce := true } }).ack .cru

/-! ## The commands -/

/-- CALIBRATE_DARK (R84). -/
def execCalibrateDark (h : Hdr) (s : State) : Result := .next (command h .calibrate State.calibrateDark s)

/-- CALIBRATE_FLAT (R85). -/
def execCalibrateFlat (h : Hdr) (profile : Nat) (s : State) : Result :=
  .next (command h .calibrate (fun s => s.calibrateFlat profile) s)

/-- CALIBRATE_CANCEL (R95). -/
def execCalibrateCancel (h : Hdr) (s : State) : Result := .next (command h .calibrate State.calCancel s)

/-- CALWORK_GRANT (R86). -/
def execCalworkGrant (s : State) : Result := .next (s.deliver .calworkGrant).cruTest

/-- CAL_WORK_ACCEPTED (R86, R88, R91). -/
def execCalWorkAccepted (ok : Bool) (low high : Nat) (s : State) : Result :=
  .next ((s.deliver (.calWorkAccepted ok low high)).calAnswered ok low high)

/-- CAL_FRAME_COMPLETE (R88, R89, R93, R95). -/
def execCalFrameComplete (temp : Int) (m : Option Nat) (s : State) : Result :=
  .next ((s.deliver (.calFrameComplete temp m)).calFrameDone temp m)

/-- ACCUMULATION_COMPLETE (R88, R89, R93). -/
def execAccumulationComplete (s : State) : Result := .next (s.deliver .accumulationComplete).calAccumulated

/-- BIAS_FINISH_COMPLETE (R88). -/
def execBiasFinishComplete (b0 : Nat) (s : State) : Result :=
  .next ((s.deliver (.biasFinishComplete b0)).calBiasDone b0)

/-- CLEAR_COMPLETE (R88, R89). -/
def execClearComplete (s : State) : Result := .next (s.deliver .clearComplete).calClearDone

/-- RATE_FINISH_COMPLETE (R90). -/
def execRateFinishComplete (s : State) : Result := .next (s.deliver .rateFinishComplete).calRateDone

/-- FLAT_LOAD_COMPLETE (R91, R95). -/
def execFlatLoadComplete (s : State) : Result := .next (s.deliver .flatLoadComplete).calLoaded

/-- FLAT_SETTLE_COMPLETE (R91, R92, R95). -/
def execFlatSettleComplete (s : State) : Result := .next (s.deliver .flatSettleComplete).calSettled

/-- FLAT_PLAN_COMPLETION (R92, R93). -/
def execFlatPlanCompletion (entry : PlanEntry) (flags : PlanFlags) (s : State) : Result :=
  .next ((s.deliver (.flatPlanCompletion entry flags)).calPlanned entry flags)

/-- FLAT_MEAN_COMPLETE (R93, R96). -/
def execFlatMeanComplete (mean : Nat) (s : State) : Result :=
  .next ((s.deliver (.flatMeanComplete mean)).calMeanDone mean)

/-- FLAT_GAIN_COMPLETE (R93, R94). -/
def execFlatGainComplete (defects lClear : Nat) (s : State) : Result :=
  .next ((s.deliver (.flatGainComplete defects lClear)).calGainDone defects lClear)

/-- FLAT_UNLOAD_COMPLETE (R94). -/
def execFlatUnloadComplete (s : State) : Result := .next (s.deliver .flatUnloadComplete).calUnloaded

/-- CAL_SENSOR_FAILURE (R96). -/
def execCalSensorFailure (s : State) : Result := .next (s.deliver .calSensorFailure).calSensorFailed

/-- CAL_LAMP_FAULT (R92, R93, R96). -/
def execCalLampFault (s : State) : Result := .next (s.deliver .calLampFault).calLampFailed

/-- CAL_TRANSPORT_FAULT (R91, R94, R95, R96). -/
def execCalTransportFault (r : CalTrsReport) (s : State) : Result :=
  .next ((s.deliver (.calTransportFault r)).calTransportFailed r)

end Sys2Proof.Machine
end

