-- ==== Sys2Proof/Machine/PlanMath.lean ====
section
/-! DEFINITION. The arithmetic of metering and bracket planning (chapter 3, R46 to R55). -/

namespace Sys2Proof.Machine

/-- floor((t × d + 512) / 1024) capped at 80,000 xu: the time that keeps the exposure value at drive 1024
(R46, R55). -/
def throttledTime (t d : Nat) : Nat := min maxTime ((t * d + 512) / 1024)

/-- A time and drive realised for the throttle flag (R46 for attempts 2 to 4, R55). -/
def realise (throttle : Bool) (e : PlanEntry) : PlanEntry :=
  if throttle && decide (throttleDrive < e.drive) then { time := throttledTime e.time e.drive, drive := throttleDrive }
  else e

/-- Whether R55 cut the realised time to 80,000 xu. -/
def realiseCapped (throttle : Bool) (e : PlanEntry) : Bool :=
  throttle && decide (throttleDrive < e.drive) && decide (maxTime < (e.time * e.drive + 512) / 1024)

/-- The time and drive of the first attempt (Table 3.1). -/
def firstAttempt (planner : Planner) (throttle : Bool) (meterTime : Nat) : PlanEntry :=
  match planner, throttle with
  | .prc _, false => { time := meterTime, drive := maxDrive }
  | .prc _, true => { time := meterTime * 4, drive := throttleDrive }
  | .cru _ d, false => { time := meterTime, drive := d }
  | .cru _ d, true =>
    if d ≤ throttleDrive then { time := meterTime, drive := d }
    else { time := (meterTime * d + 512) / 1024, drive := throttleDrive }

/-- hi_count (R49 step 1). -/
def hiCount (hiPpm : Nat) : Nat := 19660800 * hiPpm / 1000000

/-- The sum of bins `b` to 63. -/
def binsFrom (hist : Vector Nat 64) (b : Nat) : Nat := (hist.toList.drop b).sum

/-- b_hi: the highest bin from which the sum is at least hi_count (R49 step 3). -/
def brightBin (hist : Vector Nat 64) (count : Nat) : Nat :=
  (((List.range 64).reverse).find? fun b => decide (count ≤ binsFrom hist b)).getD 0

/-- The outcome of an attempt (R49). -/
def evaluate (c : PlanCopies) (hist : Vector Nat 64) : AttemptResult :=
  if hiCount c.hiPpm < binsFrom hist (c.satCode / 256) then .overexposed
  else
    let cHi := brightBin hist (hiCount c.hiPpm) * 256 + 128
    if cHi < c.b0 + 64 then .underexposed else .metered cHi

/-- The step to the next attempt (Table 3.2). -/
def nextAttempt (r : AttemptResult) (e : PlanEntry) : PlanEntry :=
  match r with
  | .overexposed =>
    if 1 < e.time then { e with time := max 1 (e.time / 8) } else { time := 1, drive := max 1 (e.drive / 8) }
  | .underexposed =>
    if e.time < maxTime then { e with time := min maxTime (e.time * 16) }
    else { time := maxTime, drive := min maxDrive (e.drive * 16) }
  | .metered _ => e

/-- E1 from a bright code (R51). -/
def firstValue (c : PlanCopies) (eM cHi : Nat) : Nat :=
  max 1 (eM * max 64 (c.topCode - c.b0) / (cHi - c.b0))

/-- E1 of the attempt that planning proceeds from (R51, Table 3.3). -/
def planValue (c : PlanCopies) (r : AttemptResult) (eM : Nat) : Nat :=
  match r with
  | .overexposed => max 1 (eM / 8)
  | .underexposed => firstValue c eM (c.b0 + 64)
  | .metered cHi => firstValue c eM cHi

/-- d_step (R52). -/
def densityStep : StepRatio → Nat
  | .r4 => 2466
  | .r8 => 3699
  | .r16 => 4932

/-- n before the limit of 6 (R52). -/
def exposuresWanted (c : PlanCopies) : Nat :=
  1 + (c.dSpan + densityStep c.stepRatio - 1) / densityStep c.stepRatio

/-- The planning drive (R53). -/
def planningDrive (planner : Planner) (throttle : Bool) : Nat :=
  match planner with
  | .prc _ => if throttle then throttleDrive else maxDrive
  | .cru _ d => if throttle then min throttleDrive d else d

/-- One exposure value realised (R53); the time before its cap. -/
def entryTime (drive e : Nat) : Nat := if e < drive then 1 else (e + drive / 2) / drive

/-- One exposure value realised (R53). -/
def planEntry (drive e : Nat) : PlanEntry :=
  { time := min maxTime (entryTime drive e), drive := if e < drive then e else drive }

/-- The exposure values of the plan, E_k = E1 × S^(k−1) (R52). -/
def exposureValues (c : PlanCopies) (e1 : Nat) : List Nat :=
  (List.range (min 6 (exposuresWanted c))).map fun k => e1 * c.stepRatio.val ^ k

/-- The plan (R52, R53). -/
def bracketPlan (planner : Planner) (throttle : Bool) (c : PlanCopies) (e1 : Nat) : List PlanEntry :=
  (exposureValues c e1).map (planEntry (planningDrive planner throttle))

/-- The planning flags (R50, R52, R53). -/
def bracketFlags (planner : Planner) (throttle : Bool) (c : PlanCopies) (r : AttemptResult) (e1 : Nat) : PlanFlags :=
  { rangeShort := decide (6 < exposuresWanted c)
    brightShort := decide (r = .overexposed)
    darkShort := decide (r = .underexposed)
    tCapped := (exposureValues c e1).any fun e => decide (maxTime < entryTime (planningDrive planner throttle) e) }

/-- Count `n` pixels of raw code `c` in their bin (R118). -/
def countBin (h : Vector Nat 64) (n c : Nat) : Vector Nat 64 :=
  let b := min 63 (c / 256)
  h.setIfInBounds b ((h[b]?).getD 0 + n)

/-- The bins of a frame (R118): raw code c counts in bin c >> 8. -/
def histogramOf (frame : Runs Nat) : Vector Nat 64 :=
  frame.foldl (fun h r => countBin h r.1 r.2) (Vector.replicate 64 0)

end Sys2Proof.Machine
end

