-- ==== Sys2Proof/Machine/Planner.lean ====
section
/-! DEFINITION. The bracket planner (chapter 3): plan requests, metering attempts, evaluation and the plan. -/

namespace Sys2Proof.Machine

/-- The copies that a plan request uses (R45). -/
def State.planCopies (s : State) (dSpan : Nat) : PlanCopies :=
  { meterTime := s.liu.params.meterTime, topCode := s.liu.params.topCode, hiPpm := s.liu.params.hiPpm
    stepRatio := s.liu.params.stepRatio, satCode := s.liu.params.satCode, dSpan := dSpan, b0 := s.cru.dark.b0 }

/-- BPL reports the attempt number to PRC, which writes it into the tile record (R46), unless the tile has ended (R9,
R36). -/
def State.reportAttempt (s : State) (r : Planner) (k : Nat) : State :=
  match r with
  | .prc t => s.mapTile t fun x => if x.state.ended then x else { x with attempts := k }
  | .cru _ _ => s

/-- The exposure request of an attempt (R46). -/
def meterRequest (r : Planner) (e : PlanEntry) : ExposureReq :=
  { client := .bpl r, time := e.time, target := .histogram, lamp := .settled e.drive, stage := true }

/-- BPL requests attempt `k` at a time and drive (R46). -/
def State.requestAttempt (s : State) (r : Planner) (c : PlanCopies) (k : Nat) (e : PlanEntry)
    (last : Option AttemptResult) : State :=
  let w : Metering := { planner := r, attempt := k, time := e.time, drive := e.drive, copies := c, last := last }
  let s := { s with bpl := { work := some w } }
  (((s.reportAttempt r k).emit (.lightRequest e.drive)).emit (.exposureRequest (meterRequest r e)))

/-- Attempt 1 (R46, Table 3.1). -/
def State.startMetering (s : State) (r : Planner) (dSpan : Nat) : State :=
  let c := s.planCopies dSpan
  s.requestAttempt r c 1 (firstAttempt r s.blu.throttle c.meterTime) none

/-- A plan request that finds BPL METERING is refused back (R45). What the requester does then is the model's choice (log
entry 32): PRC has the request outstanding no more, unless BPL is metering that same tile, and CRU stays in FLAT_METER
with no report. -/
def State.planRefused (s : State) (r : Planner) : State :=
  match r with
  | .prc t =>
    if s.prc.planReq = some t ∧ s.bpl.work.map (·.planner) ≠ some r then
      { s with prc := { s.prc with planReq := none } }
    else s
  | .cru _ _ => s

/-- A plan request (R45, R57). -/
def State.planRequested (s : State) (r : Planner) : State :=
  match s.bpl.work with
  | some _ => s.planRefused r
  | none =>
    match r with
    | .prc t =>
      match s.prc.job? t.job with
      | none => s
      | some j =>
        match j.policy with
        | .fixed plan => s.emit (.planCompletion t plan 0 {})
        | .auto d => s.startMetering r d
    | .cru _ _ => s.startMetering r 0

/-- BPL discards the attempt state and goes to IDLE; under a reset it acknowledges then (R47, R48, R54). -/
def State.bplIdle (s : State) : State := ({ s with bpl := { work := none } }).ack .bpl

/-- A withdrawal (R48). DESIGN CHOICE: one taken before its request finds nothing (log entry 51), and one taken late withdraws
the same planner's present request (log entry 56). -/
def State.planWithdrawn (s : State) (r : Planner) : State :=
  match s.bpl.work with
  | some w => if w.planner = r then (s.emit (.exposureWithdraw (.bpl r))).bplIdle else s
  | none => s

/-- BPL sends the plan completion and goes to IDLE (R54); under a reset it acknowledges then (R48). -/
def State.sendPlan (s : State) (w : Metering) (plan : List PlanEntry) (flags : PlanFlags) : State :=
  match w.planner, plan with
  | .prc t, _ => (s.emit (.planCompletion t plan w.attempt flags)).bplIdle
  | .cru _ _, e :: _ => (s.emit (.flatPlanCompletion e flags)).bplIdle
  | .cru _ _, [] => s.bplIdle

/-- BPL plans from an attempt (R51 to R54). -/
def State.planFrom (s : State) (w : Metering) (r : AttemptResult) (m : Nat) : State :=
  let e1 := planValue w.copies r (w.time * m)
  s.sendPlan w (bracketPlan w.planner s.blu.throttle w.copies e1)
    (bracketFlags w.planner s.blu.throttle w.copies r e1)

/-- The time and drive of the next attempt, with R46's adjustment for the throttle flag. -/
def Metering.next (w : Metering) (throttle : Bool) (r : AttemptResult) : PlanEntry :=
  realise throttle (nextAttempt r { time := w.time, drive := w.drive })

/-- An attempt is evaluated (R49, R50). -/
def State.attemptDone (s : State) (w : Metering) (m : Nat) : State :=
  let r := evaluate w.copies s.sfe.hist
  let e := w.next s.blu.throttle r
  match r with
  | .metered _ => s.planFrom w r m
  | .overexposed | .underexposed =>
    if w.attempt = 4 ∨ e = { time := w.time, drive := w.drive } then s.planFrom w r m
    else s.requestAttempt w.planner w.copies (w.attempt + 1) e (some r)

/-- The completion of a metering exposure (R47); one that BPL no longer waits for is discarded. DESIGN CHOICE: BPL knows it
by its planner and its attempt number alone, so that a late completion of a withdrawn request (R48) is taken as the new
attempt's where the same requester has asked again and is at the same attempt number (log entry 41). -/
def State.attemptCompleted (s : State) (r : Planner) (attempt m : Nat) : State :=
  match s.bpl.work with
  | some w => if w.planner = r ∧ w.attempt = attempt then s.attemptDone w m else s
  | none => s

/-! ## The commands -/

/-- PLAN_REQUEST (R45, R46, R57). -/
def execPlanRequest (r : Planner) (s : State) : Result := .next ((s.deliver (.planRequest r)).planRequested r)

/-- PLAN_WITHDRAW (R48). -/
def execPlanWithdraw (r : Planner) (s : State) : Result := .next ((s.deliver (.planWithdraw r)).planWithdrawn r)

/-- ATTEMPT_COMPLETION (R47, R49 to R54). -/
def execAttemptCompletion (r : Planner) (attempt m : Nat) (s : State) : Result :=
  .next ((s.deliver (.attemptCompletion r attempt m)).attemptCompleted r attempt m)

end Sys2Proof.Machine
end

