-- ==== Sys2Proof/Machine/Transport.lean ====
section
/-! DEFINITION. The transport (chapter 9): loads, moves and unloads with their legs and timers, the stage interlock,
the magazine table and HOME. What enters FAULT, or ends the interlock otherwise, stands in `Faults.lean`. -/

namespace Sys2Proof.Machine

/-! ## Reports -/

/-- TRS reports the end of a load to its requester (R140). -/
def State.reportLoad (s : State) : TrsClient → State
  | .prc => s.emit .loadComplete
  | .cru => s.emit .flatLoadComplete

/-- TRS reports a settle completion to its requester (R141). -/
def State.reportSettle (s : State) : TrsClient → State
  | .prc => s.emit .settleCompletion
  | .cru => s.emit .flatSettleComplete

/-- TRS reports the end of an unload to its requester (R142). -/
def State.reportUnload (s : State) : TrsClient → State
  | .prc => s.emit .unloadComplete
  | .cru => s.emit .flatUnloadComplete

/-- TRS turns a request back to its requester (R139 to R142). The answer is taken in the same event: PRC has the
request no longer outstanding, and CRU is told by a report of its own (R96). DESIGN CHOICE: of what PRC does at a refusal,
that of a recovery unload after LOST_CARRIER (R142) among them, the rules say nothing: it forgets the job whose carrier was
to be recovered, an unload put off stays put off, and neither the hold point (R31) nor a job start (R20) is tested before
the next event that tests it, or a HOLD_POINT or START_JOB step (log entry 40). -/
def State.trsRefuse (s : State) : TrsClient → State
  | .prc => { s with prc := { s.prc with trsReq := none, recoveryJob := none } }
  | .cru => s.emit (.calTransportFault .refused)

/-- The client of a request in progress. -/
def TrsWork.client : TrsWork → TrsClient
  | .load c _ | .move c _ | .unload c => c

/-! ## The stage interlock (R139) -/

/-- Whether SFE holds the grant. -/
def Interlock.held : Interlock → Bool
  | .granted | .grantedAsked => true
  | .none | .asked => false

/-- Whether an ask of SFE waits for its grant. -/
def Interlock.waits : Interlock → Bool
  | .asked | .grantedAsked => true
  | .none | .granted => false

/-- An ask is taken: beside a grant it stands behind it. -/
def Interlock.withAsk : Interlock → Interlock
  | .none | .asked => .asked
  | .granted | .grantedAsked => .grantedAsked

/-- An ask that is not granted is withdrawn. -/
def Interlock.withoutAsk : Interlock → Interlock
  | .none | .asked => .none
  | .granted | .grantedAsked => .granted

/-- The grant ends; an ask behind it stands. -/
def Interlock.released : Interlock → Interlock
  | .none | .granted => .none
  | .asked | .grantedAsked => .asked

/-- A held ask is granted when TRS is AT_REST with no motion pending (R139). -/
def State.tryInterlock (s : State) : State :=
  if s.trs.interlock.waits ∧ s.trs.state = .atRest ∧ s.trs.pendingMotion = none then
    ({ s with trs := { s.trs with interlock := .granted } }).emit .interlockGrant
  else s

/-- A motion begins: its leg runs under the motion timer (R141 to R143). -/
def Trs.begin (t : Trs) (w : TrsWork) (timeout : Nat) : Trs :=
  { t with
    state := match w with | .load .. => .loading | .move .. => .moving | .unload _ => .unloading
    work := some w, motionTimer := some timeout, pendingMotion := none }

/-- A motion begins. -/
def State.beginMotion (s : State) (w : TrsWork) : State :=
  { s with trs := s.trs.begin w s.liu.params.motionTimeoutMs }

/-- SFE releases the interlock (R139): a pending motion begins at the same event, and an ask behind the grant waits for
its end. -/
def State.interlockRelease (s : State) : State :=
  if s.trs.interlock.held then
    let s := { s with trs := { s.trs with interlock := s.trs.interlock.released } }
    match s.trs.pendingMotion with
    | some w => s.beginMotion w
    | none => s.tryInterlock
  else s

/-- SFE's ask is taken where TRS has a carrier to hold still (R139). The spec is silent on an ask taken while SFE holds
the grant: with a motion pending it waits behind the grant, and otherwise it is granted again at once (log entry 34). -/
def State.interlockAsked (s : State) : State :=
  ({ s with trs := { s.trs with interlock := s.trs.interlock.withAsk } }).tryInterlock

/-- SFE withdraws its ask (R139): one not granted is held no longer; a grant stays for SFE to release. -/
def State.interlockWithdraw (s : State) : State :=
  { s with trs := { s.trs with interlock := s.trs.interlock.withoutAsk } }

/-- A move or unload taken AT_REST begins at once, waits behind the interlock, or is refused as busy when another is
already pending (R139). -/
def State.motionAtRest (s : State) (w : TrsWork) : State :=
  if s.trs.pendingMotion.isSome then s.trsRefuse w.client
  else if s.trs.interlock.held then { s with trs := { s.trs with pendingMotion := some w } }
  else s.beginMotion w

/-! ## Faults (R143, R144) -/

/-- A magazine entry changes. -/
def Trs.setEntry (t : Trs) (p : Nat) (e : MagEntry) : Trs := { t with magazine := t.magazine.setIfInBounds p e }

/-- The stage record and the entries at a fault (R143 point 1): `seen` is the presence sensor. -/
def Trs.settleRecord (t : Trs) (cause : TrsFault) (seen : Bool) : Trs :=
  match cause with
  | .lostCarrier =>
    match t.stage with
    | .carrier p => { t.setEntry p .unknown with stage := .none }
    | .unknownCarrier | .none => { t with stage := .none }
  | .timeout | .noCarrierSeen | .orphan =>
    match t.state, t.work with
    | .loading, some (.load _ p) =>
      if seen then { t.setEntry p .out with stage := .carrier p } else { t.setEntry p .unknown with stage := .none }
    | _, _ => t

/-! ## Loads, moves, unloads (R140 to R142) -/

/-- A load request (R140), refused while TRS is asked to quiesce (R147). DESIGN CHOICE: one of PRC that was on its way when
HOME ended its job is taken as any other (log entry 54). -/
def State.takeLoad (s : State) (c : TrsClient) (p : Nat) : State :=
  if s.trs.quiesce then s.trsRefuse c
  else match s.trs.state with
    | .empty =>
      if (s.trs.magazine[p]?).getD .vacant = .vacant then
        match c with
        | .prc => s.emit .noCarrier
        | .cru => s.emit (.calTransportFault .noCarrier)
      else s.beginMotion (.load c p)
    | .homing _ =>
      match c with
      | .cru => { s with trs := { s.trs with heldLoad := some p } }
      | .prc => s.trsRefuse c
    | .unhomed | .homingStopped _ | .loading | .atRest | .moving | .settling | .unloading | .fault _ => s.trsRefuse c

/-- A move request (R141). -/
def State.takeMove (s : State) (c : TrsClient) (g : StageTarget) : State :=
  if s.trs.quiesce then s.trsRefuse c
  else if s.trs.state = .atRest then s.motionAtRest (.move c g) else s.trsRefuse c

/-- Whether the stage record is a carrier of known origin. -/
def StageRecord.known : StageRecord → Bool
  | .carrier _ => true
  | .unknownCarrier | .none => false

/-- An unload request (R142): `seen` is the presence sensor. -/
def State.takeUnload (s : State) (c : TrsClient) (seen : Bool) : State :=
  if s.trs.quiesce then s.trsRefuse c
  else match s.trs.state with
    | .atRest => if s.trs.stage.known then s.motionAtRest (.unload c) else s.trsRefuse c
    | .fault .timeout =>
      if s.trs.stage.known && seen then (s.beginMotion (.unload c)).transportNotice false else s.trsRefuse c
    | .unhomed | .homing _ | .homingStopped _ | .empty | .loading | .moving | .settling | .unloading | .fault _ =>
      s.trsRefuse c

/-- The motion timer stops and the request is no longer in progress. -/
def Trs.endLeg (t : Trs) : Trs := { t with motionTimer := none, work := none }

/-- TRS acknowledges a quiesce once no leg and no settle is in progress (R147). -/
def State.trsSettled (s : State) : State := if s.trs.quiesce then s.ack .trs else s

/-- The settle of a move ends: TRS goes to AT_REST, reports it and grants a held ask (R141, R139). -/
def State.settleDone (s : State) (c : TrsClient) : State :=
  let s := { s with trs := { s.trs.endLeg with state := .atRest, settleTimer := none } }
  ((s.reportSettle c).tryInterlock).trsSettled

/-- The move leg ends (R141); a settle_ms of 0 ends the settle in the same event. Under a quiesce the settle that follows
the leg runs to its end too, and TRS acknowledges then (log entry 30). Of a late completion
of an earlier leg: log entry 49. -/
def State.moveLegDone (s : State) : State :=
  match s.trs.state, s.trs.work with
  | .moving, some (.move c g) =>
    let pos : StagePos := match g with | .point x y => .point x y | .aperture => .aperture
    let ms := s.liu.params.settleMs
    let s := { s with trs := { s.trs with
      state := .settling, pos := pos, motionTimer := none, settleTimer := some ms } }
    if ms = 0 then s.settleDone c else s
  | _, _ => s

/-- The settle timer expires (R141). -/
def State.settleExpired (s : State) : State :=
  match s.trs.state, s.trs.work with
  | .settling, some (.move c _) => s.settleDone c
  | _, _ => s

/-- The carrier on the stage goes back to its origin (R142). -/
def Trs.returnCarrier (t : Trs) : Trs :=
  match t.stage with
  | .carrier p => { t.setEntry p .present with stage := .none }
  | .unknownCarrier | .none => { t with stage := .none }

/-! ## HOME (R145) -/

/-- The axis leg starts: the homed mark is cleared (R145). -/
def State.startAxis (s : State) : State :=
  { s with trs := { s.trs with
      state := .homing .axis, homed := false, motionTimer := some s.liu.params.motionTimeoutMs } }

/-- HOME stops after its current leg, when TRS is asked to quiesce (R147). -/
def State.stopHome (s : State) (leg : HomeLeg) : State :=
  ({ s with trs := { s.trs with state := .homingStopped leg, motionTimer := none } }).ack .trs

/-- HOME's unload leg ends (R145); of a late completion of an earlier HOME's, log entry 49. -/
def State.homeUnloadDone (s : State) : State :=
  if s.trs.state = .homing .unload then
    let s := { s with trs := { s.trs.returnCarrier with pos := .transfer } }
    if s.trs.quiesce then s.stopHome .unload else s.startAxis
  else s

/-- HOME's axis leg ends (R145); of a late completion of an earlier HOME's, log entry 49. -/
def State.homeAxisDone (s : State) : State :=
  if s.trs.state = .homing .axis then
    let s := { s with trs := { s.trs with pos := .transfer } }
    if s.trs.quiesce then s.stopHome .axis
    else { s with trs := { s.trs with
      state := .homing .scan, motionTimer := some s.liu.params.motionTimeoutMs } }
  else s

/-- One position is scanned: an entry not OUT becomes PRESENT or VACANT as the sensor reads it (R145). -/
def Trs.scanEntry (t : Trs) (p : Nat) (present : Bool) : Trs :=
  match t.magazine[p]? with
  | some .out | none => t
  | some _ => t.setEntry p (if present then .present else .vacant)

/-- Positions are scanned in the order given. -/
def Trs.scanEntries (t : Trs) (l : List (Nat × Bool)) : Trs := l.foldl (fun u p => u.scanEntry p.1 p.2) t

/-- All 20 positions with their readings. -/
def allPositions (present : BitVec 20) : List (Nat × Bool) := (List.range 20).map fun p => (p, present.getLsbD p)

/-- HOME's scan leg ends (R145, R140): EMPTY, or FAULT with cause ORPHAN when the carrier is of unknown origin; a load
held during HOMING is taken, or answered with the fault. R145 has TRS report EMPTY to CRU too, and no rule has CRU act on
it: no message is sent for it, and TRS takes CRU's held load itself (log entry 34). Of a late
completion of an earlier HOME's: log entry 49. -/
def State.homeScanDone (s : State) (present : BitVec 20) : State :=
  if s.trs.state = .homing .scan then
    let t := s.trs.scanEntries (allPositions present)
    let s := { s with trs := { t with homed := true, motionTimer := none } }
    match s.trs.stage with
    | .none =>
      let held := s.trs.heldLoad
      let s := { s with trs := { s.trs with state := .empty, heldLoad := none } }
      let s := ((s.transportNotice true).emit .trsEmptyReport).trsSettled
      match held with
      | some p => s.takeLoad .cru p
      | none => s
    | .carrier _ | .unknownCarrier =>
      let toCru := s.trs.heldLoad.isSome || s.cru.flatRunning
      let s := { s with trs := { s.trs with state := .fault .orphan, pos := .unknown, heldLoad := none } }
      let s := (s.transportNotice true).emit .transportFault
      (if toCru then s.emit (.calTransportFault .fault) else s).trsSettled
  else s

/-! ## The commands -/

/-- LOAD_REQUEST (R140). -/
def execLoadRequest (c : TrsClient) (position : Nat) (s : State) : Result :=
  .next ((s.deliver (.loadRequest c position)).takeLoad c position)

/-- MOVE_REQUEST (R141). -/
def execMoveRequest (c : TrsClient) (target : StageTarget) (s : State) : Result :=
  .next ((s.deliver (.moveRequest c target)).takeMove c target)

/-- UNLOAD_REQUEST (R142). -/
def execUnloadRequest (c : TrsClient) (seen : Bool) (s : State) : Result :=
  .next ((s.deliver (.unloadRequest c seen)).takeUnload c seen)

/-- INTERLOCK_ASK (R139). -/
def execInterlockAsk (s : State) : Result :=
  let s := s.deliver .interlockAsk
  .next (match s.trs.state with
    | .unhomed | .homing _ | .homingStopped _ | .empty | .fault _ =>
      ({ s with trs := { s.trs with interlock := .none } }).emit .stageFaultReport
    | .loading | .atRest | .moving | .settling | .unloading => s.interlockAsked)

/-- INTERLOCK_RELEASE (R139). -/
def execInterlockRelease (s : State) : Result := .next (s.deliver .interlockRelease).interlockRelease

/-- INTERLOCK_ASK_WITHDRAW (R139). -/
def execInterlockAskWithdraw (s : State) : Result := .next (s.deliver .interlockAskWithdraw).interlockWithdraw

/-- MOVE_LEG_COMPLETION (R141). -/
def execMoveLegCompletion (s : State) : Result := .next s.moveLegDone

/-- SETTLE_TIMER_EXPIRY (R141). -/
def execSettleTimerExpiry (s : State) : Result := .next s.settleExpired

/-- HOME_UNLOAD_LEG_DONE (R145, R147). -/
def execHomeUnloadLegDone (s : State) : Result := .next s.homeUnloadDone

/-- HOME_AXIS_LEG_DONE (R145, R147). -/
def execHomeAxisLegDone (s : State) : Result := .next s.homeAxisDone

/-- HOME_SCAN_LEG_DONE (R145, R147). -/
def execHomeScanLegDone (present : BitVec 20) (s : State) : Result := .next (s.homeScanDone present)

end Sys2Proof.Machine
end

