-- ==== Sys2Proof/Machine/Sensor.lean ====
section
/-! DEFINITION. The sensor front end (chapter 7): exposure requests, their start, the exposure, the readout, retries,
withdrawals, the sensor temperature, faults, re-initialisation and quiesce. -/

namespace Sys2Proof.Machine

/-! ## Reports to the requester -/

/-- A sensor failure reaches the requester: the second failure of a readout, or a request refused as one (R113,
R121). BPL discards its attempt (R47). -/
def State.reportFailure (s : State) (c : ExposureClient) : State :=
  match c with
  | .prc t => s.emit (.secondReadoutFailure t)
  | .cru => s.emit .calSensorFailure
  | .bpl r =>
    let s := if s.bpl.work.map (·.planner) = some r then s.bplIdle else s
    match r with
    | .prc t => s.emit (.secondReadoutFailure t)
    | .cru _ _ => s.emit .calSensorFailure

/-- An exposure cut short is reported to its requester (R115, R116): PRC has no request outstanding any more and
requests it again at resume (R40), also where it hears of the cut only after that RESUME has been taken: it then waits for
the next (log entry 32). CRU's frame is gone, and it asks for no other. BPL waits for its own requester's withdrawal. -/
def State.reportCut (s : State) (c : ExposureClient) : State :=
  match c with
  | .prc t => if s.prc.expReq = some t then { s with prc := { s.prc with expReq := none } } else s
  | .cru => s.calFrameCut
  | .bpl _ => s

/-! ## Choosing the next state and pursuing a request (R112, R114) -/

/-- SFE pursues the start of a request in ARMED (R114): the repeat of an exposure waits for the go-ahead, any other
request asks BLU for lamp ready. -/
def State.pursue (s : State) (h : HeldReq) : State :=
  if h.retry = 1 ∧ h.cleared = false then { s with sfe := { s.sfe with state := .armed, phase := .goAhead } }
  else
    ({ s with sfe := { s.sfe with state := .armed, phase := .lamp } }).emit (.lampReadyAsk h.req.lamp h.req.time)

/-- The choice of R112 when SFE leaves READING, EXPOSING or FAULT, or ends a request. -/
def State.chooseNext (s : State) : State :=
  if s.sfe.mark then { s with sfe := { s.sfe with state := .held } }
  else match s.sfe.held with
    | some h => s.pursue h
    | none => { s with sfe := { s.sfe with state := .idle } }

/-- The messages of an exposure start (R114, R115): SFE's asks, their grants, and the reports that a grant or the stage is
lost. -/
def ofStart : Instr → Bool
  | .lampReadyAsk _ _ | .lampReadyGrant | .lampLost | .interlockAsk | .interlockGrant | .stageFaultReport => true
  | _ => false

/-- The messages that concern a request held: those of its start, and BLU's FAULT report, which ends it (R40). -/
def ofRequest (c : Instr) : Bool := ofStart c || decide (c = .lampFaultReport)

/-- SFE withdraws a lamp-ready ask or releases a grant (R115 to R117, R122); the intensity measured is not used here. What
is on its way of an exposure start ends with it, so that no later one takes it for its own: a grant on its way is released
at once (R115), and an ask on its way is withdrawn (log entry 28). -/
def State.releaseLamp (s : State) (since : Nat) : State := ((s.lampRelease since).1).recall ofStart

/-- SFE withdraws its interlock ask and releases the grant if TRS has given it (R115); what is on its way ends as
`releaseLamp` says. -/
def State.dropStage (s : State) : State := (s.interlockWithdraw.interlockRelease).recall ofStart

/-- SFE withdraws what it has asked for in ARMED (R115). -/
def State.withdrawAsks (s : State) : State :=
  match s.sfe.phase with
  | .goAhead => s
  | .lamp => s.releaseLamp 0
  | .stage => (s.releaseLamp 0).dropStage

/-- SFE goes back to the lamp-ready phase: it withdraws its asks and asks BLU again (R115). -/
def State.askAgain (s : State) (h : HeldReq) : State := s.withdrawAsks.pursue { h with cleared := true }

/-- SFE holds its request no more; a report on its way for it ends with it (log entry 28). -/
def State.forgetHeld (s : State) : State := ({ s with sfe := { s.sfe with held := none } }).recall ofRequest

/-- A request held and not begun ends (R115, R122): its asks are withdrawn and SFE chooses its next state. -/
def State.endHeld (s : State) : State :=
  if s.sfe.state = .armed then (s.withdrawAsks.forgetHeld).chooseNext else s.forgetHeld

/-! ## Requests (R113) -/

/-- The client of the readout of a frame in progress. -/
def Readout.client? (r : Readout) : Option ExposureClient :=
  match r.kind with
  | .frame e _ _ => some e.req.client
  | .flush _ => none

/-- SFE holds a fresh request. -/
def State.holdRequest (s : State) (r : ExposureReq) : State :=
  { s with sfe := { s.sfe with held := some { req := r, retry := 0, cleared := false } } }

/-- Whether SFE holds, exposes or reads out a request of a client. -/
def Sfe.serves (f : Sfe) (c : ExposureClient) : Bool :=
  decide (f.held.map (·.req.client) = some c) || decide (f.exposing.map (·.req.client) = some c)
    || decide (f.readout.bind Readout.client? = some c)

/-- A request is refused back to its requester as busy (R113): it is outstanding no more, unless SFE has another of the
same requester. BPL's attempt stays as it is (log entry 28). -/
def State.refuseBusy (s : State) (c : ExposureClient) : State :=
  if s.sfe.serves c then s
  else match c with
    | .prc t => if s.prc.expReq = some t then { s with prc := { s.prc with expReq := none } } else s
    | .cru => { s with cru := { s.cru with frameReq := false } }
    | .bpl _ => s

/-- An exposure request is taken (R113). A refusal as busy does not disturb the request held or exposed. -/
def State.exposureRequested (s : State) (r : ExposureReq) : State :=
  if s.sfe.quiesce || s.sfe.held.isSome then s.refuseBusy r.client
  else match s.sfe.state with
    | .idle | .armed => (s.holdRequest r).pursue { req := r, retry := 0, cleared := false }
    | .held | .reading => s.holdRequest r
    | .fault => if s.sfe.reinit then s.holdRequest r else s.reportFailure r.client
    | .exposing => s.refuseBusy r.client

/-! ## The exposure start (R114) -/

/-- SFE releases the stage interlock and the lamp ready it holds for an exposure. -/
def State.releaseAll (s : State) (r : ExposureReq) : State :=
  (if r.stage then s.interlockRelease else s).releaseLamp 0

/-- Whether BLU's grant is the one for a request: its lamp condition and its time (R130). -/
def State.lampHeld (s : State) (h : HeldReq) : Bool :=
  decide (s.blu.grant = some { cond := h.req.lamp, time := h.req.time })

/-- The exposure begins (R114); THROTTLED starts as the throttle flag stands (R13). -/
def State.beginExposure (s : State) (h : HeldReq) : State :=
  { s with sfe := { s.sfe with
      state := .exposing, held := none
      exposing := some { req := h.req, retry := h.retry, throttled := s.blu.throttle } } }

/-- The exposure start (R114). When FST refuses the slot because the tile has been released, the exposure is cut short
at its start. -/
def State.startExposure (s : State) (h : HeldReq) : State :=
  match h.req.target with
  | .slot n t =>
    if s.fst.allows n .reservedToExposing t then (s.setSlot n (.exposing t)).beginExposure h
    else ((s.releaseAll h.req).forgetHeld).chooseNext
  | .calwork _ => s.beginExposure h
  | .histogram => ({ s with sfe := { s.sfe with hist := Vector.replicate 64 0 } }).beginExposure h

/-- BLU grants lamp ready (R114): the stage interlock is asked for next, or a dark frame starts. If BLU has ended the grant
meanwhile, a lit request still asks for the stage, where the loss or the fault report on its way finds it, and a dark
frame waits; a grant for another condition or time is released, and SFE asks again (log entry 28). A grant that SFE no
longer asks for is released at once (R115). -/
def State.lampGranted (s : State) : State :=
  match s.sfe.state, s.sfe.phase, s.sfe.held with
  | .armed, .lamp, some h =>
    if s.blu.grant.isSome && !s.lampHeld h then s.askAgain h
    else if h.req.stage then ({ s with sfe := { s.sfe with phase := .stage } }).emit .interlockAsk
    else if s.lampHeld h then s.startExposure h
    else s
  | .armed, .stage, _ | .exposing, _, _ => s
  | _, _, _ => (s.lampRelease 0).1

/-- TRS grants the interlock (R114): the exposure starts while TRS and BLU both hold their grants for it, since a lit
exposure is in progress only with TRS AT_REST and BLU SETTLED. A grant that a fault of TRS has ended starts nothing, and
one that comes after BLU has ended its own is released at once; the report on its way then ends the request, or has SFE
ask again, as it does where BLU's grant is for another condition or time (log entry 28). A grant after a loss is released
at once (R115). -/
def State.stageGranted (s : State) : State :=
  match s.sfe.state, s.sfe.phase, s.sfe.held with
  | .armed, .stage, some h =>
    if s.lampHeld h && s.trs.interlock.held then s.startExposure h
    else if s.blu.grant.isSome && !s.lampHeld h then s.askAgain h
    else s.interlockRelease
  | .exposing, _, _ => s
  | _, _, _ => s.interlockRelease

/-- BLU reports lamp lost (R115): SFE goes back to the lamp-ready phase and asks again, also when the loss overtakes the
grant that it ends (log entry 28). While EXPOSING it is ignored (Table 7.2). -/
def State.lampLost (s : State) : State :=
  match s.sfe.state, s.sfe.phase, s.sfe.held with
  | .armed, .stage, some h => s.askAgain h
  | .armed, .lamp, some h => if .lampReadyGrant ∈ s.inFlight then s.askAgain h else s
  | _, _, _ => s

/-! ## Cutting short (R116) -/

/-- The exposure in progress is cut short: SFE releases the interlock and the lamp ready and flushes the sensor. -/
def State.cutShort (s : State) (e : Exposing) : State :=
  let s := s.releaseAll e.req
  { s with sfe := { s.sfe with state := .reading, exposing := none, readout := some { kind := .flush 0 } } }

/-- A fault cuts the exposure short: a tile's slot goes back to RESERVED, and the requester is told. -/
def State.faultCut (s : State) (e : Exposing) : State :=
  let s := match e.req.target with
    | .slot n t => s.changeSlot n .exposingToReserved t
    | .calwork _ | .histogram => s
  (s.cutShort e).reportCut e.req.client

/-- A request held and not begun is ended as cut short (R40, R115). -/
def State.cutHeld (s : State) (h : HeldReq) : State := (s.endHeld).reportCut h.req.client

/-- Whether SFE has asked for the lamp or the stage and not begun. -/
def Sfe.asksOut (f : Sfe) : Bool := decide (f.state = .armed) && decide (f.phase ≠ .goAhead)

/-- BLU's FAULT report (R40, R115, R116): the exposure in progress is cut short, or a request held is ended: a lit one in
any state (R40, log entry 19), and a dark one whose ask or grant the fault ends (R115, R134). -/
def State.lampFaulted (s : State) : State :=
  match s.sfe.exposing, s.sfe.held with
  | some e, _ => s.faultCut e
  | none, some h => if s.sfe.wantsLight || s.sfe.asksOut then s.cutHeld h else s
  | none, none => s

/-- TRS's fault report (R116, R139); in ARMED it ends the request that waits for the stage. -/
def State.stageFaulted (s : State) : State :=
  match s.sfe.state, s.sfe.exposing, s.sfe.held with
  | .exposing, some e, _ => if e.req.stage then s.faultCut e else s
  | .armed, _, some h => if s.sfe.phase = .stage then s.cutHeld h else s
  | _, _, _ => s

/-! ## Go-ahead and withdrawal (R121, R122) -/

/-- The go-ahead for a repeat (R121). DESIGN CHOICE: it names no request, so that one still on its way for a repeat that has
been withdrawn or cut meanwhile is taken by the next repeat that waits (log entry 48). -/
def State.goneAhead (s : State) : State :=
  match s.sfe.held with
  | some h =>
    if h.retry = 1 ∧ h.cleared = false then
      let h := { h with cleared := true }
      let s := { s with sfe := { s.sfe with held := some h } }
      if s.sfe.state = .armed then s.pursue h else s
    else s
  | none => s

/-- A withdrawal (R122). In READING the row waiting at the port is given up, the one in service writes nothing, and no
other is asked for. DESIGN CHOICE: SFE knows the request by its requester alone, so that a withdrawal taken late withdraws
the same requester's next request (log entry 48). -/
def State.exposureWithdrawn (s : State) (c : ExposureClient) : State :=
  if s.sfe.held.map (·.req.client) = some c then s.endHeld
  else match s.sfe.exposing, s.sfe.readout with
    | some e, _ => if e.req.client = c then s.cutShort e else s
    | none, some r =>
      if r.client? = some c then
        { s with
          sfe := { s.sfe with readout := some { r with dropped := true } }
          fst := { s.fst with port := s.fst.port.giveUpSfe } }
      else s
    | none, none => s

/-! ## The exposure end (R117) -/

/-- The measured intensity of an exposure of `t` xu that ends now (R131). -/
def State.intensity (s : State) (since t : Nat) : Nat :=
  measuredIntensity s.blu.history (s.blu.clock + since) t (Config.freeIntensity s.freeCount)

/-- The exposure end is reported to the requester (R117). -/
def State.reportEnd (s : State) (c : ExposureClient) (m : Option Nat) : State :=
  match c, m with
  | .prc t, some m => s.emit (.exposureEnd t m)
  | .bpl r, some m =>
    { s with bpl := { work := s.bpl.work.map fun w => if w.planner = r then { w with m := some m } else w } }
  | _, _ => s

/-- The exposure end (R117). -/
def State.exposureEnded (s : State) (since : Nat) : State :=
  match s.sfe.exposing with
  | none => s
  | some e =>
    let temp := s.sfe.temp
    let m : Option Nat := match e.req.lamp with
      | .settled _ => some (s.intensity since e.req.time)
      | .dark => none
    let s := (if e.req.stage then s.interlockRelease else s).releaseLamp since
    let s := { s with sfe := { s.sfe with
      state := .reading, exposing := none, readout := some { kind := .frame e m temp } } }
    s.reportEnd e.req.client m

/-! ## Readout completion (R118, R119) -/

/-- SFE's readout ends, and what it has at the port with it. -/
def State.endReadout (s : State) : State :=
  { s with
    sfe := { s.sfe with readout := none }
    fst := { s.fst with port := s.fst.port.giveUpSfe } }

/-- A frame as it is read: 14-bit codes over the whole sensor. -/
def frameCodes (frame : Runs Nat) : Runs Nat := runsFit tilePixels 0 (runsMap capCode frame)

/-- The rows from the row reached on are written into a slot (R118). -/
def State.writeFrame (s : State) (slot row : Nat) (frame : Runs Nat) : State :=
  { s with fst := s.fst.write slot (row * columns) (runsDrop (row * columns) (frameCodes frame)) }

/-- The exposure completion that PRC is given (R119). -/
def doneReport (e : Exposing) (n : Nat) (t : TileRef) (m : Nat) (temp : Int) (withFrame : Bool) : ExposureDone :=
  let drive := match e.req.lamp with
    | .settled d => d
    | .dark => 0
  { tile := t, time := e.req.time, drive := drive, m := m, temp := temp, slot := n, throttled := e.throttled
    withFrame := withFrame }

/-- The result of a readout is handed over (R119). -/
def State.handOver (s : State) (r : Readout) (e : Exposing) (m : Option Nat) (temp : Int) (frame : Runs Nat) : State :=
  match e.req.target with
  | .slot n t =>
    if r.noFrame = false ∧ s.fst.allows n .exposingToRaw t then
      ((s.writeFrame n r.row frame).setSlot n (.raw t)).emit
        (.exposureCompletion (doneReport e n t (m.getD 0) temp true))
    else s.emit (.exposureCompletion (doneReport e n t (m.getD 0) temp false))
  | .histogram =>
    let s := { s with sfe := { s.sfe with hist := histogramOf (frameCodes frame) } }
    match e.req.client, s.bpl.work with
    | .bpl p, some w => if w.planner = p then s.emit (.attemptCompletion p w.attempt (m.getD 0)) else s
    | _, _ => s
  | .calwork n =>
    let s := if s.fst.isCalwork n && !r.noFrame then s.writeFrame n r.row frame else s
    s.emit (.calFrameComplete temp m)

/-- A histogram that was being filled is cleared (R120, R122). -/
def State.clearHistogram (s : State) (e : Exposing) : State :=
  match e.req.target with
  | .histogram => { s with sfe := { s.sfe with hist := Vector.replicate 64 0 } }
  | .slot _ _ | .calwork _ => s

/-- SFE acknowledges the quiesce at the end of a readout, flush or re-initialisation (R125). -/
def State.sfeSettled (s : State) : State := if s.sfe.quiesce then s.ack .sfe else s

/-- The readout of a frame completes (R119); a readout that was withdrawn, or runs under a quiesce, hands nothing
over. DESIGN CHOICE: the completion names no readout, so that a late one of a readout that has timed out (R120) is taken as
that of a later readout in progress (log entry 49). -/
def State.readoutDone (s : State) (frame : Runs Nat) : State :=
  match s.sfe.readout with
  | none => s
  | some r =>
    match r.kind with
    | .flush _ => s
    | .frame e m temp =>
      let s := if r.dropped || s.sfe.quiesce then s.clearHistogram e else s.handOver r e m temp frame
      ((s.endReadout).chooseNext).sfeSettled

/-- A flush completes (R118); of a late completion of a first flush, log entry 49. -/
def State.flushDone (s : State) : State :=
  match s.sfe.readout with
  | none => s
  | some r =>
    match r.kind with
    | .flush _ => ((s.endReadout).chooseNext).sfeSettled
    | .frame _ _ _ => s

/-! ## Readout failure (R118, R120, R121) -/

/-- A request held at an entry into FAULT, or at a failed re-initialisation, is refused back as a sensor failure
(R113, R124). -/
def State.refuseHeld (s : State) : State :=
  match s.sfe.held with
  | some h => (s.forgetHeld).reportFailure h.req.client
  | none => s

/-- SFE enters FAULT (R124). -/
def State.sensorFault (s : State) (c : SensorFault) : State :=
  ({ s with sfe := { s.sfe with state := .fault, cause := some c } }).sensorNotice.refuseHeld

/-- The retry report (R120): to PRC for a tile or the metering of a tile, and the go-ahead that BPL and CRU give at
once (R121). -/
def State.reportRetry (s : State) (c : ExposureClient) : State :=
  match c with
  | .prc t => s.emit (.retryReport t false)
  | .bpl (.prc t) => (s.emit (.retryReport t true)).emit .goAhead
  | .bpl (.cru _ _) | .cru => s.emit .goAhead

/-- The readout of a frame is abandoned: a tile's slot goes back to RESERVED, a histogram is cleared (R120). -/
def State.abandonReadout (s : State) (e : Exposing) : State :=
  let s := match e.req.target with
    | .slot n t => s.changeSlot n .exposingToReserved t
    | .calwork _ | .histogram => s
  (s.clearHistogram e).endReadout

/-- The first failure of a readout: the same request is held again with retry count 1 (R120). -/
def State.armRepeat (s : State) (e : Exposing) : State :=
  let s := s.abandonReadout e
  let s := { s with sfe := { s.sfe with held := some { req := e.req, retry := 1, cleared := false } } }
  (s.chooseNext).reportRetry e.req.client

/-- The readout timer expires (R118, R120, R121, R125). -/
def State.readoutExpired (s : State) : State :=
  match s.sfe.readout with
  | none => s
  | some r =>
    if s.sfe.quiesce then ((s.endReadout).sensorFault .readout).sfeSettled
    else match r.kind with
      | .flush k =>
        if k = 0 then { s with sfe := { s.sfe with readout := some { kind := .flush 1 } } }
        else (s.endReadout).sensorFault .readout
      | .frame e _ _ =>
        if r.dropped then
          { s.clearHistogram e with sfe := { (s.clearHistogram e).sfe with readout := some { kind := .flush 1 } } }
        else if e.retry = 0 then s.armRepeat e
        else ((s.abandonReadout e).reportFailure e.req.client).sensorFault .readout

/-! ## Sensor temperature (R123) -/

/-- What a set mark does to SFE's state. -/
def State.holdHot (s : State) : State :=
  match s.sfe.state with
  | .idle => { s with sfe := { s.sfe with state := .held } }
  | .armed => { s.withdrawAsks with sfe := { s.withdrawAsks.sfe with state := .held } }
  | .exposing | .reading | .held | .fault => s

/-- What a cleared mark does to SFE's state. -/
def State.releaseHot (s : State) : State :=
  match s.sfe.state with
  | .held => s.chooseNext
  | .idle | .armed | .exposing | .reading | .fault => s

/-- A sensor temperature sample (R123). -/
def State.sensorSample (s : State) (t : Int) : State :=
  let old := s.sfe.mark
  let new := hysteresis old t s.liu.params.sensorLimit s.liu.params.sensorHyst
  let s := { s with sfe := { s.sfe with temp := t, mark := new } }
  if new = old then s
  else if new then
    (({ s with liu := { s.liu with sticky := { s.liu.sticky with sensorHeldSeen := true } } }).holdHot).sensorNotice
  else s.releaseHot.sensorNotice

/-! ## Re-initialisation (R124) -/

/-- A request for re-initialisation; outside FAULT it is discarded. -/
def State.startReinit (s : State) : State :=
  if s.sfe.state = .fault then { s with sfe := { s.sfe with reinit := true } } else s

/-- The sensor answers (R124). -/
def State.reinitDone (s : State) : State :=
  if s.sfe.reinit then
    let s := { s with sfe := { s.sfe with reinit := false, cause := none } }
    ((s.chooseNext.sensorNotice).emit .reinitEndReport).sfeSettled
  else s

/-- The sensor has not answered after 2 s (R124). -/
def State.reinitFailed (s : State) : State :=
  if s.sfe.reinit then
    let s := { s with sfe := { s.sfe with reinit := false } }
    ((s.sensorFault .init).emit .reinitEndReport).sfeSettled
  else s

/-! ## Quiesce (R125) -/

/-- SFE quiesces from its state. A request held beside a readout or a re-initialisation, of which R125 does not speak, is
dropped at once too (log entry 34). -/
def State.sfeQuiesce (s : State) : State :=
  let s := { s with sfe := { s.sfe with quiesce := true } }
  match s.sfe.state, s.sfe.exposing with
  | .exposing, some e => s.cutShort e
  | .exposing, none | .idle, _ | .held, _ | .armed, _ => (s.endHeld).ack .sfe
  | .reading, _ => s.forgetHeld
  | .fault, _ =>
    let s := s.forgetHeld
    if s.sfe.reinit then s else s.ack .sfe

/-! ## The commands -/

/-- EXPOSURE_REQUEST (R113, R114). -/
def execExposureRequest (r : ExposureReq) (s : State) : Result :=
  .next ((s.deliver (.exposureRequest r)).exposureRequested r)

/-- LAMP_READY_GRANT (R114, R115). -/
def execLampReadyGrant (s : State) : Result := .next (s.deliver .lampReadyGrant).lampGranted

/-- INTERLOCK_GRANT (R114, R115). -/
def execInterlockGrant (s : State) : Result := .next (s.deliver .interlockGrant).stageGranted

/-- LAMP_LOST (R115, Table 7.2). -/
def execLampLost (s : State) : Result := .next (s.deliver .lampLost).lampLost

/-- LAMP_FAULT_REPORT (R115, R116). -/
def execLampFaultReport (s : State) : Result := .next (s.deliver .lampFaultReport).lampFaulted

/-- STAGE_FAULT_REPORT (R116, R139). -/
def execStageFaultReport (s : State) : Result := .next (s.deliver .stageFaultReport).stageFaulted

/-- GO_AHEAD (R121). -/
def execGoAhead (s : State) : Result := .next (s.deliver .goAhead).goneAhead

/-- EXPOSURE_WITHDRAW (R122). -/
def execExposureWithdraw (c : ExposureClient) (s : State) : Result :=
  .next ((s.deliver (.exposureWithdraw c)).exposureWithdrawn c)

/-- EXPOSURE_TIMER_EXPIRY (R117): `since` is the time in xu since the last monitor sample. -/
def execExposureTimerExpiry (since : Nat) (s : State) : Result := .next (s.exposureEnded since)

/-- READOUT_COMPLETION (R118, R119). -/
def execReadoutCompletion (frame : Runs Nat) (s : State) : Result := .next (s.readoutDone frame)

/-- READOUT_TIMEOUT (R118, R120, R121). -/
def execReadoutTimeout (s : State) : Result := .next s.readoutExpired

/-- FLUSH_COMPLETION (R118). -/
def execFlushCompletion (s : State) : Result := .next s.flushDone

/-- SENSOR_TEMP_SAMPLE (R123). -/
def execSensorTempSample (t : Int) (s : State) : Result := .next (s.sensorSample t)

/-- REINIT_REQUEST (R124). -/
def execReinitRequest (s : State) : Result := .next (s.deliver .reinitRequest).startReinit

/-- REINIT_COMPLETE (R124). -/
def execReinitComplete (s : State) : Result := .next s.reinitDone

/-- REINIT_TIMEOUT (R124). -/
def execReinitTimeout (s : State) : Result := .next s.reinitFailed

end Sys2Proof.Machine
end

