-- ==== Sys2Proof/Machine/Faults.lean ====
section
/-! DEFINITION. The events that take the lamp or the stage from an exposure in progress: entry into FAULT of BLU (R134)
and of TRS (R143), and what else ends SFE's stage interlock (R139, R145). SFE takes the report in the same event when it
is EXPOSING under the resource (R114, R116, R139); otherwise the report is a message to it. -/

namespace Sys2Proof.Machine

/-! ## Lamp faults (R127, R129, R134) -/

/-- Whether the exposure in progress is a lit one. -/
def Sfe.exposesLit (f : Sfe) : Bool :=
  match f.exposing with
  | some e => (match e.req.lamp with | .settled _ => true | .dark => false)
  | none => false

/-- BLU's FAULT report to SFE (R134): a lit exposure in progress is cut short at once (R114). -/
def State.reportLampFault (s : State) : State :=
  if s.sfe.exposesLit then s.lampFaulted else s.emit .lampFaultReport

/-- Entry into FAULT (R134). SFE has the FAULT report when BLU holds its ask or grant, when a lit exposure is in
progress (R114), and also when SFE holds a lit request that it has not begun, which R40 ends as cut short (log
entry 19). -/
def State.lampFault (s : State) (cause : LampFault) : State :=
  let report := s.blu.grant.isSome || s.blu.ask.isSome || s.sfe.wantsLight || s.sfe.exposesLit
  let s := { s with blu := { s.blu with
    state := .fault cause, requested := 0, commanded := 0, settleCount := 0, settleTimer := none, zeroCount := 0
    lit := 0, pendingDrive := none, ask := none, grant := none, driveChanged := false } }
  let s := if report then s.reportLampFault else s
  let s := ((s.emit (.backlightFault cause)).emit .calLampFault).lampNotice
  match cause with
  | .unstable => { s with liu := { s.liu with sticky := { s.liu.sticky with lampUnstable := true } } }
  | .noLight => s

/-- A monitor sample (R127, R129). -/
def State.sample (s : State) (v0 : Nat) : State :=
  let v := min v0 maxDrive
  let prev := (s.blu.history.head?).map (·.2)
  let s := { s with blu := s.blu.takeSample v }
  if s.blu.state.lit && decide (s.blu.commanded ≠ 0) && decide (v = 0) && decide (63 ≤ s.blu.zeroCount) then
    s.lampFault .noLight
  else
    let zeros := if s.blu.state.lit && decide (s.blu.commanded ≠ 0) && decide (v = 0) then s.blu.zeroCount + 1 else 0
    let s := { s with blu := { s.blu with zeroCount := zeros } }
    match settleGoal s.blu.state with
    | some goal =>
      let n := settleAfter s.blu.settleCount s.liu.params.settleTolerance v prev
      let s := { s with blu := { s.blu with settleCount := n } }
      if goal ≤ n then s.settleComplete else s
    | none => s.tryStandby

/-! ## The dark hold and its release (R133) -/

/-- A lit exposure in progress is cut short at the event that takes the lamp out of SETTLED (R114, R116). -/
def State.cutLit (s : State) : State :=
  match s.sfe.exposing with
  | some e => if e.req.lamp = .dark then s else s.faultCut e
  | none => s

/-- CRU asks for the dark hold (R133); a second one while DARK changes nothing. It takes the lamp out of SETTLED, so that
a lit exposure in progress is cut short in the same event (R114), which is all that SFE then has of the lamp lost. -/
def State.darkHold (s : State) : State := if s.blu.state = .dark then s else s.enterDark.cutLit

/-- BLU leaves DARK (R133). R133 is silent on five things that the release may find (log entry 34): a dark grant still
held, which the model drops without a report to SFE; a pending drive beside a remembered fault, which it drops; a lit ask
beside one, which stays and is not answered; the return to a remembered FAULT, of which the model sends PRC and CRU no
report, as R134's entry list does, since they had it when the fault arose; and the return to FAULT(UNSTABLE), which raises
the notice of an entry into FAULT and does not record LAMP_UNSTABLE again. -/
def State.leaveDark (s : State) : State :=
  match s.blu.remembered, s.blu.pendingDrive with
  | some c, _ =>
    ({ s with blu := { s.blu with
        state := .fault c, requested := 0, commanded := 0, remembered := none, pendingDrive := none
        grant := none } }).lampNotice
  | none, some d => ({ s with blu := { s.blu with pendingDrive := none, grant := none } }).enterWarming d
  | none, none => ({ s with blu := { s.blu with grant := none } }).enterStandby

/-- A dark frame in progress is cut short at the event that takes the lamp out of DARK (R114, R116). -/
def State.cutDark (s : State) : State :=
  match s.sfe.exposing with
  | some e => if e.req.lamp = .dark then s.faultCut e else s
  | none => s

/-- CRU releases the dark hold (R133); outside DARK the release is discarded. What R133 leaves open at the release, the
return to a remembered FAULT(UNSTABLE) among it, stands at `leaveDark` (log entry 34); of a release taken before its hold
or late, log entries 51 and 56. -/
def State.darkRelease (s : State) : State := if s.blu.state ≠ .dark then s else s.leaveDark.cutDark

/-! ## The end of the stage interlock by TRS (R139, R143) -/

/-- Whether the exposure in progress needs the stage at rest. -/
def Sfe.exposesStage (f : Sfe) : Bool :=
  match f.exposing with
  | some e => e.req.stage
  | none => false

/-- A held ask or a grant ends with a fault report to SFE (R139, R143); under the grant the report cuts the exposure in
progress short at once (R114, R139). -/
def State.endInterlock (s : State) : State :=
  match s.trs.interlock with
  | .none => s
  | .asked => ({ s with trs := { s.trs with interlock := .none } }).emit .stageFaultReport
  | .granted | .grantedAsked =>
    let s := { s with trs := { s.trs with interlock := .none } }
    if s.sfe.exposesStage then s.stageFaulted else s.emit .stageFaultReport

/-- Whether TRS is carrying out HOME. -/
def TrsState.inHome : TrsState → Bool
  | .homing _ | .homingStopped _ => true
  | .unhomed | .empty | .loading | .atRest | .moving | .settling | .unloading | .fault _ => false

/-- Whether PRC is told of a fault of TRS (R143 point 3): its own request is in progress, or none is and a job is
active. R37 has it told of a fault in HOME, and R96 of one in a flat calibration. -/
def State.faultToPrc (s : State) : Bool :=
  s.trs.work.isSome || s.trs.state.inHome || s.prc.active.isSome || s.cru.flatRunning

/-- Whether CRU is told of a fault of TRS (R143 point 3): its own request is in progress, or none is and a flat
calibration is, or its load is held in HOMING (R140). -/
def State.faultToCru (s : State) : Bool :=
  match s.trs.work with
  | some w => decide (w.client = .cru)
  | none => s.cru.flatRunning || s.trs.heldLoad.isSome

/-- Entry into FAULT (R143). -/
def State.trsFault (s : State) (cause : TrsFault) (seen : Bool) : State :=
  let toPrc := s.faultToPrc
  let toCru := s.faultToCru
  let s := { s with trs := { s.trs.settleRecord cause seen with
    state := .fault cause, pos := .unknown, motionTimer := none, settleTimer := none, work := none
    pendingMotion := none, heldLoad := none } }
  let s := s.endInterlock
  let s := if toPrc then s.emit .transportFault else s
  let s := if toCru then s.emit (.calTransportFault .fault) else s
  let s := s.transportNotice false
  if s.trs.quiesce then s.ack .trs else s

/-- The load leg ends (R140). DESIGN CHOICE: a leg's completion names no leg, so that a late one of a leg that has timed out
(R143) is taken as that of a new leg of the same kind (log entry 49). -/
def State.loadLegDone (s : State) (seen : Bool) : State :=
  match s.trs.state, s.trs.work with
  | .loading, some (.load c p) =>
    if seen then
      let t := (s.trs.setEntry p .out).endLeg
      let s := { s with trs := { t with state := .atRest, stage := .carrier p, pos := .transfer } }
      ((s.reportLoad c).tryInterlock).trsSettled
    else s.trsFault .noCarrierSeen false
  | _, _ => s

/-- The unload leg ends (R142); of a late completion of an earlier leg, log entry 49. -/
def State.unloadLegDone (s : State) : State :=
  match s.trs.state, s.trs.work with
  | .unloading, some (.unload c) =>
    let s := { s with trs := { s.trs.returnCarrier.endLeg with state := .empty, pos := .transfer } }
    (((s.endInterlock).transportNotice false).reportUnload c).trsSettled
  | _, _ => s

/-- HOME starts: an interlock ask or grant ends with a fault report, since SFE's ask is answered so in HOMING (R139),
a pending motion is dropped, and the first leg runs (R145). Where that is the axis leg, the TRANSPORT_STATE notice of the
entry carries the homed mark cleared (log entry 34). -/
def State.startHome (s : State) : State :=
  let s := ({ s with trs := { s.trs with pendingMotion := none, work := none, settleTimer := none } }).endInterlock
  if s.trs.stage.known then
    ({ s with trs := { s.trs with
        state := .homing .unload, motionTimer := some s.liu.params.motionTimeoutMs } }).transportNotice false
  else s.startAxis.transportNotice false

/-- The motion timer expires (R143, R145): `seen` is the presence sensor, `scanned` the positions already read when
it expires in the scan leg. -/
def State.motionExpired (s : State) (seen : Bool) (scanned : List (Nat × Bool)) : State :=
  match s.trs.motionTimer with
  | none => s
  | some _ =>
    let s := match s.trs.state with
      | .homing .scan => { s with trs := s.trs.scanEntries scanned }
      | _ => s
    s.trsFault .timeout seen

/-! ## The commands -/

/-- MONITOR_SAMPLE (R127, R129). -/
def execMonitorSample (v : Nat) (s : State) : Result := .next (s.sample v)

/-- LAMP_SETTLE_TIMEOUT (R129): an expiry of a timer that does not run is not taken. -/
def execLampSettleTimeout (s : State) : Result :=
  .next (if s.blu.settleTimer.isSome then s.lampFault .unstable else s)

/-- DARK_HOLD (R133). -/
def execDarkHold (s : State) : Result := .next (s.deliver .darkHold).darkHold

/-- DARK_HOLD_RELEASE (R133). -/
def execDarkHoldRelease (s : State) : Result := .next (s.deliver .darkHoldRelease).darkRelease

/-- LOAD_LEG_COMPLETION (R140). -/
def execLoadLegCompletion (seen : Bool) (s : State) : Result := .next (s.loadLegDone seen)

/-- UNLOAD_LEG_COMPLETION (R142). -/
def execUnloadLegCompletion (s : State) : Result := .next s.unloadLegDone

/-- MOTION_TIMEOUT (R143, R145). -/
def execMotionTimeout (seen : Bool) (scanned : List (Nat × Bool)) (s : State) : Result :=
  .next (s.motionExpired seen scanned)

/-- LOST_CARRIER (R144): the sensor is watched in AT_REST, MOVING and SETTLING only. -/
def execLostCarrier (s : State) : Result :=
  .next (match s.trs.state with
    | .atRest | .moving | .settling => s.trsFault .lostCarrier false
    | .unhomed | .homing _ | .homingStopped _ | .empty | .loading | .unloading | .fault _ => s)

end Sys2Proof.Machine
end

