-- ==== Sys2Proof/Machine/Output.lean ====
section
/-! DEFINITION. The stripe output unit (chapter 10, R156 to R159): the output queue, credits, stripes, abandonment and
detach. -/

namespace Sys2Proof.Machine

/-! ## Stripes (R156) -/

/-- The column of a tile in the output grid (R8): mirrored under EMULSION_SIDE. -/
def Job.outCol (j : Job) (col : Nat) : Nat :=
  match j.view with
  | .glassSide => col
  | .emulsionSide => j.cols - 1 - col

/-- The header of a stripe (Table 10.5), with the tile's flags as they stand. -/
def stripeHeader (j : Job) (x : Tile) (index : Nat) (restart : Bool) : StripeHeader :=
  { job := j.id, row := x.row, outCol := j.outCol x.col, seq := x.seq, index := index, encoding := j.encoding
    cols := j.cols, rows := j.rows, last := decide (index = 59), restart := restart, view := j.view
    flags := x.flags }

/-- Whether SOU may start a stripe (R156), apart from the head tile itself. -/
def State.stripeReady (s : State) : Bool :=
  decide (s.sou.transfer = none) && decide (0 < s.sou.credits) && s.liu.attached && !s.sou.quiesce

/-- The first stripe of a tile turns its slot to STREAMING, and PRC moves the tile to SENDING (R107, R156). -/
def State.startTile (s : State) (e : OutEntry) : State :=
  if s.sou.started then s
  else
    let s := (s.changeSlot e.slot .mergedToStreaming e.tile).moveTile e.tile .sending
    { s with sou := { s.sou with started := true } }

/-- The start of a stripe, in one event (R156). -/
def State.startStripe (s : State) (e : OutEntry) (j : Job) (x : Tile) : State :=
  let s := s.startTile e
  { s with sou := { s.sou with
      credits := s.sou.credits - 1, restart := false
      transfer := some (stripeHeader j x s.sou.index s.sou.restart) } }

/-- SOU looks at its conditions and starts the next stripe when they hold (R156). -/
def State.tryStripe (s : State) : State :=
  if s.stripeReady then
    match s.sou.queue with
    | [] => s
    | e :: _ =>
      match s.prc.job? e.tile.job, s.prc.tile? e.tile with
      | some j, some x => s.startStripe e j x
      | _, _ => s
  else s

/-- The head of the output queue leaves; the index is 0 for the next tile. -/
def Sou.dropFirst (q : Sou) : Sou :=
  { q with queue := q.queue.drop 1, index := 0, started := false, dropHead := false, restart := false }

/-- The head tile leaves the output queue and its STREAMING slot goes to FREE (R107). -/
def State.removeHead (s : State) : State :=
  match s.sou.queue with
  | [] => s
  | e :: _ => ({ s with sou := s.sou.dropFirst }).changeSlot e.slot .streamingToFree e.tile

/-- The 64 rows of a stripe as they stand in a slot. -/
def Fst.stripeRows (f : Fst) (slot index : Nat) : Runs Nat :=
  runsSlice (index * bandPixels) bandPixels (f.plane slot)

/-- What SOU reads of a slot for a stripe: nothing when the port refuses the read (R110). -/
def Fst.readStripe (f : Fst) (slot index : Nat) : Runs Nat :=
  if f.portAllows .sou false false slot then f.stripeRows slot index else []

/-- The host has taken a whole stripe (R156, R158). When PRC has abandoned the tile and SOU takes the LAST stripe's end before
SOU_ABANDON, R158 goes by SOU's order (SENT) and R35 and R36 by PRC's (ABANDONED): the model leaves the tile ABANDONED, since
`endTile` changes no tile in an end state; and the end goes to the tile of the same number where the tile's record was
released and its id submitted anew (R10): log entry 38. -/
def State.stripeTaken (s : State) : State :=
  match s.sou.transfer, s.sou.queue with
  | some h, e :: _ =>
    let taken : Stripe := { header := h, payload := s.fst.readStripe e.slot h.index }
    let s := { s with sou := { s.sou with transfer := none, taken := some taken } }
    let s :=
      if s.sou.dropHead then s.removeHead
      else if h.index = 59 then (s.removeHead.endTile e.tile true).drainJob e.tile.job
      else { s with sou := { s.sou with index := s.sou.index + 1 } }
    if s.sou.quiesce then s.ack .sou else s.tryStripe
  | _, _ => s

/-! ## Abandonment (R158) -/

/-- Whether a tile is the head of the output queue. -/
def Sou.isHead (q : Sou) (t : TileRef) : Bool :=
  match q.queue with
  | e :: _ => decide (e.tile = t)
  | [] => false

/-- PRC abandons a tile at SOU (R158). -/
def State.souAbandoned (s : State) (t : TileRef) : State :=
  if s.sou.isHead t && s.sou.started then
    if s.sou.transfer.isSome then { s with sou := { s.sou with dropHead := true, restart := false } }
    else s.removeHead.tryStripe
  else
    match s.sou.queue.find? fun e => decide (e.tile = t) with
    | none => s
    | some e =>
      let restart := if s.sou.isHead t then false else s.sou.restart
      let s := { s with sou := { s.sou with
        queue := s.sou.queue.filter fun x => decide (x.tile ≠ t), restart := restart } }
      (s.changeSlot e.slot .mergedToFree t).tryStripe

/-! ## Credits, detach, quiesce (R157, R159, R160) -/

/-- GRANT_STRIPES (R157); the reply carries the counter as the grant leaves it. -/
def State.grantStripes (s : State) (n : Nat) : Answer :=
  if n = 0 ∨ creditCapacity < n then .refuse s .badArg
  else
    let c := min creditCapacity (s.sou.credits + n)
    { state := ({ s with sou := { s.sou with credits := c } }).tryStripe
      status := if s.sou.credits + n ≤ creditCapacity then .ok else .clamped
      body := .grant (c - s.sou.credits) c }

/-- SOU at a detach (R159): credits go to 0 and a stripe in transfer is taken as not sent. A head tile that waited only
for that stripe's end leaves at once; under a quiesce SOU acknowledges. -/
def State.souDetach (s : State) : State :=
  match s.sou.transfer with
  | none => { s with sou := { s.sou with credits := 0 } }
  | some _ =>
    let s := { s with sou := { s.sou with credits := 0, transfer := none, restart := true } }
    let s := if s.sou.dropHead then s.removeHead else s
    if s.sou.quiesce then s.ack .sou else s

/-- SOU quiesces (R160): it acknowledges at once unless a stripe is in transfer. -/
def State.souQuiesce (s : State) : State :=
  let s := { s with sou := { s.sou with quiesce := true } }
  if s.sou.transfer = none then s.ack .sou else s

/-! ## The commands -/

/-- GRANT_STRIPES (R157). -/
def execGrantStripes (h : Hdr) (n : Nat) (s : State) : Result :=
  .next (command h .grantStripes (fun s => s.grantStripes n) s)

/-- STRIPE_START (R156). -/
def execStripeStart (s : State) : Result := .next (s.deliver .stripeStart).tryStripe

/-- STRIPE_END (R156, R158). -/
def execStripeEnd (s : State) : Result := .next s.stripeTaken

/-- SOU_ABANDON (R158). -/
def execSouAbandon (tile : TileRef) (s : State) : Result :=
  .next ((s.deliver (.souAbandon tile)).souAbandoned tile)

end Sys2Proof.Machine
end

