-- ==== Sys2Proof/Machine/Merge.lean ====
section
/-! DEFINITION. The bracket merge engine (chapter 4): the merge queue, band work, the merge completion, abandonment,
calibration mode and quiesce. -/

namespace Sys2Proof.Machine

/-! ## Take-up (R60, R61) -/

/-- The reference slots and L_clear of a profile in force; a profile number above 3 names none. -/
def Cru.profile (c : Cru) (p : Nat) : Profile := (c.profiles[p]?).getD {}

/-- The destination slot of a tile at its take-up: its RESERVED slot, the highest if it should hold several (R60). -/
def Fst.destOf (f : Fst) (t : TileRef) : Option Nat := (f.slotsWhere fun x => decide (x = .reserved t)).getLast?

/-- The exposures of a tile record as the merge uses them (R60). -/
def Tile.mergeExposures (x : Tile) : List MergeExposure :=
  x.exposures.map fun e => { time := e.time, m := e.m, slot := e.slot }

/-- The merge context of a tile, fixed at its take-up (R60). -/
def State.mergeCtx (s : State) (t : TileRef) : MergeCtx :=
  let job := s.prc.job? t.job
  let prof : Profile := match job with
    | some j => s.cru.profile j.profile
    | none => {}
  { exposures := match s.prc.tile? t with
      | some x => x.mergeExposures
      | none => []
    dest := s.fst.destOf t
    bias := s.cru.dark.biasSlot, rate := s.cru.dark.rateSlot, flat := prof.flatSlot, lClear := prof.lClear
    encoding := match job with
      | some j => j.encoding
      | none => .density16
    view := match job with
      | some j => j.view
      | none => .glassSide
    satCode := s.liu.params.satCode, rounding := s.liu.params.roundingMode, weights := s.liu.weights }

/-- BME takes up the head of its queue when it is IDLE and its quiesce mark is clear (R60). -/
def State.takeUp (s : State) : State :=
  match s.bme.queue with
  | [] => s
  | t :: rest =>
    if s.bme.state = .idle ∧ s.bme.quiesce = false then
      let ctx := s.mergeCtx t
      let s := { s with bme := { s.bme with
        state := .merging, queue := rest, merge := some { tile := t, ctx := ctx, band := 0, acc := {} } } }
      let s := match ctx.dest with
        | some d => s.changeSlot d .reservedToDest t
        | none => s
      s.moveTile t .merging
    else s

/-- PRC appends an EXPOSED tile to the merge queue (R59); an IDLE BME takes it up at once. -/
def State.mergeAppend (s : State) (t : TileRef) : State :=
  ({ s with bme := { s.bme with queue := s.bme.queue ++ [t] } }).takeUp

/-- BME returns to IDLE: it takes up the next head, and a waiting CRU tests (R60, R86). -/
def State.bmeIdle (s : State) : State :=
  ({ s with bme := { s.bme with state := .idle, merge := none, cal := none } }).takeUp.cruTest

/-! ## One band of a merge (R62) -/

/-- The rows of a band in a slot's plane. -/
def Fst.band (f : Fst) (slot b : Nat) : Runs Nat := runsFit bandPixels 0 (f.stripeRows slot b)

/-- The rows of a band of a reference; free values where the context names no slot. -/
def Fst.refBand (f : Fst) (slot : Option Nat) (b : Nat) : Runs Nat :=
  match slot with
  | some n => f.band n b
  | none => [(bandPixels, clip16 Config.missingReference)]

/-- One pixel of the merge from its values: bias, rate, gain, then the raw codes. -/
def mergeValues (ctx : MergeCtx) : List Nat → PixelOut
  | b :: q :: g :: codes => mergePixel ctx { bias := b, rate := q, gain := g } codes
  | _ => mergePixel ctx { bias := 0, rate := 0, gain := 0 } []

/-- The pixels of a band in sensor order (R62). -/
def Fst.mergeBand (f : Fst) (ctx : MergeCtx) (b : Nat) : Runs PixelOut :=
  runsMap (mergeValues ctx) (runsAlign bandPixels
    (f.refBand ctx.bias b :: f.refBand ctx.rate b :: f.refBand ctx.flat b
      :: ctx.exposures.map fun e => f.band e.slot b))

/-- The codes of a band in output order: mirrored left to right under EMULSION_SIDE (R62). -/
def bandCodes (view : View) (band : Runs PixelOut) : Runs Nat :=
  let codes := runsMap (·.code) band
  match view with
  | .glassSide => codes
  | .emulsionSide => mirrorRows bandRows codes

/-- The slots that a band of a merge reads (R62). -/
def MergeCtx.reads (ctx : MergeCtx) : List Nat :=
  [ctx.bias, ctx.rate, ctx.flat].filterMap id ++ ctx.exposures.map (·.slot)

/-- Whether the port lets BME read every slot of a list (R110, Table 6.3). -/
def Fst.bmeReads (f : Fst) (cal : Bool) (l : List Nat) : Bool := l.all (f.portAllows .bme false cal)

/-- The band in progress is written to the destination, which the port allows while it is DEST, and added to the
accumulators (R76). A band of which the port refuses a read writes and adds nothing (R110, log entry 35). -/
def State.mergeBandDone (s : State) (w : MergeWork) : State × MergeWork :=
  let next := { w with band := w.band + 1 }
  if s.fst.bmeReads false w.ctx.reads then
    let out := s.fst.mergeBand w.ctx w.band
    let s := match w.ctx.dest with
      | some d =>
        if s.fst.portAllows .bme true false d then
          { s with fst := s.fst.write d (w.band * bandPixels) (bandCodes w.ctx.view out) }
        else s
      | none => s
    (s, { next with acc := w.acc.addRuns out })
  else (s, next)

/-- Whether a tile's record may still change: its job is in the table and not finished (R9). -/
def Prc.recordOpen (p : Prc) (t : TileRef) : Bool :=
  match p.job? t.job with
  | some j => !j.state.finished
  | none => false

/-- The statistics, and LIMIT when the limit count is above 0, go into the tile record, and the tile is MERGED (R63).
A tile whose abandonment reaches BME after the completion has its statistics too (R65), but a finished record changes
no further (R9, log entry 12). Where that record has been released meanwhile and its id submitted anew (R10), the rules say
nothing of a completion that comes before BME_ABANDON is taken: the model applies it to the tile of the same number in the
new record (log entry 38). -/
def State.reportMerge (s : State) (w : MergeWork) : State :=
  if s.prc.recordOpen w.tile then
    let s := s.mapTile w.tile fun x =>
      { x with stats := some w.acc, flags := { x.flags with limit := x.flags.limit || decide (0 < w.acc.limit) } }
    s.moveTile w.tile .merged
  else s

/-- The tile joins the output queue under its MERGED slot, and SOU looks at its conditions (R63, R156). -/
def State.outAppend (s : State) (w : MergeWork) : State :=
  match w.ctx.dest with
  | some d => ({ s with sou := { s.sou with queue := s.sou.queue ++ [(⟨w.tile, d⟩ : OutEntry)] } }).tryStripe
  | none => s

/-- The slots of a merged tile: RAW to FREE and DEST to MERGED (R63, R106). -/
def Fst.mergeDone (f : Fst) (t : TileRef) : Fst :=
  (f.setSlots (f.slotsWhere fun x => decide (x = .raw t)) .free).setSlots
    (f.slotsWhere fun x => decide (x = .dest t)) (.merged t)

/-- The merge completion, in one event (R63). The frees count toward the admission wait within it, before a waiting
CRU tests (R86, R102). -/
def State.mergeDone (s : State) (w : MergeWork) : State :=
  let s := { s with fst := s.fst.mergeDone w.tile }
  (((s.reportMerge w).outAppend w).grantWait).bmeIdle

/-- The end of a band of an abandoned merge: the slots go to FREE and nothing is reported (R65). -/
def State.mergeAbandoned (s : State) (t : TileRef) : State :=
  let s := { s with bme := { s.bme with state := .idle, merge := none } }
  ((s.freeSlots (s.fst.mergeSlots t)).takeUp).cruTest

/-- BME discards its work under a quiesce and acknowledges (R66). -/
def State.bmeDiscard (s : State) : State :=
  ({ s with bme := { s.bme with state := .idle, merge := none, cal := none } }).ack .bme

/-! ## One band of a calibration operation (R78 to R80) -/

/-- Write into a slot that is CALWORK; the port refuses any other (R110). -/
def Fst.writeCal (f : Fst) (slot start : Nat) (new : Runs Nat) : Fst :=
  if f.isCalwork slot then f.write slot start new else f

/-- The sums of a band: the two halves of the work plane joined. -/
def Fst.sumBand (f : Fst) (c : CalWork) : Runs Nat :=
  runsMap (fun v => v.1 + 65536 * v.2) (runsZip (f.band c.low c.band) (f.band c.high c.band))

/-- Write the sums of a band back into the two halves. -/
def Fst.writeSums (f : Fst) (c : CalWork) (sums : Runs Nat) : Fst :=
  let start := c.band * bandPixels
  (f.writeCal c.low start (runsMap (fun v => clip32 v % 65536) sums)).writeCal c.high start
    (runsMap (fun v => clip32 v / 65536) sums)

/-- One pixel of an accumulation: sum, raw code, bias, rate (R78). -/
def accumulated (kind : AccKind) : List Nat → Nat
  | [sum, c, b, q] => sum + accTerm kind c b q
  | _ => 0

/-- One band of an accumulation (R78), with the bias and rate references in force. -/
def Fst.accBand (f : Fst) (dark : DarkEntry) (c : CalWork) (slot : Nat) (kind : AccKind) : Fst :=
  f.writeSums c (runsMap (accumulated kind) (runsAlign bandPixels
    [f.sumBand c, f.band slot c.band, f.refBand dark.biasSlot c.band, f.refBand dark.rateSlot c.band]))

/-- The slots that a band of an operation reads (R78 to R80). -/
def CalWork.reads (c : CalWork) (dark : DarkEntry) : List Nat :=
  match c.op with
  | none | some .clear => []
  | some (.accumulate slot .raw) => [c.low, c.high, slot]
  | some (.accumulate slot (.darkCorrected _)) =>
    [c.low, c.high, slot] ++ [dark.biasSlot, dark.rateSlot].filterMap id
  | some (.biasFinish _) | some (.flatMean _) => [c.low, c.high]
  | some (.rateFinish _ b _) => [c.low, c.high, b]
  | some (.flatGain r _ _) => [r]

/-- One band of an operation whose reads the port carries out: the frame store and the work after it. -/
def Fst.calBandRead (f : Fst) (dark : DarkEntry) (c : CalWork) : Fst × CalWork :=
  let start := c.band * bandPixels
  let c' := { c with band := c.band + 1 }
  match c.op with
  | none => (f, c)
  | some (.accumulate slot kind) => (f.accBand dark c slot kind, c')
  | some .clear => (f.writeSums c [(bandPixels, 0)], c')
  | some (.biasFinish r) =>
    let out := runsMap meanOf16 (f.sumBand c)
    (f.writeCal r start out, { c' with total := c.total + runsSum id out })
  | some (.rateFinish t b r) =>
    (f.writeCal r start (runsMap (fun v => ratePixel t v.1 v.2) (runsZip (f.sumBand c) (f.band b c.band))), c')
  | some (.flatMean r) =>
    let out := runsMap meanOf16 (f.sumBand c)
    (f.writeCal r start out, { c' with total := c.total + runsSum id out })
  | some (.flatGain r mean _) =>
    let mu := f.band r c.band
    (f.writeCal r start (runsMap (gainPixel mean) mu),
      { c' with defects := c.defects + runsSum (fun v => if gainDefect mean v then 1 else 0) mu })

/-- One band of an operation. One of which the port refuses a read writes and adds nothing (R110, log entry 35). -/
def Fst.calBand (f : Fst) (dark : DarkEntry) (c : CalWork) : Fst × CalWork :=
  if f.bmeReads true (c.reads dark) then f.calBandRead dark c else (f, { c with band := c.band + 1 })

/-- What BME reports to CRU at the end of an operation (R78 to R81). -/
def CalWork.report (c : CalWork) : Option Instr :=
  match c.op with
  | none => none
  | some (.accumulate _ _) => some .accumulationComplete
  | some .clear => some .clearComplete
  | some (.biasFinish _) => some (.biasFinishComplete (tileMean c.total))
  | some (.rateFinish _ _ _) => some .rateFinishComplete
  | some (.flatMean _) => some (.flatMeanComplete (tileMean c.total))
  | some (.flatGain _ _ y) => some (.flatGainComplete c.defects (logValue y))

/-- An operation has done its last band: BME reports it and goes back to CAL_READY. -/
def State.calOpDone (s : State) (c : CalWork) : State :=
  let s := { s with bme := { s.bme with
    state := .calReady, cal := some { c with op := none, band := 0, total := 0, defects := 0 } } }
  match c.report with
  | some r => s.emit r
  | none => s

/-- A band completion in CAL_BUSY (R66, R78 to R80, R82). -/
def State.calBandDone (s : State) (c : CalWork) : State :=
  let r := s.fst.calBand s.cru.dark c
  let s := { s with fst := r.1 }
  if s.bme.quiesce then s.bmeDiscard
  else if c.released then s.bmeIdle
  else if r.2.band < bandCount then { s with bme := { s.bme with cal := some r.2 } }
  else s.calOpDone r.2

/-- A band completion in MERGING (R62, R63, R66). -/
def State.mergingBandDone (s : State) (w : MergeWork) : State :=
  let r := s.mergeBandDone w
  let s := r.1
  if s.bme.quiesce then s.bmeDiscard
  else if r.2.band < bandCount then { s with bme := { s.bme with merge := some r.2 } }
  else s.mergeDone r.2

/-- A band completion in ABANDONING (R65, R66). -/
def State.abandoningBandDone (s : State) (w : MergeWork) : State :=
  let s := (s.mergeBandDone w).1
  if s.bme.quiesce then s.bmeDiscard else s.mergeAbandoned w.tile

/-- A band completion (R62, R63, R65, R66, R78 to R82). -/
def State.bandDone (s : State) : State :=
  match s.bme.state, s.bme.merge, s.bme.cal with
  | .merging, some w, _ => s.mergingBandDone w
  | .abandoning, some w, _ => s.abandoningBandDone w
  | .calBusy, _, some c => s.calBandDone c
  | _, _, _ => s

/-! ## Abandonment (R64, R65) -/

/-- PRC abandons a tile at BME. A tile that BME no longer has was MERGED meanwhile: its abandonment is SOU's (R64,
log entry 12). -/
def State.bmeAbandoned (s : State) (t : TileRef) : State :=
  if t ∈ s.bme.queue then
    let s := { s with bme := { s.bme with queue := s.bme.queue.filter fun x => decide (x ≠ t) } }
    if s.bme.quiesce then s else s.freeSlots (s.fst.mergeSlots t)
  else match s.bme.merge with
    | some w =>
      if w.tile = t then { s with bme := { s.bme with state := .abandoning } } else s.emit (.souAbandon t)
    | none => s.emit (.souAbandon t)

/-! ## Calibration requests (R77 to R80, R82) -/

/-- A CALWORK slot's plane is set to zeros (R77). -/
def Fst.blank (f : Fst) (slot : Nat) : Fst :=
  if f.isCalwork slot then { f with planes := f.planes.setIfInBounds slot blankPlane } else f

/-- A calibration work request (R77). -/
def State.calWorkAsked (s : State) (low high : Nat) : State :=
  if s.bme.free then
    ({ s with
        fst := (s.fst.blank low).blank high
        bme := { s.bme with state := .calReady, cal := some { low := low, high := high } } }).emit
      (.calWorkAccepted true low high)
  else s.emit (.calWorkAccepted false low high)

/-- An operation is taken in CAL_READY; in any other state it is refused and changes nothing (R78, R82). -/
def State.calOp (s : State) (op : CalOp) : State :=
  match s.bme.state, s.bme.cal with
  | .calReady, some c =>
    if s.bme.quiesce then s
    else { s with bme := { s.bme with
      state := .calBusy, cal := some { c with op := some op, band := 0, total := 0, defects := 0 } } }
  | _, _ => s

/-- CRU ends calibration work (R82); of a release taken late, log entry 56. -/
def State.calReleased (s : State) : State :=
  match s.bme.state, s.bme.cal with
  | .calReady, _ => s.bmeIdle
  | .calBusy, some c => { s with bme := { s.bme with cal := some { c with released := true } } }
  | _, _ => s

/-- BME quiesces (R66). -/
def State.bmeQuiesce (s : State) : State :=
  let s := { s with bme := { s.bme with quiesce := true } }
  match s.bme.state with
  | .idle | .calReady => s.ack .bme
  | .merging | .abandoning | .calBusy => s

/-! ## The commands -/

/-- MERGE_TAKE_UP (R60). -/
def execMergeTakeUp (s : State) : Result := .next (s.deliver .mergeTakeUp).takeUp

/-- BAND_COMPLETION (R62, R63, R65, R66, R78 to R82). -/
def execBandCompletion (s : State) : Result := .next s.bandDone

/-- BME_ABANDON (R64, R65). -/
def execBmeAbandon (tile : TileRef) (s : State) : Result :=
  .next ((s.deliver (.bmeAbandon tile)).bmeAbandoned tile)

/-- CAL_WORK_REQUEST (R77). -/
def execCalWorkRequest (low high : Nat) (s : State) : Result :=
  .next ((s.deliver (.calWorkRequest low high)).calWorkAsked low high)

/-- ACCUMULATE_REQUEST (R78). -/
def execAccumulateRequest (slot : Nat) (kind : AccKind) (s : State) : Result :=
  .next ((s.deliver (.accumulateRequest slot kind)).calOp (.accumulate slot kind))

/-- BIAS_FINISH (R79). -/
def execBiasFinish (result : Nat) (s : State) : Result :=
  .next ((s.deliver (.biasFinish result)).calOp (.biasFinish result))

/-- RATE_FINISH (R79). -/
def execRateFinish (time biasSlot result : Nat) (s : State) : Result :=
  .next ((s.deliver (.rateFinish time biasSlot result)).calOp (.rateFinish time biasSlot result))

/-- WORK_CLEAR (R79). -/
def execWorkClear (s : State) : Result := .next ((s.deliver .workClear).calOp .clear)

/-- FLAT_MEAN (R80). -/
def execFlatMean (result : Nat) (s : State) : Result :=
  .next ((s.deliver (.flatMean result)).calOp (.flatMean result))

/-- FLAT_GAIN (R80, R81). -/
def execFlatGain (result mean yClear : Nat) (s : State) : Result :=
  .next ((s.deliver (.flatGain result mean yClear)).calOp (.flatGain result mean yClear))

/-- CAL_RELEASE (R82). -/
def execCalRelease (s : State) : Result := .next (s.deliver .calRelease).calReleased

end Sys2Proof.Machine
end

