-- ==== Sys2Proof/Machine/RunOps.lean ====
section
/-! DEFINITION. What the plate run controller does from more than one event (chapter 2): starting a plate, the tile
cycle, the hold point, unloads, abandonment, and the end of a job by a fault. -/

namespace Sys2Proof.Machine

/-! ## Tiles of the active job -/

/-- The name of a tile of a job. -/
def Job.ref (j : Job) (x : Tile) : TileRef := { job := j.id, seq := x.seq }

/-- The first tile of the active job, in sequence order, that satisfies a test. -/
def Prc.firstTile (p : Prc) (f : Tile → Bool) : Option TileRef :=
  p.activeJob?.bind fun j => (j.tiles.find? f).map j.ref

/-- Whether a tile is in the tile cycle: POSITIONING to EXPOSING. -/
def TileState.inCycle : TileState → Bool
  | .positioning | .metering | .planned | .exposing => true
  | .masked | .pending | .exposed | .merging | .merged | .sending | .sent | .abandoned => false

/-- The length of a tile's plan. -/
def Tile.planLength (x : Tile) : Nat :=
  match x.plan with
  | some l => l.length
  | none => 0

/-- Whether a tile is EXPOSING with exposures still to take. -/
def Tile.unexposed (x : Tile) : Bool := decide (x.state = .exposing) && decide (x.exposures.length < x.planLength)

/-! ## Requests to the helpers -/

/-- PRC asks TRS for an unload; none other is outstanding. -/
def State.issueUnload (s : State) (k : TrsRequest) : State :=
  ({ s with prc := { s.prc with trsReq := some k, unloadNext := none } }).emit (.unloadRequest .prc true)

/-- PRC asks TRS for an unload at once, or puts it off to the end of the load or move in progress (R35, R39). -/
def State.askUnload (s : State) (k : TrsRequest) : State :=
  match s.prc.trsReq with
  | none => s.issueUnload k
  | some .unload | some .recovery => s
  | some .load | some (.move _) | some (.moveBack _) => { s with prc := { s.prc with unloadNext := some k } }

/-- PRC asks TRS to move the stage to a tile's centre (R22, R27). -/
def State.askMove (s : State) (x : Tile) (k : TrsRequest) : State :=
  ({ s with prc := { s.prc with trsReq := some k } }).emit (.moveRequest .prc (.point x.cx x.cy))

/-- PRC begins a tile (R22). -/
def State.beginTile (s : State) (t : TileRef) : State :=
  match s.prc.tile? t with
  | some x => (s.moveTile t .positioning).askMove x (.move t.seq)
  | none => s

/-- PRC begins the next PENDING tile of the active job in sequence order, if there is one (R22, R26). -/
def State.beginNext (s : State) : State :=
  match s.prc.firstTile fun x => decide (x.state = .pending) with
  | some t => s.beginTile t
  | none => s

/-- Whether a calibration holds plan and exposure requests back (R87). -/
def State.calibrating (s : State) : Bool := decide (s.cru.state ≠ .idle)

/-- What planning a tile anew clears (R11). The spec names no transition for a PLANNED tile that is planned again, also
under FIXED: the model puts it back to METERING (log entry 32). -/
def Tile.unplan (x : Tile) : Tile :=
  { x with state := .metering, attempts := 0, plan := none, flags := x.flags.clearPlanning }

/-- PRC asks BPL for a tile's plan (R22, R33), unless a calibration holds the request back (R87). -/
def State.issuePlan (s : State) (t : TileRef) : State :=
  if s.calibrating then s
  else ({ s with prc := { s.prc with planReq := some t } }).emit (.planRequest (.prc t))

/-- The lowest-numbered RESERVED slot of a tile (R25). -/
def Fst.lowestReserved (f : Fst) (t : TileRef) : Option Nat := (f.slotsWhere fun x => decide (x = .reserved t)).head?

/-- The exposure request of a tile for a realised plan entry (R25). -/
def tileRequest (t : TileRef) (n : Nat) (e : PlanEntry) : ExposureReq :=
  { client := .prc t, time := e.time, target := .slot n t, lamp := .settled e.drive, stage := true }

/-- PRC requests the next exposure of an admitted tile (R25, R55), unless a calibration holds it back (R87), one is
outstanding, or the stage is being brought back to the tile (R27). -/
def State.requestExposure (s : State) (t : TileRef) : State :=
  match s.prc.tile? t, s.fst.lowestReserved t with
  | some x, some n =>
    match (x.plan.getD [])[x.exposures.length]? with
    | some entry =>
      if s.calibrating || s.prc.expReq.isSome || s.prc.retryBack.isSome then s
      else
        let e := realise s.blu.throttle entry
        let s := if realiseCapped s.blu.throttle entry then
          s.mapTile t fun y => { y with flags := { y.flags with tCapped := true } } else s
        let s := { s with prc := { s.prc with expReq := some t } }
        (s.emit (.lightRequest e.drive)).emit (.exposureRequest (tileRequest t n e))
    | none => s
  | _, _ => s

/-! ## The hold point (R31) -/

/-- Whether PRC has anything outstanding that keeps a HOLDING run from its hold point (R31). -/
def Prc.outstanding (p : Prc) : Bool :=
  p.trsReq.isSome || p.unloadNext.isSome || p.planReq.isSome || p.expReq.isSome
    || (p.firstTile Tile.unexposed).isSome

/-- The hold point is tested (R31, R42). -/
def State.tryHoldPoint (s : State) : State :=
  if s.prc.run = .holding ∧ s.prc.outstanding = false then
    s.goHeld (if s.prc.holdByLink then .link else .requested)
  else s

/-! ## Starting a plate (R19, R20, R163) -/

/-- What the examination of R20 comes to. -/
inductive StartVerdict where
  | wait
  | hold (c : HoldCause)
  | go
  deriving DecidableEq, Repr

/-- Step 1 of R20, with R163: none where TRS stops nothing at this step. PRC's own request at TRS is then the unload
that it asked for after a failure, whose report it awaits. The motions of a flat calibration, and the reference carrier
AT_REST in one, are no matter of step 1: R20 waits for them at step 4 (log entry 9). -/
def State.startTrs (s : State) : Option StartVerdict :=
  match s.trs.state with
  | .unhomed | .fault _ => some (.hold .transport)
  | .homing _ | .homingStopped _ => some .wait
  | .atRest =>
    if s.prc.trsReq.isSome then some .wait
    else if s.cru.flatRunning then none
    else some (.hold .transport)
  | .empty | .loading | .moving | .settling | .unloading => if s.prc.trsReq.isSome then some .wait else none

/-- Whether the references that a job needs are valid (R20). -/
def State.referencesValid (s : State) (j : Job) : Bool := s.cru.dark.valid && (s.cru.profile j.profile).valid

/-- The examination of R20 for a head job; a start needs TRS to be EMPTY as well. -/
def State.startVerdict (s : State) (j : Job) : StartVerdict :=
  match s.startTrs with
  | some v => v
  | none =>
    if s.sfe.state = .fault then (if s.sfe.reinit then .wait else .hold .sensor)
    else match s.blu.state with
      | .fault _ => .hold .lamp
      | .standby | .warming | .settling | .settled | .dark =>
        if s.calibrating then .wait
        else if s.referencesValid j = false then .hold .notCalibrated
        else if s.trs.state = .empty then .go
        else .wait

/-- PRC starts the head job (R20). A carrier recovered before is done with (R38). -/
def State.startJob (s : State) (j : Job) : State :=
  let s := { s with prc := { s.prc with
    queue := s.prc.queue.drop 1, active := some j.id, abortMark := false, trsReq := some .load
    recoveryJob := none } }
  ((s.setJob j.id .loading none).stopIdle).emit (.loadRequest .prc j.position)

/-- PRC considers a job start (R20). -/
def State.considerStart (s : State) : State :=
  if s.prc.run = .running ∧ s.prc.active = none then
    match s.prc.queue.head?.bind s.prc.job? with
    | none => s
    | some j =>
      match s.startVerdict j with
      | .wait => s
      | .hold c => s.goHeld c
      | .go => s.startJob j
  else s

/-- The run leaves RUNNING for IDLE when nothing is active or queued (R19). -/
def State.idleCheck (s : State) : State :=
  if s.prc.run = .running ∧ s.prc.active = none ∧ s.prc.queue = [] then s.setRun .idle else s

/-- What follows when the active job has left the active states: the next job, IDLE, or the hold point; and the idle
timer when none has become active (R19, R20, R31, R135). -/
def State.afterJob (s : State) : State := (s.idleCheck.considerStart.tryHoldPoint).startIdle

/-! ## Capture (R26, R33) -/

/-- The job's capture is complete: it goes to UNLOADING when the run is RUNNING or HOLDING (R26). -/
def State.captureCheck (s : State) : State :=
  match s.prc.activeJob? with
  | some j =>
    if j.state = .capturing ∧ (j.tiles.any fun x => x.state.uncaptured) = false
        ∧ (s.prc.run = .running ∨ s.prc.run = .holding) then
      (s.setJob j.id .unloading none).askUnload .unload
    else s
  | none => s

/-- A tile that needs a plan: METERING, or PLANNED without an admission request (R33), and no plan requested. -/
def Prc.toPlan (p : Prc) : Option TileRef :=
  if p.planReq.isSome then none
  else p.activeJob?.bind fun j =>
    (j.tiles.find? fun x => decide (x.state = .metering)
      || (decide (x.state = .planned) && decide (p.admReq ≠ some (j.ref x)))).map j.ref

/-- The work of the active job goes on (R33), after a resume and when a calibration no longer holds it back (R87). -/
def State.kickExposure (s : State) : State :=
  match s.prc.run, s.prc.firstTile Tile.unexposed with
  | .running, some t | .holding, some t => s.requestExposure t
  | _, _ => s

/-- A tile that waits in METERING, or PLANNED without a request, is planned again from attempt 1, unless an earlier
tile is still EXPOSING (R22, R33). Where a calibration holds the request back, nothing is cleared yet (R11, R87). -/
def State.kickPlan (s : State) : State :=
  match s.prc.toPlan with
  | some t => if s.prc.activeExposing || s.calibrating then s else (s.mapTile t Tile.unplan).issuePlan t
  | none => s

/-- The next tile begins when none is in the cycle, or the job's capture is complete (R26, R33). -/
def State.kickNext (s : State) : State :=
  match s.prc.activeJob? with
  | some j =>
    if j.state = .capturing ∧ (j.tiles.any fun x => x.state.inCycle) = false ∧ s.prc.trsReq = none then
      (s.beginNext).captureCheck
    else s
  | none => s

/-- The work of the active job goes on (R33, R87). -/
def State.kick (s : State) : State :=
  let s := s.kickExposure
  if s.prc.run = .running then s.kickPlan.kickNext else s

/-! ## Abandonment (R35, Table 2.3) -/

/-- PRC withdraws the requests of a tile that it abandons, and has its slots freed (Table 2.3). -/
def State.withdrawTile (s : State) (t : TileRef) (st : TileState) : State :=
  match st with
  | .metering =>
    if s.prc.planReq = some t then
      ({ s with prc := { s.prc with planReq := none } }).emit (.planWithdraw (.prc t))
    else s
  | .planned =>
    if s.prc.admReq = some t then
      ({ s with prc := { s.prc with admReq := none } }).emit (.admissionWithdraw t)
    else s
  | .exposing =>
    let s := if s.prc.expReq = some t then
      ({ s with prc := { s.prc with expReq := none } }).emit (.exposureWithdraw (.prc t)) else s
    ({ s with prc := { s.prc with retryBack := none } }).emit (.tileRelease t)
  | .exposed | .merging => s.emit (.bmeAbandon t)
  | .merged | .sending => s.emit (.souAbandon t)
  | .masked | .pending | .positioning | .sent | .abandoned => s

/-- PRC abandons a tile (Table 2.3). -/
def State.abandonTile (s : State) (t : TileRef) : State :=
  match s.prc.tileState? t with
  | some st => (s.withdrawTile t st).endTile t false
  | none => s

/-- PRC abandons the tiles of a job whose state satisfies a test, in sequence order; their TILE_DONE notices are queued in
that order (log entry 32). -/
def State.abandonTiles (s : State) (j : Job) (f : TileState → Bool) : State :=
  ((j.tiles.filter fun x => f x.state).map j.ref).foldl State.abandonTile s

/-! ## A fault ends the active job (R37, R39, R41) -/

/-- Points 1 to 3 of R37: the tiles not yet captured are abandoned, those in flight go on, and the job leaves the
active states. -/
def State.endJob (s : State) (j : Job) (c : FailCause) : State :=
  let s := s.abandonTiles j TileState.uncaptured
  let s := { s with prc := { s.prc with active := none, abortMark := false, lampAfterUnload := false } }
  let drains := j.tiles.any fun x => x.state.inFlight
  (s.setJob j.id (if drains then .draining else .failed) (some (.failed c))).startIdle

/-- PRC asks TRS for the recovery unload of a job's carrier (R38), at once or after the move in progress (R39). -/
def State.askRecovery (s : State) (id : Nat) : State :=
  ({ s with prc := { s.prc with recoveryJob := some id } }).askUnload .recovery

end Sys2Proof.Machine
end

