-- ==== Sys2Proof/Machine/Run.lean ====
section
/-! DEFINITION. The plate run (chapter 2): the events that reach PRC from the other blocks. While the run is QUIESCING
none of them changes a job or tile record (R43), so each is discarded then. -/

namespace Sys2Proof.Machine

/-- An event at PRC; while QUIESCING it is discarded (R43). -/
def State.prcEvent (s : State) (f : State → State) : State := if s.prc.run = .quiescing then s else f s

/-- PRC's request at TRS is no longer outstanding. -/
def State.trsAnswered (s : State) : State := { s with prc := { s.prc with trsReq := none } }

/-! ## Loads (R21) -/

/-- The load is complete (R21, R36). -/
def State.loadDone (s : State) : State :=
  match s.prc.trsReq, s.prc.activeJob? with
  | some .load, some j =>
    let s := s.trsAnswered
    if s.prc.abortMark then s.issueUnload .unload
    else
      let s := s.setJob j.id .capturing none
      if s.prc.run = .running then s.beginNext else s.tryHoldPoint
  | _, _ => s

/-- TRS answers NO_CARRIER (R21): the job fails, and the run does not hold. R16 does not order the notices of this one
event: the model queues the TILE_DONE notices before the JOB_STATE notice, whose counts include them (log entry 32). -/
def State.loadNoCarrier (s : State) : State :=
  match s.prc.trsReq, s.prc.activeJob? with
  | some .load, some j =>
    let s := s.trsAnswered.abandonTiles j fun st => !st.ended
    let s := { s with prc := { s.prc with active := none, abortMark := false, unloadNext := none } }
    (s.setJob j.id .failed (some (.failed .noCarrier))).afterJob
  | _, _ => s

/-! ## The tile cycle (R22 to R27) -/

/-- The stage has settled at a tile (R22): it is METERING, and planned if the run is RUNNING and no earlier tile is
still EXPOSING. -/
def State.tileSettled (s : State) (t : TileRef) : State :=
  let s := s.mapTile t fun x => if x.state.ended then x else { x with state := .metering, attempts := 0 }
  if s.prc.run = .running ∧ s.prc.activeExposing = false then s.issuePlan t else s.tryHoldPoint

/-- The stage is brought back to a retried tile (R27): the tile it is at, or was going to, is PENDING again. -/
def State.bringBack (s : State) (t : TileRef) : State :=
  match s.prc.tile? t with
  | some x => s.askMove x (.moveBack t.seq)
  | none => s

/-- The move that brought the stage back has settled (R27): the go-ahead for the repeat, or, if the repeat was cut
short meanwhile, its new request (R40). -/
def State.broughtBack (s : State) : State :=
  match s.prc.retryBack with
  | some t =>
    let s := { s with prc := { s.prc with retryBack := none } }
    if s.prc.expReq = some t then s.emit .goAhead
    else if s.prc.run = .running ∨ s.prc.run = .holding then s.requestExposure t
    else s
  | none => s.tryHoldPoint

/-- TRS reports a settle completion (R22, R27, R35, R39). -/
def State.settled (s : State) : State :=
  match s.prc.trsReq, s.prc.active with
  | some (.move k), a | some (.moveBack k), a =>
    let back := decide (s.prc.trsReq = some (.moveBack k))
    let s := s.trsAnswered
    match s.prc.unloadNext, a with
    | some u, _ => s.issueUnload u
    | none, none => s.tryHoldPoint
    | none, some id =>
      let t : TileRef := { job := id, seq := k }
      if back then s.broughtBack
      else match s.prc.retryBack with
        | some r => (s.moveTile t .pending).bringBack r
        | none => if s.prc.tileState? t = some .positioning then s.tileSettled t else s.tryHoldPoint
  | _, _ => s

/-- PRC asks FST for the slots of a planned tile (R24). -/
def State.askAdmission (s : State) (t : TileRef) (n : Nat) : State :=
  ({ s with prc := { s.prc with admReq := some t } }).emit (.admissionRequest t n)

/-- Whether the dark references are stale (R98). -/
def State.darkStale (s : State) : Bool := staleBetween s.sfe.temp s.cru.dark.temp s.liu.params.darkTolerance

/-- The staleness check of a planned tile, and its admission request (R23, R98). -/
def State.staleCheck (s : State) (t : TileRef) (n : Nat) : State :=
  if s.darkStale then
    match s.liu.params.darkPolicy with
    | .hold => s.goHeld .darkStale
    | .continue => (s.mapTile t fun x => { x with flags := { x.flags with darkStale := true } }).askAdmission t n
  else s.askAdmission t n

/-- BPL reports a plan completion (R23); one for a tile that no longer waits for it is discarded (R36). DESIGN
CHOICE: the completion names its tile and not the request it answers, so that a late one of a withdrawn request (R48) is
taken as the new request's where PRC has asked for the plan of that tile again (log entry 44). -/
def State.planned (s : State) (t : TileRef) (plan : List PlanEntry) (attempts : Nat) (flags : PlanFlags) : State :=
  if s.prc.planReq = some t ∧ s.prc.tileState? t = some .metering then
    let s := { s with prc := { s.prc with planReq := none } }
    let s := s.mapTile t fun x =>
      { x with state := .planned, plan := some plan, attempts := attempts, flags := x.flags.addPlanning flags }
    if s.prc.run = .running then s.staleCheck t plan.length else s.tryHoldPoint
  else s

/-- FST grants a tile its slots (R24). -/
def State.admitted (s : State) (t : TileRef) : State :=
  if s.prc.admReq = some t ∧ s.prc.tileState? t = some .planned then
    let s := ({ s with prc := { s.prc with admReq := none } }).moveTile t .exposing
    if s.prc.run = .running ∨ s.prc.run = .holding then s.requestExposure t else s
  else s

/-- Whether the exposure in progress is a tile's last. -/
def Tile.lastExposure (x : Tile) : Bool :=
  decide (x.state = .exposing) && decide (x.exposures.length + 1 = x.planLength)

/-- SFE reports an exposure end (R26): at the last exposure of a tile the next tile is begun. DESIGN CHOICE: the report names
its tile and not its exposure, so that a late one is taken as that of the exposure which the tile stands at (log entry
44). -/
def State.tileExposureEnd (s : State) (t : TileRef) : State :=
  match s.prc.tile? t with
  | some x =>
    if x.lastExposure && decide (s.prc.run = .running) && decide (s.prc.active = some t.job)
        && decide (s.prc.trsReq = none) then s.beginNext
    else s
  | none => s

/-- The exposure record of a completion (R13). -/
def ExposureDone.record (r : ExposureDone) : ExposureRecord :=
  { time := r.time, drive := r.drive, m := r.m, temp := r.temp, slot := r.slot
    lampDev := lampDeviates r.m r.drive, throttled := r.throttled }

/-- PRC appends an exposure record to a tile, and its marks to the tile's flags (R13). -/
def Tile.addExposure (x : Tile) (r : ExposureRecord) : Tile :=
  { x with exposures := x.exposures ++ [r], flags := x.flags.addExposure r }

/-- A tile's last exposure is complete (R22, R26): it is EXPOSED and goes to BME; a deferred plan request is issued,
the next tile begins if none has, or the job's capture is complete. None has where the run was not RUNNING at the exposure
end and a RESUME came in between: the rules name no moment, and the model takes this one (log entry 32). DESIGN CHOICE: a
plan request that R22 deferred at a settle taken while RUNNING is issued here only while the run is still RUNNING; in
HOLDING or HELD the tile stays METERING and is planned at RESUME (R33, log entry 43). -/
def State.tileExposed (s : State) (t : TileRef) : State :=
  let s := (s.moveTile t .exposed).mergeAppend t
  let s := { s with prc := { s.prc with retryBack := none } }
  let s := if s.prc.run = .running then s.kickPlan.kickNext else s
  (s.captureCheck).tryHoldPoint

/-- SFE reports an exposure completion (R25, R26); one without a frame, or for a tile that is not EXPOSING, is
discarded (R36, R119). -/
def State.tileExposureDone (s : State) (r : ExposureDone) : State :=
  match s.prc.tile? r.tile with
  | some x =>
    if x.unexposed && r.withFrame then
      let s := { s with prc := { s.prc with expReq := none } }
      let s := s.mapTile r.tile fun y => y.addExposure r.record
      if x.lastExposure then s.tileExposed r.tile
      else if s.prc.run = .running ∨ s.prc.run = .holding then s.requestExposure r.tile
      else s
    else s
  | none => s

/-- The tile that the stage has moved on to while another's last readout runs: POSITIONING or METERING (R26). -/
def Prc.movedOn (p : Prc) : Option TileRef :=
  p.firstTile fun x => decide (x.state = .positioning) || decide (x.state = .metering)

/-- SFE reports a retry (R27): RETRIED is added, and the go-ahead is given unless the stage has left the tile. -/
def State.retried (s : State) (t : TileRef) (metering : Bool) : State :=
  match s.prc.tile? t with
  | none => s
  | some x =>
    if x.state.ended then s
    else
      let s := s.mapTile t fun y => { y with flags := { y.flags with retried := true } }
      if metering then s
      else match s.prc.movedOn with
        | none => s.emit .goAhead
        | some u =>
          let s := { s with prc := { s.prc with retryBack := some t } }
          if s.prc.tileState? u = some .metering then (s.moveTile u .pending).bringBack t else s

/-! ## Faults (R37 to R40) -/

/-- A second readout failure of the active job (R39); of a report taken late, log entry 50. -/
def State.tileSensorFailure (s : State) (t : TileRef) : State :=
  match s.prc.activeJob?, s.prc.tile? t with
  | some j, some x =>
    if j.id = t.job ∧ x.state.ended = false then
      ((s.endJob j .sensor).goHeld .sensor).askRecovery j.id
    else s
  | _, _ => s

/-- The pending outcome of a DRAINING job becomes FAILED(TRANSPORT) (R38). The JOB_STATE notice is queued also when it is
FAILED(TRANSPORT) already, where R16 sees no change (log entry 32). -/
def State.drainTransport (s : State) (id : Nat) : State :=
  match s.prc.job? id with
  | some j => if j.state = .draining then s.setJob id .draining (some (.failed .transport)) else s
  | none => s

/-- A fault during a recovery unload, or while one waits for the move in progress (R38): the first is the second
failure of the carrier, and PRC asks for no further unload. Of the second R39 says nothing: the model takes the fault of
that move for the job's pending cause as well, and asks for the unload at once (log entry 32). -/
def State.recoveryFault (s : State) (id : Nat) : State :=
  let moving := s.prc.unloadNext.isSome
  let s := { s with prc := { s.prc with trsReq := none, unloadNext := none, recoveryJob := none } }
  let s := s.drainTransport id
  if moving then s.askRecovery id else s

/-- A transport fault with no active job, that of a recovery unload (R38) among them: a HELD run takes cause TRANSPORT by
its rank (R18), a HOLDING run goes to HELD(TRANSPORT) at once (R31), and an IDLE or RUNNING run is left as it is (R37):
R20 holds it at the next job start, and R38 speaks of a HELD run alone (log entry 27). -/
def State.idleTransportFault (s : State) : State :=
  let s := match s.prc.recoveryJob with
    | some id => s.recoveryFault id
    | none => { s with prc := { s.prc with trsReq := none, unloadNext := none } }
  match s.prc.run with
  | .held _ | .holding => s.goHeld .transport
  | .idle | .running | .quiescing => s

/-- Whether the carrier is asked back after a fault (R37): not when the fault came during a load or an unload. -/
def recoverable (r : Option TrsRequest) : Bool :=
  match r with
  | some .load | some .unload => false
  | some (.move _) | some (.moveBack _) | some .recovery | none => true

/-- TRS reports a fault (R37). DESIGN CHOICE: the report names no request, so that one taken late, when TRS has been
recovered and a new job is active, ends the new job (log entry 50). -/
def State.transportFaulted (s : State) : State :=
  match s.prc.activeJob? with
  | some j =>
    let recover := recoverable s.prc.trsReq
    let s := { s with prc := { s.prc with trsReq := none, unloadNext := none } }
    let s := (s.endJob j .transport).goHeld .transport
    if recover then s.askRecovery j.id else s
  | none => s.idleTransportFault

/-- A plan request of the active job is withdrawn (R40); its tile stays METERING. -/
def State.withdrawPlan (s : State) : State :=
  match s.prc.planReq with
  | some t => ({ s with prc := { s.prc with planReq := none } }).emit (.planWithdraw (.prc t))
  | none => s

/-- BLU reports FAULT (R40). DESIGN CHOICE: BLU's state is not looked at, so that a report taken late, after a RESUME has had
BLU leave FAULT, holds the run again (log entry 50). -/
def State.backlightFaulted (s : State) : State :=
  match s.prc.activeJob? with
  | some j =>
    match j.state with
    | .loading | .capturing => s.withdrawPlan.goHeld .lamp
    | .unloading => { s with prc := { s.prc with lampAfterUnload := true } }
    | .queued | .draining | .done | .failed | .aborted => s
  | none => s

/-! ## Unloads (R28) -/

/-- The state and outcome that the active job takes at its unload completion (R28). -/
def Job.unloaded (j : Job) (abortMark : Bool) : JobState × JobOutcome :=
  if abortMark then (.aborted, .aborted)
  else if j.tiles.any fun x => x.state.inFlight then (.draining, .done)
  else (.done, .done)

/-- The active job's carrier is back in the magazine (R28): the job ends, a lamp fault put off holds the run (R40),
and run_mode decides what follows. Under STEP the lamp's cause comes first, and STEP does not replace it (log entry 32). -/
def State.jobUnloaded (s : State) (j : Job) : State :=
  let lamp := s.prc.lampAfterUnload
  let out := j.unloaded s.prc.abortMark
  let s := { s with prc := { s.prc with
    trsReq := none, active := none, abortMark := false, lampAfterUnload := false } }
  let s := s.setJob j.id out.1 (some out.2)
  let s := if lamp then s.goHeld .lamp else s
  match s.liu.params.runMode with
  | .auto => s.afterJob
  | .step => (s.goHeld .step).startIdle

/-- TRS reports an unload complete (R28, R38). -/
def State.unloaded (s : State) : State :=
  match s.prc.trsReq, s.prc.activeJob? with
  | some .unload, some j => s.jobUnloaded j
  | some .recovery, _ =>
    ({ s with prc := { s.prc with trsReq := none, recoveryJob := none } }).considerStart.tryHoldPoint
  | _, _ => s

/-! ## Reports that a start may depend on (R20, R87, R164) -/

/-- CRU reports its return to IDLE (R87): a start is considered, and what was held back is issued. -/
def State.cruIdle (s : State) : State := s.considerStart.kick

/-! ## The commands -/

/-- START_JOB (R20, R163). -/
def execStartJob (s : State) : Result := .next (s.deliver .startJob).considerStart

/-- HOLD_POINT (R31). -/
def execHoldPoint (s : State) : Result := .next (s.deliver .holdPoint).tryHoldPoint

/-- LOAD_COMPLETE (R21, R36). -/
def execLoadComplete (s : State) : Result := .next ((s.deliver .loadComplete).prcEvent State.loadDone)

/-- NO_CARRIER (R21). -/
def execNoCarrier (s : State) : Result := .next ((s.deliver .noCarrier).prcEvent State.loadNoCarrier)

/-- SETTLE_COMPLETION (R22, R27, R35, R39). -/
def execSettleCompletion (s : State) : Result := .next ((s.deliver .settleCompletion).prcEvent State.settled)

/-- PLAN_COMPLETION (R23, R98). -/
def execPlanCompletion (tile : TileRef) (plan : List PlanEntry) (attempts : Nat) (flags : PlanFlags) (s : State) :
    Result :=
  .next ((s.deliver (.planCompletion tile plan attempts flags)).prcEvent fun s => s.planned tile plan attempts flags)

/-- ADMISSION_GRANT (R24). -/
def execAdmissionGrant (tile : TileRef) (slots : List Nat) (s : State) : Result :=
  .next ((s.deliver (.admissionGrant tile slots)).prcEvent fun s => s.admitted tile)

/-- EXPOSURE_END (R26). -/
def execExposureEnd (tile : TileRef) (m : Nat) (s : State) : Result :=
  .next ((s.deliver (.exposureEnd tile m)).prcEvent fun s => s.tileExposureEnd tile)

/-- EXPOSURE_COMPLETION (R13, R25, R26). -/
def execExposureCompletion (r : ExposureDone) (s : State) : Result :=
  .next ((s.deliver (.exposureCompletion r)).prcEvent fun s => s.tileExposureDone r)

/-- RETRY_REPORT (R27). -/
def execRetryReport (tile : TileRef) (metering : Bool) (s : State) : Result :=
  .next ((s.deliver (.retryReport tile metering)).prcEvent fun s => s.retried tile metering)

/-- SECOND_READOUT_FAILURE (R39). -/
def execSecondReadoutFailure (tile : TileRef) (s : State) : Result :=
  .next ((s.deliver (.secondReadoutFailure tile)).prcEvent fun s => s.tileSensorFailure tile)

/-- TRANSPORT_FAULT (R37, R38). -/
def execTransportFault (s : State) : Result :=
  .next ((s.deliver .transportFault).prcEvent State.transportFaulted)

/-- BACKLIGHT_FAULT (R40). -/
def execBacklightFault (cause : LampFault) (s : State) : Result :=
  .next ((s.deliver (.backlightFault cause)).prcEvent State.backlightFaulted)

/-- UNLOAD_COMPLETE (R28, R38). -/
def execUnloadComplete (s : State) : Result := .next ((s.deliver .unloadComplete).prcEvent State.unloaded)

/-- TRS_EMPTY_REPORT (R20, R164). -/
def execTrsEmptyReport (s : State) : Result := .next ((s.deliver .trsEmptyReport).prcEvent State.considerStart)

/-- REINIT_END_REPORT (R20, R124). -/
def execReinitEndReport (s : State) : Result := .next ((s.deliver .reinitEndReport).prcEvent State.considerStart)

/-- CRU_IDLE_REPORT (R87, R164). -/
def execCruIdleReport (s : State) : Result := .next ((s.deliver .cruIdleReport).prcEvent State.cruIdle)

end Sys2Proof.Machine
end

