-- ==== Sys2Proof/Machine/Jobs.lean ====
section
/-! DEFINITION. The host's commands to PRC: SUBMIT_JOB, QUERY_JOB, RELEASE_JOB, ABORT_JOB, HOLD and RESUME (chapters 1
and 2), and what PRC does at HOME, at a detach and at a quiesce. -/

namespace Sys2Proof.Machine

/-! ## SUBMIT_JOB (R2, R6) -/

/-- Whether a queued job is marked rush. -/
def Prc.isRush (p : Prc) (id : Nat) : Bool :=
  match p.job? id with
  | some j => j.rush
  | none => false

/-- The queue with an accepted job in its place (R6). -/
def Prc.enqueue (p : Prc) (j : Job) : List Nat :=
  if j.rush then p.queue.takeWhile p.isRush ++ j.id :: p.queue.dropWhile p.isRush else p.queue ++ [j.id]

/-- Whether an unfinished record claims a position (R1). -/
def Prc.claimed (p : Prc) (position : Nat) : Bool :=
  p.jobs.any fun j => !j.state.finished && decide (j.position = position)

/-- The four stages of R2: the status of a refusal, or the submission that is accepted. -/
def Prc.checkSubmission (p : Prc) (payload : List Byte) : Except Status Submission :=
  match parseSubmission payload with
  | none => .error .badArg
  | some s =>
    if fieldCheck s = false then .error .badArg
    else if (p.job? s.jobId).isSome then .error .dupId
    else if p.claimed s.position then .error .slotClaimed
    else if jobCapacity ≤ p.jobs.length then .error .tableFull
    else .ok s

/-- A submission is accepted (R2, R6, R16), and a start is considered (R19, R20). -/
def State.acceptJob (s : State) (j : Job) : State :=
  let s := { s with prc := { s.prc with jobs := s.prc.jobs ++ [j], queue := s.prc.enqueue j } }
  let s := s.notice j.notice
  (if s.prc.run = .idle then s.setRun .running else s).considerStart

/-- SUBMIT_JOB (R2, R3). DESIGN CHOICE: an accepted reply carries the three items of R2, and a CLAMPED one no clamped plan
entries besides, although Table 10.1 has a CLAMPED reply carry the values used; the host reads them by QUERY_JOB (log
entry 39). -/
def State.submit (s : State) (payload : List Byte) : Answer :=
  match s.prc.checkSubmission payload with
  | .error e => .refuse s e
  | .ok sub =>
    let j := newJob sub
    { state := s.acceptJob j
      status := if submissionClamped sub then .clamped else .ok
      body := .accepted j.cols j.rows (j.cols * j.rows - j.masked) }

/-! ## QUERY_JOB and RELEASE_JOB (R10, R15) -/

/-- The summary of a record (R15). DESIGN CHOICE: its policy item carries the d_span of an AUTO job, which R15 does not name
(log entry 55). -/
def Job.summary (j : Job) : JobSummary :=
  { id := j.id, position := j.position, label := j.label, view := j.view, profile := j.profile, policy := j.policy
    encoding := j.encoding, rush := j.rush, cols := j.cols, rows := j.rows, state := j.state, outcome := j.outcome
    sent := j.sent, abandoned := j.abandoned, masked := j.masked }

/-- QUERY_JOB (R15). -/
def State.queryJob (s : State) (id start : Nat) : Answer :=
  match s.prc.job? id with
  | none => .refuse s .unknownJob
  | some j => { state := s, status := .ok, body := .job j.summary ((j.tiles.drop start).take 8) }

/-- RELEASE_JOB (R10). -/
def State.releaseJob (s : State) (id : Nat) : Answer :=
  match s.prc.job? id with
  | none => .refuse s .unknownJob
  | some j =>
    if j.state.finished then
      .okay { s with prc := { s.prc with jobs := s.prc.jobs.filter fun x => decide (x.id ≠ id) } }
    else .refuse s .wrongState

/-! ## ABORT_JOB (R34, R35) -/

/-- A QUEUED job is aborted (R34). R16 does not order the notices of this one event: the model queues the TILE_DONE notices
before the JOB_STATE notice, whose counts include them (log entry 32). -/
def State.abortQueued (s : State) (j : Job) : State :=
  let s := s.abandonTiles j fun st => !st.ended
  let s := { s with prc := { s.prc with queue := s.prc.queue.filter fun x => decide (x ≠ j.id) } }
  (s.setJob j.id .aborted (some .aborted)).idleCheck

/-- The active job is aborted (R35): its tiles are abandoned and the unload is arranged. -/
def State.abortActive (s : State) (j : Job) : State :=
  let s := { s with prc := { s.prc with abortMark := true } }
  let s := s.abandonTiles j fun st => !st.ended
  let s := if j.state = .capturing then s.setJob j.id .unloading none else s
  s.askUnload .unload

/-- A DRAINING job is aborted at once (R34). -/
def State.abortDraining (s : State) (j : Job) : State :=
  (s.abandonTiles j fun st => !st.ended).setJob j.id .aborted (some .aborted)

/-- ABORT_JOB (R34). -/
def State.abortJob (s : State) (id : Nat) : Answer :=
  match s.prc.job? id with
  | none => .refuse s .unknownJob
  | some j =>
    match j.state with
    | .queued => .okay (s.abortQueued j)
    | .loading | .capturing | .unloading => .okay (s.abortActive j)
    | .draining => .okay (s.abortDraining j)
    | .done | .failed | .aborted => .refuse s .wrongState

/-! ## HOLD and RESUME (R30, R32, R33) -/

/-- HOLD (R30, R31). -/
def State.holdRun (s : State) : Answer :=
  if s.prc.run = .running then
    .okay (({ s with prc := { s.prc with holdByLink := false } }).setRun .holding).tryHoldPoint
  else .refuse s .wrongState

/-- Whether RESUME is refused under NOT_CALIBRATED (R32). -/
def State.stillUncalibrated (s : State) : Bool :=
  match s.prc.queue.head?.bind s.prc.job? with
  | some j => !s.referencesValid j
  | none => false

/-- The refusals of RESUME in HELD (R32). -/
def State.resumeRefusal (s : State) (c : HoldCause) : Option Status :=
  match c with
  | .transport => if s.trs.state = .empty ∨ s.trs.state = .atRest then none else some .wrongState
  | .notCalibrated => if s.stillUncalibrated then some .notCalibrated else none
  | .sensor | .lamp | .darkStale | .requested | .step | .link => none

/-- An accepted RESUME (R33). SFE and BLU are asked to recover first; both asks are part of the event. -/
def State.resumeRun (s : State) : State :=
  let s := { s with prc := { s.prc with holdByLink := false } }
  let s := s.setRun (if s.prc.active.isSome || !s.prc.queue.isEmpty then .running else .idle)
  (s.startReinit.leaveFault).considerStart.kick

/-- RESUME (R32, R33). -/
def State.resume (s : State) : Answer :=
  match s.prc.run with
  | .held c =>
    match s.resumeRefusal c with
    | some e => .refuse s e
    | none => .okay s.resumeRun
  | .idle | .running | .holding | .quiescing => .refuse s .wrongState

/-! ## PRC at HOME, at a detach and at a quiesce (R41, R42, R43) -/

/-- HOME is accepted (R41): an active job ends with cause COMMAND, and PRC has no request outstanding with TRS.
DESIGN CHOICE: a request still on its way to TRS stays on its way, and TRS takes it as any other (log entry 54). -/
def State.homeEndsJob (s : State) : State :=
  let s := match s.prc.activeJob? with
    | some j => s.endJob j .command
    | none => s
  { s with prc := { s.prc with trsReq := none, unloadNext := none, recoveryJob := none, retryBack := none } }

/-- The link has been detached (R42). -/
def State.prcDetach (s : State) : State :=
  match s.prc.run with
  | .running => (({ s with prc := { s.prc with holdByLink := true } }).setRun .holding).tryHoldPoint
  | .holding => { s with prc := { s.prc with holdByLink := true } }
  | .idle | .held _ => s.goHeld .link
  | .quiescing => s

/-- PRC withdraws a waiting admission request (R43). -/
def State.withdrawAdmissionReq (s : State) : State :=
  match s.prc.admReq with
  | some t => ({ s with prc := { s.prc with admReq := none } }).emit (.admissionWithdraw t)
  | none => s

/-- PRC quiesces (R43); no notice is queued for it (R17). -/
def State.prcQuiesce (s : State) : State :=
  let s := s.withdrawPlan.withdrawAdmissionReq
  ({ s with prc := { s.prc with run := .quiescing } }).ack .prc

/-! ## The commands -/

/-- SUBMIT_JOB (R2 to R7). -/
def execSubmitJob (h : Hdr) (payload : List Byte) (s : State) : Result :=
  .next (command h .submitJob (fun s => s.submit payload) s)

/-- QUERY_JOB (R15). -/
def execQueryJob (h : Hdr) (job start : Nat) (s : State) : Result :=
  .next (command h .queryJob (fun s => s.queryJob job start) s)

/-- RELEASE_JOB (R10). -/
def execReleaseJob (h : Hdr) (job : Nat) (s : State) : Result :=
  .next (command h .releaseJob (fun s => s.releaseJob job) s)

/-- ABORT_JOB (R34, R35). -/
def execAbortJob (h : Hdr) (job : Nat) (s : State) : Result :=
  .next (command h .abortJob (fun s => s.abortJob job) s)

/-- HOLD (R30). -/
def execHold (h : Hdr) (s : State) : Result := .next (command h .hold State.holdRun s)

/-- RESUME (R32, R33). -/
def execResume (h : Hdr) (s : State) : Result := .next (command h .resume State.resume s)

end Sys2Proof.Machine
end

