-- ==== Sys2Proof/Machine/Station.lean ====
section
/-! DEFINITION. The host's commands to TRS: HOME, QUERY_MAGAZINE and CLEAR_STAGE (chapter 9). -/

namespace Sys2Proof.Machine

/-- Whether TRS is carrying something out, so that HOME is refused with BUSY (R145 check 2). -/
def TrsState.occupied : TrsState → Bool
  | .homing _ | .homingStopped _ | .loading | .moving | .settling | .unloading => true
  | .unhomed | .empty | .atRest | .fault _ => false

/-- The refusals of HOME, in the order of R145. -/
def State.homeRefusal (s : State) : Option Status :=
  if s.cru.flatRunning then some .busy
  else if s.trs.state.occupied then some .busy
  else match s.prc.run with
    | .idle => none
    | .held _ => if s.prc.activeExposing then some .wrongState else none
    | .running | .holding | .quiescing => some .wrongState

/-- HOME (R41, R145). -/
def State.home (s : State) : Answer :=
  match s.homeRefusal with
  | some e => .refuse s e
  | none => .okay s.homeEndsJob.startHome

/-- QUERY_MAGAZINE (R137). -/
def State.queryMagazine (s : State) : Answer :=
  { state := s, status := .ok
    body := .magazine s.trs.magazine s.trs.stage s.trs.pos s.trs.state s.trs.homed }

/-- Whether TRS is in FAULT. -/
def TrsState.faulted : TrsState → Bool
  | .fault _ => true
  | .unhomed | .homing _ | .homingStopped _ | .empty | .loading | .atRest | .moving | .settling | .unloading => false

/-- The stage has been emptied by hand (R146). -/
def Trs.cleared (t : Trs) : Trs :=
  let u := match t.stage with
    | .carrier p => t.setEntry p .vacant
    | .unknownCarrier | .none => t
  { u with stage := .none, state := if t.homed then .empty else .unhomed }

/-- CLEAR_STAGE (R146): `seen` is the presence sensor. TRS reports EMPTY to PRC when it is (R20). -/
def State.clearStage (s : State) (seen : Bool) : Answer :=
  if s.cru.flatRunning then .refuse s .busy
  else if !s.trs.state.faulted || seen then .refuse s .wrongState
  else
    let s := ({ s with trs := s.trs.cleared }).transportNotice false
    .okay (if s.trs.homed then s.emit .trsEmptyReport else s)

/-! ## The commands -/

/-- HOME (R145). -/
def execHome (h : Hdr) (s : State) : Result := .next (command h .home State.home s)

/-- QUERY_MAGAZINE (R137). -/
def execQueryMagazine (h : Hdr) (s : State) : Result := .next (command h .queryMagazine State.queryMagazine s)

/-- CLEAR_STAGE (R146). -/
def execClearStage (h : Hdr) (seen : Bool) (s : State) : Result :=
  .next (command h .clearStage (fun s => s.clearStage seen) s)

end Sys2Proof.Machine
end

