-- ==== Sys2Proof/Machine/Link.lean ====
section
/-! DEFINITION. The link interface unit (chapter 10): record framing, replies and notices leaving, parameters, the
weight table, IDENTIFY and QUERY_STATUS. -/

namespace Sys2Proof.Machine

/-! ## Records (R149, R150) -/

/-- A reply is formed. While a reset is in progress it waits for the RESET reply (R150). -/
def State.answer (s : State) (r : Reply) : State :=
  match s.liu.resetWork with
  | some w => { s with liu := { s.liu with resetWork := some { w with busy := w.busy ++ [r] } } }
  | none => { s with liu := { s.liu with replies := s.liu.replies ++ [r] } }

/-- The byte at a place of a transfer, 0 where it holds none (R149). -/
def byteAt (transfer : List Byte) (i : Nat) : Byte := transfer.getD i 0

/-- A badly framed transfer (R149): it is discarded and answered, and BAD_FRAME_SEEN is recorded. -/
def State.badFrame (s : State) (transfer : List Byte) : State :=
  if s.liu.attached && badFraming transfer then
    let r : Reply := { tag := byteAt transfer 1, status := .badFrame, kind := .raw (byteAt transfer 0), body := .none }
    ({ s with liu := { s.liu with sticky := { s.liu.sticky with badFrameSeen := true } } }).answer r
  else s

/-- A record whose kind names no command (R149). -/
def State.badKind (s : State) (kind tag : Byte) : State :=
  if s.liu.attached then s.answer { tag := tag, status := .badKind, kind := .raw kind, body := .none } else s

/-- A place freed by a notice that was sent goes to an OVERFLOW notice when notices were dropped (R155). -/
def Liu.afterSent (l : Liu) : Liu :=
  if l.overflow = 0 then l else { l with notices := l.notices ++ [.overflow l.overflow], overflow := 0 }

/-- The outgoing control pipe is free (R150, R155): a waiting reply is sent, else the oldest notice. -/
def Liu.sendNext (l : Liu) : Liu :=
  if l.attached = false then l
  else match l.replies, l.notices with
    | r :: rs, _ => { l with replies := rs, sent := some (.reply r) }
    | [], n :: ns =>
      ({ l with notices := ns, noticeSeq := (l.noticeSeq + 1) % 256, sent := some (.notice l.noticeSeq n) } :
        Liu).afterSent
    | [], [] => l

/-! ## Parameters and the weight table (R151, R152) -/

/-- Whether run-locked values may not change: a tile is EXPOSING, EXPOSED or MERGING (R151, R152). -/
def Prc.locked (p : Prc) : Bool := p.jobs.any fun j => j.tiles.any fun x => x.state.locks

/-- The value of a parameter as a reply carries it. -/
def State.paramBody (s : State) (p : Param) : ReplyBody := .param p (s.liu.params.get p)

/-- SET_PARAM of a parameter that exists (R151). -/
def State.storeParam (s : State) (p : Param) (v : Nat) : Answer :=
  if p.runLocked && s.prc.locked then { state := s, status := .busy, body := s.paramBody p }
  else match storedValue p v with
    | none => { state := s, status := .badArg, body := s.paramBody p }
    | some w =>
      let s := { s with liu := { s.liu with params := s.liu.params.set p w } }
      { state := s, status := if w = v then .ok else .clamped, body := s.paramBody p }

/-- SET_PARAM (R151). -/
def State.setParam (s : State) (p : Option Param) (v : Nat) : Answer :=
  match p with
  | none => .refuse s .badArg
  | some p => s.storeParam p v

/-- GET_PARAM (R151). -/
def State.getParam (s : State) (what : GetWhat) : Answer :=
  match what with
  | .param none => .refuse s .badArg
  | .param (some p) => { state := s, status := .ok, body := s.paramBody p }
  | .weights start =>
    if 255 < start then .refuse s .badArg
    else { state := s, status := .ok, body := .weights ((s.liu.weights.toList.drop start).take 64) }

/-- A piece of the weight table is written at an index and the ones after it (R152). -/
def writeWeights (w : Vector Nat 256) (start : Nat) : List Nat → Vector Nat 256
  | [] => w
  | e :: es => writeWeights (w.setIfInBounds start e) (start + 1) es

/-- Whether LOAD_TABLE's list is well formed (R152). -/
def tablePieceOk (start : Nat) (entries : List Nat) : Bool :=
  decide (start ≤ 255) && decide (entries ≠ []) && decide (entries.length ≤ 64)
    && decide (start + entries.length ≤ 256) && entries.all fun e => decide (e ≤ 255)

/-- LOAD_TABLE (R152). -/
def State.loadTable (s : State) (start : Nat) (entries : List Nat) : Answer :=
  if tablePieceOk start entries = false then .refuse s .badArg
  else if s.prc.locked then .refuse s .busy
  else .okay { s with liu := { s.liu with weights := writeWeights s.liu.weights start entries } }

/-! ## IDENTIFY and QUERY_STATUS (R153) -/

/-- IDENTIFY (R153). -/
def State.identify (s : State) : Answer :=
  { state := s, status := .ok
    body := .identity "Lantrop" "Wimtar" "WX-840" Config.logicRevision slotCount jobCapacity noticeCapacity
      creditCapacity }

/-- The number of slots whose state satisfies a test. -/
def Fst.countSlots (f : Fst) (p : SlotState → Bool) : Nat := (f.slots.toList.filter p).length

/-- The number of slots in each state (R99). -/
def Fst.counts (f : Fst) : SlotCounts :=
  { free := f.countSlots fun x => match x with | .free => true | _ => false
    reserved := f.countSlots fun x => match x with | .reserved _ => true | _ => false
    exposing := f.countSlots fun x => match x with | .exposing _ => true | _ => false
    raw := f.countSlots fun x => match x with | .raw _ => true | _ => false
    dest := f.countSlots fun x => match x with | .dest _ => true | _ => false
    merged := f.countSlots fun x => match x with | .merged _ => true | _ => false
    streaming := f.countSlots fun x => match x with | .streaming => true | _ => false
    ref := f.countSlots fun x => match x with | .ref _ => true | _ => false
    calwork := f.countSlots fun x => match x with | .calwork _ => true | _ => false }

/-- What SFE reports (R112). -/
def Sfe.report (f : Sfe) : SfeReport :=
  { state := f.state, cause := f.cause, temp := f.temp, mark := f.mark
    held := f.held.map fun h => (h.req.client, h.req.target) }

/-- The admission wait as it is reported: the tile and the number of slots it asks for (R99). -/
def Fst.waitReport (f : Fst) : Option (TileRef × Nat) := f.wait.map fun w => (w.1, w.2 + 1)

/-- The items of QUERY_STATUS (R153). -/
def State.report (s : State) : StatusReport :=
  { run := s.prc.run, active := s.prc.active, head := s.prc.queue.head?
    bmeState := s.bme.state, bmeTile := s.bme.merge.map fun w => (w.tile, w.band), mergeQueue := s.bme.queue.length
    slots := s.fst.counts, admission := s.fst.waitReport
    sfe := s.sfe.report
    lamp := s.blu.state, requested := s.blu.requested, commanded := s.blu.commanded, throttle := s.blu.throttle
    panelTemp := s.blu.panelTemp, lastSample := s.blu.history.head?.map (·.2)
    trs := s.trs.state
    cru := s.cru.state, calRequest := s.cru.request, darkValid := s.cru.dark.valid
    profilesValid := s.cru.profiles.map (·.valid), b0 := s.cru.dark.b0, darkTemp := s.cru.dark.temp
    stripeInTransfer := s.sou.transfer.isSome, credits := s.sou.credits, outputQueue := s.sou.queue.length
    outputHead := s.sou.queue.head?.map fun e => (e.tile, s.sou.index)
    attached := s.liu.attached, notices := s.liu.notices.length, overflow := s.liu.overflow
    sticky := s.liu.sticky }

/-- QUERY_STATUS (R153); with the clear option the sticky event set is reported and cleared in the same event. -/
def State.queryStatus (s : State) (clear : Bool) : Answer :=
  { state := if clear then { s with liu := { s.liu with sticky := {} } } else s
    status := .ok, body := .status s.report }

/-! ## The commands -/

/-- BAD_FRAME (R149). -/
def execBadFrame (transfer : List Byte) (s : State) : Result := .next (s.badFrame transfer)

/-- BAD_KIND (R149). -/
def execBadKind (kind tag : Byte) (s : State) : Result := .next (s.badKind kind tag)

/-- RECORD_SENT (R150, R155). -/
def execRecordSent (s : State) : Result := .next { s with liu := s.liu.sendNext }

/-- IDENTIFY (R153). -/
def execIdentify (h : Hdr) (s : State) : Result := .next (command h .identify State.identify s)

/-- SET_PARAM (R151). -/
def execSetParam (h : Hdr) (p : Option Param) (value : Nat) (s : State) : Result :=
  .next (command h .setParam (fun s => s.setParam p value) s)

/-- GET_PARAM (R151). -/
def execGetParam (h : Hdr) (what : GetWhat) (s : State) : Result :=
  .next (command h .getParam (fun s => s.getParam what) s)

/-- LOAD_TABLE (R152). -/
def execLoadTable (h : Hdr) (start : Nat) (entries : List Nat) (s : State) : Result :=
  .next (command h .loadTable (fun s => s.loadTable start entries) s)

/-- QUERY_STATUS (R153). -/
def execQueryStatus (h : Hdr) (clear : Bool) (s : State) : Result :=
  .next (command h .queryStatus (fun s => s.queryStatus clear) s)

end Sys2Proof.Machine
end

