-- ==== Sys2Proof/Machine/Reset.lean ====
section
/-! DEFINITION. Power-on, attach and detach, and the RESET handshake with what each block takes at its application
(R159 to R161, and the reset rule of each chapter). -/

namespace Sys2Proof.Machine

/-! ## Quiesce of the blocks without work of their own (R111, R136, R147) -/

/-- FST quiesces (R111). -/
def State.fstQuiesce (s : State) : State :=
  ({ s with fst := { s.fst with quiesce := true, wait := none } }).ack .fst

/-- BLU quiesces (R136). -/
def State.bluQuiesce (s : State) : State :=
  (({ s with blu := { s.blu with quiesce := true } }).stopIdle).ack .blu

/-- BPL quiesces (R48): at once when it is IDLE, otherwise at the withdrawal of its request. -/
def State.bplQuiesce (s : State) : State :=
  match s.bpl.work with
  | none => s.ack .bpl
  | some _ => s

/-- TRS quiesces (R147): an ask that the pending motion kept waiting is granted when the motion is dropped (R139). -/
def State.trsQuiesce (s : State) : State :=
  let s := ({ s with trs := { s.trs with quiesce := true, pendingMotion := none } }).tryInterlock
  if s.trs.state.occupied then s else s.ack .trs

/-- The nine blocks that LIU asks to quiesce (R160). -/
def quiescedBlocks : List Block := [.prc, .bpl, .fst, .sfe, .blu, .trs, .bme, .cru, .sou]

/-- Every block is asked to quiesce (R160 point 1). The spec gives no order within this event; TRS drops its pending
motion (R147) and BLU takes its mark (R136) before SFE releases the interlock and the lamp (R125), so that no motion
begins and no pending drive is applied under the reset (log entry 30). -/
def State.quiesceAll (s : State) : State :=
  s.prcQuiesce.calQuiesce.bplQuiesce.fstQuiesce.trsQuiesce.bluQuiesce.sfeQuiesce.bmeQuiesce.souQuiesce

/-- A RESET is accepted: the 10 s reset timer starts and every block is asked to quiesce (R160). -/
def State.startReset (s : State) (kind : ResetKind) (tag : Byte) : State :=
  ({ s with liu := { s.liu with
      resetWork := some { kind := kind, tag := tag, waiting := quiescedBlocks } } }).quiesceAll

/-- A RESET command (R150, R160). Its reply comes with the application. -/
def State.resetCommand (s : State) (h : Hdr) (kind : ResetKind) : State :=
  if s.liu.attached = false then s
  else match s.liu.resetWork with
    | some _ => s.answer { tag := h.tag, status := .busy, kind := .reset, body := .none }
    | none =>
      if h.fits then s.startReset kind h.tag
      else s.answer { tag := h.tag, status := .badArg, kind := .reset, body := .none }

/-! ## Application, block by block -/

/-- FST after a reset (Table 6.4): a soft reset keeps the REF slots; the planes are never cleared (R100). -/
def Fst.applied (f : Fst) (kind : ResetKind) : Fst :=
  { Fst.reset with
    planes := f.planes
    slots := match kind with
      | .full => Vector.replicate 48 .free
      | .soft => f.slots.map fun x => match x with | .ref n => .ref n | _ => .free }

/-- SFE after a reset (R112, R125): it re-initialises the sensor. -/
def Sfe.applied (f : Sfe) (kind : ResetKind) : Sfe :=
  { Sfe.reset with
    state := .fault, reinit := true
    temp := match kind with | .soft => f.temp | .full => 0
    mark := match kind with | .soft => f.mark | .full => false }

/-- BLU after a reset (R126, R136); the idle timer starts from lamp_idle_s. -/
def Blu.applied (b : Blu) (kind : ResetKind) (idle : Nat) : Blu :=
  let timer : Option Nat := if idle = 0 then none else some idle
  match kind with
  | .full => { Blu.reset with idleTimer := timer }
  | .soft => { Blu.reset with
      idleTimer := timer, throttle := b.throttle, panelTemp := b.panelTemp, history := b.history, clock := b.clock }

/-- TRS after an acknowledged soft reset (R147). -/
def Trs.softened (t : Trs) : Trs :=
  let u := { t with motionTimer := none, settleTimer := none, work := none, pendingMotion := none
                    interlock := .none, heldLoad := none, quiesce := false }
  match t.state with
  | .homingStopped .unload => { u with state := if t.homed then .empty else .unhomed }
  | .homingStopped .axis | .homingStopped .scan => { u with state := .unhomed, homed := false }
  | .settling => { u with state := .atRest }
  | .unhomed | .homing _ | .empty | .loading | .atRest | .moving | .unloading | .fault _ => u

/-- The stage record that a forced reset settles from the presence sensor (R147, R143): a carrier seen is that of the
record, or the one being loaded. An unknown origin arises at power-on and a full reset only (R138), so a record of none
stands where no load is in progress (log entry 24). -/
def Trs.sensedStage (t : Trs) (seen : Bool) : StageRecord :=
  if seen then
    match t.stage, t.work with
    | .carrier p, _ => .carrier p
    | .unknownCarrier, _ => .unknownCarrier
    | .none, some (.load _ p) => .carrier p
    | .none, _ => .none
  else .none

/-- TRS after a forced soft reset (R147): every entry is UNKNOWN but that of the carrier seen on the stage. Table 9.2 has a
forced quiesce leave the stage record unchanged; R147 settles it from the presence sensor, and the model follows R147 (log
entry 24). -/
def Trs.forced (t : Trs) (seen : Bool) : Trs :=
  let stage := t.sensedStage seen
  let u : Trs := { Trs.reset seen with stage := stage }
  match stage with
  | .carrier p => u.setEntry p .out
  | .unknownCarrier | .none => u

/-- TRS after a reset (R137, R147). -/
def Trs.applied (t : Trs) (kind : ResetKind) (force seen : Bool) : Trs :=
  match kind with
  | .full => Trs.reset seen
  | .soft => if force then t.forced seen else t.softened

/-- CRU after a reset (R83, R97). -/
def Cru.applied (c : Cru) (kind : ResetKind) : Cru :=
  match kind with
  | .full => Cru.reset
  | .soft => { Cru.reset with dark := c.dark, profiles := c.profiles }

/-- SOU after a reset (R161). -/
def Sou.applied (q : Sou) : Sou := { Sou.reset with taken := q.taken }

/-- The RESET reply (R160 point 3). -/
def ResetWork.reply (w : ResetWork) (forced : List Block) : Reply :=
  { tag := w.tag, status := .ok, kind := .reset, body := .reset w.kind forced .idle }

/-- The replies that leave at the application: RESET's, unless a detach has taken it, then those of the commands
refused meanwhile (R150, R159). -/
def ResetWork.replies (w : ResetWork) (forced : List Block) : List Reply :=
  if w.replyLost then w.busy else w.reply forced :: w.busy

/-- LIU after a reset (R161, Table 10.6). -/
def Liu.applied (l : Liu) (w : ResetWork) (forced : List Block) : Liu :=
  let kept : Liu := { l with
    notices := [], overflow := 0, resetWork := none, replies := l.replies ++ w.replies forced }
  match w.kind with
  | .soft => kept
  | .full => { kept with params := {}, weights := defaultWeights, sticky := {}, noticeSeq := 0 }

/-- The reset is applied to all blocks in one event (R160 point 2): `seen` is the presence sensor. Of a band that a forced
reset cuts off, R66 and R161 do not say which rows stand: none has been written (log entry 32). -/
def State.applyReset (s : State) (w : ResetWork) (forced : List Block) (seen : Bool) : State :=
  let liu := s.liu.applied w forced
  { s with
    liu := liu
    prc := Prc.reset
    bpl := { work := none }
    fst := s.fst.applied w.kind
    sfe := s.sfe.applied w.kind
    blu := s.blu.applied w.kind liu.params.lampIdleS
    trs := s.trs.applied w.kind (decide (Block.trs ∈ forced)) seen
    bme := Bme.reset
    cru := s.cru.applied w.kind
    sou := s.sou.applied
    inFlight := [] }

/-- A block acknowledges (R160); the last acknowledgement applies the reset. One that is not waited for is
discarded. -/
def State.acknowledged (s : State) (b : Block) (seen : Bool) : State :=
  match s.liu.resetWork with
  | none => s
  | some w =>
    if b ∈ w.waiting then
      let rest := w.waiting.filter fun x => decide (x ≠ b)
      if rest = [] then s.applyReset w [] seen
      else { s with liu := { s.liu with resetWork := some { w with waiting := rest } } }
    else s

/-- The reset timer expires (R160): the blocks that have not acknowledged are forced. -/
def State.resetExpired (s : State) (seen : Bool) : State :=
  match s.liu.resetWork with
  | none => s
  | some w => s.applyReset w w.waiting seen

/-! ## Power-on, attach and detach (R159, R161) -/

/-- Power is applied (R161): every block takes its power-on values; TRS reads the presence sensor (R137) and raises the
notice of its entry into UNHOMED, which waits for the first attach (R148, R162; log entry 30). -/
def State.powerOn (s : State) (seen : Bool) : State :=
  ({ State.reset with trs := Trs.reset seen, freeCount := s.freeCount, pending := s.pending }).transportNotice false

/-- The link is attached (R159). -/
def State.attach (s : State) : State :=
  ({ s with liu := { s.liu with attached := true } }).tryStripe

/-- LIU at a detach (R159): replies not yet sent are discarded, also that of a reset in progress. -/
def Liu.detach (l : Liu) : Liu :=
  { l with
    attached := false, replies := [], notices := [], overflow := 0
    resetWork := l.resetWork.map fun w => { w with busy := [], replyLost := true } }

/-- The link is detached, in one event (R159, R42). -/
def State.detach (s : State) : State :=
  if s.liu.attached then (({ s with liu := s.liu.detach }).souDetach).prcDetach else s

/-! ## The commands -/

/-- POWER_ON (R161 and the power-on values of each block). -/
def execPowerOn (seen : Bool) (s : State) : Result := .next (s.powerOn seen)

/-- ATTACH (R159). -/
def execAttach (s : State) : Result := .next s.attach

/-- DETACH (R159, R42). -/
def execDetach (s : State) : Result := .next s.detach

/-- RESET_SOFT (R160). -/
def execResetSoft (h : Hdr) (s : State) : Result := .next (s.resetCommand h .soft)

/-- RESET_FULL (R160). -/
def execResetFull (h : Hdr) (s : State) : Result := .next (s.resetCommand h .full)

/-- QUIESCE_ACK (R160). -/
def execQuiesceAck (b : Block) (seen : Bool) (s : State) : Result :=
  .next ((s.deliver (.quiesceAck b seen)).acknowledged b seen)

/-- RESET_TIMEOUT (R160). -/
def execResetTimeout (seen : Bool) (s : State) : Result := .next (s.resetExpired seen)

end Sys2Proof.Machine
end

