-- ==== Sys2Proof/Machine/Dispatch.lean ====
section
/-! DEFINITION. What each command does: one direct call of its meaning. -/

namespace Sys2Proof.Machine

open Sys2Proof

/-- The effect of a command on everything but the queue of commands waiting. -/
def exec (i : Instr) (s : State) : Host.Outcome State Fault Refusal :=
  match i with
  | .powerOn seen => Sys2Proof.Machine.execPowerOn seen s
  | .attach => Sys2Proof.Machine.execAttach s
  | .detach => Sys2Proof.Machine.execDetach s
  | .badFrame transfer => Sys2Proof.Machine.execBadFrame transfer s
  | .badKind kind tag => Sys2Proof.Machine.execBadKind kind tag s
  | .recordSent => Sys2Proof.Machine.execRecordSent s
  | .identify h => Sys2Proof.Machine.execIdentify h s
  | .setParam h p value => Sys2Proof.Machine.execSetParam h p value s
  | .getParam h what => Sys2Proof.Machine.execGetParam h what s
  | .loadTable h start entries => Sys2Proof.Machine.execLoadTable h start entries s
  | .home h => Sys2Proof.Machine.execHome h s
  | .queryMagazine h => Sys2Proof.Machine.execQueryMagazine h s
  | .calibrateDark h => Sys2Proof.Machine.execCalibrateDark h s
  | .calibrateFlat h profile => Sys2Proof.Machine.execCalibrateFlat h profile s
  | .calibrateCancel h => Sys2Proof.Machine.execCalibrateCancel h s
  | .submitJob h payload => Sys2Proof.Machine.execSubmitJob h payload s
  | .queryJob h job start => Sys2Proof.Machine.execQueryJob h job start s
  | .releaseJob h job => Sys2Proof.Machine.execReleaseJob h job s
  | .abortJob h job => Sys2Proof.Machine.execAbortJob h job s
  | .hold h => Sys2Proof.Machine.execHold h s
  | .resume h => Sys2Proof.Machine.execResume h s
  | .grantStripes h n => Sys2Proof.Machine.execGrantStripes h n s
  | .queryStatus h clear => Sys2Proof.Machine.execQueryStatus h clear s
  | .clearStage h seen => Sys2Proof.Machine.execClearStage h seen s
  | .resetSoft h => Sys2Proof.Machine.execResetSoft h s
  | .resetFull h => Sys2Proof.Machine.execResetFull h s
  | .quiesceAck b seen => Sys2Proof.Machine.execQuiesceAck b seen s
  | .resetTimeout seen => Sys2Proof.Machine.execResetTimeout seen s
  | .startJob => Sys2Proof.Machine.execStartJob s
  | .holdPoint => Sys2Proof.Machine.execHoldPoint s
  | .loadComplete => Sys2Proof.Machine.execLoadComplete s
  | .noCarrier => Sys2Proof.Machine.execNoCarrier s
  | .settleCompletion => Sys2Proof.Machine.execSettleCompletion s
  | .planCompletion tile plan attempts flags => Sys2Proof.Machine.execPlanCompletion tile plan attempts flags s
  | .admissionGrant tile slots => Sys2Proof.Machine.execAdmissionGrant tile slots s
  | .exposureEnd tile m => Sys2Proof.Machine.execExposureEnd tile m s
  | .exposureCompletion r => Sys2Proof.Machine.execExposureCompletion r s
  | .retryReport tile metering => Sys2Proof.Machine.execRetryReport tile metering s
  | .secondReadoutFailure tile => Sys2Proof.Machine.execSecondReadoutFailure tile s
  | .transportFault => Sys2Proof.Machine.execTransportFault s
  | .backlightFault cause => Sys2Proof.Machine.execBacklightFault cause s
  | .unloadComplete => Sys2Proof.Machine.execUnloadComplete s
  | .trsEmptyReport => Sys2Proof.Machine.execTrsEmptyReport s
  | .reinitEndReport => Sys2Proof.Machine.execReinitEndReport s
  | .cruIdleReport => Sys2Proof.Machine.execCruIdleReport s
  | .planRequest r => Sys2Proof.Machine.execPlanRequest r s
  | .planWithdraw r => Sys2Proof.Machine.execPlanWithdraw r s
  | .attemptCompletion r attempt m => Sys2Proof.Machine.execAttemptCompletion r attempt m s
  | .admissionRequest tile n => Sys2Proof.Machine.execAdmissionRequest tile n s
  | .admissionWithdraw tile => Sys2Proof.Machine.execAdmissionWithdraw tile s
  | .slotChange slot change tile => Sys2Proof.Machine.execSlotChange slot change tile s
  | .tileRelease tile => Sys2Proof.Machine.execTileRelease tile s
  | .calworkRequest kind => Sys2Proof.Machine.execCalworkRequest kind s
  | .calCommit entries => Sys2Proof.Machine.execCalCommit entries s
  | .calworkReturn slots => Sys2Proof.Machine.execCalworkReturn slots s
  | .portUnitRequest u => Sys2Proof.Machine.execPortUnitRequest u s
  | .portUnitDone => Sys2Proof.Machine.execPortUnitDone s
  | .exposureRequest r => Sys2Proof.Machine.execExposureRequest r s
  | .lampReadyGrant => Sys2Proof.Machine.execLampReadyGrant s
  | .interlockGrant => Sys2Proof.Machine.execInterlockGrant s
  | .lampLost => Sys2Proof.Machine.execLampLost s
  | .lampFaultReport => Sys2Proof.Machine.execLampFaultReport s
  | .stageFaultReport => Sys2Proof.Machine.execStageFaultReport s
  | .goAhead => Sys2Proof.Machine.execGoAhead s
  | .exposureWithdraw c => Sys2Proof.Machine.execExposureWithdraw c s
  | .exposureTimerExpiry since => Sys2Proof.Machine.execExposureTimerExpiry since s
  | .readoutCompletion frame => Sys2Proof.Machine.execReadoutCompletion frame s
  | .readoutTimeout => Sys2Proof.Machine.execReadoutTimeout s
  | .flushCompletion => Sys2Proof.Machine.execFlushCompletion s
  | .sensorTempSample t => Sys2Proof.Machine.execSensorTempSample t s
  | .reinitRequest => Sys2Proof.Machine.execReinitRequest s
  | .reinitComplete => Sys2Proof.Machine.execReinitComplete s
  | .reinitTimeout => Sys2Proof.Machine.execReinitTimeout s
  | .lightRequest d => Sys2Proof.Machine.execLightRequest d s
  | .monitorSample v => Sys2Proof.Machine.execMonitorSample v s
  | .lampSettleTimeout => Sys2Proof.Machine.execLampSettleTimeout s
  | .panelTempSample t => Sys2Proof.Machine.execPanelTempSample t s
  | .lampReadyAsk cond time => Sys2Proof.Machine.execLampReadyAsk cond time s
  | .lampReadyRelease since => Sys2Proof.Machine.execLampReadyRelease since s
  | .darkHold => Sys2Proof.Machine.execDarkHold s
  | .darkHoldRelease => Sys2Proof.Machine.execDarkHoldRelease s
  | .leaveFault => Sys2Proof.Machine.execLeaveFault s
  | .idleTimerExpiry => Sys2Proof.Machine.execIdleTimerExpiry s
  | .deferredStandby => Sys2Proof.Machine.execDeferredStandby s
  | .loadRequest c position => Sys2Proof.Machine.execLoadRequest c position s
  | .moveRequest c target => Sys2Proof.Machine.execMoveRequest c target s
  | .unloadRequest c seen => Sys2Proof.Machine.execUnloadRequest c seen s
  | .interlockAsk => Sys2Proof.Machine.execInterlockAsk s
  | .interlockRelease => Sys2Proof.Machine.execInterlockRelease s
  | .loadLegCompletion seen => Sys2Proof.Machine.execLoadLegCompletion seen s
  | .moveLegCompletion => Sys2Proof.Machine.execMoveLegCompletion s
  | .settleTimerExpiry => Sys2Proof.Machine.execSettleTimerExpiry s
  | .unloadLegCompletion => Sys2Proof.Machine.execUnloadLegCompletion s
  | .homeUnloadLegDone => Sys2Proof.Machine.execHomeUnloadLegDone s
  | .homeAxisLegDone => Sys2Proof.Machine.execHomeAxisLegDone s
  | .homeScanLegDone present => Sys2Proof.Machine.execHomeScanLegDone present s
  | .motionTimeout seen scanned => Sys2Proof.Machine.execMotionTimeout seen scanned s
  | .lostCarrier => Sys2Proof.Machine.execLostCarrier s
  | .mergeTakeUp => Sys2Proof.Machine.execMergeTakeUp s
  | .bandCompletion => Sys2Proof.Machine.execBandCompletion s
  | .bmeAbandon tile => Sys2Proof.Machine.execBmeAbandon tile s
  | .calWorkRequest low high => Sys2Proof.Machine.execCalWorkRequest low high s
  | .accumulateRequest slot kind => Sys2Proof.Machine.execAccumulateRequest slot kind s
  | .biasFinish result => Sys2Proof.Machine.execBiasFinish result s
  | .rateFinish time biasSlot result => Sys2Proof.Machine.execRateFinish time biasSlot result s
  | .workClear => Sys2Proof.Machine.execWorkClear s
  | .flatMean result => Sys2Proof.Machine.execFlatMean result s
  | .flatGain result mean yClear => Sys2Proof.Machine.execFlatGain result mean yClear s
  | .calRelease => Sys2Proof.Machine.execCalRelease s
  | .calworkGrant => Sys2Proof.Machine.execCalworkGrant s
  | .calWorkAccepted ok low high => Sys2Proof.Machine.execCalWorkAccepted ok low high s
  | .calFrameComplete temp m => Sys2Proof.Machine.execCalFrameComplete temp m s
  | .accumulationComplete => Sys2Proof.Machine.execAccumulationComplete s
  | .biasFinishComplete b0 => Sys2Proof.Machine.execBiasFinishComplete b0 s
  | .clearComplete => Sys2Proof.Machine.execClearComplete s
  | .rateFinishComplete => Sys2Proof.Machine.execRateFinishComplete s
  | .flatLoadComplete => Sys2Proof.Machine.execFlatLoadComplete s
  | .flatSettleComplete => Sys2Proof.Machine.execFlatSettleComplete s
  | .flatPlanCompletion entry flags => Sys2Proof.Machine.execFlatPlanCompletion entry flags s
  | .flatMeanComplete mean => Sys2Proof.Machine.execFlatMeanComplete mean s
  | .flatGainComplete defects lClear => Sys2Proof.Machine.execFlatGainComplete defects lClear s
  | .flatUnloadComplete => Sys2Proof.Machine.execFlatUnloadComplete s
  | .calSensorFailure => Sys2Proof.Machine.execCalSensorFailure s
  | .calLampFault => Sys2Proof.Machine.execCalLampFault s
  | .calTransportFault r => Sys2Proof.Machine.execCalTransportFault r s
  | .stripeStart => Sys2Proof.Machine.execStripeStart s
  | .stripeEnd => Sys2Proof.Machine.execStripeEnd s
  | .souAbandon tile => Sys2Proof.Machine.execSouAbandon tile s
  | .interlockAskWithdraw => Sys2Proof.Machine.execInterlockAskWithdraw s

end Sys2Proof.Machine
end

