-- ==== Sys2Proof/Safety.lean ====
section
/-! DEFINITION. What counts as a safe state: the laws that the spec states of the part at every moment, one definition
each, in the words claims use. -/

namespace Sys2Proof.Machine

/-- R126: the commanded drive is the requested drive under the throttle's cap while the lamp is lit, and 0 otherwise;
so it never exceeds 1024 while the throttle flag is set, and is 0 in STANDBY, DARK and FAULT. -/
def Blu.driveLaw (b : Blu) : Prop := b.commanded = if b.state.lit then cappedDrive b.throttle b.requested else 0

/-- R157: the credit counter stays within 0 to 1024. -/
def Sou.creditLaw (q : Sou) : Prop := q.credits ≤ creditCapacity

/-- R155, R150: at most 64 notices, an overflow count of at most 65535, a sequence number below 256. -/
def Liu.noticeLaw (l : Liu) : Prop := l.notices.length ≤ noticeCapacity ∧ l.overflow ≤ 65535 ∧ l.noticeSeq < 256

/-- Table 10.3: every numeric parameter lies in its range. -/
def Liu.paramLaw (l : Liu) : Prop := l.params.inRange = true

/-- The positions that the unfinished records of a table claim (R1). -/
def Prc.claims (p : Prc) : List Nat := (p.jobs.filter fun j => !j.state.finished).map (·.position)

/-- R1: at most 32 records, no two with one job id, no two unfinished ones with one position. -/
def Prc.tableLaw (p : Prc) : Prop :=
  p.jobs.length ≤ jobCapacity ∧ (p.jobs.map (·.id)).Nodup ∧ p.claims.Nodup

/-- R1: the queue holds exactly the ids of the QUEUED records, each once; an active job has a record in an active
state (Table 1.3); the run is QUIESCING only while a reset is in progress (R43, R160). -/
def State.queueLaw (s : State) : Prop :=
  s.prc.queue.Nodup
    ∧ (∀ id, id ∈ s.prc.queue ↔ ∃ j ∈ s.prc.jobs, j.id = id ∧ j.state = .queued)
    ∧ (∀ id, s.prc.active = some id → ∃ j ∈ s.prc.jobs, j.id = id ∧ j.state.isActive = true)
    ∧ (s.prc.run = .quiescing → s.liu.resetWork.isSome = true)

/-- R14 and R7: the tiles of a record bear the numbers 0 to cols × rows − 1 in order, and each of the three counts is
the number of its tiles in that end state. -/
def Job.countLaw (j : Job) : Prop :=
  j.tiles.map (·.seq) = List.range (j.cols * j.rows)
    ∧ j.masked = j.tiles.countP (fun x => decide (x.state = .masked))
    ∧ j.sent = j.tiles.countP (fun x => decide (x.state = .sent))
    ∧ j.abandoned = j.tiles.countP (fun x => decide (x.state = .abandoned))

/-- The counts of every record of the table are right (R14). -/
def Prc.countLaw (p : Prc) : Prop := ∀ j ∈ p.jobs, j.countLaw

/-- The reference names of the REF slots, in slot order (R99). -/
def Fst.refNames (f : Fst) : List RefName :=
  f.slots.toList.filterMap fun x => match x with
    | .ref n => some n
    | _ => none

/-- R99: no two slots are REF under one name, and every name is one of the six of Table 6.1. -/
def Fst.refLaw (f : Fst) : Prop := f.refNames.Nodup ∧ f.refNames.all RefName.valid = true

/-- The planes of the frame store are in their one canonical form (log entry 3). -/
def Fst.memoryLaw (f : Fst) : Prop := Memory.wf f.planes = true

/-- The magazine positions marked OUT, in order (R138). -/
def Trs.outs (t : Trs) : List Nat := (List.range 20).filter fun p => decide (t.magazine[p]? = some .out)

/-- The positions that the stage record accounts for (R138): a carrier of known origin has an OUT entry. -/
def StageRecord.outs : StageRecord → List Nat
  | .carrier p => [p]
  | .unknownCarrier | .none => []

/-- R138: the entries marked OUT are exactly that of the carrier of known origin on the stage. -/
def Trs.outLaw (t : Trs) : Prop := t.outs = t.stage.outs

/-- What TRS's states say of the stage: none is on it in EMPTY, while a load is under way, and after HOME's unload leg;
a load under way names a magazine position, and no load waits behind the interlock (R139, R140). -/
def Trs.stageLaw (t : Trs) : Prop :=
  (t.state = .empty ∨ t.state = .loading ∨ t.state = .homingStopped .unload → t.stage = .none)
    ∧ (match t.work with
        | some (.load _ p) => p < 20
        | _ => True)
    ∧ (match t.pendingMotion with
        | some (.load _ _) => False
        | _ => True)

/-- A state in which every law above holds. -/
def State.Safe (s : State) : Prop :=
  s.blu.driveLaw ∧ s.sou.creditLaw ∧ s.liu.noticeLaw ∧ s.liu.paramLaw ∧ s.prc.tableLaw ∧ s.queueLaw
    ∧ s.prc.countLaw ∧ s.fst.refLaw
    ∧ s.fst.memoryLaw ∧ s.trs.outLaw ∧ s.trs.stageLaw

/-! ## Words for what a host command meets -/

/-- The state with a reply to a command in the reply queue. -/
def State.replied (s : State) (h : Hdr) (k : CommandKind) (st : Status) (b : ReplyBody) : State :=
  { s with liu := { s.liu with replies := s.liu.replies ++ [{ tag := h.tag, status := st, kind := k, body := b }] } }

/-- A command record that fits its kind reaches its owner: the link is attached and no reset is in progress. -/
def State.takes (s : State) (h : Hdr) : Prop := s.liu.attached = true ∧ s.liu.resetWork = none ∧ h.fits = true

/-! ## Words for what a command leaves alone -/

/-- Nothing of LIU has changed but what raising notices changes: the notice queue, its overflow count and the sticky
marks (R154, R155). -/
def State.noticesOnly (s t : State) : Prop :=
  ∃ (n : List Notice) (o : Nat) (k : Sticky), t.liu = { s.liu with notices := n, overflow := o, sticky := k }

/-- Nothing has changed but PRC, the messages on their way, and notices. -/
def State.prcOnly (s t : State) : Prop :=
  t.bpl = s.bpl ∧ t.fst = s.fst ∧ t.sfe = s.sfe ∧ t.blu = s.blu ∧ t.trs = s.trs ∧ t.bme = s.bme ∧ t.cru = s.cru
    ∧ t.sou = s.sou ∧ t.freeCount = s.freeCount ∧ t.pending = s.pending ∧ s.noticesOnly t

/-- No job record but that of a tile's job has changed, and no tile record of that job but the tile's. -/
def Prc.otherRecords (p q : Prc) (r : TileRef) : Prop :=
  (∀ k, k ≠ r.job → q.job? k = p.job? k) ∧ ∀ n, n ≠ r.seq → q.tile? ⟨r.job, n⟩ = p.tile? ⟨r.job, n⟩

/-! ## Words for tiles that are abandoned -/

/-- Table 2.3: the withdrawals and releases that PRC sends when it abandons a tile, by the tile's state. -/
def Prc.withdrawals (p : Prc) (t : TileRef) (st : TileState) : List Instr :=
  match st with
  | .metering => if p.planReq = some t then [.planWithdraw (.prc t)] else []
  | .planned => if p.admReq = some t then [.admissionWithdraw t] else []
  | .exposing => (if p.expReq = some t then [.exposureWithdraw (.prc t)] else []) ++ [.tileRelease t]
  | .exposed | .merging => [.bmeAbandon t]
  | .merged | .sending => [.souAbandon t]
  | .masked | .pending | .positioning | .sent | .abandoned => []

/-- A job's record when its tiles whose state passes a test have been abandoned (R14); its other tiles are as they
were. -/
def Job.without (j : Job) (f : TileState → Bool) : Job :=
  { j with
    tiles := j.tiles.map fun x => if f x.state then { x with state := .abandoned } else x
    abandoned := j.abandoned + j.tiles.countP fun x => f x.state }

/-- A request of PRC that a tile in a state has, when some tiles of a job have been abandoned: theirs is outstanding no
more. -/
def Job.requestLeft (j : Job) (gone : List Tile) (st : TileState) (r : Option TileRef) : Option TileRef :=
  if gone.any fun x => decide (x.state = st) && decide (r = some ⟨j.id, x.seq⟩) then none else r

/-- The state when PRC has abandoned the tiles of a job whose state passes a test, in sequence order: their records and
the job's count, PRC's requests for them withdrawn and their slots released, and a TILE_DONE notice for each (Table 2.3,
R14, R16). -/
def State.tilesGone (s : State) (j : Job) (f : TileState → Bool) : State :=
  let gone := j.tiles.filter fun x => f x.state
  { s with
    prc := { s.prc with
      jobs := s.prc.jobs.map fun k : Job => if k.id = j.id then j.without f else k
      planReq := j.requestLeft gone .metering s.prc.planReq
      admReq := j.requestLeft gone .planned s.prc.admReq
      expReq := j.requestLeft gone .exposing s.prc.expReq
      retryBack := if gone.any fun x => decide (x.state = .exposing) then none else s.prc.retryBack }
    inFlight := s.inFlight ++ gone.flatMap fun x => s.prc.withdrawals ⟨j.id, x.seq⟩ x.state
    liu := gone.foldl (fun l x => l.raise (.tileDone j.id x.row x.col x.seq .abandoned x.flags x.stats)) s.liu }

/-- A job's record takes a state and an outcome, and its JOB_STATE notice is queued (R16). -/
def State.recordJob (s : State) (k : Job) : State :=
  { s with prc := { s.prc with jobs := s.prc.jobs.map fun x : Job => if x.id = k.id then k else x } }.notice
    (.jobState k.id k.label k.state k.outcome k.sent k.abandoned k.masked)

/-- R37, R39, R41: the state when a failure has ended the active job: its tiles not yet captured are abandoned, it is
DRAINING while others are in flight and FAILED otherwise, it is active no more, and the idle timer starts where its
condition holds (R135). -/
def State.jobEnded (s : State) (j : Job) (c : FailCause) : State :=
  let a := s.tilesGone j TileState.uncaptured
  ({ a with prc := { a.prc with active := none, abortMark := false, lampAfterUnload := false } }.recordJob
    { j.without TileState.uncaptured with
      state := if j.tiles.any fun x => x.state.inFlight then .draining else .failed
      outcome := some (.failed c) }).startIdle

/-! ## Words for what follows in the event that ends something -/

/-- Commands run one after another, each on the state that the one before it leaves. -/
def execAll : List Instr → State → Host.Outcome State Fault Refusal
  | [], s => .next s
  | c :: cs, s =>
    match exec c s with
    | .next t => execAll cs t
    | stop => stop

/-- The state with neither an admission nor a calibration waiting for slots (R86, R102). -/
def State.unwaited (s : State) : State :=
  { s with fst := { s.fst with wait := none }, cru := { s.cru with state := .idle } }

/-- The admission that waits, as the request that would ask for it again (R101, R102). -/
def Fst.asksAgain (f : Fst) : List Instr :=
  match f.wait with
  | some (u, n) => [.admissionRequest u n]
  | none => []

/-- The event of a command goes on, in the same step, with what some other commands do: it is the event of the command at
the state with some work set aside, and then, that work put back, those commands one after another. None of them is among
the messages on their way, so that none is delivered by this. -/
def State.goesOn (s : State) (c : Instr) (aside : State) (putBack : State → State) (after : List Instr) : Prop :=
  ∃ t, exec c aside = .next t ∧ ((∀ d ∈ after, d ∉ t.inFlight) → exec c s = execAll after (putBack t))

/-! ## Words for the memory port -/

/-- The port once the readout of SFE has ended or has been withdrawn: no row of SFE waits, and one in service has its write
mark cleared, so that it writes nothing (R118, R122; of a readout timeout: log entry 37). -/
def Port.withoutSfe (p : Port) : Port :=
  { p with
    serving := match p.serving with
      | some u => if u.client = .sfe then some { u with write := false } else some u
      | none => none
    waitSfe := none }

/-- A unit is not SFE's, or it is a row of the readout in progress that still writes: neither withdrawn nor refused by the
port (R118, R122). -/
def Sfe.asksFor (f : Sfe) (u : PortUnit) : Prop :=
  u.client ≠ .sfe ∨ ∃ q e m temp, f.readout = some q ∧ q.kind = .frame e m temp ∧ q.dropped = false ∧ q.noFrame = false
    ∧ (e.req.target = .calwork u.slot ∨ ∃ t, e.req.target = .slot u.slot t)

/-! ## Words for a band of a merge -/

/-- Every slot that a merge reads is in a state in which the port lets BME read it (R62, Table 6.3): the references REF,
the exposures RAW. -/
def Fst.mergeReadable (f : Fst) (ctx : MergeCtx) : Prop :=
  (∀ i, ctx.bias = some i ∨ ctx.rate = some i ∨ ctx.flat = some i → ∃ n, f.slot i = some (.ref n))
    ∧ ∀ e ∈ ctx.exposures, ∃ v, f.slot e.slot = some (.raw v)

/-- What pixel (row, col) of slot i reads after the band in progress (R62): in the band's rows of the destination the
code of the merged pixel, mirrored left to right under EMULSION_SIDE, and elsewhere what it read before. -/
def Fst.mergeWritten (f : Fst) (w : MergeWork) (i row col : Nat) : Option Nat :=
  if w.ctx.dest = some i ∧ 64 * w.band ≤ row ∧ row < 64 * w.band + 64 then
    (runsGet? (f.mergeBand w.ctx w.band) ((row - 64 * w.band) * 5120 + (match w.ctx.view with
      | .glassSide => col
      | .emulsionSide => 5119 - col))).map (·.code)
  else f.pixel i row col

end Sys2Proof.Machine

namespace Sys2Proof

open Machine

/-- The header and the kind of a command of the host; none for what comes from elsewhere, and for a record that
names no command. -/
def Instr.host? : Instr → Option (Hdr × CommandKind)
  | .identify h => some (h, .identify)
  | .setParam h _ _ => some (h, .setParam)
  | .getParam h _ => some (h, .getParam)
  | .loadTable h _ _ => some (h, .loadTable)
  | .home h => some (h, .home)
  | .queryMagazine h => some (h, .queryMagazine)
  | .calibrateDark h | .calibrateFlat h _ | .calibrateCancel h => some (h, .calibrate)
  | .submitJob h _ => some (h, .submitJob)
  | .queryJob h _ _ => some (h, .queryJob)
  | .releaseJob h _ => some (h, .releaseJob)
  | .abortJob h _ => some (h, .abortJob)
  | .hold h => some (h, .hold)
  | .resume h => some (h, .resume)
  | .grantStripes h _ => some (h, .grantStripes)
  | .queryStatus h _ => some (h, .queryStatus)
  | .clearStage h _ => some (h, .clearStage)
  | .resetSoft h | .resetFull h => some (h, .reset)
  | _ => none

end Sys2Proof
end

