-- ==== Sys2Proof/Certificates/Slice0/Obligations.lean ====
section
/-! DEFINITION. The statements for the provers. Each docstring names the rules of spec/ that it formalises; a state is
any state, reached by a run or not, that meets the hypotheses written. -/

open Sys2Proof Sys2Proof.Machine

/-! ## The machine as a whole -/

/-- A step takes the command at the front of the queue and is `exec` of it on the state with the queue's rest. -/
def Obligations.StepRunsFront : Prop :=
  ∀ (c : Instr) (rest : List Instr) (s : State),
    step { s with pending := c :: rest } = exec c { s with pending := rest }

/-- Every command completes: it answers a next state (one that no rule places is discarded, and nothing stops: log entry
6), and the queue of waiting commands, which is the model's own (log entry 2), is as it was. -/
def Obligations.EveryCommandCompletes : Prop :=
  ∀ (c : Instr) (s : State), ∃ t, exec c s = .next t ∧ t.pending = s.pending

/-! ## Invariants that every step keeps -/

/-- R126, R151, R155, R157: the commanded drive follows from the lamp state, the requested drive and the throttle flag;
credits, notices and numeric parameters stay in their ranges. -/
def Obligations.RangesKept : Prop :=
  (∀ s t : State, s.blu.driveLaw → step s = .next t → t.blu.driveLaw)
  ∧ (∀ s t : State, s.sou.creditLaw → s.liu.noticeLaw → s.liu.paramLaw → step s = .next t →
    t.sou.creditLaw ∧ t.liu.noticeLaw ∧ t.liu.paramLaw)

/-- R1: the job table and the queue keep their laws. -/
def Obligations.JobTableKept : Prop :=
  ∀ s t : State, s.prc.tableLaw → s.queueLaw → step s = .next t → t.prc.tableLaw ∧ t.queueLaw

/-- R14: the counts of every job record stay the numbers of its tiles in the three end states, and the masked count
of a record never changes; where the counts are right, their sum is at most cols × rows, and equals it exactly when
every tile is in an end state. -/
def Obligations.TileCountsKept : Prop :=
  (∀ s t : State, s.prc.tableLaw → s.prc.countLaw → step s = .next t → t.prc.countLaw
    ∧ ∀ id j k, s.prc.job? id = some j → t.prc.job? id = some k → k.masked = j.masked)
  ∧ (∀ j : Job, j.countLaw →
    j.sent + j.abandoned + j.masked ≤ j.cols * j.rows
      ∧ (j.sent + j.abandoned + j.masked = j.cols * j.rows ↔
          ∀ x ∈ j.tiles, x.state = .masked ∨ x.state = .sent ∨ x.state = .abandoned))

/-- R99 and log entry 3: no two slots become REF under one name, nor under any but the six names of Table 6.1, and the
frame store's memory keeps its one canonical form. -/
def Obligations.FrameStoreLawsKept : Prop :=
  (∀ s t : State, s.fst.refLaw → step s = .next t → t.fst.refLaw)
  ∧ (∀ s t : State, s.fst.memoryLaw → step s = .next t → t.fst.memoryLaw)

/-- R138: the magazine entries marked OUT are exactly that of the carrier of known origin on the stage. -/
def Obligations.MagazineRecordKept : Prop :=
  ∀ s t : State, s.trs.outLaw → s.trs.stageLaw → step s = .next t → t.trs.outLaw ∧ t.trs.stageLaw

/-- The state after power-on satisfies every law. -/
def Obligations.ResetStateIsSafe : Prop := State.reset.Safe

/-! ## Records and host commands at the link -/

/-- R149, R150: a command of the host does nothing while the link is detached (log entry 6); while a reset is in
progress it is refused with BUSY, the reply kept behind the RESET reply; and one whose payload does not fit is refused
with BAD_ARG, both with an empty body (a SET_PARAM too: log entry 36). -/
def Obligations.HostCommandGate : Prop :=
  ∀ (c : Instr) (h : Hdr) (k : CommandKind) (s : State), c.host? = some (h, k) →
    (s.liu.attached = false → exec c s = .next s)
    ∧ (∀ w, s.liu.attached = true → s.liu.resetWork = some w →
        exec c s = .next { s with liu := { s.liu with resetWork := some { w with
          busy := w.busy ++ [{ tag := h.tag, status := .busy, kind := k, body := .none }] } } })
    ∧ (s.liu.attached = true → s.liu.resetWork = none → h.fits = false →
        exec c s = .next (s.replied h k .badArg .none))

/-- R99, R112, R137, R151, R153, R154: IDENTIFY, QUERY_MAGAZINE and GET_PARAM change nothing but the reply queue.
QUERY_STATUS reports every item of every block as it stands, the slots of each state counted one by one, and clears the
sticky event set in the same event when asked to. -/
def Obligations.ReportsAreTrue : Prop :=
  (∀ (h : Hdr) (s : State), s.takes h →
    exec (.identify h) s = .next (s.replied h .identify .ok
      (.identity "Lantrop" "Wimtar" "WX-840" Config.logicRevision 48 32 64 1024))
    ∧ exec (.queryMagazine h) s = .next (s.replied h .queryMagazine .ok
      (.magazine s.trs.magazine s.trs.stage s.trs.pos s.trs.state s.trs.homed))
    ∧ (∀ p, exec (.getParam h (.param (some p))) s
        = .next (s.replied h .getParam .ok (.param p (s.liu.params.get p))))
    ∧ exec (.getParam h (.param none)) s = .next (s.replied h .getParam .badArg .none)
    ∧ (∀ i, i ≤ 255 → exec (.getParam h (.weights i)) s
        = .next (s.replied h .getParam .ok (.weights ((s.liu.weights.toList.drop i).take 64))))
    ∧ (∀ i, 255 < i → exec (.getParam h (.weights i)) s = .next (s.replied h .getParam .badArg .none)))
  ∧ (∀ (h : Hdr) (clear : Bool) (s : State), s.takes h →
    let slots (p : SlotState → Bool) : Nat := ((List.range 48).filter fun i => (s.fst.slot i).any p).length
    ∃ r : StatusReport, exec (.queryStatus h clear) s
      = .next ({ s with liu := { s.liu with sticky := if clear then {} else s.liu.sticky } }.replied h .queryStatus
          .ok (.status r))
    ∧ r.sticky = s.liu.sticky ∧ r.attached = s.liu.attached ∧ r.notices = s.liu.notices.length
    ∧ r.overflow = s.liu.overflow
    ∧ r.run = s.prc.run ∧ r.active = s.prc.active ∧ r.head = s.prc.queue.head?
    ∧ r.bmeState = s.bme.state ∧ r.mergeQueue = s.bme.queue.length
    ∧ r.bmeTile = s.bme.merge.map (fun w => (w.tile, w.band))
    ∧ r.sfe.state = s.sfe.state ∧ r.sfe.cause = s.sfe.cause ∧ r.sfe.temp = s.sfe.temp ∧ r.sfe.mark = s.sfe.mark
    ∧ (s.sfe.held = none → r.sfe.held = none)
    ∧ (∀ q, s.sfe.held = some q → r.sfe.held = some (q.req.client, q.req.target))
    ∧ r.lamp = s.blu.state ∧ r.requested = s.blu.requested ∧ r.commanded = s.blu.commanded
    ∧ r.throttle = s.blu.throttle ∧ r.panelTemp = s.blu.panelTemp ∧ r.trs = s.trs.state
    ∧ (s.blu.history = [] → r.lastSample = none) ∧ (∀ p ps, s.blu.history = p :: ps → r.lastSample = some p.2)
    ∧ r.cru = s.cru.state ∧ r.calRequest = s.cru.request ∧ r.darkValid = s.cru.dark.valid
    ∧ r.b0 = s.cru.dark.b0 ∧ r.darkTemp = s.cru.dark.temp
    ∧ (∀ p, p < 4 → r.profilesValid[p]? = some (s.cru.profile p).valid)
    ∧ r.stripeInTransfer = s.sou.transfer.isSome ∧ r.credits = s.sou.credits ∧ r.outputQueue = s.sou.queue.length
    ∧ (s.sou.queue = [] → r.outputHead = none)
    ∧ (∀ e es, s.sou.queue = e :: es → r.outputHead = some (e.tile, s.sou.index))
    ∧ (s.fst.wait = none → r.admission = none)
    ∧ (∀ t n, s.fst.wait = some (t, n) → r.admission = some (t, n + 1))
    ∧ r.slots.free = slots (fun x => decide (x = .free))
    ∧ r.slots.reserved = slots (fun x => match x with | .reserved _ => true | _ => false)
    ∧ r.slots.exposing = slots (fun x => match x with | .exposing _ => true | _ => false)
    ∧ r.slots.raw = slots (fun x => match x with | .raw _ => true | _ => false)
    ∧ r.slots.dest = slots (fun x => match x with | .dest _ => true | _ => false)
    ∧ r.slots.merged = slots (fun x => match x with | .merged _ => true | _ => false)
    ∧ r.slots.streaming = slots (fun x => decide (x = .streaming))
    ∧ r.slots.ref = slots (fun x => match x with | .ref _ => true | _ => false)
    ∧ r.slots.calwork = slots (fun x => match x with | .calwork _ => true | _ => false)
    ∧ r.slots.free + r.slots.reserved + r.slots.exposing + r.slots.raw + r.slots.dest + r.slots.merged
        + r.slots.streaming + r.slots.ref + r.slots.calwork = 48)

/-- R151, R152: what SET_PARAM stores, parameter by parameter, and what LOAD_TABLE writes, with their refusals; neither
changes any other value. A SET_PARAM of an unknown parameter is refused with BAD_ARG, and so is a LOAD_TABLE entry
above 255 (log entry 31). Run-locked values are refused with BUSY while a tile is admitted and neither merged nor
abandoned. -/
def Obligations.ParametersStored : Prop :=
  (∀ (h : Hdr) (v : Nat) (s : State), s.takes h →
    exec (.setParam h none v) s = .next (s.replied h .setParam .badArg .none))
  ∧ (∀ (h : Hdr) (p : Param) (v : Nat) (s : State), s.takes h →
    ((p = .satCode ∨ p = .roundingMode) →
      (∃ j ∈ s.prc.jobs, ∃ x ∈ j.tiles, x.state = .exposing ∨ x.state = .exposed ∨ x.state = .merging) →
      exec (.setParam h (some p) v) s = .next (s.replied h .setParam .busy (.param p (s.liu.params.get p))))
    ∧ (¬ ((p = .satCode ∨ p = .roundingMode) ∧
        ∃ j ∈ s.prc.jobs, ∃ x ∈ j.tiles, x.state = .exposing ∨ x.state = .exposed ∨ x.state = .merging) →
      match p.kind with
      | .numeric lo hi => ∃ params : Params,
          exec (.setParam h (some p) v) s = .next ({ s with liu := { s.liu with params := params } }.replied h
            .setParam (if lo ≤ v ∧ v ≤ hi then .ok else .clamped) (.param p (params.get p)))
          ∧ params.get p = (if v < lo then lo else if hi < v then hi else v)
          ∧ ∀ q, q ≠ p → params.get q = s.liu.params.get q
      | .idle => ∃ params : Params,
          exec (.setParam h (some p) v) s = .next ({ s with liu := { s.liu with params := params } }.replied h
            .setParam (if v = 0 ∨ (10 ≤ v ∧ v ≤ 3600) then .ok else .clamped) (.param p (params.get p)))
          ∧ params.get p = (if v = 0 then 0 else if v < 10 then 10 else if 3600 < v then 3600 else v)
          ∧ ∀ q, q ≠ p → params.get q = s.liu.params.get q
      | .named n =>
          if v < n then ∃ params : Params,
            exec (.setParam h (some p) v) s = .next ({ s with liu := { s.liu with params := params } }.replied h
              .setParam .ok (.param p v)) ∧ params.get p = v ∧ ∀ q, q ≠ p → params.get q = s.liu.params.get q
          else exec (.setParam h (some p) v) s
            = .next (s.replied h .setParam .badArg (.param p (s.liu.params.get p)))
      | .steps =>
          if v = 4 ∨ v = 8 ∨ v = 16 then ∃ params : Params,
            exec (.setParam h (some p) v) s = .next ({ s with liu := { s.liu with params := params } }.replied h
              .setParam .ok (.param p v)) ∧ params.get p = v ∧ ∀ q, q ≠ p → params.get q = s.liu.params.get q
          else exec (.setParam h (some p) v) s
            = .next (s.replied h .setParam .badArg (.param p (s.liu.params.get p)))
      | .marks => ∃ params : Params,
          exec (.setParam h (some p) v) s = .next ({ s with liu := { s.liu with params := params } }.replied h
            .setParam (if v < 128 then .ok else .clamped) (.param p (params.get p)))
          ∧ params.get p = v % 128 ∧ ∀ q, q ≠ p → params.get q = s.liu.params.get q))
  ∧ (∀ (h : Hdr) (start : Nat) (entries : List Nat) (s : State), s.takes h →
    ((255 < start ∨ entries = [] ∨ 64 < entries.length ∨ 256 < start + entries.length ∨ ∃ e ∈ entries, 255 < e) →
      exec (.loadTable h start entries) s = .next (s.replied h .loadTable .badArg .none))
    ∧ (start ≤ 255 → entries ≠ [] → entries.length ≤ 64 → start + entries.length ≤ 256 →
        (∀ e ∈ entries, e ≤ 255) →
        if ∃ j ∈ s.prc.jobs, ∃ x ∈ j.tiles, x.state = .exposing ∨ x.state = .exposed ∨ x.state = .merging then
          exec (.loadTable h start entries) s = .next (s.replied h .loadTable .busy .none)
        else ∃ w : Vector Nat 256,
          exec (.loadTable h start entries) s
            = .next ({ s with liu := { s.liu with weights := w } }.replied h .loadTable .ok .none)
          ∧ ∀ k, k < 256 → w[k]? = (if start ≤ k ∧ k < start + entries.length then entries[k - start]?
              else s.liu.weights[k]?)))

/-- R149, R150, R155: a badly framed transfer and a kind that names no command are answered and change nothing else
but BAD_FRAME_SEEN; a waiting reply leaves before any notice; a notice leaves with its sequence number, and the place
it frees goes to an OVERFLOW notice when notices were dropped; with nothing waiting nothing leaves. -/
def Obligations.RecordsComeAndGo : Prop :=
  ∀ s : State, s.liu.attached = true →
    (s.liu.resetWork = none →
      (∀ l : List Byte, (l.length < 4 ∨ 1020 < (l.getD 2 0).toNat + 256 * (l.getD 3 0).toNat
            ∨ 4 + ((l.getD 2 0).toNat + 256 * (l.getD 3 0).toNat) ≠ l.length) →
        exec (.badFrame l) s = .next { s with liu := { s.liu with
          sticky := { s.liu.sticky with badFrameSeen := true }
          replies := s.liu.replies ++ [{ tag := l.getD 1 0, status := .badFrame, kind := .raw (l.getD 0 0), body := .none }] } })
      ∧ (∀ kind tag : Byte, exec (.badKind kind tag) s = .next { s with liu := { s.liu with
          replies := s.liu.replies ++ [{ tag := tag, status := .badKind, kind := .raw kind, body := .none }] } }))
    ∧ (∀ r rs, s.liu.replies = r :: rs →
        exec .recordSent s = .next { s with liu := { s.liu with replies := rs, sent := some (.reply r) } })
    ∧ (∀ n ns, s.liu.replies = [] → s.liu.notices = n :: ns → s.liu.overflow = 0 →
        exec .recordSent s = .next { s with liu := { s.liu with
          notices := ns, noticeSeq := (s.liu.noticeSeq + 1) % 256, sent := some (.notice s.liu.noticeSeq n) } })
    ∧ (∀ n ns, s.liu.replies = [] → s.liu.notices = n :: ns → s.liu.overflow ≠ 0 →
        exec .recordSent s = .next { s with liu := { s.liu with
          notices := ns ++ [.overflow s.liu.overflow], overflow := 0
          noticeSeq := (s.liu.noticeSeq + 1) % 256, sent := some (.notice s.liu.noticeSeq n) } })
    ∧ (s.liu.replies = [] → s.liu.notices = [] → exec .recordSent s = .next s)
    ∧ ∀ (l : Liu) (n : Notice),
      (n.enabled l.params.noticeEnable = false → l.raise n = l)
      ∧ (n.enabled l.params.noticeEnable = true → l.notices.length < 64 → l.overflow = 0 →
          l.raise n = { l with notices := l.notices ++ [n] })
      ∧ (n.enabled l.params.noticeEnable = true → 64 ≤ l.notices.length ∨ l.overflow ≠ 0 →
          l.raise n = { l with
            overflow := min 65535 (l.overflow + 1), sticky := { l.sticky with noticeOverflow := true } })

/-! ## Jobs -/

/-- The fields of a submission that R2's field check refuses. -/
def Sys2Proof.Machine.Submission.outside (s : Submission) : Prop :=
  s.jobId = 0 ∨ s.position = 0 ∨ 19 < s.position ∨ s.width < 300 ∨ 4000 < s.width ∨ s.height < 300 ∨ 4000 < s.height
    ∨ 100 < s.overlap ∨ 1 < s.view ∨ 1 < s.policy ∨ 1 < s.encoding ∨ 1 < s.rush ∨ (s.encoding = 1 ∧ 16 < s.shift)
    ∨ 3 < s.profile ∨ 32 < s.label.length ∨ (s.policy = 0 ∧ 20480 < s.dSpan)
    ∨ (s.policy = 1 ∧ (s.plan = [] ∨ 6 < s.plan.length))
    ∨ 8 < gridCols s.width s.overlap ∨ 8 < gridRows s.height s.overlap
    ∨ ∀ r c, r < gridRows s.height s.overlap → c < gridCols s.width s.overlap → s.mask.getLsbD (r * 8 + c) = false

/-- An unfinished record claims a position (R1). -/
def Sys2Proof.Machine.Prc.claims? (p : Prc) (position : Nat) : Prop :=
  ∃ j ∈ p.jobs, j.position = position ∧ j.state ≠ .done ∧ j.state ≠ .failed ∧ j.state ≠ .aborted

/-- Table 10.4: a payload laid out from fields that fit their bytes is read back as those fields, bit for bit. -/
def Obligations.SubmissionRoundTrip : Prop :=
  ∀ s : Submission, s.fits = true → parseSubmission (encodeSubmission s) = some s

/-- R2: the four stages of the check, in their order; the first that fails decides the reply, and nothing but the
reply queue changes. -/
def Obligations.SubmitJobRefusals : Prop :=
  ∀ (h : Hdr) (sub : Submission) (s : State), s.takes h → sub.fits = true →
    (sub.outside →
      exec (.submitJob h (encodeSubmission sub)) s = .next (s.replied h .submitJob .badArg .none))
    ∧ (¬ sub.outside → (∃ j ∈ s.prc.jobs, j.id = sub.jobId) →
      exec (.submitJob h (encodeSubmission sub)) s = .next (s.replied h .submitJob .dupId .none))
    ∧ (¬ sub.outside → (∀ j ∈ s.prc.jobs, j.id ≠ sub.jobId) → s.prc.claims? sub.position →
      exec (.submitJob h (encodeSubmission sub)) s = .next (s.replied h .submitJob .slotClaimed .none))
    ∧ (¬ sub.outside → (∀ j ∈ s.prc.jobs, j.id ≠ sub.jobId) → ¬ s.prc.claims? sub.position →
      32 ≤ s.prc.jobs.length →
      exec (.submitJob h (encodeSubmission sub)) s = .next (s.replied h .submitJob .tableFull .none))

/-- R2, R3, R5, R6, R16, R19, R20: an accepted submission. The record is appended as QUEUED with its counts and tile
list, the job is placed in the queue by its rush mark, and a JOB_STATE notice is raised. A HOLDING or HELD run stays
as it is; an IDLE one goes to RUNNING; a RUNNING one with no active job considers a start, as START_JOB does, and
where nothing stands against it the job is LOADING at once. (That a CLAMPED reply carries the three items of R2 and no
plan entries: log entry 39. What is on its way between blocks: log entry 1.) -/
def Obligations.SubmitJobAccepted : Prop :=
  ∀ (h : Hdr) (sub : Submission) (s : State), s.takes h → sub.fits = true → ¬ sub.outside →
    (∀ j ∈ s.prc.jobs, j.id ≠ sub.jobId) → ¬ s.prc.claims? sub.position → s.prc.jobs.length < 32 →
    ∃ (j : Job) (front back : List Nat),
      let queued : State := ({ s with prc := { s.prc with
          jobs := s.prc.jobs ++ [j], queue := front ++ sub.jobId :: back } }).notice
        (.jobState j.id j.label .queued none 0 0 j.masked)
      let reply (t : State) : State := t.replied h .submitJob
        (if sub.policy = 1 ∧ ∃ e ∈ sub.plan, e.time = 0 ∨ 80000 < e.time ∨ e.drive = 0 ∨ 4096 < e.drive
          then .clamped else .ok)
        (.accepted j.cols j.rows (j.cols * j.rows - j.masked))
      (s.prc.run = .holding ∨ (∃ c, s.prc.run = .held c) ∨ (s.prc.run = .running ∧ s.prc.active ≠ none) →
        exec (.submitJob h (encodeSubmission sub)) s = .next (reply queued))
      ∧ (.startJob ∉ s.inFlight → s.prc.run = .running → s.prc.active = none → ∃ t, exec .startJob queued = .next t
        ∧ exec (.submitJob h (encodeSubmission sub)) s = .next (reply t))
      ∧ (.startJob ∉ s.inFlight → s.prc.run = .idle → ∃ t,
        exec .startJob ({ queued with prc := { queued.prc with run := .running } }.notice
          (.runState .running s.prc.active (front ++ sub.jobId :: back).head?)) = .next t
        ∧ exec (.submitJob h (encodeSubmission sub)) s = .next (reply t))
      ∧ (s.prc.run = .idle ∨ s.prc.run = .running → s.prc.active = none → s.prc.queue = [] → s.prc.trsReq = none →
        s.trs.state = .empty → s.sfe.state ≠ .fault → (∀ f, s.blu.state ≠ .fault f) → s.cru.state = .idle →
        s.cru.dark.valid = true → (s.cru.profile sub.profile).valid = true →
        ∃ t, exec (.submitJob h (encodeSubmission sub)) s = .next (reply t)
          ∧ t.prc.run = .running ∧ t.prc.active = some sub.jobId ∧ t.prc.queue = []
          ∧ t.prc.job? sub.jobId = some { j with state := .loading }
          ∧ t.inFlight = s.inFlight ++ [.loadRequest .prc sub.position])
      ∧ s.prc.queue = front ++ back
      ∧ (sub.rush = 0 → back = [])
      ∧ (sub.rush = 1 → (∀ id ∈ front, s.prc.isRush id = true) ∧ ∀ id, back.head? = some id → s.prc.isRush id = false)
      ∧ j.id = sub.jobId ∧ j.position = sub.position ∧ j.width = sub.width ∧ j.height = sub.height
      ∧ j.overlap = sub.overlap ∧ j.profile = sub.profile ∧ j.mask = sub.mask
      ∧ j.view = (if sub.view = 0 then .glassSide else .emulsionSide)
      ∧ j.encoding = (if sub.encoding = 0 then .density16 else .linear16 sub.shift)
      ∧ j.rush = decide (sub.rush = 1) ∧ j.label = (if sub.label = [] then none else some sub.label)
      ∧ (sub.policy = 0 → j.policy = .auto sub.dSpan)
      ∧ (sub.policy = 1 → j.policy = .fixed (sub.plan.map fun e =>
          { time := max 1 (min 80000 e.time), drive := max 1 (min 4096 e.drive) }))
      ∧ j.cols = gridCols sub.width sub.overlap ∧ j.rows = gridRows sub.height sub.overlap
      ∧ j.tiles = newTiles sub j.cols j.rows ∧ j.state = .queued ∧ j.outcome = none ∧ j.countLaw

/-- R4, R5, R7: the tile at place k of the list, and that successive places are neighbours of the grid; the grid covers
the plate with the least number of columns and rows. -/
def Obligations.TileGrid : Prop :=
  (∀ (sub : Submission) (cols rows k : Nat), k < cols * rows → ∃ x : Tile,
    (newTiles sub cols rows)[k]? = some x
    ∧ x.seq = k ∧ x.row = k / cols ∧ x.col = (if k / cols % 2 = 0 then k % cols else cols - 1 - k % cols)
    ∧ x.maskIndex = x.row * 8 + x.col
    ∧ x.cx = gridX0 sub.width sub.overlap cols + 350 + x.col * (700 - (sub.overlap : Int))
    ∧ x.cy = gridY0 sub.height sub.overlap rows + 262 + x.row * (525 - (sub.overlap : Int))
    ∧ x.state = (if sub.mask.getLsbD (x.row * 8 + x.col) then .pending else .masked)
    ∧ x.attempts = 0 ∧ x.plan = none ∧ x.exposures = [] ∧ x.flags = {} ∧ x.stats = none
    ∧ (newTiles sub cols rows).length = cols * rows
    ∧ ∀ y, (newTiles sub cols rows)[k + 1]? = some y →
        (y.row = x.row ∧ (y.col = x.col + 1 ∨ x.col = y.col + 1)) ∨ (y.row = x.row + 1 ∧ y.col = x.col))
  ∧ (∀ width height overlap : Nat, overlap ≤ 100 →
    let cols := gridCols width overlap
    let rows := gridRows height overlap
    gridX0 width overlap cols = ((width : Int) - (700 + ((cols : Int) - 1) * (700 - overlap))) / 2
    ∧ gridY0 height overlap rows = ((height : Int) - (525 + ((rows : Int) - 1) * (525 - overlap))) / 2
    ∧ (cols = 1 ↔ width ≤ 700) ∧ (rows = 1 ↔ height ≤ 525)
    ∧ gridX0 width overlap cols ≤ 0
    ∧ (width : Int) ≤ gridX0 width overlap cols + 700 + ((cols : Int) - 1) * (700 - overlap)
    ∧ (1 < cols → 700 + ((cols : Int) - 2) * (700 - overlap) < width)
    ∧ gridY0 height overlap rows ≤ 0
    ∧ (height : Int) ≤ gridY0 height overlap rows + 525 + ((rows : Int) - 1) * (525 - overlap)
    ∧ (1 < rows → 525 + ((rows : Int) - 2) * (525 - overlap) < height))

/-- R10, R15: QUERY_JOB, which shows a record as it stands, and RELEASE_JOB, which removes a finished one. (That the
policy item of the summary carries the d_span of an AUTO job, which R15 does not name: log entry 55.) -/
def Obligations.QueryAndRelease : Prop :=
  (∀ (h : Hdr) (id start : Nat) (s : State), s.takes h → s.prc.tableLaw →
    ((∀ j ∈ s.prc.jobs, j.id ≠ id) →
      exec (.queryJob h id start) s = .next (s.replied h .queryJob .unknownJob .none))
    ∧ ∀ j ∈ s.prc.jobs, j.id = id →
      exec (.queryJob h id start) s = .next (s.replied h .queryJob .ok (.job
        { id := j.id, position := j.position, label := j.label, view := j.view, profile := j.profile
          policy := j.policy, encoding := j.encoding, rush := j.rush, cols := j.cols, rows := j.rows
          state := j.state, outcome := j.outcome, sent := j.sent, abandoned := j.abandoned, masked := j.masked }
        ((j.tiles.drop start).take 8)))
      ∧ (j.countLaw → j.cols * j.rows ≤ start → (j.tiles.drop start).take 8 = []))
  ∧ (∀ (h : Hdr) (id : Nat) (s : State), s.takes h → s.prc.tableLaw →
    ((∀ j ∈ s.prc.jobs, j.id ≠ id) →
      exec (.releaseJob h id) s = .next (s.replied h .releaseJob .unknownJob .none))
    ∧ ∀ j ∈ s.prc.jobs, j.id = id →
      if j.state = .done ∨ j.state = .failed ∨ j.state = .aborted then
        ∃ jobs, exec (.releaseJob h id) s
            = .next ({ s with prc := { s.prc with jobs := jobs } }.replied h .releaseJob .ok .none)
          ∧ (∀ k, k ∈ jobs ↔ k ∈ s.prc.jobs ∧ k.id ≠ id) ∧ jobs.length + 1 = s.prc.jobs.length
      else exec (.releaseJob h id) s = .next (s.replied h .releaseJob .wrongState .none))

/-- R14, R16, R19, R34, R35: ABORT_JOB. An unknown or finished job is refused. Any other has each tile that has not ended
abandoned as Table 2.3 states, with PRC's requests for it withdrawn, its slots released and a TILE_DONE notice, while its
MASKED and SENT tiles stay. A QUEUED job leaves the queue and is ABORTED, after which a RUNNING run with no active and no
queued job is IDLE; a DRAINING one is ABORTED; an active one has the abort mark, is UNLOADING if it was CAPTURING, and has
its unload asked for, or put off to the end of the load or move in progress. Nothing else changes. (What is on its way
between blocks: log entry 1; the order of the notices of the one event: log entry 32.) -/
def Obligations.AbortJobEndsTiles : Prop :=
  ∀ (h : Hdr) (id : Nat) (s : State), s.takes h → s.prc.tableLaw → s.prc.countLaw → s.prc.run ≠ .quiescing →
    ((∀ j ∈ s.prc.jobs, j.id ≠ id) →
      exec (.abortJob h id) s = .next (s.replied h .abortJob .unknownJob .none))
    ∧ ∀ j ∈ s.prc.jobs, j.id = id →
      if j.state = .done ∨ j.state = .failed ∨ j.state = .aborted then
        exec (.abortJob h id) s = .next (s.replied h .abortJob .wrongState .none)
      else
        let left : Job := j.without fun st => !st.ended
        let gone : State := s.tilesGone j fun st => !st.ended
        (∀ x ∈ left.tiles, x.state = .masked ∨ x.state = .sent ∨ x.state = .abandoned)
        ∧ (∀ x ∈ j.tiles, x.state = .masked ∨ x.state = .sent → x ∈ left.tiles)
        ∧ (j.state = .queued →
            let queue : List Nat := s.prc.queue.filter fun k => decide (k ≠ id)
            let u : State := { gone with prc := { gone.prc with queue := queue } }.recordJob
              { left with state := .aborted, outcome := some .aborted }
            exec (.abortJob h id) s = .next ((if s.prc.run = .running ∧ s.prc.active = none ∧ queue = [] then
                { u with prc := { u.prc with run := .idle } }.notice (.runState .idle none none)
              else u).replied h .abortJob .ok .none))
        ∧ (j.state = .draining → exec (.abortJob h id) s
            = .next ((gone.recordJob { left with state := .aborted, outcome := some .aborted }).replied h .abortJob .ok
              .none))
        ∧ (j.state = .loading ∨ j.state = .capturing ∨ j.state = .unloading →
            let m : State := { gone with prc := { gone.prc with abortMark := true } }
            let u : State := if j.state = .capturing then
                m.recordJob { left with state := .unloading, outcome := none }
              else m
            exec (.abortJob h id) s = .next ((match s.prc.trsReq with
              | none => { u with
                prc := { u.prc with trsReq := some .unload, unloadNext := none }
                inFlight := u.inFlight ++ [Instr.unloadRequest .prc true] }
              | some .unload | some .recovery => u
              | some .load | some (.move _) | some (.moveBack _) => { u with
                prc := { u.prc with unloadNext := some .unload } }).replied h .abortJob .ok .none))

/-- R18 and Table 2.2: how a hold cause meets the run state. The change is notified; a cause that stays is not. -/
def Obligations.HoldCauseRanks : Prop :=
  HoldCause.transport.rank = 3 ∧ HoldCause.sensor.rank = 2 ∧ HoldCause.lamp.rank = 1
  ∧ HoldCause.darkStale.rank = 0 ∧ HoldCause.notCalibrated.rank = 0 ∧ HoldCause.requested.rank = 0
  ∧ HoldCause.step.rank = 0 ∧ HoldCause.link.rank = 0
  ∧ ∀ (c : HoldCause) (s : State),
    ((s.prc.run = .running ∨ s.prc.run = .holding ∨ s.prc.run = .idle) →
      s.goHeld c = { s with prc := { s.prc with run := .held c } }.notice
        (.runState (.held c) s.prc.active s.prc.queue.head?))
    ∧ ∀ c0, s.prc.run = .held c0 →
      (c0 ≠ c → c0.rank ≤ c.rank →
        s.goHeld c = { s with prc := { s.prc with run := .held c } }.notice
          (.runState (.held c) s.prc.active s.prc.queue.head?))
      ∧ (c0 = c ∨ c.rank < c0.rank → s.goHeld c = s)

/-- R30, R31, R42: HOLD is refused unless the run is RUNNING; a RUNNING run goes to HOLDING, and on to HELD when nothing
is outstanding, at the command or at the hold point. (What is on its way between blocks: log entry 1.) -/
def Obligations.HoldAndHoldPoint : Prop :=
  (∀ (h : Hdr) (s : State), s.takes h →
    (s.prc.run ≠ .running → exec (.hold h) s = .next (s.replied h .hold .wrongState .none))
    ∧ (s.prc.run = .running →
        exec (.hold h) s = .next ((({ s with prc := { s.prc with holdByLink := false } }.setRun
          .holding).tryHoldPoint).replied h .hold .ok .none)
        ∧ ∃ t, exec (.hold h) s = .next t ∧ t.prc.active = s.prc.active ∧ t.prc.jobs = s.prc.jobs
          ∧ t.prc.run = (if s.prc.trsReq = none ∧ s.prc.unloadNext = none ∧ s.prc.planReq = none ∧ s.prc.expReq = none
              ∧ (s.prc.firstTile Tile.unexposed) = none then .held .requested else .holding)))
  ∧ (∀ s : State, s.prc.run = .holding →
    (s.prc.trsReq = none → s.prc.unloadNext = none → s.prc.planReq = none → s.prc.expReq = none →
      (∀ j, s.prc.activeJob? = some j → ∀ x ∈ j.tiles, x.state ≠ .exposing) →
      exec .holdPoint s = .next ((s.deliver .holdPoint).goHeld (if s.prc.holdByLink then .link else .requested)))
    ∧ ((s.prc.trsReq ≠ none ∨ s.prc.planReq ≠ none ∨ s.prc.expReq ≠ none) →
      exec .holdPoint s = .next (s.deliver .holdPoint)))

/-- R32, R33, R40, R124, R134: RESUME's refusals; and that an accepted RESUME first asks SFE and BLU to leave FAULT.
With no active job and an empty queue it leaves the run IDLE; with a queued job the run is RUNNING and a start is
considered, as START_JOB does; and with an active job its work goes on: the next exposure is requested, a tile waiting
in METERING, or in PLANNED with no admission request waiting, is planned again from attempt 1 (a PLANNED one from
METERING: log entry 32), one whose admission request waits is left to its grant, the next tile begins, or the job whose
capture is complete is UNLOADING. (What is on its way between blocks: log entry 1.) -/
def Obligations.ResumeCommand : Prop :=
  ∀ (h : Hdr) (s : State), s.takes h →
    ((∀ c, s.prc.run ≠ .held c) → exec (.resume h) s = .next (s.replied h .resume .wrongState .none))
    ∧ (s.prc.run = .held .transport → s.trs.state ≠ .empty → s.trs.state ≠ .atRest →
        exec (.resume h) s = .next (s.replied h .resume .wrongState .none))
    ∧ (∀ id j, s.prc.run = .held .notCalibrated → s.prc.queue.head? = some id → s.prc.job? id = some j →
        (s.cru.dark.valid = false ∨ (s.cru.profile j.profile).valid = false) →
        exec (.resume h) s = .next (s.replied h .resume .notCalibrated .none))
    ∧ (∀ c, s.prc.run = .held c → (c = .transport → s.trs.state = .empty ∨ s.trs.state = .atRest) →
        s.prc.active = none → s.prc.queue = [] →
        ∃ t : State, exec (.resume h) s = .next (t.replied h .resume .ok .none)
          ∧ t.prc.run = .idle ∧ t.prc.jobs = s.prc.jobs ∧ t.prc.queue = [] ∧ t.prc.active = none
          ∧ t.sfe = { s.sfe with reinit := s.sfe.reinit || decide (s.sfe.state = .fault) }
          ∧ ((∀ f, s.blu.state ≠ .fault f) → t.blu = s.blu)
          ∧ (∀ f, s.blu.state = .fault f → t.blu = { s.blu with state := .standby, requested := 0, commanded := 0 })
          ∧ t.fst = s.fst ∧ t.trs = s.trs ∧ t.bme = s.bme ∧ t.cru = s.cru ∧ t.sou = s.sou ∧ t.bpl = s.bpl
          ∧ t.inFlight = s.inFlight)
    ∧ (∀ c, s.prc.run = .held c → (c = .transport → s.trs.state = .empty ∨ s.trs.state = .atRest) →
      let sfe : Sfe := { s.sfe with reinit := s.sfe.reinit || decide (s.sfe.state = .fault) }
      let recovered (u : State) : State := match s.blu.state with
        | .fault _ => { u with
            sfe := sfe, blu := { s.blu with state := .standby, requested := 0, commanded := 0 } }.notice
              (.lampState .standby s.blu.throttle 0 s.blu.panelTemp)
        | .standby | .warming | .settling | .settled | .dark => { u with sfe := sfe }
      (∀ id rest j, s.prc.active = none → s.prc.queue = id :: rest → s.prc.job? id = some j → j.state = .queued →
        (∀ x ∈ j.tiles, x.state = .pending ∨ x.state = .masked) →
        (c = .notCalibrated → s.cru.dark.valid = true ∧ (s.cru.profile j.profile).valid = true) →
        .startJob ∉ s.inFlight →
        ∃ t, exec .startJob (recovered ({ s with prc := { s.prc with run := .running, holdByLink := false } }.notice
            (.runState .running none (some id)))) = .next t
          ∧ exec (.resume h) s = .next (t.replied h .resume .ok .none))
      ∧ (∀ j, c ≠ .notCalibrated → s.prc.tableLaw → s.prc.activeJob? = some j → j.countLaw → j.state = .capturing →
        s.cru.state = .idle → s.prc.trsReq = none → s.prc.planReq = none → s.prc.expReq = none →
        s.prc.retryBack = none →
        ∃ t : State, exec (.resume h) s = .next (t.replied h .resume .ok .none) ∧ (recovered s).prcOnly t
          ∧ t.prc.run = .running ∧ t.prc.active = s.prc.active ∧ t.prc.queue = s.prc.queue
          ∧ (∀ x plan e n, j.tiles.find? (fun y => decide (y.state = .exposing)) = some x → x.plan = some plan →
              plan[x.exposures.length]? = some e → s.fst.lowestReserved ⟨j.id, x.seq⟩ = some n →
              (s.blu.throttle = false ∨ e.drive ≤ 1024) →
              t.prc.jobs = s.prc.jobs ∧ t.prc.expReq = some ⟨j.id, x.seq⟩
              ∧ t.inFlight = s.inFlight ++ [.lightRequest e.drive, .exposureRequest
                  { client := .prc ⟨j.id, x.seq⟩, time := e.time, target := .slot n ⟨j.id, x.seq⟩
                    lamp := .settled e.drive, stage := true }])
          ∧ (∀ x, (∀ y ∈ j.tiles, y.state ≠ .exposing) →
              j.tiles.find? (fun y => decide (y.state = .metering ∨ y.state = .planned)) = some x →
              (x.state = .planned → s.prc.admReq ≠ some ⟨j.id, x.seq⟩) →
              t.prc.otherRecords s.prc ⟨j.id, x.seq⟩
              ∧ t.prc.tile? ⟨j.id, x.seq⟩ = some { x with
                  state := .metering, attempts := 0, plan := none
                  flags := { x.flags with
                    rangeShort := false, brightShort := false, darkShort := false, tCapped := false
                    darkStale := false } }
              ∧ t.prc.planReq = some ⟨j.id, x.seq⟩
              ∧ t.inFlight = s.inFlight ++ [.planRequest (.prc ⟨j.id, x.seq⟩)])
          ∧ (∀ x ∈ j.tiles, x.state = .planned → s.prc.admReq = some ⟨j.id, x.seq⟩ →
              (∀ y ∈ j.tiles, y.seq ≠ x.seq → y.state ≠ .metering ∧ y.state ≠ .planned ∧ y.state ≠ .exposing) →
              t.prc = { s.prc with run := .running, holdByLink := false } ∧ t.inFlight = s.inFlight)
          ∧ (∀ x, (∀ y ∈ j.tiles, y.state ≠ .positioning ∧ y.state ≠ .metering ∧ y.state ≠ .planned
                ∧ y.state ≠ .exposing) →
              j.tiles.find? (fun y => decide (y.state = .pending)) = some x →
              t.prc.otherRecords s.prc ⟨j.id, x.seq⟩
              ∧ t.prc.tile? ⟨j.id, x.seq⟩ = some { x with state := .positioning }
              ∧ t.prc.trsReq = some (.move x.seq)
              ∧ t.inFlight = s.inFlight ++ [.moveRequest .prc (.point x.cx x.cy)])
          ∧ ((∀ y ∈ j.tiles, y.state.uncaptured = false) →
              t.prc.job? j.id = some { j with state := .unloading, outcome := none }
              ∧ (∀ k, k ≠ j.id → t.prc.job? k = s.prc.job? k) ∧ t.prc.trsReq = some .unload
              ∧ t.inFlight = s.inFlight ++ [.unloadRequest .prc true])))

/-! ## The plate run -/

/-- R20, R163: what follows when PRC considers a job start, at START_JOB and at the reports that cause one: the head
job starts, or the run goes to HELD with the first cause met, or the start waits. While no job may start, nothing
changes but that the report has been taken. R87: with an active job, CRU's return to IDLE has PRC issue the exposure
request or the plan request that the calibration held back (a PLANNED tile is planned again from METERING: log entry 32).
(The motions of a flat calibration stop nothing before step 4, and a start
waits for the report of an unload that PRC asked for: log entry 9. What is on its way between blocks: log entry 1.) -/
def Obligations.JobStart : Prop :=
  (∀ (c : Instr) (s : State) (id : Nat) (rest : List Nat) (j : Job),
      (c = .startJob ∨ c = .trsEmptyReport ∨ c = .reinitEndReport ∨ c = .cruIdleReport) →
      s.prc.run = .running → s.prc.active = none → s.prc.queue = id :: rest → s.prc.job? id = some j →
      j.state = .queued → (∀ x ∈ j.tiles, x.state = .pending ∨ x.state = .masked) →
      ((s.trs.state = .unhomed ∨ (∃ f, s.trs.state = .fault f)
          ∨ (s.trs.state = .atRest ∧ s.cru.flatRunning = false ∧ s.prc.trsReq = none)) →
        exec c s = .next ((s.deliver c).goHeld .transport))
      ∧ ((∃ l, s.trs.state = .homing l)
          ∨ ((s.trs.state = .empty ∨ s.trs.state = .loading ∨ s.trs.state = .atRest ∨ s.trs.state = .moving
              ∨ s.trs.state = .settling ∨ s.trs.state = .unloading) ∧ s.prc.trsReq ≠ none) →
        exec c s = .next (s.deliver c))
      ∧ (s.prc.trsReq = none → (s.trs.state = .empty ∨ s.trs.state = .loading ∨ s.trs.state = .moving
          ∨ s.trs.state = .settling ∨ s.trs.state = .unloading ∨ (s.trs.state = .atRest ∧ s.cru.flatRunning = true)) →
        (s.sfe.state = .fault → s.sfe.reinit = false → exec c s = .next ((s.deliver c).goHeld .sensor))
        ∧ (s.sfe.state = .fault → s.sfe.reinit = true → exec c s = .next (s.deliver c))
        ∧ (s.sfe.state ≠ .fault → (∃ f, s.blu.state = .fault f) → exec c s = .next ((s.deliver c).goHeld .lamp))
        ∧ (s.sfe.state ≠ .fault → (∀ f, s.blu.state ≠ .fault f) →
            (s.cru.state ≠ .idle → exec c s = .next (s.deliver c))
            ∧ (s.cru.state = .idle → (s.cru.dark.valid = false ∨ (s.cru.profile j.profile).valid = false) →
                exec c s = .next ((s.deliver c).goHeld .notCalibrated))
            ∧ (s.trs.state ≠ .empty → s.cru.state = .idle → s.cru.dark.valid = true →
                (s.cru.profile j.profile).valid = true → exec c s = .next (s.deliver c))
            ∧ (s.trs.state = .empty → s.cru.state = .idle → s.cru.dark.valid = true →
                (s.cru.profile j.profile).valid = true → ∃ t, exec c s = .next t ∧ t.prc.active = some id ∧ t.prc.queue = rest ∧ t.prc.run = .running
                  ∧ t.prc.trsReq = some .load ∧ t.prc.abortMark = false ∧ t.prc.recoveryJob = none
                  ∧ t.prc.job? id = some { j with state := .loading, outcome := none }
                  ∧ (∀ k, k ≠ id → t.prc.job? k = s.prc.job? k)
                  ∧ t.inFlight = s.inFlight.erase c ++ [.loadRequest .prc j.position]
                  ∧ t.blu = { s.blu with idleTimer := none, deferred := false }
                  ∧ t.bpl = s.bpl ∧ t.fst = s.fst ∧ t.sfe = s.sfe ∧ t.trs = s.trs ∧ t.bme = s.bme ∧ t.cru = s.cru
                  ∧ t.sou = s.sou ∧ s.noticesOnly t))))
  ∧ (∀ (s : State) (j : Job), s.prc.tableLaw → s.prc.activeJob? = some j → j.countLaw → j.state = .capturing →
    s.cru.state = .idle → s.prc.planReq = none → s.prc.expReq = none → s.prc.retryBack = none →
    (∀ x plan e n, s.prc.run = .running ∨ s.prc.run = .holding →
      j.tiles.find? (fun y => decide (y.state = .exposing)) = some x → x.plan = some plan →
      plan[x.exposures.length]? = some e → s.fst.lowestReserved ⟨j.id, x.seq⟩ = some n →
      (s.blu.throttle = false ∨ e.drive ≤ 1024) → exec .cruIdleReport s = .next { s with
        prc := { s.prc with expReq := some ⟨j.id, x.seq⟩ }
        inFlight := s.inFlight.erase .cruIdleReport ++ [.lightRequest e.drive, .exposureRequest
          { client := .prc ⟨j.id, x.seq⟩, time := e.time, target := .slot n ⟨j.id, x.seq⟩
            lamp := .settled e.drive, stage := true }] })
    ∧ (∀ x, s.prc.run = .running → s.prc.admReq = none → (∀ y ∈ j.tiles, y.state ≠ .exposing) →
      j.tiles.find? (fun y => decide (y.state = .metering ∨ y.state = .planned)) = some x →
      ∃ t, exec .cruIdleReport s = .next t ∧ s.prcOnly t ∧ t.prc.otherRecords s.prc ⟨j.id, x.seq⟩
        ∧ t.prc = { s.prc with jobs := t.prc.jobs, planReq := some ⟨j.id, x.seq⟩ }
        ∧ t.prc.tile? ⟨j.id, x.seq⟩ = some { x with
            state := .metering, attempts := 0, plan := none
            flags := { x.flags with
              rangeShort := false, brightShort := false, darkShort := false, tCapped := false, darkStale := false } }
        ∧ t.inFlight = s.inFlight.erase .cruIdleReport ++ [.planRequest (.prc ⟨j.id, x.seq⟩)]))

/-- R19, R20, R21, R22, R31, R36: at the load completion the job is CAPTURING: in a RUNNING run its first PENDING tile,
in sequence order, is POSITIONING with the stage asked to move to its centre, a HELD run begins none, and a HOLDING run
has reached its hold point; under the abort mark the carrier is unloaded instead. NO_CARRIER fails the job, whose tiles
all end with a TILE_DONE notice each, without a hold (under the abort mark too: log entry 27): a start is considered
for the next job, with none queued the run is IDLE, a HELD run stays as it is and a HOLDING one has reached its hold
point. (A late report of an earlier request: log entry 44. What is on its way between blocks: log entry 1; the order of
the notices of one event: log entry 32.) -/
def Obligations.LoadReports : Prop :=
  (∀ (s : State) (j : Job), s.prc.tableLaw → j.countLaw → s.prc.run ≠ .quiescing → s.prc.trsReq = some .load →
    s.prc.activeJob? = some j → j.state = .loading →
    (s.prc.abortMark = true → ∃ t, exec .loadComplete s = .next t ∧ s.prcOnly t
      ∧ t.prc = { s.prc with trsReq := some .unload, unloadNext := none }
      ∧ t.inFlight = s.inFlight.erase .loadComplete ++ [.unloadRequest .prc true])
    ∧ (∀ x, s.prc.run = .running → s.prc.abortMark = false →
      j.tiles.find? (fun y => decide (y.state = .pending)) = some x →
      ∃ t, exec .loadComplete s = .next t ∧ s.prcOnly t ∧ t.prc.otherRecords s.prc ⟨j.id, x.seq⟩
        ∧ (t.prc.job? j.id).map (·.state) = some .capturing
        ∧ t.prc.tile? ⟨j.id, x.seq⟩ = some { x with state := .positioning }
        ∧ t.prc.trsReq = some (.move x.seq) ∧ t.prc.active = s.prc.active ∧ t.prc.run = .running
        ∧ t.inFlight = s.inFlight.erase .loadComplete ++ [.moveRequest .prc (.point x.cx x.cy)])
    ∧ (s.prc.abortMark = false →
      let u : State := { s with
        prc := { s.prc with trsReq := none }, inFlight := s.inFlight.erase .loadComplete }.recordJob
          { j with state := .capturing, outcome := none }
      (∀ c, s.prc.run = .held c → exec .loadComplete s = .next u)
      ∧ (s.prc.run = .holding → s.prc.unloadNext = none → s.prc.planReq = none → s.prc.expReq = none →
        (∀ x ∈ j.tiles, x.state = .pending ∨ x.state = .masked) →
        exec .loadComplete s = .next (u.goHeld (if s.prc.holdByLink then .link else .requested)))))
  ∧ (∀ (s : State) (j : Job), s.prc.tableLaw → s.prc.countLaw → s.prc.trsReq = some .load →
    s.prc.activeJob? = some j → j.state = .loading →
    let gone : State := { s with
      prc := { s.prc with trsReq := none }, inFlight := s.inFlight.erase .noCarrier }.tilesGone j fun st => !st.ended
    let u : State := { gone with prc := { gone.prc with active := none, abortMark := false, unloadNext := none }
      }.recordJob { (j.without fun st => !st.ended) with state := .failed, outcome := some (.failed .noCarrier) }
    (∀ x ∈ (j.without fun st => !st.ended).tiles, x.state = .masked ∨ x.state = .sent ∨ x.state = .abandoned)
    ∧ (s.prc.run = .running → s.prc.queue = [] → exec .noCarrier s = .next (({ u with
        prc := { u.prc with run := .idle } }.notice (.runState .idle none none)).startIdle))
    ∧ (s.prc.run = .running → s.prc.queue ≠ [] → .startJob ∉ s.inFlight →
        ∃ w, exec .startJob u = .next w ∧ exec .noCarrier s = .next w.startIdle)
    ∧ (∀ c, s.prc.run = .held c → exec .noCarrier s = .next u.startIdle)
    ∧ (s.prc.run = .holding → s.prc.planReq = none → s.prc.expReq = none → exec .noCarrier s
        = .next (u.goHeld (if s.prc.holdByLink then .link else .requested)).startIdle))

/-- R22, R27, R30, R31, R39, R87: at the settle completion of a tile's move the tile is METERING with no attempts, and
in a RUNNING run its plan is asked for; while an earlier tile is EXPOSING the plan request is put off, in a calibration
it is held back, in a HELD run there is none, and a HOLDING run has reached its hold point. An unload put off is asked
for instead, a recovery unload whose job is active no more among them (R39); with none put off and no job active the
move is only outstanding no more, and a HOLDING run has reached its hold point. After the stage has been brought back
to a retried tile the go-ahead is given. Where a retried tile waits for the stage, the tile at which the stage has
arrived is PENDING again and the stage is asked back. (A late report of an earlier request: log entry 44. What is on
its way between blocks: log entry 1.) -/
def Obligations.SettleCompletion : Prop :=
  (∀ (s : State) (k : Nat), s.prc.run ≠ .quiescing → s.prc.trsReq = some (.move k) ∨ s.prc.trsReq = some (.moveBack k) →
    (∀ u, s.prc.unloadNext = some u →
      ∃ t, exec .settleCompletion s = .next t ∧ s.prcOnly t
        ∧ t.prc = { s.prc with trsReq := some u, unloadNext := none }
        ∧ t.inFlight = s.inFlight.erase .settleCompletion ++ [.unloadRequest .prc true])
    ∧ (s.prc.unloadNext = none → s.prc.active = none →
      let u : State := { s with
        prc := { s.prc with trsReq := none }, inFlight := s.inFlight.erase .settleCompletion }
      (s.prc.run ≠ .holding → exec .settleCompletion s = .next u)
      ∧ (s.prc.run = .holding → s.prc.planReq = none → s.prc.expReq = none → exec .settleCompletion s
          = .next (u.goHeld (if s.prc.holdByLink then .link else .requested)))))
  ∧ ∀ (s : State) (id k : Nat), s.prc.run ≠ .quiescing → s.prc.active = some id →
    (∀ x, s.prc.trsReq = some (.move k) → s.prc.unloadNext = none → s.prc.retryBack = none →
        s.prc.tile? ⟨id, k⟩ = some x → x.state = .positioning →
        ∃ t, exec .settleCompletion s = .next t ∧ s.prcOnly t ∧ t.prc.otherRecords s.prc ⟨id, k⟩
          ∧ t.prc.tile? ⟨id, k⟩ = some { x with state := .metering, attempts := 0 }
          ∧ (s.prc.run = .running → s.prc.activeExposing = false → s.cru.state = .idle →
            t.prc.planReq = some ⟨id, k⟩ ∧ t.prc.trsReq = none ∧ t.prc.run = .running ∧ t.prc.active = some id
            ∧ t.inFlight = s.inFlight.erase .settleCompletion ++ [.planRequest (.prc ⟨id, k⟩)])
          ∧ (s.prc.countLaw → (s.prc.run = .running ∧ (s.prc.activeExposing = true ∨ s.cru.state ≠ .idle))
              ∨ (∃ c, s.prc.run = .held c) →
            t.prc = { s.prc with jobs := t.prc.jobs, trsReq := none }
            ∧ t.inFlight = s.inFlight.erase .settleCompletion)
          ∧ (s.prc.run = .holding → s.prc.planReq = none → s.prc.expReq = none → s.prc.activeExposing = false →
            t.prc = { s.prc with
              jobs := t.prc.jobs, trsReq := none
              run := .held (if s.prc.holdByLink then .link else .requested) }
            ∧ t.inFlight = s.inFlight.erase .settleCompletion))
    ∧ (∀ r, s.prc.trsReq = some (.moveBack k) → s.prc.unloadNext = none → s.prc.retryBack = some r →
        s.prc.expReq = some r → ∃ t, exec .settleCompletion s = .next t ∧ s.prcOnly t
          ∧ t.prc = { s.prc with trsReq := none, retryBack := none }
          ∧ t.inFlight = s.inFlight.erase .settleCompletion ++ [.goAhead])
    ∧ (∀ r x y, s.prc.trsReq = some (.move k) → s.prc.unloadNext = none → s.prc.retryBack = some r → r ≠ ⟨id, k⟩ →
        s.prc.tile? r = some y → s.prc.tile? ⟨id, k⟩ = some x → x.state = .positioning →
        ∃ t, exec .settleCompletion s = .next t ∧ s.prcOnly t ∧ t.prc.otherRecords s.prc ⟨id, k⟩
          ∧ t.prc.tile? ⟨id, k⟩ = some { x with state := .pending }
          ∧ t.prc.trsReq = some (.moveBack r.seq) ∧ t.prc.retryBack = some r ∧ t.prc.run = s.prc.run
          ∧ t.inFlight = s.inFlight.erase .settleCompletion ++ [.moveRequest .prc (.point y.cx y.cy)])

/-- R23, R30, R31, R54, R98: a plan completion makes the tile PLANNED with its plan, attempts and flags. In a RUNNING
run the staleness of the dark references then decides: admission is asked for, with DARK_STALE under CONTINUE, or the
run goes to HELD(DARK_STALE) under HOLD. In a HELD run the tile waits with no staleness check and no request, and a
HOLDING run has reached its hold point. (A late completion of a withdrawn request: log entry 44. What is on its way
between blocks: log entry 1.) -/
def Obligations.PlanCompletion : Prop :=
  ∀ (s : State) (r : TileRef) (x : Tile) (plan : List PlanEntry) (attempts : Nat) (f : PlanFlags),
    s.prc.run ≠ .quiescing → s.prc.planReq = some r → s.prc.tile? r = some x → x.state = .metering →
    let stale := s.liu.params.darkTolerance < (s.cru.dark.temp - s.sfe.temp).natAbs
    let x' : Tile := { x with
      state := .planned, plan := some plan, attempts := attempts
      flags := { x.flags with
        rangeShort := x.flags.rangeShort || f.rangeShort, brightShort := x.flags.brightShort || f.brightShort
        darkShort := x.flags.darkShort || f.darkShort, tCapped := x.flags.tCapped || f.tCapped
        darkStale := x.flags.darkStale || (decide (s.prc.run = .running) && decide stale
          && decide (s.liu.params.darkPolicy = .continue)) } }
    ∃ t, exec (.planCompletion r plan attempts f) s = .next t ∧ s.prcOnly t ∧ t.prc.otherRecords s.prc r
      ∧ t.prc.tile? r = some x' ∧ t.prc.planReq = none
      ∧ (s.prc.run = .running →
        if stale ∧ s.liu.params.darkPolicy = .hold then
          t.prc.run = .held .darkStale ∧ t.prc.admReq = s.prc.admReq
            ∧ t.inFlight = s.inFlight.erase (.planCompletion r plan attempts f)
        else t.prc.run = .running ∧ t.prc.admReq = some r
          ∧ t.inFlight = s.inFlight.erase (.planCompletion r plan attempts f) ++ [.admissionRequest r plan.length])
      ∧ ((∃ c, s.prc.run = .held c) → t.prc = { s.prc with jobs := t.prc.jobs, planReq := none }
        ∧ t.inFlight = s.inFlight.erase (.planCompletion r plan attempts f))
      ∧ (s.prc.run = .holding → s.prc.trsReq = none → s.prc.unloadNext = none → s.prc.expReq = none →
        s.prc.activeExposing = false →
        t.prc = { s.prc with
          jobs := t.prc.jobs, planReq := none
          run := .held (if s.prc.holdByLink then .link else .requested) }
        ∧ t.inFlight = s.inFlight.erase (.planCompletion r plan attempts f))

/-- R13, R22, R24, R25, R26, R30, R31, R55, R59: at the admission grant the tile is EXPOSING and its first exposure is
requested; each completion that is not the tile's last appends its record and the next exposure is requested, with the
light asked for first; in a HELD run neither is requested. Under the throttle flag an entry above drive 1024 is
requested at drive 1024 and the time that keeps its exposure value, cut to 80,000 with T_CAPPED. At the tile's last
completion the tile is EXPOSED and joins the merge queue, and an IDLE BME takes it up in the same event (R60). In a
RUNNING run a plan request put off is then issued, and in a RUNNING or HOLDING one a job whose capture is complete is
UNLOADING with its unload asked for; a HOLDING run with more to capture has reached its hold point, and in a HELD run the
job stays CAPTURING. (That a plan request put off is issued in a RUNNING run alone: log entry 43. What is on its way
between blocks: log entry 1.) -/
def Obligations.ExposureRequests : Prop :=
  (∀ (s : State) (r : TileRef) (x : Tile) (e : PlanEntry) (es : List PlanEntry) (slots : List Nat) (n : Nat),
    s.prc.run ≠ .quiescing → s.prc.admReq = some r → s.prc.tile? r = some x →
    x.state = .planned → x.plan = some (e :: es) → x.exposures = [] → s.fst.lowestReserved r = some n →
    s.cru.state = .idle → s.prc.expReq = none → s.prc.retryBack = none →
    let capped : Bool := s.blu.throttle && decide (1024 < e.drive)
    let long := (e.time * e.drive + 512) / 1024
    let g : PlanEntry := if capped then { time := min 80000 long, drive := 1024 } else e
    ∃ t, exec (.admissionGrant r slots) s = .next t ∧ s.prcOnly t ∧ t.prc.otherRecords s.prc r
      ∧ t.prc.admReq = none ∧ t.prc.run = s.prc.run
      ∧ (s.prc.run = .running ∨ s.prc.run = .holding →
        t.prc.tile? r = some { x with
          state := .exposing
          flags := { x.flags with tCapped := x.flags.tCapped || (capped && decide (80000 < long)) } }
        ∧ t.prc.expReq = some r
        ∧ t.inFlight = s.inFlight.erase (.admissionGrant r slots) ++ [.lightRequest g.drive,
          .exposureRequest { client := .prc r, time := g.time, target := .slot n r, lamp := .settled g.drive
                             stage := true }])
      ∧ ((∃ c, s.prc.run = .held c) → t.prc.tile? r = some { x with state := .exposing } ∧ t.prc.expReq = none
        ∧ t.inFlight = s.inFlight.erase (.admissionGrant r slots)))
  ∧ (∀ (s : State) (r : ExposureDone) (x : Tile) (plan : List PlanEntry) (e : PlanEntry) (n : Nat),
    s.prc.run ≠ .quiescing → s.prc.tile? r.tile = some x → x.state = .exposing → x.plan = some plan →
    r.withFrame = true → plan[x.exposures.length + 1]? = some e → s.fst.lowestReserved r.tile = some n →
    s.cru.state = .idle → s.prc.retryBack = none → (s.blu.throttle = false ∨ e.drive ≤ 1024) →
    let dev := decide (r.drive < 20 * ((r.m : Int) - r.drive).natAbs)
    ∃ t, exec (.exposureCompletion r) s = .next t ∧ s.prcOnly t ∧ t.prc.otherRecords s.prc r.tile
      ∧ t.prc.tile? r.tile = some { x with
          exposures := x.exposures ++ [{ time := r.time, drive := r.drive, m := r.m, temp := r.temp, slot := r.slot
                                         lampDev := dev, throttled := r.throttled }]
          flags := { x.flags with
            lampDev := x.flags.lampDev || dev, throttled := x.flags.throttled || r.throttled } }
      ∧ t.prc.run = s.prc.run
      ∧ (s.prc.run = .running ∨ s.prc.run = .holding → t.prc.expReq = some r.tile
        ∧ t.inFlight = s.inFlight.erase (.exposureCompletion r) ++ [.lightRequest e.drive,
          .exposureRequest { client := .prc r.tile, time := e.time, target := .slot n r.tile
                             lamp := .settled e.drive, stage := true }])
      ∧ ((∃ c, s.prc.run = .held c) → t.prc.expReq = none
        ∧ t.inFlight = s.inFlight.erase (.exposureCompletion r)))
  ∧ (∀ (s : State) (r : ExposureDone) (j : Job) (x : Tile) (plan : List PlanEntry), s.prc.tableLaw → j.countLaw →
    s.prc.run ≠ .quiescing → s.prc.activeJob? = some j → j.id = r.tile.job → j.state = .capturing →
    s.prc.tile? r.tile = some x → x.state = .exposing → x.plan = some plan → r.withFrame = true →
    x.exposures.length + 1 = plan.length → s.bme.state ≠ .idle → s.cru.state = .idle →
    (∀ y ∈ j.tiles, y.state = .exposing → y.seq = x.seq) →
    let dev := decide (r.drive < 20 * ((r.m : Int) - r.drive).natAbs)
    let x' : Tile := { x with
      state := .exposed
      exposures := x.exposures ++ [{ time := r.time, drive := r.drive, m := r.m, temp := r.temp, slot := r.slot
                                     lampDev := dev, throttled := r.throttled }]
      flags := { x.flags with
        lampDev := x.flags.lampDev || dev, throttled := x.flags.throttled || r.throttled } }
    ∃ t, exec (.exposureCompletion r) s = .next t ∧ t.bme = { s.bme with queue := s.bme.queue ++ [r.tile] }
      ∧ t.fst = s.fst ∧ t.sfe = s.sfe ∧ t.blu = s.blu ∧ t.trs = s.trs ∧ t.cru = s.cru ∧ t.sou = s.sou ∧ t.bpl = s.bpl
      ∧ t.prc.tile? r.tile = some x' ∧ t.prc.expReq = none ∧ t.prc.retryBack = none
      ∧ (∀ k, k ≠ j.id → t.prc.job? k = s.prc.job? k)
      ∧ (s.prc.run = .running → t.prc.run = .running)
      ∧ (s.prc.run = .running ∨ s.prc.run = .holding →
          (∀ y ∈ j.tiles, y.seq ≠ x.seq → y.state.uncaptured = false) → s.prc.trsReq = none →
          (t.prc.job? j.id).map (·.state) = some .unloading ∧ t.prc.otherRecords s.prc r.tile
          ∧ t.prc.trsReq = some .unload ∧ t.prc.run = s.prc.run
          ∧ t.inFlight = s.inFlight.erase (.exposureCompletion r) ++ [.unloadRequest .prc true])
      ∧ (∀ y, s.prc.run = .running →
          j.tiles.find? (fun z => decide (z.state = .metering ∨ z.state = .planned)) = some y →
          y.state = .metering → s.prc.planReq = none → s.prc.trsReq = none → (s.prc.admReq = none) →
          (t.prc.job? j.id).map (·.state) = some .capturing ∧ t.prc.planReq = some ⟨j.id, y.seq⟩
          ∧ t.prc.tile? ⟨j.id, y.seq⟩ = some { y with
              attempts := 0, plan := none
              flags := { y.flags with
                rangeShort := false, brightShort := false, darkShort := false, tCapped := false, darkStale := false } }
          ∧ t.inFlight = s.inFlight.erase (.exposureCompletion r) ++ [.planRequest (.prc ⟨j.id, y.seq⟩)])
      ∧ ((∃ c, s.prc.run = .held c) → t.prc.otherRecords s.prc r.tile
          ∧ t.prc = { s.prc with jobs := t.prc.jobs, expReq := none, retryBack := none }
          ∧ (t.prc.job? j.id).map (·.state) = some .capturing
          ∧ t.inFlight = s.inFlight.erase (.exposureCompletion r))
      ∧ (∀ y ∈ j.tiles, s.prc.run = .holding → y.seq ≠ x.seq → y.state.uncaptured = true → s.prc.trsReq = none →
          s.prc.unloadNext = none → s.prc.planReq = none → t.prc.otherRecords s.prc r.tile
          ∧ t.prc = { s.prc with
            jobs := t.prc.jobs, expReq := none, retryBack := none
            run := .held (if s.prc.holdByLink then .link else .requested) }
          ∧ (t.prc.job? j.id).map (·.state) = some .capturing
          ∧ t.inFlight = s.inFlight.erase (.exposureCompletion r)))
  ∧ (∀ (s : State) (r : ExposureDone), s.prc.tableLaw → s.prc.countLaw → s.prc.run ≠ .quiescing →
    s.bme.state = .idle → s.bme.queue = [] →
    s.goesOn (.exposureCompletion r) { s with bme := { s.bme with state := .merging } }
      (fun t => { t with bme := { t.bme with state := .idle } }) [.mergeTakeUp])

/-- R26, R27: an exposure end changes nothing but at a tile's last exposure, when the next PENDING tile is begun. A
retry report adds RETRIED to the tile; the repeat of a tile's exposure is let go ahead while the stage is still at the
tile. Where the stage has moved on, a METERING tile is PENDING again and the stage is asked back at once; one still on
its way to a tile is asked back at its settle completion. (A report taken late: log entries 44 and 50. What is on its
way between blocks: log entry 1.) -/
def Obligations.ExposureReports : Prop :=
  (∀ (s : State) (j : Job) (r : TileRef) (x : Tile) (m : Nat), s.prc.tableLaw → j.countLaw →
    s.prc.run = .running → s.prc.activeJob? = some j → j.id = r.job → s.prc.tile? r = some x → x.state = .exposing →
    s.prc.trsReq = none →
    (∀ plan, x.plan = some plan → x.exposures.length + 1 < plan.length →
      exec (.exposureEnd r m) s = .next (s.deliver (.exposureEnd r m)))
    ∧ (∀ plan y, x.plan = some plan → x.exposures.length + 1 = plan.length →
        j.tiles.find? (fun y => decide (y.state = .pending)) = some y →
        ∃ t, exec (.exposureEnd r m) s = .next t ∧ s.prcOnly t ∧ t.prc.otherRecords s.prc ⟨j.id, y.seq⟩
          ∧ t.prc.tile? ⟨j.id, y.seq⟩ = some { y with state := .positioning }
          ∧ t.prc.trsReq = some (.move y.seq)
          ∧ t.inFlight = s.inFlight.erase (.exposureEnd r m) ++ [.moveRequest .prc (.point y.cx y.cy)]))
  ∧ (∀ (s : State) (r : TileRef) (x : Tile) (metering : Bool), s.prc.run ≠ .quiescing → s.prc.tile? r = some x →
    x.state = .exposing ∨ x.state = .metering → (metering = true ∨ s.prc.movedOn = none) →
    ∃ t, exec (.retryReport r metering) s = .next t ∧ s.prcOnly t ∧ t.prc.otherRecords s.prc r
      ∧ t.prc.tile? r = some { x with flags := { x.flags with retried := true } }
      ∧ t.inFlight = s.inFlight.erase (.retryReport r metering) ++ (if metering then [] else [.goAhead]))
  ∧ (∀ (s : State) (r u : TileRef) (x y : Tile), s.prc.run ≠ .quiescing → s.prc.tile? r = some x →
    x.state = .exposing → s.prc.movedOn = some u → s.prc.tile? u = some y →
    ∃ t, exec (.retryReport r false) s = .next t ∧ s.prcOnly t
      ∧ t.prc.tile? r = some { x with flags := { x.flags with retried := true } } ∧ t.prc.retryBack = some r
      ∧ t.prc.run = s.prc.run ∧ t.prc.expReq = s.prc.expReq
      ∧ (y.state = .metering → t.prc.tile? u = some { y with state := .pending }
        ∧ t.prc.trsReq = some (.moveBack r.seq)
        ∧ t.inFlight = s.inFlight.erase (.retryReport r false) ++ [.moveRequest .prc (.point x.cx x.cy)])
      ∧ (y.state = .positioning → t.prc.tile? u = some y ∧ t.prc.trsReq = s.prc.trsReq
        ∧ t.inFlight = s.inFlight.erase (.retryReport r false)))

/-- R14, R16, R37, R38, R39, R40: a transport fault, or a second readout failure, ends the active job with its cause:
its tiles not yet captured are abandoned with their requests withdrawn and their slots released (Table 2.3), its other
tiles stay, and the run is HELD with the cause by its rank. The carrier is asked back, but not after a fault of a load
or an unload, and after a readout failure at the end of the move in progress. With no active job a transport fault,
that of a recovery unload among them, takes a HELD or HOLDING run to HELD(TRANSPORT) and leaves an IDLE or RUNNING one
as it is (of a recovery unload too: log entry 27); that of a recovery unload turns the outcome of its DRAINING job to
FAILED(TRANSPORT) and asks for no other. A backlight fault withdraws a plan request and holds the run with cause LAMP
by its rank. (A report taken late, when the fault has been dealt with: log entry 50. What is on its way between blocks:
log entry 1; the order of the notices of one event: log entry 32.) -/
def Obligations.FaultReports : Prop :=
  (∀ (s : State) (j : Job), s.prc.tableLaw → s.prc.countLaw → s.prc.run ≠ .quiescing → s.prc.activeJob? = some j →
    (j.state = .loading ∨ j.state = .capturing ∨ j.state = .unloading) →
    let ended (c : Instr) (cause : FailCause) (hold : HoldCause) : State :=
      ({ s with inFlight := s.inFlight.erase c }.jobEnded j cause).goHeld hold
    let asked (e : State) : State := { e with
      prc := { e.prc with trsReq := some .recovery, unloadNext := none, recoveryJob := some j.id }
      inFlight := e.inFlight ++ [.unloadRequest .prc true] }
    (s.prc.trsReq = none → exec .transportFault s = .next (asked (ended .transportFault .transport .transport)))
    ∧ (∀ r x, r.job = j.id → s.prc.tile? r = some x → x.state.ended = false →
      let e : State := ended (.secondReadoutFailure r) .sensor .sensor
      (s.prc.trsReq = none → exec (.secondReadoutFailure r) s = .next (asked e))
      ∧ (∀ k, s.prc.trsReq = some (.move k) ∨ s.prc.trsReq = some (.moveBack k) →
        exec (.secondReadoutFailure r) s = .next { e with
          prc := { e.prc with unloadNext := some .recovery, recoveryJob := some j.id } }))
    ∧ (∀ k, s.prc.trsReq = some (.move k) ∨ s.prc.trsReq = some (.moveBack k) →
      exec .transportFault s = .next (asked (ended .transportFault .transport .transport)))
    ∧ (s.prc.trsReq = some .load ∨ s.prc.trsReq = some .unload →
      let e : State := ended .transportFault .transport .transport
      exec .transportFault s = .next { e with prc := { e.prc with trsReq := none, unloadNext := none } }))
  ∧ (∀ (s : State) (id : Nat) (j : Job), s.prc.active = none → s.prc.recoveryJob = some id →
    s.prc.trsReq = some .recovery → s.prc.unloadNext = none → s.prc.run ≠ .quiescing → s.prc.job? id = some j →
    ∃ t, exec .transportFault s = .next t ∧ s.prcOnly t ∧ t.prc.trsReq = none
      ∧ (s.prc.run = .idle ∨ s.prc.run = .running → t.prc.run = s.prc.run)
      ∧ (s.prc.run = .holding ∨ (∃ c, s.prc.run = .held c) → t.prc.run = .held .transport)
      ∧ t.prc.recoveryJob = none ∧ t.prc.active = none ∧ t.inFlight = s.inFlight.erase .transportFault
      ∧ t.prc.job? id = some (if j.state = .draining then { j with outcome := some (.failed .transport) } else j)
      ∧ ∀ k, k ≠ id → t.prc.job? k = s.prc.job? k)
  ∧ (∀ s : State, s.prc.active = none → s.prc.recoveryJob = none →
    let u : State := { s with
      prc := { s.prc with trsReq := none, unloadNext := none }, inFlight := s.inFlight.erase .transportFault }
    (s.prc.run = .idle ∨ s.prc.run = .running → exec .transportFault s = .next u)
    ∧ (s.prc.run = .holding ∨ (∃ c, s.prc.run = .held c) → exec .transportFault s = .next (u.goHeld .transport)))
  ∧ (∀ (s : State) (f : LampFault), s.prc.run ≠ .quiescing →
    (s.prc.active = none → exec (.backlightFault f) s = .next (s.deliver (.backlightFault f)))
    ∧ ∀ j, s.prc.activeJob? = some j →
      (j.state = .loading ∨ j.state = .capturing → s.prc.planReq = none →
        exec (.backlightFault f) s = .next ((s.deliver (.backlightFault f)).goHeld .lamp))
      ∧ (∀ r, j.state = .loading ∨ j.state = .capturing → s.prc.planReq = some r → s.prc.run = .running →
        ∃ t, exec (.backlightFault f) s = .next t ∧ s.prcOnly t
          ∧ t.prc = { s.prc with planReq := none, run := .held .lamp }
          ∧ t.inFlight = s.inFlight.erase (.backlightFault f) ++ [.planWithdraw (.prc r)])
      ∧ (j.state = .unloading → exec (.backlightFault f) s
          = .next { s.deliver (.backlightFault f) with prc := { s.prc with lampAfterUnload := true } }))

/-- R19, R20, R28, R31, R36, R38, R40: at the unload completion the active job is ABORTED under its abort mark,
DRAINING while a tile is between EXPOSED and SENDING, and DONE otherwise. Under AUTO a RUNNING run goes to IDLE with
nothing queued, and with jobs queued a start of the next is considered, as START_JOB does; a HOLDING run has reached
its hold point, and a HELD one stays; under STEP the run goes to HELD(STEP) by its rank (also from HOLDING: log entry
27), and a lamp fault put off takes it to HELD(LAMP) by its rank (before STEP: log entry 32). The completion of a
recovery unload has PRC consider a start, or takes a HOLDING run to its hold point; one that nothing waits for is
discarded. (A late report of an earlier request: log entry 44. What is on its way between blocks: log entry 1.) -/
def Obligations.UnloadCompletion : Prop :=
  (∀ (s : State) (j : Job), s.prc.tableLaw → s.prc.trsReq = some .unload → s.prc.activeJob? = some j →
    j.state = .unloading → (s.prc.run = .running
          ∧ (s.prc.queue = [] ∨ s.liu.params.runMode = .step ∨ s.prc.lampAfterUnload = true))
        ∨ (s.prc.run = .holding ∧ s.prc.unloadNext = none ∧ s.prc.planReq = none ∧ s.prc.expReq = none)
        ∨ (∃ c, s.prc.run = .held c) →
    ∃ t, exec .unloadComplete s = .next t ∧ t.prc.active = none ∧ t.prc.trsReq = none ∧ t.prc.abortMark = false
      ∧ t.prc.lampAfterUnload = false
      ∧ t.prc.run = (match s.prc.run with
        | .held c =>
          if s.prc.lampAfterUnload = true then .held (if c.rank ≤ HoldCause.lamp.rank then .lamp else c)
          else match s.liu.params.runMode with
            | .auto => .held c
            | .step => .held (if c.rank ≤ HoldCause.step.rank then .step else c)
        | r =>
          if s.prc.lampAfterUnload = true then .held .lamp
          else match s.liu.params.runMode with
            | .auto => if r = .running then .idle else .held (if s.prc.holdByLink then .link else .requested)
            | .step => .held .step)
      ∧ t.prc.job? j.id = some { j with
          state := if s.prc.abortMark then .aborted else if j.tiles.any (fun x => x.state.inFlight) then .draining
            else .done
          outcome := some (if s.prc.abortMark then .aborted else .done) }
      ∧ (∀ k, k ≠ j.id → t.prc.job? k = s.prc.job? k)
      ∧ t.fst = s.fst ∧ t.sfe = s.sfe ∧ t.trs = s.trs ∧ t.bme = s.bme ∧ t.cru = s.cru ∧ t.sou = s.sou
      ∧ t.inFlight = s.inFlight.erase .unloadComplete)
  ∧ (∀ (s : State) (j : Job), s.prc.tableLaw → s.prc.trsReq = some .unload → s.prc.activeJob? = some j →
    j.state = .unloading → s.prc.run = .running → s.liu.params.runMode = .auto → s.prc.lampAfterUnload = false →
    s.prc.queue ≠ [] → .startJob ∉ s.inFlight →
    let u : State := { s with
      prc := { s.prc with trsReq := none, active := none, abortMark := false }
      inFlight := s.inFlight.erase .unloadComplete }.recordJob { j with
        state := if s.prc.abortMark then .aborted else if j.tiles.any (fun x => x.state.inFlight) then .draining
          else .done
        outcome := some (if s.prc.abortMark then .aborted else .done) }
    ∃ w, exec .startJob u = .next w ∧ exec .unloadComplete s = .next w.startIdle)
  ∧ (∀ s : State, s.prc.trsReq = some .recovery →
    let back : State := { s with
      prc := { s.prc with trsReq := none, recoveryJob := none }, inFlight := s.inFlight.erase .unloadComplete }
    (s.prc.run = .idle ∨ (∃ c, s.prc.run = .held c) → exec .unloadComplete s = .next back)
    ∧ (s.prc.run = .running → .startJob ∉ s.inFlight → exec .unloadComplete s = exec .startJob back)
    ∧ (s.prc.run = .holding → s.prc.unloadNext = none → s.prc.planReq = none → s.prc.expReq = none →
      s.prc.active = none →
      exec .unloadComplete s = .next (back.goHeld (if s.prc.holdByLink then .link else .requested))))
  ∧ (∀ s : State, s.prc.trsReq = none →
    exec .unloadComplete s = .next { s with inFlight := s.inFlight.erase .unloadComplete })

/-! ## Calibration -/

/-- What a calibration leaves when it ends: a CAL_DONE notice has been raised, CRU is IDLE with its working values
discarded and its references as they are, some messages and then the report to PRC are on their way, and the idle
timer starts where its condition holds (R87, R97, R135). -/
def Sys2Proof.Machine.State.calOver (s : State) (n : Notice) (out : List Instr) : State :=
  ({ s.notice n with
      cru := { Cru.reset with quiesce := s.cru.quiesce, dark := s.cru.dark, profiles := s.cru.profiles }
      inFlight := s.inFlight ++ out ++ [Instr.cruIdleReport] }).startIdle

/-- CRU has released BME and its CALWORK slots and asks for the unload of the reference carrier, with a pending
result (R95, R96). -/
def Sys2Proof.Machine.State.calBack (s : State) (out : List Instr) (r : CalResult) : State :=
  { s with
    cru := { s.cru with state := .flatUnload, pend := some r, work := [], trsReq := some .unload, frameReq := false }
    inFlight := s.inFlight ++ out ++ [.calRelease, .calworkReturn (s.cru.work.map Prod.fst), .unloadRequest .cru true] }

/-- R84, R85, R86, R95: the refusals of CALIBRATE DARK and FLAT in their order, what an accepted one leaves before CRU's
test for slots, and CANCEL state by state: a series with a frame of its own exposing or in readout waits for
it, and one with none, or with a frame that SFE only holds, is ended, or unloaded, at the cancel. (What is on its way
between blocks: log entry 1; the state a cancelled series waits in: log entry 32; a frame whose repeat waits: log entry
45.) -/
def Obligations.CalibrateCommands : Prop :=
  (∀ (h : Hdr) (s : State), s.takes h →
    let waiting (k : CalKind) : State := { s with
      cru := { s.cru with state := .waiting, request := some k }
      blu := { s.blu with idleTimer := none, deferred := false } }
    (s.cru.state ≠ .idle → exec (.calibrateDark h) s = .next (s.replied h .calibrate .busy .none))
    ∧ (s.cru.state = .idle →
        (s.prc.active ≠ none ∧ ∀ c, s.prc.run ≠ .held c)
          ∨ (∃ j, s.prc.activeJob? = some j ∧ ∃ x ∈ j.tiles, x.state = .exposing) →
        exec (.calibrateDark h) s = .next (s.replied h .calibrate .wrongState .none))
    ∧ (s.cru.state = .idle → (s.prc.active = none ∨ ∃ c, s.prc.run = .held c) →
        (∀ j, s.prc.activeJob? = some j → ∀ x ∈ j.tiles, x.state ≠ .exposing) →
        exec (.calibrateDark h) s = .next (((waiting .dark).cruTest).replied h .calibrate .ok .none))
    ∧ (∀ k, (waiting k).cruTest.cru.state = .waiting ∧ (waiting k).cruTest.cru.request = some k
        ∧ (waiting k).cruTest.liu = s.liu ∧ (waiting k).cruTest.prc = s.prc)
    ∧ (∀ p, exec (.calibrateFlat h p) s = .next (
        if 3 < p then s.replied h .calibrate .badArg .none
        else if s.cru.state ≠ .idle then s.replied h .calibrate .busy .none
        else if s.prc.active ≠ none then s.replied h .calibrate .wrongState .none
        else if s.trs.state = .unhomed then s.replied h .calibrate .notHomed .none
        else if s.trs.state ≠ .empty then s.replied h .calibrate .wrongState .none
        else if s.cru.dark.valid = false then s.replied h .calibrate .notCalibrated .none
        else ((waiting (.flat p)).cruTest).replied h .calibrate .ok .none)))
  ∧ (∀ (h : Hdr) (s : State), s.takes h →
    let frame : Prop := s.sfe.held.map (·.req.client) ≠ some .cru
      ∧ ((∃ e, s.sfe.exposing = some e ∧ e.req.client = .cru)
        ∨ ∃ q e m temp, s.sfe.readout = some q ∧ q.kind = .frame e m temp ∧ e.req.client = .cru
          ∧ q.dropped = false)
    (s.cru.state = .idle → exec (.calibrateCancel h) s = .next (s.replied h .calibrate .wrongState .none))
    ∧ (∀ k, s.cru.state = .waiting → s.cru.request = some k → s.cru.work = [] → s.cru.mean = none →
        exec (.calibrateCancel h) s
          = .next ((s.calOver (.calDone k .cancelled none none none) []).replied h .calibrate .ok .none))
    ∧ (s.cru.state = .darkBias ∨ s.cru.state = .darkRate → s.cru.request = some .dark →
        (s.cru.frameReq = true → frame → exec (.calibrateCancel h) s
          = .next ({ s with cru := { s.cru with state := .cancelling, pend := some .cancelled, trsReq := none }
              }.replied h .calibrate .ok .none))
        ∧ (s.cru.frameReq = false ∨ ¬frame → exec (.calibrateCancel h) s
          = .next ((s.calOver (.calDone .dark .cancelled none none none)
              ((if s.cru.frameReq then [.exposureWithdraw .cru] else [])
                ++ [.calRelease, .calworkReturn (s.cru.work.map Prod.fst), .darkHoldRelease])
              ).replied h .calibrate .ok .none)))
    ∧ (s.cru.state = .flatLoad → exec (.calibrateCancel h) s
        = .next ({ s with cru := { s.cru with state := .cancelling, pend := some .cancelled } }.replied h .calibrate
          .ok .none))
    ∧ (∀ p, s.cru.state = .flatMeter → s.cru.request = some (.flat p) → exec (.calibrateCancel h) s
        = .next ((s.calBack [.planWithdraw (.cru p s.cru.flatDrive)] .cancelled).replied h .calibrate .ok .none))
    ∧ (∀ p, s.cru.state = .flatFrames → s.cru.request = some (.flat p) →
        (s.cru.frameReq = true → frame → exec (.calibrateCancel h) s
          = .next ({ s with cru := { s.cru with state := .cancelling, pend := some .cancelled, trsReq := none }
              }.replied h .calibrate .ok .none))
        ∧ (s.cru.frameReq = false ∨ ¬frame → exec (.calibrateCancel h) s
          = .next ((s.calBack (if s.cru.frameReq then [.exposureWithdraw .cru] else []) .cancelled).replied h
              .calibrate .ok .none)))
    ∧ (s.cru.state = .flatUnload →
        ((∃ c, s.cru.pend = some (.failed c)) → exec (.calibrateCancel h) s = .next (s.replied h .calibrate .ok .none))
        ∧ (s.cru.pend = none → exec (.calibrateCancel h) s
            = .next ({ s with cru := { s.cru with pend := some .cancelled } }.replied h .calibrate .ok .none)))
    ∧ (s.cru.state = .cancelling → exec (.calibrateCancel h) s = .next (s.replied h .calibrate .ok .none)))

/-- R86, R88, R89, R91, R93, R95: BME's answer begins the work, each frame is accumulated, and each accumulation asks
for the next frame or, after the sixteenth, gives BME the finish of the series. In CANCELLING the frame that was
awaited is not accumulated: a dark calibration gives everything back and ends CANCELLED, and a flat one gives back BME
and its slots and asks for the unload of the reference carrier (that a FLAT_FRAMES cancel waits in CANCELLING too: log
entry 32). (A late report of an earlier calibration: log entry 44. What is on its way between blocks: log entry 1.) -/
def Obligations.CalibrationFrames : Prop :=
  ∀ (s : State) (lo hi n : Nat), s.cru.quiesce = false → s.cru.slotOf .exposure = some n →
    let dark (t : Nat) : ExposureReq := { client := .cru, time := t, target := .calwork n, lamp := .dark, stage := false }
    let lit (e : PlanEntry) : ExposureReq :=
      { client := .cru, time := e.time, target := .calwork n, lamp := .settled e.drive, stage := true }
    (s.cru.state = .waiting → s.cru.slotOf .workLow = some lo → s.cru.slotOf .workHigh = some hi →
      (s.cru.request = some .dark → exec (.calWorkAccepted true lo hi) s = .next { s with
        cru := { s.cru with
          state := .darkBias, darkTime := s.liu.params.darkTime, frames := 0, tempSum := 0, frameReq := true }
        inFlight := s.inFlight.erase (.calWorkAccepted true lo hi) ++ [.darkHold, .exposureRequest (dark 1)] })
      ∧ (∀ p, s.cru.request = some (.flat p) → exec (.calWorkAccepted true lo hi) s = .next { s with
        cru := { s.cru with state := .flatLoad, flatDrive := s.liu.params.flatDrive, trsReq := some .load }
        inFlight := s.inFlight.erase (.calWorkAccepted true lo hi) ++ [.loadRequest .cru 0] })
      ∧ exec (.calWorkAccepted false lo hi) s = .next { s with
        cru := { s.cru with work := [] }
        inFlight := s.inFlight.erase (.calWorkAccepted false lo hi) ++ [.calworkReturn (s.cru.work.map Prod.fst)] })
    ∧ (∀ temp m, s.cru.frameReq = true →
      (s.cru.state = .darkBias ∨ s.cru.state = .darkRate → exec (.calFrameComplete temp m) s = .next { s with
        cru := { s.cru with frameReq := false, tempSum := s.cru.tempSum + temp }
        inFlight := s.inFlight.erase (.calFrameComplete temp m) ++ [.accumulateRequest n .raw] })
      ∧ (∀ e v, s.cru.state = .flatFrames → s.cru.plan = some e → m = some v →
        exec (.calFrameComplete temp m) s = .next { s with
          cru := { s.cru with frameReq := false, mSum := s.cru.mSum + v }
          inFlight := s.inFlight.erase (.calFrameComplete temp m) ++ [.accumulateRequest n (.darkCorrected e.time)] })
      ∧ (s.cru.state = .cancelling → s.cru.pend = some .cancelled →
        let u : State := { s with inFlight := s.inFlight.erase (.calFrameComplete temp m) }
        (s.cru.request = some .dark → exec (.calFrameComplete temp m) s = .next (u.calOver
          (.calDone .dark .cancelled none none none)
          [.calRelease, .calworkReturn (s.cru.work.map Prod.fst), .darkHoldRelease]))
        ∧ (∀ p, s.cru.request = some (.flat p) →
          exec (.calFrameComplete temp m) s = .next (u.calBack [] .cancelled))))
    ∧ (s.cru.frameReq = false → s.cru.frames < 15 →
      (s.cru.state = .darkBias ∨ s.cru.state = .darkRate → exec .accumulationComplete s = .next { s with
        cru := { s.cru with frames := s.cru.frames + 1, frameReq := true }
        inFlight := s.inFlight.erase .accumulationComplete
          ++ [.exposureRequest (dark (if s.cru.state = .darkBias then 1 else s.cru.darkTime))] })
      ∧ (∀ e, s.cru.state = .flatFrames → s.cru.plan = some e → exec .accumulationComplete s = .next { s with
        cru := { s.cru with frames := s.cru.frames + 1, frameReq := true }
        inFlight := s.inFlight.erase .accumulationComplete ++ [.lightRequest e.drive, .exposureRequest (lit e)] }))
    ∧ (s.cru.frameReq = false → s.cru.frames = 15 → ∀ b r f,
      (s.cru.state = .darkBias → s.cru.slotOf .biasResult = some b → exec .accumulationComplete s = .next { s with
        cru := { s.cru with frames := 16 }
        inFlight := s.inFlight.erase .accumulationComplete ++ [.biasFinish b] })
      ∧ (s.cru.state = .darkRate → s.cru.slotOf .biasResult = some b → s.cru.slotOf .rateResult = some r →
        exec .accumulationComplete s = .next { s with
          cru := { s.cru with frames := 16 }
          inFlight := s.inFlight.erase .accumulationComplete ++ [.rateFinish s.cru.darkTime b r] })
      ∧ (s.cru.state = .flatFrames → s.cru.slotOf .flatResult = some f → exec .accumulationComplete s = .next { s with
        cru := { s.cru with frames := 16 }
        inFlight := s.inFlight.erase .accumulationComplete ++ [.flatMean f] }))

/-- R88, R89, R90, R97: the end of the bias series, the clear, and the commit of a dark calibration, which replaces the
dark references in one event and changes no profile. (A late report of an earlier calibration: log entry 44. What is on
its way between blocks: log entry 1.) -/
def Obligations.DarkCalibrationCommits : Prop :=
  ∀ (s : State) (lo hi n b r b0 : Nat), s.cru.quiesce = false → s.cru.frames = 16 → s.cru.request = some .dark →
    s.cru.work = [(lo, .workLow), (hi, .workHigh), (n, .exposure), (b, .biasResult), (r, .rateResult)] →
    (s.cru.state = .darkBias → exec (.biasFinishComplete b0) s = .next { s with
      cru := { s.cru with newB0 := b0 }
      inFlight := s.inFlight.erase (.biasFinishComplete b0) ++ [.workClear] })
    ∧ (s.cru.state = .darkBias → exec .clearComplete s = .next { s with
      cru := { s.cru with state := .darkRate, frames := 0, frameReq := true }
      inFlight := s.inFlight.erase .clearComplete ++ [.exposureRequest
        { client := .cru, time := s.cru.darkTime, target := .calwork n, lamp := .dark, stage := false }] })
    ∧ (s.cru.state = .darkRate → s.fst.wait = none → [lo, hi, n, b, r].Nodup →
      (∀ p ∈ s.cru.work, s.fst.slot p.1 = some (.calwork p.2)) →
      let temp : Int := (s.cru.tempSum + 16) / 32
      ∃ f : Fst, exec .rateFinishComplete s = .next (({ s with
            fst := f
            cru := { s.cru with dark := { biasSlot := some b, rateSlot := some r, b0 := s.cru.newB0, temp := temp, valid := true } }
            inFlight := s.inFlight.erase .rateFinishComplete }).calOver
          (.calDone .dark .ok (some (s.cru.newB0, temp)) none none) [.calRelease, .darkHoldRelease])
        ∧ f = { s.fst with slots := f.slots }
        ∧ ∀ i, f.slot i = (if i = b then some (.ref .bias) else if i = r then some (.ref .rate)
            else if i = lo ∨ i = hi ∨ i = n then some .free
            else if s.fst.slot i = some (.ref .bias) ∨ s.fst.slot i = some (.ref .rate) then some .free
            else s.fst.slot i))

/-- R91 to R97: a flat calibration from its load to its commit, which replaces one profile in one event. One cancelled
during its load is unloaded at the completion of the load, or of the move after it; and one that has a pending result
ends with it at the unload completion, where a result slot that it still holds goes back. (A late report of an earlier
calibration: log entry 44. What is on its way between blocks: log entry 1.) -/
def Obligations.FlatCalibrationCommits : Prop :=
  ∀ (s : State) (p : Nat), s.cru.quiesce = false → s.cru.request = some (.flat p) →
    (s.cru.state = .flatLoad → s.cru.trsReq = some .load → exec .flatLoadComplete s = .next { s with
      cru := { s.cru with trsReq := some .move }
      inFlight := s.inFlight.erase .flatLoadComplete ++ [.moveRequest .cru .aperture] })
    ∧ (s.cru.state = .flatLoad → s.cru.trsReq = some .move → exec .flatSettleComplete s = .next { s with
      cru := { s.cru with state := .flatMeter, trsReq := none }
      inFlight := s.inFlight.erase .flatSettleComplete ++ [.planRequest (.cru p s.cru.flatDrive)] })
    ∧ (s.cru.state = .cancelling → s.cru.pend = some .cancelled →
      (s.cru.trsReq = some .load → exec .flatLoadComplete s = .next ({ s with
        inFlight := s.inFlight.erase .flatLoadComplete }.calBack [] .cancelled))
      ∧ (s.cru.trsReq = some .move → exec .flatSettleComplete s = .next ({ s with
        inFlight := s.inFlight.erase .flatSettleComplete }.calBack [] .cancelled)))
    ∧ (∀ e flags n, s.cru.state = .flatMeter → s.cru.slotOf .exposure = some n →
      exec (.flatPlanCompletion e flags) s = .next { s with
        cru := { s.cru with
          state := .flatFrames, plan := some e, planFlags := flags, frames := 0, mSum := 0, frameReq := true }
        inFlight := s.inFlight.erase (.flatPlanCompletion e flags) ++ [.lightRequest e.drive, .exposureRequest
          { client := .cru, time := e.time, target := .calwork n, lamp := .settled e.drive, stage := true }] })
    ∧ (∀ lo hi n f e, s.cru.frames = 16 → s.cru.state = .flatFrames → s.cru.plan = some e →
      s.cru.work = [(lo, .workLow), (hi, .workHigh), (n, .exposure), (f, .flatResult)] →
      (∀ mean, mean < 2048 → exec (.flatMeanComplete mean) s = .next ({ s with
          cru := { s.cru with mean := some mean }
          inFlight := s.inFlight.erase (.flatMeanComplete mean) }.calBack [] (.failed .flatLow)))
      ∧ (∀ mean, 2048 ≤ mean →
          let mf := (s.cru.mSum + 8) / 16
          let ef := e.time * mf
          0 < ef →
          let y := min 4294967295 ((2 * mean * 16777216 + ef) / (2 * ef))
          exec (.flatMeanComplete mean) s = .next { s with
            cru := { s.cru with mean := some mean, mFlat := mf, newYClear := y }
            inFlight := s.inFlight.erase (.flatMeanComplete mean) ++ [.flatGain f mean y] })
      ∧ (∀ defects lClear, s.cru.mean.isSome = true → exec (.flatGainComplete defects lClear) s = .next { s with
          cru := { s.cru with
            state := .flatUnload, defects := defects, newLClear := lClear, work := [(f, .flatResult)]
            trsReq := some .unload, frameReq := false }
          inFlight := s.inFlight.erase (.flatGainComplete defects lClear)
            ++ [.calRelease, .calworkReturn [lo, hi, n], .unloadRequest .cru true] }))
    ∧ (∀ f e, s.cru.state = .flatUnload → s.cru.pend = none → s.cru.work = [(f, .flatResult)] → s.cru.plan = some e →
      p < 4 → s.fst.wait = none → s.fst.slot f = some (.calwork .flatResult) →
      ∃ g : Fst, exec .flatUnloadComplete s = .next (({ s with
            fst := g
            cru := { s.cru with profiles := (s.cru.profiles.setIfInBounds p
              { flatSlot := some f, yClear := s.cru.newYClear, lClear := s.cru.newLClear, valid := true }) }
            inFlight := s.inFlight.erase .flatUnloadComplete }).calOver
          (.calDone (.flat p) .ok none s.cru.mean
            (some (e, s.cru.mFlat, s.cru.newYClear, s.cru.newLClear, s.cru.defects, s.cru.planFlags))) [])
        ∧ g = { s.fst with slots := g.slots }
        ∧ ∀ i, g.slot i = (if i = f then some (.ref (.flat p))
            else if s.fst.slot i = some (.ref (.flat p)) then some .free else s.fst.slot i))
    ∧ (∀ r, s.cru.state = .flatUnload → s.cru.pend = some r → r ≠ .ok →
      exec .flatUnloadComplete s = .next ({ s with inFlight := s.inFlight.erase .flatUnloadComplete
        }.calOver (.calDone (.flat p) r none s.cru.mean none)
          (if s.cru.work = [] then [] else [.calworkReturn (s.cru.work.map Prod.fst)])))

/-- R94, R96: a failure of a helper. A dark calibration gives everything back and ends; a flat one gives back BME and its
slots and asks for the unload of the reference carrier; a failed load ends it without one. A failure while CANCELLING
replaces CANCELLED, a fault of TRS during the unload any pending result, and a refusal of the unload ends the
calibration FAILED(TRANSPORT) too (Table 5.2 where TRANSPORT is pending; with any other pending result, or none: log
entry 46). A lamp fault touches a flat calibration at its metering and frames only (R134), and so changes nothing in
CANCELLING either, also where a FLAT_FRAMES cancel waits there for its frame (log entries 27 and 32). (A cancelled load
that meets NO_CARRIER ends CANCELLED: log entry 11. A late report of an earlier calibration: log entry 44. What is on its
way between blocks: log entry 1.) -/
def Obligations.CalibrationFails : Prop :=
  ∀ s : State, s.cru.quiesce = false →
    (s.cru.state = .darkBias ∨ s.cru.state = .darkRate → s.cru.request = some .dark → s.cru.pend = none →
      exec .calSensorFailure s = .next ({ s with inFlight := s.inFlight.erase .calSensorFailure }.calOver
        (.calDone .dark (.failed .sensor) none none none)
        [.calRelease, .calworkReturn (s.cru.work.map Prod.fst), .darkHoldRelease]))
    ∧ (∀ p, s.cru.request = some (.flat p) → s.cru.pend = none →
      (s.cru.state = .flatMeter ∨ s.cru.state = .flatFrames → exec .calSensorFailure s
        = .next ({ s with inFlight := s.inFlight.erase .calSensorFailure }.calBack [] (.failed .sensor)))
      ∧ (s.cru.state = .flatMeter →
        exec .calLampFault s = .next ({ s with inFlight := s.inFlight.erase .calLampFault }.calBack
          [.planWithdraw (.cru p s.cru.flatDrive)] (.failed .lamp))
        ∧ exec (.calTransportFault .fault) s
          = .next ({ s with inFlight := s.inFlight.erase (.calTransportFault .fault) }.calBack
            [.planWithdraw (.cru p s.cru.flatDrive)] (.failed .transport)))
      ∧ (s.cru.state = .flatFrames →
        exec .calLampFault s = .next ({ s with inFlight := s.inFlight.erase .calLampFault }.calBack
          (if s.cru.frameReq then [.exposureWithdraw .cru] else []) (.failed .lamp))
        ∧ exec (.calTransportFault .fault) s
          = .next ({ s with inFlight := s.inFlight.erase (.calTransportFault .fault) }.calBack
            (if s.cru.frameReq then [.exposureWithdraw .cru] else []) (.failed .transport)))
      ∧ (s.cru.state = .flatLoad → s.cru.mean = none →
        (s.cru.trsReq = some .load → ∀ r : CalTrsReport, r = .noCarrier ∨ r = .fault →
          exec (.calTransportFault r) s
            = .next ({ s with inFlight := s.inFlight.erase (.calTransportFault r) }.calOver
              (.calDone (.flat p) (.failed .transport) none none none)
              [.calRelease, .calworkReturn (s.cru.work.map Prod.fst)]))
        ∧ (s.cru.trsReq = some .move → exec (.calTransportFault .fault) s
            = .next ({ s with inFlight := s.inFlight.erase (.calTransportFault .fault) }.calBack []
              (.failed .transport)))))
    ∧ (∀ p r, s.cru.state = .flatUnload → s.cru.request = some (.flat p) →
      r = .fault ∨ r = .refused → exec (.calTransportFault r) s
        = .next ({ s with inFlight := s.inFlight.erase (.calTransportFault r) }.calOver
          (.calDone (.flat p) (.failed .transport) none s.cru.mean none)
          (if s.cru.work = [] then [] else [.calworkReturn (s.cru.work.map Prod.fst)])))
    ∧ (s.cru.state = .cancelling → s.cru.pend = some .cancelled →
      (s.cru.trsReq = none →
        (s.cru.request = some .dark → exec .calSensorFailure s
          = .next ({ s with inFlight := s.inFlight.erase .calSensorFailure }.calOver
            (.calDone .dark (.failed .sensor) none none none)
            [.calRelease, .calworkReturn (s.cru.work.map Prod.fst), .darkHoldRelease]))
        ∧ (∀ p, s.cru.request = some (.flat p) → exec .calSensorFailure s
          = .next ({ s with inFlight := s.inFlight.erase .calSensorFailure }.calBack [] (.failed .sensor))))
      ∧ (∀ p, s.cru.request = some (.flat p) →
        (s.cru.trsReq ≠ some .load → exec (.calTransportFault .fault) s
          = .next ({ s with inFlight := s.inFlight.erase (.calTransportFault .fault) }.calBack
            (if s.cru.frameReq then [.exposureWithdraw .cru] else []) (.failed .transport)))
        ∧ (s.cru.trsReq = some .load → s.cru.mean = none → ∀ r result,
            (r = .fault ∧ result = .failed .transport) ∨ (r = .noCarrier ∧ result = .cancelled) →
            exec (.calTransportFault r) s
              = .next ({ s with inFlight := s.inFlight.erase (.calTransportFault r) }.calOver
                (.calDone (.flat p) result none none none)
                [.calRelease, .calworkReturn (s.cru.work.map Prod.fst)]))))
    ∧ (s.cru.state = .idle ∨ s.cru.state = .waiting ∨ s.cru.state = .darkBias ∨ s.cru.state = .darkRate
        ∨ s.cru.state = .flatLoad ∨ s.cru.state = .flatUnload ∨ s.cru.state = .cancelling →
      exec .calLampFault s = .next { s with inFlight := s.inFlight.erase .calLampFault })

/-! ## Metering and planning -/

/-- The exposure request of a metering attempt (R46). -/
def Sys2Proof.Machine.attemptRequest (r : Planner) (time drive : Nat) : Instr :=
  .exposureRequest { client := .bpl r, time := time, target := .histogram, lamp := .settled drive, stage := true }

/-- R45, R46, R48, R57: a plan request of a FIXED job is answered with its plan; one of an AUTO job, or of CRU, begins
attempt 1, which is counted in the tile's record unless the tile has ended (R9); one that finds BPL METERING is refused
back (what PRC does with the refusal: log entry 32). A withdrawal by the requester in progress ends the metering, and
any other finds nothing. (A withdrawal taken before its request, or late: log entries 51 and 56. What is on its way
between blocks: log entry 1.) -/
def Obligations.PlanRequests : Prop :=
  ∀ (s : State) (copies : PlanCopies) (d : Nat),
    copies = { meterTime := s.liu.params.meterTime, topCode := s.liu.params.topCode, hiPpm := s.liu.params.hiPpm
               stepRatio := s.liu.params.stepRatio, satCode := s.liu.params.satCode, dSpan := d
               b0 := s.cru.dark.b0 } →
    (∀ t j plan, s.bpl.work = none → s.prc.job? t.job = some j → j.policy = .fixed plan →
      exec (.planRequest (.prc t)) s = .next { s with
        inFlight := s.inFlight.erase (.planRequest (.prc t)) ++ [.planCompletion t plan 0 {}] })
    ∧ (∀ t j x, s.bpl.work = none → s.prc.job? t.job = some j → j.policy = .auto d → s.prc.run ≠ .quiescing →
      s.prc.tile? t = some x →
      let e : PlanEntry := if s.blu.throttle then { time := copies.meterTime * 4, drive := 1024 }
        else { time := copies.meterTime, drive := 4096 }
      ∃ u, exec (.planRequest (.prc t)) s = .next u
        ∧ u = { s with
          bpl := { work := some { planner := .prc t, attempt := 1, time := e.time, drive := e.drive, copies := copies } }
          prc := u.prc
          inFlight := s.inFlight.erase (.planRequest (.prc t))
            ++ [.lightRequest e.drive, attemptRequest (.prc t) e.time e.drive] }
        ∧ u.prc = { s.prc with jobs := u.prc.jobs } ∧ u.prc.otherRecords s.prc t
        ∧ u.prc.tile? t = some (if x.state.ended then x else { x with attempts := 1 }))
    ∧ (∀ p f, s.bpl.work = none → d = 0 →
      let e : PlanEntry := if s.blu.throttle = true ∧ 1024 < f then
          { time := (copies.meterTime * f + 512) / 1024, drive := 1024 }
        else { time := copies.meterTime, drive := f }
      exec (.planRequest (.cru p f)) s = .next { s with
        bpl := { work := some { planner := .cru p f, attempt := 1, time := e.time, drive := e.drive, copies := copies } }
        inFlight := s.inFlight.erase (.planRequest (.cru p f))
          ++ [.lightRequest e.drive, attemptRequest (.cru p f) e.time e.drive] })
    ∧ (∀ t w, s.bpl.work = some w → w.planner ≠ .prc t → s.prc.planReq = some t →
      exec (.planRequest (.prc t)) s = .next { s with
        prc := { s.prc with planReq := none }, inFlight := s.inFlight.erase (.planRequest (.prc t)) })
    ∧ (∀ r w, s.bpl.work = some w → w.planner = r → s.liu.resetWork = none →
      exec (.planWithdraw r) s = .next { s with
        bpl := { work := none }
        inFlight := s.inFlight.erase (.planWithdraw r) ++ [.exposureWithdraw (.bpl r)] })
    ∧ (∀ r, (∀ w, s.bpl.work = some w → w.planner ≠ r) →
      exec (.planWithdraw r) s = .next { s with inFlight := s.inFlight.erase (.planWithdraw r) })

/-- R47, R49, R50, R54: the completion of the attempt in progress. A metered attempt is planned from and BPL is IDLE;
an overexposed or underexposed one leads to the next attempt, or to a plan at the fourth attempt or where the step
changes nothing; a completion that BPL does not wait for is discarded. The attempts of a tile that has ended are not
counted (R9). Under a reset BPL acknowledges as it becomes IDLE. (That a completion is known by its planner and
attempt number, so that a late one of a withdrawn request may be taken: log entry 41. What is on its way between
blocks: log entry 1.) -/
def Obligations.AttemptCompletion : Prop :=
  ∀ (s : State) (r : Planner) (w : Metering) (m : Nat), s.bpl.work = some w → w.planner = r →
    let a := evaluate w.copies s.sfe.hist
    let eM := w.time * m
    let e1 := match a with
      | .metered cHi => max 1 (eM * max 64 (w.copies.topCode - w.copies.b0) / (cHi - w.copies.b0))
      | .underexposed => max 1 (eM * max 64 (w.copies.topCode - w.copies.b0) / 64)
      | .overexposed => max 1 (eM / 8)
    let step : PlanEntry := match a with
      | .overexposed => if 1 < w.time then { time := max 1 (w.time / 8), drive := w.drive }
          else { time := 1, drive := max 1 (w.drive / 8) }
      | .underexposed => if w.time < 80000 then { time := min 80000 (w.time * 16), drive := w.drive }
          else { time := 80000, drive := min 4096 (w.drive * 16) }
      | .metered _ => { time := w.time, drive := w.drive }
    let next : PlanEntry := if s.blu.throttle = true ∧ 1024 < step.drive then
        { time := min 80000 ((step.time * step.drive + 512) / 1024), drive := 1024 } else step
    let plan := bracketPlan r s.blu.throttle w.copies e1
    let flags := bracketFlags r s.blu.throttle w.copies a e1
    let msgs := s.inFlight.erase (.attemptCompletion r w.attempt m)
    let acks : List Instr := if s.liu.resetWork = none then [] else [.quiesceAck .bpl true]
    ((∃ cHi, a = .metered cHi) ∨ w.attempt = 4 ∨ next = { time := w.time, drive := w.drive } →
      (∀ t, r = .prc t → exec (.attemptCompletion r w.attempt m) s = .next { s with
        bpl := { work := none }, inFlight := msgs ++ [.planCompletion t plan w.attempt flags] ++ acks })
      ∧ (∀ p f e, r = .cru p f → plan = [e] → exec (.attemptCompletion r w.attempt m) s = .next { s with
        bpl := { work := none }, inFlight := msgs ++ [.flatPlanCompletion e flags] ++ acks }))
    ∧ ((∀ cHi, a ≠ .metered cHi) → w.attempt ≠ 4 → next ≠ { time := w.time, drive := w.drive } →
      ∃ u, exec (.attemptCompletion r w.attempt m) s = .next u
        ∧ u = { s with
          bpl := { work := some { planner := r, attempt := w.attempt + 1, time := next.time, drive := next.drive
                                  copies := w.copies, last := some a } }
          prc := u.prc
          inFlight := msgs ++ [.lightRequest next.drive, attemptRequest r next.time next.drive] }
        ∧ u.prc = { s.prc with jobs := u.prc.jobs }
        ∧ (∀ p f, r = .cru p f → u.prc = s.prc)
        ∧ (∀ t x, r = .prc t → s.prc.run ≠ .quiescing → s.prc.tile? t = some x → u.prc.otherRecords s.prc t
            ∧ u.prc.tile? t = some (if x.state.ended then x else { x with attempts := w.attempt + 1 })))
    ∧ (∀ k, k ≠ w.attempt → exec (.attemptCompletion r k m) s
        = .next { s with inFlight := s.inFlight.erase (.attemptCompletion r k m) })

/-- R49, R52, R53: the bright code of a metered attempt, the number and values of a plan's exposures, and how each is
realised. Every entry is one that the lamp and the sensor can give, and the entries ascend in exposure value. -/
def Obligations.BracketArithmetic : Prop :=
  (∀ (c : PlanCopies) (h : Vector Nat 64),
    let count := 19660800 * c.hiPpm / 1000000
    let above (b : Nat) : Nat := (h.toList.drop b).sum
    (count < above (c.satCode / 256) → evaluate c h = .overexposed)
    ∧ (above (c.satCode / 256) ≤ count → count ≤ above 0 → ∃ b, b < 64 ∧ count ≤ above b
        ∧ (∀ k, b < k → k < 64 → above k < count)
        ∧ (b * 256 + 128 < c.b0 + 64 → evaluate c h = .underexposed)
        ∧ (c.b0 + 64 ≤ b * 256 + 128 → evaluate c h = .metered (b * 256 + 128))))
  ∧ (∀ (c : PlanCopies) (r : Planner) (throttle : Bool) (a : AttemptResult) (e1 : Nat), 1 ≤ e1 →
    (∀ p f, r = .cru p f → 1 ≤ f) →
    let big : Nat := match r with
      | .prc _ => if throttle then 1024 else 4096
      | .cru _ f => if throttle = true ∧ 1024 < f then 1024 else f
    let step : Nat := match c.stepRatio with
      | .r4 => 2466
      | .r8 => 3699
      | .r16 => 4932
    let ratio : Nat := match c.stepRatio with
      | .r4 => 4
      | .r8 => 8
      | .r16 => 16
    let plan := bracketPlan r throttle c e1
    let flags := bracketFlags r throttle c a e1
    (∃ n, 1 ≤ n ∧ c.dSpan ≤ (n - 1) * step ∧ (1 < n → (n - 2) * step < c.dSpan)
      ∧ plan.length = min 6 n ∧ flags.rangeShort = decide (6 < n))
    ∧ (∀ k e, plan[k]? = some e →
      let v := e1 * ratio ^ k
      e = (if v < big then { time := 1, drive := v } else { time := min 80000 ((v + big / 2) / big), drive := big })
      ∧ 1 ≤ e.time ∧ e.time ≤ 80000 ∧ 1 ≤ e.drive ∧ e.drive ≤ big
      ∧ ∀ g, plan[k + 1]? = some g → e.time * e.drive ≤ g.time * g.drive)
    ∧ (flags.tCapped = true ↔ ∃ k, k < plan.length ∧ 80000 < (e1 * ratio ^ k + big / 2) / big)
    ∧ flags.brightShort = decide (a = .overexposed) ∧ flags.darkShort = decide (a = .underexposed))

/-! ## The frame store -/

/-- The `n` lowest-numbered slots that are FREE, in ascending order (R100). -/
def Sys2Proof.Machine.Fst.isLowestFree (f : Fst) (l : List Nat) (n : Nat) : Prop :=
  l.length = n ∧ l.Pairwise (· < ·) ∧ (∀ i ∈ l, f.slot i = some .free)
    ∧ ∀ i, f.slot i = some .free → i ∉ l → ∀ k ∈ l, k < i

/-- R100 and Table 6.2: a change is made when the slot is in the state and under the owner expected, and refused with
the slot left as it is otherwise. Where the slot goes to FREE, a waiting admission is granted in the same event when
enough slots are then FREE (R102), and a WAITING CRU tests (R86). (What is on its way between blocks: log entry 1.) -/
def Obligations.SlotChanges : Prop :=
  ∀ (s : State) (i : Nat) (t : TileRef),
    ∀ p ∈ [(SlotChange.reservedToExposing, SlotState.reserved t, SlotState.exposing t),
        (.exposingToRaw, .exposing t, .raw t), (.exposingToReserved, .exposing t, .reserved t),
        (.reservedToDest, .reserved t, .dest t), (.rawToFree, .raw t, .free), (.destToMerged, .dest t, .merged t),
        (.destToFree, .dest t, .free), (.reservedToFree, .reserved t, .free), (.exposingToFree, .exposing t, .free),
        (.mergedToStreaming, .merged t, .streaming), (.mergedToFree, .merged t, .free),
        (.streamingToFree, .streaming, .free)],
      (s.fst.slot i = some p.2.1 → (p.2.2 = .free → s.fst.wait = none ∧ s.cru.state ≠ .waiting) →
        ∃ f : Fst, exec (.slotChange i p.1 t) s
          = .next { s with fst := f, inFlight := s.inFlight.erase (.slotChange i p.1 t) }
        ∧ f = { s.fst with slots := f.slots }
        ∧ ∀ k, f.slot k = if k = i then some p.2.2 else s.fst.slot k)
      ∧ (s.fst.slot i ≠ some p.2.1 → exec (.slotChange i p.1 t) s
          = .next { s with inFlight := s.inFlight.erase (.slotChange i p.1 t) })
      ∧ (s.fst.slot i = some p.2.1 → p.2.2 = .free → s.fst.wait = none ∨ s.fst.quiesce = false →
        s.goesOn (.slotChange i p.1 t) s.unwaited (fun u => { u with cru := s.cru })
          (s.fst.asksAgain ++ [.calworkGrant]))

/-- R101, R102, R104: admission at once, into the wait, or refused back; its withdrawal; and the release of an EXPOSING
tile, in whose event a waiting admission is granted when enough slots are FREE. (A request refused back is outstanding
with PRC no more: log entry 32. A withdrawal taken before its request: log entry 51. A release or withdrawal of a tile
whose job id has been submitted anew: log entry 52. What is on its way between blocks: log entry 1.) -/
def Obligations.AdmissionAndRelease : Prop :=
  ∀ (s : State) (t : TileRef) (n : Nat), s.cru.state ≠ .waiting →
    let released (i : Nat) : Option SlotState :=
      if s.fst.slot i = some (.reserved t) ∨ s.fst.slot i = some (.exposing t) ∨ s.fst.slot i = some (.raw t)
      then some .free else s.fst.slot i
    (s.fst.quiesce = false → s.fst.wait = none → n + 1 ≤ s.fst.freeCount → ∃ (l : List Nat) (f : Fst),
      exec (.admissionRequest t n) s = .next { s with
        fst := f, inFlight := s.inFlight.erase (.admissionRequest t n) ++ [.admissionGrant t l] }
      ∧ s.fst.isLowestFree l (n + 1) ∧ f = { s.fst with slots := f.slots }
      ∧ ∀ i, f.slot i = if i ∈ l then some (.reserved t) else s.fst.slot i)
    ∧ (s.fst.quiesce = false → s.fst.wait = none → s.fst.freeCount < n + 1 →
      exec (.admissionRequest t n) s = .next { s with
        fst := { s.fst with wait := some (t, n) }, inFlight := s.inFlight.erase (.admissionRequest t n) })
    ∧ ((s.fst.quiesce = true ∨ s.fst.wait ≠ none) → exec (.admissionRequest t n) s = .next { s with
        prc := { s.prc with admReq := if s.prc.admReq = some t then none else s.prc.admReq }
        inFlight := s.inFlight.erase (.admissionRequest t n) })
    ∧ (s.fst.wait = some (t, n) → exec (.admissionWithdraw t) s = .next { s with
        fst := { s.fst with wait := none }, inFlight := s.inFlight.erase (.admissionWithdraw t) })
    ∧ (s.fst.wait = none → ∀ c, c = .admissionWithdraw t ∨ c = .tileRelease t → ∃ f : Fst,
        exec c s = .next { s with fst := f, inFlight := s.inFlight.erase c }
        ∧ f = { s.fst with slots := f.slots } ∧ ∀ i, f.slot i = released i)
    ∧ (∀ u, s.fst.wait = some (u, n) → u ≠ t → ∃ v, exec (.tileRelease t) s = .next v
        ∧ if n + 1 ≤ ((List.range 48).filter fun i => decide (released i = some .free)).length then
            ∃ l : List Nat, l.length = n + 1 ∧ l.Pairwise (· < ·) ∧ (∀ i ∈ l, released i = some .free)
              ∧ v.inFlight = s.inFlight.erase (.tileRelease t) ++ [.admissionGrant u l] ∧ v.fst.wait = none
              ∧ ∀ i, v.fst.slot i = if i ∈ l then some (.reserved u) else released i
          else v.inFlight = s.inFlight.erase (.tileRelease t) ∧ v.fst.wait = some (u, n)
            ∧ ∀ i, v.fst.slot i = released i)
    ∧ State.reset.fst.wait = none ∧ ∀ kind, (s.fst.applied kind).wait = none

/-- R86, R108: a calibration's slots are granted all at once, the lowest-numbered FREE ones under their roles in
ascending order, or not at all; a commit makes a CALWORK slot the reference of a name and frees the slot that had it; a
return frees CALWORK slots and no other (that neither looks at the slot's role: log entry 47; that the other entries
are carried out beside a slot that is not CALWORK: log entry 53; a return taken late: log entry 56). After both a
waiting admission is granted in the same event when enough slots are FREE (R102), and a WAITING CRU tests (R86). (What
is on its way between blocks: log entry 1.) -/
def Obligations.CalibrationSlots : Prop :=
  ∀ s : State,
    (∀ k roles c, (k = .dark ∧ roles = [CalRole.workLow, .workHigh, .exposure, .biasResult, .rateResult])
        ∨ (∃ p, k = .flat p ∧ roles = [.workLow, .workHigh, .exposure, .flatResult]) →
      (c = .calworkGrant ∨ c = .calworkRequest k) →
      s.cru.state = .waiting → s.cru.request = some k → s.cru.work = [] →
      (s.bme.state = .idle → s.bme.queue = [] → s.bme.quiesce = false → s.fst.quiesce = false →
        roles.length ≤ s.fst.freeCount →
        ∃ (l : List Nat) (f : Fst) (lo hi : Nat), s.fst.isLowestFree l roles.length
          ∧ l[0]? = some lo ∧ l[1]? = some hi ∧ exec c s = .next { s with
            fst := f, cru := { s.cru with work := l.zip roles }
            inFlight := s.inFlight.erase c ++ [.calWorkRequest lo hi] }
          ∧ f = { s.fst with slots := f.slots }
          ∧ (∀ q ∈ l.zip roles, f.slot q.1 = some (.calwork q.2)) ∧ ∀ i, i ∉ l → f.slot i = s.fst.slot i)
      ∧ (s.fst.freeCount < roles.length → exec c s = .next { s with inFlight := s.inFlight.erase c }))
    ∧ (s.cru.state ≠ .waiting → exec .calworkGrant s = .next { s with inFlight := s.inFlight.erase .calworkGrant })
    ∧ (s.fst.wait = none → s.cru.state ≠ .waiting →
      (∀ i name role, s.fst.slot i = some (.calwork role) → (∀ p, name = .flat p → p < 4) →
        ∃ f : Fst, exec (.calCommit [(i, name)]) s = .next { s with
            fst := f, inFlight := s.inFlight.erase (.calCommit [(i, name)]) }
          ∧ f = { s.fst with slots := f.slots }
          ∧ ∀ k, f.slot k = (if k = i then some (.ref name)
              else if s.fst.slot k = some (.ref name) then some .free else s.fst.slot k))
      ∧ (∀ l, ∃ f : Fst, exec (.calworkReturn l) s = .next { s with
            fst := f, inFlight := s.inFlight.erase (.calworkReturn l) }
          ∧ f = { s.fst with slots := f.slots }
          ∧ (∀ k role, k ∈ l → s.fst.slot k = some (.calwork role) → f.slot k = some .free)
          ∧ ∀ k, (k ∉ l ∨ ∀ role, s.fst.slot k ≠ some (.calwork role)) → f.slot k = s.fst.slot k))
    ∧ (∀ c, (∃ entries, c = .calCommit entries) ∨ (∃ l, c = .calworkReturn l) →
      s.fst.wait = none ∨ s.fst.quiesce = false →
      s.goesOn c s.unwaited (fun u => { u with cru := s.cru }) (s.fst.asksAgain ++ [.calworkGrant]))

/-- R109, R110, Table 6.3: the port. An idle port serves a unit that the slot's state allows and refuses any other,
which SFE's readout into that slot notes (R118); a busy port keeps it waiting, also where the slot's state does not
allow it, since the port looks when it serves the unit (log entry 35). At the end of a unit, whoever's it was, SFE
comes first among those that wait, BME and SOU take turns where both wait, and the port is idle where none does. A
write of SFE changes the pixels of its one row and no other pixel of any slot. SFE asks for rows of the readout in
progress only, and for none of one that the port has refused or that has been withdrawn (R118, R122); a row in service
that its readout writes no more, and one that has lost its write mark at the withdrawal or the end of its readout,
writes nothing whatever its slot is by then (of a readout timeout: log entry 37). (That the units are asked for from
outside, in any order of rows and slots, and that no completion waits for them: log entry 42. What is on its way
between blocks: log entry 1.) -/
def Obligations.PortUnits : Prop :=
  ∀ (s : State) (u : PortUnit),
    let cal : Prop := s.bme.state = .calReady ∨ s.bme.state = .calBusy
    let live : Prop := s.sfe.asksFor u
    (s.portAllows u = true ↔ ∃ x, s.fst.slot u.slot = some x
      ∧ ((u.client = .sfe ∧ u.write = true ∧ ((∃ t, x = .exposing t) ∨ ∃ r, x = .calwork r))
        ∨ (u.client = .bme ∧ u.write = false
            ∧ (((∃ t, x = .raw t) ∧ ¬ cal) ∨ (∃ r, x = .ref r) ∨ ((∃ r, x = .calwork r) ∧ cal)))
        ∨ (u.client = .bme ∧ u.write = true ∧ (((∃ t, x = .dest t) ∧ ¬ cal) ∨ ((∃ r, x = .calwork r) ∧ cal)))
        ∨ (u.client = .sou ∧ u.write = false ∧ x = .streaming)))
    ∧ (live → s.fst.port.serving = none → s.fst.port.waitSfe = none → s.fst.port.waitBme = none →
      s.fst.port.waitSou = none →
      (s.portAllows u = true → exec (.portUnitRequest u) s = .next { s with
        fst := { s.fst with port := { s.fst.port with
          serving := some u
          last := match u.client with | .sfe => s.fst.port.last | .bme => .bme | .sou => .sou } }
        inFlight := s.inFlight.erase (.portUnitRequest u) })
      ∧ (s.portAllows u = false → u.client ≠ .sfe → exec (.portUnitRequest u) s = .next { s with
        inFlight := s.inFlight.erase (.portUnitRequest u) })
      ∧ (∀ q e m temp, s.portAllows u = false → u.client = .sfe → s.sfe.readout = some q → q.kind = .frame e m temp →
        (e.req.target = .calwork u.slot ∨ ∃ t, e.req.target = .slot u.slot t) →
        exec (.portUnitRequest u) s = .next { s with
          sfe := { s.sfe with readout := some { q with noFrame := true } }
          inFlight := s.inFlight.erase (.portUnitRequest u) }))
    ∧ (∀ v, live → s.fst.port.serving = some v → v.client ≠ u.client → s.fst.port.waitSfe = none → s.fst.port.waitBme = none →
        s.fst.port.waitSou = none → exec (.portUnitRequest u) s = .next { s with
          fst := { s.fst with port := match u.client with
            | .sfe => { s.fst.port with waitSfe := some u }
            | .bme => { s.fst.port with waitBme := some u }
            | .sou => { s.fst.port with waitSou := some u } }
          inFlight := s.inFlight.erase (.portUnitRequest u) })
    ∧ (∀ a b c, s.fst.port.serving = some u →
        s.fst.port.waitSfe = a → s.fst.port.waitBme = b → s.fst.port.waitSou = c →
        (∀ w, a = some w → w.client = .sfe ∧ s.portAllows w = true) →
        (∀ w, b = some w → w.client = .bme ∧ s.portAllows w = true) →
        (∀ w, c = some w → w.client = .sou ∧ s.portAllows w = true) →
        let next : Port := match a, b, c with
          | some w, _, _ => { s.fst.port with serving := some w, waitSfe := none }
          | none, some v, some w => if s.fst.port.last = .bme then
              { s.fst.port with serving := some w, waitSou := none, last := .sou }
            else { s.fst.port with serving := some v, waitBme := none, last := .bme }
          | none, some v, none => { s.fst.port with serving := some v, waitBme := none, last := .bme }
          | none, none, some w => { s.fst.port with serving := some w, waitSou := none, last := .sou }
          | none, none, none => { s.fst.port with serving := none }
        (u.client ≠ .sfe → exec .portUnitDone s = .next { s with
          fst := { s.fst with port := next }, inFlight := s.inFlight.erase .portUnitDone })
        ∧ (u.client = .sfe → ∃ t, exec .portUnitDone s = .next t ∧ t.fst.port = next ∧ t.fst.slots = s.fst.slots
          ∧ t.bme = s.bme ∧ t.sou = s.sou))
    ∧ (∀ w, live → s.fst.memoryLaw → s.fst.port.serving = some u → u.client = .sfe → u.write = true →
        (∃ t, s.fst.slot u.slot = some (.exposing t)) ∨ (∃ r, s.fst.slot u.slot = some (.calwork r)) → u.row < 3840 →
        w = (fun col => (runsGet? u.codes col).getD 0) →
        ∃ t, exec .portUnitDone s = .next t ∧ t.fst.slots = s.fst.slots ∧ t.fst.memoryLaw
          ∧ ∀ slot row col, col < 5120 → t.fst.pixel slot row col
              = if slot = u.slot ∧ row = u.row then some (min 16383 (w col)) else s.fst.pixel slot row col)
    ∧ (¬ live → exec (.portUnitRequest u) s = .next { s with inFlight := s.inFlight.erase (.portUnitRequest u) })
    ∧ (s.fst.port.serving = some u → ¬ live ∨ (u.client = .sfe ∧ u.write = false) →
        ∃ t, exec .portUnitDone s = .next t ∧ t.fst.planes = s.fst.planes ∧ t.fst.slots = s.fst.slots
          ∧ (s.fst.port.waitSfe = none → s.fst.port.waitBme = none → s.fst.port.waitSou = none → t.sfe = s.sfe))

/-! ## The sensor front end -/

/-- What is on its way when SFE has withdrawn its asks and grants of an exposure start: none of its messages (log
entry 28). -/
def Sys2Proof.Machine.startEnded (l : List Instr) : List Instr := l.filter fun m => match m with
  | .lampReadyAsk _ _ | .lampReadyGrant | .lampLost | .interlockAsk | .interlockGrant | .stageFaultReport => false
  | _ => true

/-- What is on its way when a request held has ended: none of the messages of its start, and no FAULT report of BLU (log
entry 28). -/
def Sys2Proof.Machine.requestEnded (l : List Instr) : List Instr := (startEnded l).filter fun m => m ≠ .lampFaultReport

/-- TRS when SFE has withdrawn its interlock ask and released its grant (R115, R139): a motion pending behind the grant
begins. -/
def Sys2Proof.Machine.State.stageGivenUp (s : State) : Trs :=
  match s.trs.interlock, s.trs.pendingMotion with
  | .granted, some w | .grantedAsked, some w =>
    { s.trs with
      interlock := .none, pendingMotion := none, work := some w, motionTimer := some s.liu.params.motionTimeoutMs
      state := match w with
        | .load _ _ => .loading
        | .move _ _ => .moving
        | .unload _ => .unloading }
  | _, _ => { s.trs with interlock := .none }

/-- R113, R114, R115, R121, R122: an exposure request is held, or refused; in ARMED its start is pursued through lamp
ready and the stage interlock, and the exposure begins with the slot EXPOSING, or is cut short at its start when FST
refuses the slot. A grant that comes after a loss is released at once. A repeat waits for the go-ahead. Lamp lost has
SFE withdraw its asks and ask BLU again, and a withdrawal ends what was held, releasing a lamp ready grant as
LAMP_READY_RELEASE does; while EXPOSING it cuts the exposure short: the interlock is released as INTERLOCK_RELEASE does
and the lamp as LAMP_READY_RELEASE does, a flush begins, no slot changes and nothing is reported (R116); and in READING
it gives up the row that waits at the port. While EXPOSING, lamp lost is ignored. (A grant that TRS or BLU has ended
meanwhile, or that is for another condition or time, starts nothing: log entry 28. A request refused as busy is
outstanding with PRC or CRU no more, unless SFE serves another of the same requester, and stays as it is with BPL; what
is on its way of an exposure start ends with its asks, and a lamp lost that overtakes its grant has SFE ask again: log
entry 28. A go-ahead or a withdrawal taken late: log entry 48. A withdrawal taken before its request: log entry 51.
What is on its way between blocks: log entry 1.) -/
def Obligations.ExposureStarts : Prop :=
  ∀ (s : State) (r : ExposureReq), s.sfe.quiesce = false →
    (s.sfe.held = none →
      (s.sfe.state = .idle → exec (.exposureRequest r) s = .next { s with
        sfe := { s.sfe with state := .armed, phase := .lamp, held := some { req := r, retry := 0, cleared := false } }
        inFlight := s.inFlight.erase (.exposureRequest r) ++ [.lampReadyAsk r.lamp r.time] })
      ∧ (s.sfe.state = .reading ∨ s.sfe.state = .held ∨ (s.sfe.state = .fault ∧ s.sfe.reinit = true) →
        exec (.exposureRequest r) s = .next { s with
          sfe := { s.sfe with held := some { req := r, retry := 0, cleared := false } }
          inFlight := s.inFlight.erase (.exposureRequest r) })
      ∧ (s.sfe.state = .fault → s.sfe.reinit = false →
        (∀ t, r.client = .prc t → exec (.exposureRequest r) s = .next { s with
          inFlight := s.inFlight.erase (.exposureRequest r) ++ [.secondReadoutFailure t] })
        ∧ (r.client = .cru → exec (.exposureRequest r) s = .next { s with
          inFlight := s.inFlight.erase (.exposureRequest r) ++ [.calSensorFailure] })))
    ∧ (s.sfe.held ≠ none ∨ s.sfe.state = .exposing →
      let served : Prop := (∃ h, s.sfe.held = some h ∧ h.req.client = r.client)
        ∨ (∃ e, s.sfe.exposing = some e ∧ e.req.client = r.client)
        ∨ (∃ q e m temp, s.sfe.readout = some q ∧ q.kind = .frame e m temp ∧ e.req.client = r.client)
      (served ∨ (∃ p, r.client = .bpl p) → exec (.exposureRequest r) s
        = .next { s with inFlight := s.inFlight.erase (.exposureRequest r) })
      ∧ (∀ t, ¬ served → r.client = .prc t → exec (.exposureRequest r) s = .next { s with
        prc := { s.prc with expReq := if s.prc.expReq = some t then none else s.prc.expReq }
        inFlight := s.inFlight.erase (.exposureRequest r) })
      ∧ (¬ served → r.client = .cru → exec (.exposureRequest r) s = .next { s with
        cru := { s.cru with frameReq := false }, inFlight := s.inFlight.erase (.exposureRequest r) }))
    ∧ (∀ h, s.sfe.held = some h → s.sfe.state = .armed →
      let wanted : LampAsk := { cond := h.req.lamp, time := h.req.time }
      let left : Sfe := { s.sfe with held := none, state := if s.sfe.mark then .held else .idle }
      (s.sfe.phase = .lamp → h.req.stage = true → s.blu.grant = none ∨ s.blu.grant = some wanted →
        exec .lampReadyGrant s = .next { s with
          sfe := { s.sfe with phase := .stage }
          inFlight := s.inFlight.erase .lampReadyGrant ++ [.interlockAsk] })
      ∧ (∀ c, (c = .lampReadyGrant ∧ s.sfe.phase = .lamp ∧ h.req.stage = false)
          ∨ (c = .interlockGrant ∧ s.sfe.phase = .stage
            ∧ (s.trs.interlock = .granted ∨ s.trs.interlock = .grantedAsked)) →
        let begun : Sfe := { s.sfe with
          state := .exposing, held := none
          exposing := some { req := h.req, retry := h.retry, throttled := s.blu.throttle } }
        s.blu.grant = some wanted →
        (∀ n, h.req.target = .calwork n → exec c s = .next { s with sfe := begun, inFlight := s.inFlight.erase c })
        ∧ (h.req.target = .histogram → exec c s = .next { s with
            sfe := { begun with hist := Vector.replicate 64 0 }, inFlight := s.inFlight.erase c })
        ∧ (∀ n t, h.req.target = .slot n t → s.fst.slot n = some (.reserved t) → exec c s = .next { s with
            sfe := begun, inFlight := s.inFlight.erase c
            fst := { s.fst with slots := s.fst.slots.setIfInBounds n (.exposing t) } })
        ∧ (∀ n t, h.req.target = .slot n t → s.fst.slot n ≠ some (.reserved t) → c = .interlockGrant →
            h.req.stage = true → s.trs.interlock = .granted → (∀ f, s.blu.state ≠ .fault f) →
            ∃ released, exec (.lampReadyRelease 0) s = .next released ∧ exec c s = .next { released with
              sfe := left, trs := s.stageGivenUp, inFlight := requestEnded (s.inFlight.erase c) }))
      ∧ (s.sfe.phase = .stage → s.blu.grant = none ∨ s.blu.grant = some wanted →
        (s.trs.interlock = .none ∨ s.trs.interlock = .asked → exec .interlockGrant s = .next { s with
          inFlight := s.inFlight.erase .interlockGrant })
        ∧ (s.trs.interlock = .granted → s.blu.grant = none → exec .interlockGrant s = .next { s with
          trs := s.stageGivenUp, inFlight := s.inFlight.erase .interlockGrant }))
      ∧ (s.sfe.phase = .lamp → h.req.stage = false → s.blu.grant = none → exec .lampReadyGrant s = .next { s with
        inFlight := s.inFlight.erase .lampReadyGrant })
      ∧ (∀ c, s.blu.grant = none ∨ (∀ f, s.blu.state ≠ .fault f) →
        (s.sfe.phase = .stage ∧ c = .lampLost)
          ∨ (s.sfe.phase = .lamp ∧ c = .lampLost ∧ .lampReadyGrant ∈ s.inFlight)
          ∨ (∃ g, s.blu.grant = some g ∧ g ≠ wanted
            ∧ ((s.sfe.phase = .lamp ∧ c = .lampReadyGrant) ∨ (s.sfe.phase = .stage ∧ c = .interlockGrant))) →
        ∃ released, exec (.lampReadyRelease 0) s = .next released ∧ exec c s = .next { released with
          sfe := { s.sfe with phase := .lamp }
          trs := if s.sfe.phase = .stage then s.stageGivenUp else s.trs
          inFlight := startEnded (s.inFlight.erase c) ++ [.lampReadyAsk h.req.lamp h.req.time] })
      ∧ (s.sfe.phase = .lamp → .lampReadyGrant ∉ s.inFlight → exec .lampLost s = .next { s with
        inFlight := s.inFlight.erase .lampLost })
      ∧ (s.sfe.phase = .goAhead → h.retry = 1 → h.cleared = false → exec .goAhead s = .next { s with
        sfe := { s.sfe with phase := .lamp, held := some { h with cleared := true } }
        inFlight := s.inFlight.erase .goAhead ++ [.lampReadyAsk h.req.lamp h.req.time] })
      ∧ (s.sfe.phase = .lamp → s.sfe.mark = false → s.blu.grant = none →
        exec (.exposureWithdraw h.req.client) s = .next { s with
          sfe := { s.sfe with held := none, state := .idle }
          blu := { s.blu with ask := none }
          inFlight := requestEnded (s.inFlight.erase (.exposureWithdraw h.req.client)) })
      ∧ (s.sfe.phase = .goAhead → exec (.exposureWithdraw h.req.client) s = .next { s with
          sfe := left, inFlight := requestEnded (s.inFlight.erase (.exposureWithdraw h.req.client)) })
      ∧ (s.sfe.phase ≠ .goAhead → s.blu.grant = none ∨ (∀ f, s.blu.state ≠ .fault f) →
          ∃ released, exec (.lampReadyRelease 0) s = .next released
            ∧ exec (.exposureWithdraw h.req.client) s = .next { released with
              sfe := left
              trs := if s.sfe.phase = .stage then s.stageGivenUp else s.trs
              inFlight := requestEnded (s.inFlight.erase (.exposureWithdraw h.req.client)) }))
    ∧ (∀ h, s.sfe.held = some h → s.sfe.state = .reading ∨ s.sfe.state = .held →
      (h.retry = 1 → h.cleared = false → exec .goAhead s = .next { s with
        sfe := { s.sfe with held := some { h with cleared := true } }, inFlight := s.inFlight.erase .goAhead })
      ∧ exec (.exposureWithdraw h.req.client) s = .next { s with
        sfe := { s.sfe with held := none }
        inFlight := requestEnded (s.inFlight.erase (.exposureWithdraw h.req.client)) })
    ∧ (s.sfe.state ≠ .armed → s.sfe.state ≠ .exposing →
      (s.trs.interlock = .granted → exec .interlockGrant s = .next { s with
        trs := s.stageGivenUp, inFlight := s.inFlight.erase .interlockGrant })
      ∧ (s.blu.grant = none ∨ (∀ f, s.blu.state ≠ .fault f) →
        ∃ released, exec (.lampReadyRelease 0) s = .next released
          ∧ exec .lampReadyGrant s = .next { released with inFlight := s.inFlight.erase .lampReadyGrant }))
    ∧ (∀ e q, s.sfe.held = none → s.sfe.exposing = none → s.sfe.readout = some q →
      (∃ m temp, q.kind = .frame e m temp) → exec (.exposureWithdraw e.req.client) s = .next { s with
        sfe := { s.sfe with readout := some { q with dropped := true } }
        fst := { s.fst with port := s.fst.port.withoutSfe }
        inFlight := s.inFlight.erase (.exposureWithdraw e.req.client) })
    ∧ (∀ e, s.sfe.state = .exposing → s.sfe.exposing = some e → s.sfe.held = none →
      s.blu.grant = none ∨ (∀ f, s.blu.state ≠ .fault f) →
      ∃ released freed, exec (.lampReadyRelease 0) s = .next released ∧ exec .interlockRelease s = .next freed
        ∧ released.fst = s.fst
        ∧ exec (.exposureWithdraw e.req.client) s = .next { released with
          sfe := { s.sfe with state := .reading, exposing := none, readout := some { kind := .flush 0 } }
          trs := if e.req.stage then freed.trs else s.trs
          inFlight := startEnded (s.inFlight.erase (.exposureWithdraw e.req.client)) })
    ∧ (s.sfe.state = .exposing → exec .lampLost s = .next { s with inFlight := s.inFlight.erase .lampLost })

/-- R40, R114, R115, R116, R133, R134, R139: a lamp fault, or a stage fault where the request has the stage condition,
cuts the exposure in progress short: the tile's slot is RESERVED again, the interlock and the lamp ready are released, a
flush begins, and PRC has its request outstanding no more. The event that brings BLU or TRS into FAULT, a dark hold
under a lit exposure, or its release under a dark frame, cuts it short itself, and sends no report besides. A lit
request that is held and has not begun ends the same way, in ARMED with its asks withdrawn, and so does a dark one with
an ask or a grant (at a stage fault too: log entry 28). A dark request without an ask stays, and a report that finds
nothing to end changes nothing. (A dark frame of CRU so ended is asked for no more: log entry 32. What is on its way
between blocks: log entry 1; what is on its way of the start ended: log entry 28.) -/
def Obligations.ExposureCutShort : Prop :=
  ∀ (s : State) (c : Instr), c = .lampFaultReport ∨ c = .stageFaultReport →
    (∀ e n t d, s.sfe.state = .exposing → s.sfe.exposing = some e → e.req.target = .slot n t → e.req.client = .prc t →
      e.req.lamp = .settled d → e.req.stage = true → s.fst.slot n = some (.exposing t) → s.prc.expReq = some t →
      s.trs.interlock = .none ∨ s.trs.interlock = .granted → s.trs.pendingMotion = none → s.blu.grant = none →
      s.blu.ask = none → exec c s = .next { s with
        fst := { s.fst with slots := s.fst.slots.setIfInBounds n (.reserved t) }
        sfe := { s.sfe with state := .reading, exposing := none, readout := some { kind := .flush 0 } }
        trs := { s.trs with interlock := .none }
        prc := { s.prc with expReq := none }
        inFlight := startEnded (s.inFlight.erase c) })
    ∧ (∀ h t d, s.sfe.exposing = none → s.sfe.state = .reading ∨ s.sfe.state = .held → s.sfe.held = some h →
      h.req.client = .prc t → h.req.lamp = .settled d → s.prc.expReq = some t →
      exec .lampFaultReport s = .next { s with
        sfe := { s.sfe with held := none }, prc := { s.prc with expReq := none }
        inFlight := requestEnded (s.inFlight.erase .lampFaultReport) })
    ∧ (∀ h, s.sfe.exposing = none → s.sfe.state = .armed → s.sfe.held = some h →
      (h.req.client = .cru → s.cru.state ≠ .cancelling) →
      let left : Sfe := { s.sfe with held := none, state := if s.sfe.mark then .held else .idle }
      let prc : Prc := { s.prc with
        expReq := if s.prc.expReq.map ExposureClient.prc = some h.req.client then none else s.prc.expReq }
      let cru : Cru := { s.cru with frameReq := s.cru.frameReq && decide (h.req.client ≠ .cru) }
      (s.sfe.phase = .goAhead →
        (∀ d, h.req.lamp = .settled d → exec .lampFaultReport s = .next { s with
          sfe := left, prc := prc, cru := cru, inFlight := requestEnded (s.inFlight.erase .lampFaultReport) })
        ∧ (h.req.lamp = .dark → exec .lampFaultReport s = .next { s with
          inFlight := s.inFlight.erase .lampFaultReport }))
      ∧ ((s.sfe.phase = .lamp ∧ c = .lampFaultReport) ∨ s.sfe.phase = .stage →
        s.blu.grant = none ∨ (∀ f, s.blu.state ≠ .fault f) →
        ∃ released, exec (.lampReadyRelease 0) s = .next released ∧ exec c s = .next { released with
          sfe := left, prc := prc, cru := cru
          trs := if s.sfe.phase = .stage then s.stageGivenUp else s.trs
          inFlight := requestEnded (s.inFlight.erase c) })
      ∧ (s.sfe.phase ≠ .stage → exec .stageFaultReport s = .next { s with
        inFlight := s.inFlight.erase .stageFaultReport }))
    ∧ (s.sfe.exposing = none → s.sfe.state ≠ .armed → (∀ h, s.sfe.held = some h → h.req.lamp = .dark) →
      exec .lampFaultReport s = .next { s with inFlight := s.inFlight.erase .lampFaultReport })
    ∧ (s.sfe.state ≠ .exposing → s.sfe.state ≠ .armed →
      exec .stageFaultReport s = .next { s with inFlight := s.inFlight.erase .stageFaultReport })
    ∧ (∀ e n t d, s.sfe.state = .exposing → s.sfe.exposing = some e → e.req.target = .slot n t → e.req.client = .prc t →
      e.req.lamp = .settled d → e.req.stage = true → s.fst.slot n = some (.exposing t) → s.prc.expReq = some t →
      s.trs.interlock = .granted → s.trs.pendingMotion = none →
      let cut : Sfe := { s.sfe with state := .reading, exposing := none, readout := some { kind := .flush 0 } }
      let slots : Vector SlotState 48 := s.fst.slots.setIfInBounds n (.reserved t)
      (∀ a cause, (a = .monitorSample 0 ∧ cause = .noLight ∧ s.blu.state.lit = true ∧ s.blu.commanded ≠ 0
            ∧ s.blu.zeroCount = 63) ∨ (a = .lampSettleTimeout ∧ cause = .unstable ∧ s.blu.settleTimer ≠ none) →
        ∃ u, exec a s = .next u ∧ u.sfe = cut ∧ u.fst = { s.fst with slots := slots }
          ∧ u.trs = { s.trs with interlock := .none } ∧ u.prc = { s.prc with expReq := none }
          ∧ u.blu.state = .fault cause ∧ u.blu.grant = none ∧ u.blu.ask = none
          ∧ u.inFlight = startEnded s.inFlight ++ [.backlightFault cause, .calLampFault])
      ∧ (s.trs.state = .atRest → s.trs.work = none → s.trs.quiesce = false → s.prc.active = some t.job →
          s.cru.state = .idle → s.trs.heldLoad = none → s.blu.ask = none → s.blu.pendingDrive = none →
          ∃ u, exec .lostCarrier s = .next u ∧ u.sfe = cut ∧ u.fst = { s.fst with slots := slots }
            ∧ u.trs.state = .fault .lostCarrier ∧ u.trs.interlock = .none ∧ u.prc = { s.prc with expReq := none }
            ∧ u.blu.grant = none ∧ u.blu.ask = none ∧ u.inFlight = startEnded s.inFlight ++ [.transportFault])
      ∧ (s.blu.state ≠ .dark → (∀ f, s.blu.state ≠ .fault f) → s.blu.ask = none → exec .darkHold s = .next { s with
          sfe := cut, fst := { s.fst with slots := slots }
          trs := { s.trs with interlock := .none }, prc := { s.prc with expReq := none }
          blu := { s.blu with
            state := .dark, commanded := 0, settleCount := 0, settleTimer := none, zeroCount := 0, lit := 0
            driveChanged := false, grant := none }
          inFlight := startEnded (s.inFlight.erase .darkHold) }))
    ∧ (∀ e k, s.sfe.exposing = some e → e.req.client = .cru → e.req.lamp = .dark → e.req.target = .calwork k →
      e.req.stage = false → s.cru.state ≠ .cancelling → s.blu.state = .dark → s.blu.remembered = none →
      s.blu.pendingDrive = none → ∃ u, exec .darkHoldRelease s = .next u
        ∧ u.sfe = { s.sfe with state := .reading, exposing := none, readout := some { kind := .flush 0 } }
        ∧ u.cru = { s.cru with frameReq := false } ∧ u.blu.state = .standby ∧ u.blu.grant = none
        ∧ u.inFlight = startEnded (s.inFlight.erase .darkHoldRelease)
        ∧ u.fst = s.fst ∧ u.trs = s.trs ∧ u.prc = s.prc)

/-- R117 to R122, R47: the exposure end, lit for PRC, BPL or CRU and dark, the readout's completion into a tile's slot,
a CALWORK slot or the histogram, its timeout for each of them, the end of one that was withdrawn, and the flush. At the
first timeout the request is held again for its one repeat, and reported: a tile's slot is RESERVED again, a histogram
cleared, and BPL and CRU give the go-ahead at once. At the second, SFE is in FAULT with its notice, and the failure is
reported to PRC for a tile or the metering of a tile and to CRU for a frame of CRU or its metering, of which BPL
discards the attempt. With the readout what SFE has at the port ends: no row waits, and the one in service writes
nothing (PortUnits; of a timeout: log entry 37). (What is on its way between blocks: log entry 1; a lamp lost on its
way ends with the grant: log entry 28; that the completion waits for no unit of the port: log entry 42; a late
completion of a readout or a flush that timed out: log entry 49.) -/
def Obligations.ExposureReadout : Prop :=
  ∀ s : State, s.sfe.quiesce = false →
    (∀ e d since a, s.sfe.exposing = some e →
      e.req.lamp = .settled d → e.req.stage = true → s.trs.interlock = .granted → s.trs.pendingMotion = none →
      s.blu.grant = some a → a.cond = .settled d → s.blu.driveChanged = false → s.blu.pendingDrive = none →
      s.blu.deferred = false →
      let m := measuredIntensity s.blu.history (s.blu.clock + since) e.req.time (Config.freeIntensity s.freeCount)
      exec (.exposureTimerExpiry since) s = .next { s with
        sfe := { s.sfe with
          state := .reading, exposing := none, readout := some { kind := .frame e (some m) s.sfe.temp } }
        trs := { s.trs with interlock := .none }
        blu := { s.blu with grant := none }
        bpl := match e.req.client with
          | .bpl p => { work := s.bpl.work.map fun w => if w.planner = p then { w with m := some m } else w }
          | .prc _ | .cru => s.bpl
        freeCount := s.freeCount + 1
        inFlight := startEnded s.inFlight ++ (match e.req.client with
          | .prc t => [.exposureEnd t m]
          | .bpl _ | .cru => []) })
    ∧ (∀ e since a, s.sfe.exposing = some e → e.req.client = .cru → e.req.lamp = .dark → e.req.stage = false →
      s.blu.grant = some a → a.cond = .dark → s.blu.deferred = false →
      exec (.exposureTimerExpiry since) s = .next { s with
        sfe := { s.sfe with state := .reading, exposing := none, readout := some { kind := .frame e none s.sfe.temp } }
        blu := { s.blu with grant := none }
        freeCount := s.freeCount + 1
        inFlight := startEnded s.inFlight })
    ∧ (∀ e m temp q frame n, s.sfe.readout = some q → q.kind = .frame e m temp → q.dropped = false →
      q.noFrame = false → s.sfe.mark = false → s.sfe.held = none → e.req.target = .calwork n →
      let idle : Sfe := { s.sfe with state := .idle, readout := none }
      let ended : Fst := { s.fst with port := s.fst.port.withoutSfe }
      (∀ role, s.fst.slot n = some (.calwork role) → s.fst.memoryLaw → ∃ f : Fst,
        exec (.readoutCompletion frame) s = .next { s with
          sfe := idle, fst := f, inFlight := s.inFlight ++ [.calFrameComplete temp m] }
        ∧ f = { ended with planes := f.planes }
        ∧ ∀ i row col, col < 5120 → f.pixel i row col = if i = n ∧ q.row ≤ row ∧ row < 3840 then
            some (min 16383 ((runsGet? frame (row * 5120 + col)).getD 0)) else s.fst.pixel i row col)
      ∧ ((∀ role, s.fst.slot n ≠ some (.calwork role)) → exec (.readoutCompletion frame) s = .next { s with
          sfe := idle, fst := ended, inFlight := s.inFlight ++ [.calFrameComplete temp m] }))
    ∧ (∀ e m temp q frame, s.sfe.readout = some q → q.kind = .frame e (some m) temp → q.dropped = false →
      q.noFrame = false → s.sfe.mark = false → s.sfe.held = none →
      let idle : Sfe := { s.sfe with state := .idle, readout := none }
      let ended : Fst := { s.fst with port := s.fst.port.withoutSfe }
      (∀ n t d, e.req.target = .slot n t → e.req.lamp = .settled d →
        let done (w : Bool) : ExposureDone := { tile := t, time := e.req.time, drive := d, m := m, temp := temp
                                                slot := n, throttled := e.throttled, withFrame := w }
        (s.fst.slot n = some (.exposing t) → s.fst.memoryLaw → ∃ f : Fst,
          exec (.readoutCompletion frame) s = .next { s with
            sfe := idle, fst := f, inFlight := s.inFlight ++ [.exposureCompletion (done true)] }
          ∧ f = { ended with slots := f.slots, planes := f.planes }
          ∧ (∀ i, f.slot i = if i = n then some (.raw t) else s.fst.slot i)
          ∧ ∀ i row col, col < 5120 → f.pixel i row col = if i = n ∧ q.row ≤ row ∧ row < 3840 then
              some (min 16383 ((runsGet? frame (row * 5120 + col)).getD 0)) else s.fst.pixel i row col)
        ∧ (s.fst.slot n ≠ some (.exposing t) → exec (.readoutCompletion frame) s = .next { s with
            sfe := idle, fst := ended, inFlight := s.inFlight ++ [.exposureCompletion (done false)] }))
      ∧ (∀ p w, e.req.target = .histogram → e.req.client = .bpl p → s.bpl.work = some w → w.planner = p →
        ∃ hist, exec (.readoutCompletion frame) s = .next { s with
            sfe := { idle with hist := hist }, fst := ended
            inFlight := s.inFlight ++ [.attemptCompletion p w.attempt m] }
          ∧ ∀ b, b < 64 → hist[b]? = some ((List.filter (fun x => decide (min 63 (x.2 / 256) = b))
              (frameCodes frame)).map (·.1)).sum))
    ∧ (∀ e m temp q n t, s.sfe.readout = some q → q.kind = .frame e m temp → q.dropped = false →
      e.req.target = .slot n t → e.req.client = .prc t → s.fst.slot n = some (.exposing t) →
      s.sfe.held = none → s.sfe.mark = false →
      let back : Fst := { s.fst with
        slots := s.fst.slots.setIfInBounds n (.reserved t), port := s.fst.port.withoutSfe }
      (e.retry = 0 → exec .readoutTimeout s = .next { s with
        fst := back
        sfe := { s.sfe with
          state := .armed, phase := .goAhead, readout := none
          held := some { req := e.req, retry := 1, cleared := false } }
        inFlight := s.inFlight ++ [.retryReport t false] })
      ∧ (e.retry = 1 → exec .readoutTimeout s = .next ({ s with
          fst := back
          sfe := { s.sfe with state := .fault, cause := some .readout, readout := none }
          inFlight := s.inFlight ++ [Instr.secondReadoutFailure t] }.notice
            (.sensorState .fault (some .readout) s.sfe.temp false))))
    ∧ (∀ e m temp q n, s.sfe.readout = some q → q.kind = .frame e m temp → q.dropped = false →
      e.req.target = .calwork n → e.req.client = .cru → s.sfe.held = none → s.sfe.mark = false →
      (e.retry = 0 → exec .readoutTimeout s = .next { s with
        fst := { s.fst with port := s.fst.port.withoutSfe }
        sfe := { s.sfe with
          state := .armed, phase := .goAhead, readout := none
          held := some { req := e.req, retry := 1, cleared := false } }
        inFlight := s.inFlight ++ [.goAhead] })
      ∧ (e.retry = 1 → exec .readoutTimeout s = .next ({ s with
          fst := { s.fst with port := s.fst.port.withoutSfe }
          sfe := { s.sfe with state := .fault, cause := some .readout, readout := none }
          inFlight := s.inFlight ++ [Instr.calSensorFailure] }.notice
            (.sensorState .fault (some .readout) s.sfe.temp false))))
    ∧ (∀ e m temp q p, s.sfe.readout = some q → q.kind = .frame e m temp → q.dropped = false →
      e.req.target = .histogram → e.req.client = .bpl p → s.sfe.held = none → s.sfe.mark = false →
      let ended : Fst := { s.fst with port := s.fst.port.withoutSfe }
      (e.retry = 0 → exec .readoutTimeout s = .next { s with
        fst := ended
        sfe := { s.sfe with
          state := .armed, phase := .goAhead, readout := none, hist := Vector.replicate 64 0
          held := some { req := e.req, retry := 1, cleared := false } }
        inFlight := s.inFlight ++ (match p with
          | .prc t => [.retryReport t true, .goAhead]
          | .cru _ _ => [.goAhead]) })
      ∧ (e.retry = 1 → s.liu.resetWork = none → exec .readoutTimeout s = .next ({ s with
          fst := ended
          sfe := { s.sfe with
            state := .fault, cause := some .readout, readout := none, hist := Vector.replicate 64 0 }
          bpl := if s.bpl.work.map (fun w : Metering => w.planner) = some p then { work := none } else s.bpl
          inFlight := s.inFlight ++ [match p with
            | .prc t => Instr.secondReadoutFailure t
            | .cru _ _ => Instr.calSensorFailure] }.notice
              (.sensorState .fault (some .readout) s.sfe.temp false))))
    ∧ (∀ e m temp q, s.sfe.readout = some q → q.kind = .frame e m temp → q.dropped = true →
      let hist : Vector Nat 64 := if e.req.target = .histogram then Vector.replicate 64 0 else s.sfe.hist
      (∀ frame, s.sfe.mark = false → s.sfe.held = none → exec (.readoutCompletion frame) s = .next { s with
        sfe := { s.sfe with state := .idle, readout := none, hist := hist }
        fst := { s.fst with port := s.fst.port.withoutSfe } })
      ∧ exec .readoutTimeout s = .next { s with
        sfe := { s.sfe with readout := some { kind := .flush 1 }, hist := hist } })
    ∧ (∀ q k, s.sfe.readout = some q → q.kind = .flush k → s.sfe.held = none → s.sfe.mark = false →
      exec .flushCompletion s = .next { s with
        sfe := { s.sfe with state := .idle, readout := none }
        fst := { s.fst with port := s.fst.port.withoutSfe } }
      ∧ (k = 0 → exec .readoutTimeout s
          = .next { s with sfe := { s.sfe with readout := some { kind := .flush 1 } } })
      ∧ (k ≠ 0 → exec .readoutTimeout s
          = .next ({ s with
            sfe := { s.sfe with state := .fault, cause := some .readout, readout := none }
            fst := { s.fst with port := s.fst.port.withoutSfe } }.notice
              (.sensorState .fault (some .readout) s.sfe.temp false))))

/-- R115, R123, R124: the hold mark follows the temperature samples with hysteresis, holding SFE, in ARMED with its asks
withdrawn, and letting it go, each change with its mark in the sticky set and its notice; and the re-initialisation that a
request in FAULT begins. (What is on its way between blocks: log entry 1; of a start that is withdrawn: log entry 28.) -/
def Obligations.SensorConditions : Prop :=
  ∀ (s : State) (t : Int),
    let mark := if s.sfe.mark then decide ((s.liu.params.sensorLimit : Int) - s.liu.params.sensorHyst ≤ t)
      else decide ((s.liu.params.sensorLimit : Int) < t)
    (mark = s.sfe.mark → exec (.sensorTempSample t) s = .next { s with sfe := { s.sfe with temp := t } })
    ∧ (mark = true → s.sfe.mark = false → s.sfe.state ≠ .armed →
      let st : SfeState := if s.sfe.state = .idle then .held else s.sfe.state
      exec (.sensorTempSample t) s = .next ({ s with
        sfe := { s.sfe with temp := t, mark := true, state := st }
        liu := { s.liu with sticky := { s.liu.sticky with sensorHeldSeen := true } } }.notice
          (.sensorState st s.sfe.cause t true)))
    ∧ (mark = true → s.sfe.mark = false → s.sfe.state = .armed → s.blu.grant = none →
      exec (.sensorTempSample t) s = .next ({ s with
        sfe := { s.sfe with temp := t, mark := true, state := .held }
        blu := match s.sfe.phase with | .goAhead => s.blu | .lamp | .stage => { s.blu with ask := none }
        trs := match s.sfe.phase with | .stage => s.stageGivenUp | .goAhead | .lamp => s.trs
        inFlight := match s.sfe.phase with | .goAhead => s.inFlight | .lamp | .stage => startEnded s.inFlight
        liu := { s.liu with sticky := { s.liu.sticky with sensorHeldSeen := true } } }.notice
          (.sensorState .held s.sfe.cause t true)))
    ∧ (mark = false → s.sfe.mark = true →
      (s.sfe.state ≠ .held → exec (.sensorTempSample t) s = .next ({ s with
        sfe := { s.sfe with temp := t, mark := false } }.notice (.sensorState s.sfe.state s.sfe.cause t false)))
      ∧ (s.sfe.state = .held → s.sfe.held = none → exec (.sensorTempSample t) s = .next ({ s with
        sfe := { s.sfe with temp := t, mark := false, state := .idle } }.notice
          (.sensorState .idle s.sfe.cause t false)))
      ∧ (∀ h, s.sfe.state = .held → s.sfe.held = some h → h.retry = 0 →
        exec (.sensorTempSample t) s = .next ({ s with
          sfe := { s.sfe with temp := t, mark := false, state := .armed, phase := .lamp }
          inFlight := s.inFlight ++ [Instr.lampReadyAsk h.req.lamp h.req.time] }.notice
            (.sensorState .armed s.sfe.cause t false))))
    ∧ exec .reinitRequest s = .next { s with
        sfe := { s.sfe with reinit := s.sfe.reinit || decide (s.sfe.state = .fault) }
        inFlight := s.inFlight.erase .reinitRequest }
    ∧ (s.sfe.reinit = false → exec .reinitComplete s = .next s ∧ exec .reinitTimeout s = .next s)
    ∧ (s.sfe.reinit = true → s.sfe.quiesce = false → s.sfe.held = none →
      let st : SfeState := if s.sfe.mark then .held else .idle
      exec .reinitComplete s = .next ({ s with
          sfe := { s.sfe with reinit := false, cause := none, state := st }
          inFlight := s.inFlight ++ [Instr.reinitEndReport] }.notice (.sensorState st none s.sfe.temp s.sfe.mark))
      ∧ exec .reinitTimeout s = .next ({ s with
          sfe := { s.sfe with reinit := false, cause := some .init, state := .fault }
          inFlight := s.inFlight ++ [Instr.reinitEndReport] }.notice
            (.sensorState .fault (some .init) s.sfe.temp s.sfe.mark)))

/-! ## The backlight unit -/

/-- The drive that the panel is given for a requested drive (R126). -/
def Sys2Proof.Machine.Blu.capped (b : Blu) (d : Nat) : Nat := if b.throttle then min d 1024 else d

/-- R127 to R130, R132, R134, R135: light requests by the lamp's state (Table 8.2); a sample in every state of the
lamp: it enters the history, zeros are counted while the lamp is lit, SETTLED tests nothing else, and settling goes on
sample by sample (a first sample with none before it is not a settled one: log entry 25); the settle completion, which
grants an ask that waits for it and otherwise carries out a standby that was put off (the ask first: log entry 34), as
a sample in SETTLED does when the lit time reaches 5 s; no light at the 64th zero in a row; the settle timeout (the
FAULT report to a lit request that SFE holds: log entry 19; an exposure in progress: ExposureCutShort), and the
throttle flag with its hysteresis, set and cleared in each state of the lamp (Table 8.3). (A light request taken late:
log entry 56. What is on its way between blocks: log entry 1.) -/
def Obligations.LampDrive : Prop :=
  (∀ (s : State) (v : Nat),
    let w := min v 4096
    let zero : Bool := s.blu.state.lit && decide (s.blu.commanded ≠ 0 ∧ v = 0)
    let near : Prop := v ≠ 0 ∧ ∃ p, s.blu.history.head? = some p ∧ max w p.2 - min w p.2 ≤ s.liu.params.settleTolerance
    let b : Blu := { s.blu with
      clock := s.blu.clock + 10, lit := if s.blu.state.lit then s.blu.lit + 1 else s.blu.lit
      zeroCount := if zero then s.blu.zeroCount + 1 else 0
      history := (s.blu.clock + 10, w) :: s.blu.history.filter fun p => decide (s.blu.clock + 10 ≤ p.1 + 80000) }
    let standby : State := { s with blu := { b with
        state := .standby, requested := 0, commanded := 0, settleCount := 0, settleTimer := none, zeroCount := 0
        deferred := false } }.notice (.lampState .standby s.blu.throttle 0 s.blu.panelTemp)
    let putOff : Prop := s.blu.deferred = true ∧ 5000 ≤ s.blu.lit + 1 ∧ s.blu.grant = none
    (zero = true → s.blu.zeroCount < 63) →
      (s.blu.state ≠ .warming → s.blu.state ≠ .settling →
        (s.blu.state ≠ .settled ∨ ¬ putOff → exec (.monitorSample v) s = .next { s with blu := b })
        ∧ (s.blu.state = .settled → putOff → exec (.monitorSample v) s = .next standby))
      ∧ (∀ goal, (s.blu.state = .warming ∧ goal = 64) ∨ (s.blu.state = .settling ∧ goal = 8) →
        let rest : Blu := { b with state := .settled, settleCount := 0, settleTimer := none }
        (¬ near → exec (.monitorSample v) s = .next { s with blu := { b with settleCount := 0 } })
        ∧ (near → s.blu.settleCount + 1 < goal →
            exec (.monitorSample v) s = .next { s with blu := { b with settleCount := s.blu.settleCount + 1 } })
        ∧ (near → goal ≤ s.blu.settleCount + 1 →
          (∀ a, s.blu.ask = some a → a.cond = .settled s.blu.requested → exec (.monitorSample v) s = .next { s with
            blu := { rest with ask := none, grant := some a, driveChanged := false }
            inFlight := s.inFlight ++ [.lampReadyGrant] })
          ∧ ((∀ a, s.blu.ask = some a → a.cond ≠ .settled s.blu.requested) →
            (¬ putOff → exec (.monitorSample v) s = .next { s with blu := rest })
            ∧ (putOff → exec (.monitorSample v) s = .next standby)))))
  ∧ ∀ s : State, s.blu.ask = none → s.blu.quiesce = false → s.prc.active ≠ none → s.blu.deferred = false →
    (∀ d, let out := s.inFlight.erase (.lightRequest d)
      (s.blu.state = .standby → exec (.lightRequest d) s = .next ({ s with
        blu := { s.blu with
          state := .warming, requested := d, commanded := s.blu.capped d, settleCount := 0, settleTimer := some 30000
          zeroCount := 0, lit := 0 }
        inFlight := out }.notice (.lampState .warming s.blu.throttle (s.blu.capped d) s.blu.panelTemp)))
      ∧ (s.blu.state = .warming → s.blu.requested ≠ d → exec (.lightRequest d) s = .next { s with
        blu := { s.blu with requested := d, commanded := s.blu.capped d, settleCount := 0 }, inFlight := out })
      ∧ (s.blu.state = .settling → s.blu.requested ≠ d → exec (.lightRequest d) s = .next { s with
        blu := { s.blu with
          requested := d, commanded := s.blu.capped d, settleCount := 0, settleTimer := some 2000 }
        inFlight := out })
      ∧ (s.blu.state = .warming ∨ s.blu.state = .settling ∨ s.blu.state = .settled → s.blu.requested = d →
        exec (.lightRequest d) s = .next { s with inFlight := out })
      ∧ (s.blu.state = .settled → s.blu.requested ≠ d →
        (s.blu.grant ≠ none → exec (.lightRequest d) s = .next { s with
          blu := { s.blu with pendingDrive := some d }, inFlight := out ++ [.lampLost] })
        ∧ (s.blu.grant = none → s.blu.capped d = s.blu.commanded → exec (.lightRequest d) s = .next { s with
          blu := { s.blu with requested := d }, inFlight := out })
        ∧ (s.blu.grant = none → s.blu.capped d ≠ s.blu.commanded → exec (.lightRequest d) s = .next { s with
          blu := { s.blu with
            state := .settling, requested := d, commanded := s.blu.capped d, settleCount := 0, settleTimer := some 2000 }
          inFlight := out }))
      ∧ (s.blu.state = .dark → exec (.lightRequest d) s = .next { s with
        blu := { s.blu with pendingDrive := some d }, inFlight := out })
      ∧ (∀ f, s.blu.state = .fault f → exec (.lightRequest d) s = .next { s with
        inFlight := out ++ [.backlightFault f, .calLampFault] }))
    ∧ (∀ c cause, s.sfe.exposing = none → (c = .monitorSample 0 ∧ cause = .noLight ∧ s.blu.state.lit = true
          ∧ s.blu.commanded ≠ 0 ∧ s.blu.zeroCount = 63)
        ∨ (c = .lampSettleTimeout ∧ cause = .unstable ∧ s.blu.settleTimer ≠ none) →
      ∃ t, exec c s = .next t ∧ t.blu = { t.blu with
            state := .fault cause, requested := 0, commanded := 0, settleCount := 0, settleTimer := none
            zeroCount := 0, lit := 0, pendingDrive := none, ask := none, grant := none, driveChanged := false }
        ∧ t.liu.sticky.lampUnstable = (s.liu.sticky.lampUnstable || decide (cause = .unstable))
        ∧ t.inFlight = s.inFlight ++ (if s.blu.grant.isSome ∨ s.sfe.wantsLight = true then [.lampFaultReport] else [])
            ++ [.backlightFault cause, .calLampFault]
        ∧ t.prc = s.prc ∧ t.fst = s.fst ∧ t.sfe = s.sfe ∧ t.trs = s.trs ∧ t.bme = s.bme ∧ t.cru = s.cru
        ∧ t.sou = s.sou ∧ t.bpl = s.bpl)
    ∧ (s.blu.settleTimer = none → exec .lampSettleTimeout s = .next s)
    ∧ (∀ t, let flag := if s.blu.throttle then decide ((s.liu.params.lampLimit : Int) - s.liu.params.lampHyst ≤ t)
          else decide ((s.liu.params.lampLimit : Int) < t)
      (flag = s.blu.throttle → exec (.panelTempSample t) s = .next { s with blu := { s.blu with panelTemp := t } })
      ∧ (flag ≠ s.blu.throttle → s.blu.driveLaw →
        let b : Blu := { s.blu with panelTemp := t, throttle := flag }
        let drive : Nat := if flag then min s.blu.requested 1024 else s.blu.requested
        let told (b : Blu) (out : List Instr) : State := { s with
          blu := b
          liu := { s.liu with sticky := { s.liu.sticky with throttleSeen := s.liu.sticky.throttleSeen || flag } }
          sfe := { s.sfe with
            exposing := s.sfe.exposing.map fun (e : Exposing) => { e with throttled := e.throttled || flag } }
          inFlight := s.inFlight ++ out }.notice (.lampState b.state flag b.commanded t)
        (s.blu.state.lit = false ∨ s.blu.requested ≤ 1024 → exec (.panelTempSample t) s = .next (told b []))
        ∧ (1024 < s.blu.requested →
          (s.blu.state = .warming → exec (.panelTempSample t) s
            = .next (told { b with commanded := drive, settleCount := 0 } []))
          ∧ (s.blu.state = .settling ∨ (s.blu.state = .settled ∧ s.blu.grant = none) → exec (.panelTempSample t) s
            = .next (told { b with
                state := .settling, commanded := drive, settleCount := 0, settleTimer := some 2000 } []))
          ∧ (s.blu.state = .settled → s.blu.grant ≠ none → exec (.panelTempSample t) s
            = .next (told { b with commanded := drive, driveChanged := true } (if flag then [.lampLost] else []))))))

/-- R130, R131, R133, R134, R135: lamp ready is granted when its condition holds (at a settle completion: LampDrive)
and the release answers the mean of the samples in the exposure's window; a drive that was put off under the grant is
applied at its end as Table 8.2 says, and under a reset it is dropped (R136); the dark hold in any lamp state, over a
lit grant, with a lit or a dark ask waiting, and taken a second time, and its release with and without a remembered
fault or a pending drive; leaving FAULT; and the standby of the idle timer, put off while a grant is held or the lamp
is newly lit. (A sample at the very instant the window begins is taken as one before it, one at its end as within it:
log entry 33. The release of the dark hold drops a grant still held, and with a remembered fault a pending drive too,
whose return raises the notice, no LAMP_UNSTABLE and no report to PRC and CRU: log entry 34; an exposure that the hold
or its release cuts short: ExposureCutShort. A release of the dark hold taken before its hold, or late: log entries 51
and 56. What is on its way between blocks: log entry 1.) -/
def Obligations.LampReady : Prop :=
  ∀ s : State,
    (∀ t, s.blu.grant = none →
      let ask (c : LampCond) : Instr := .lampReadyAsk c t
      (∀ d, s.blu.state = .settled → s.blu.requested = d → exec (ask (.settled d)) s = .next { s with
        blu := { s.blu with ask := none, grant := some { cond := .settled d, time := t }, driveChanged := false }
        inFlight := s.inFlight.erase (ask (.settled d)) ++ [.lampReadyGrant] })
      ∧ (s.blu.state = .dark → exec (ask .dark) s = .next { s with
        blu := { s.blu with ask := none, grant := some { cond := .dark, time := t }, driveChanged := false }
        inFlight := s.inFlight.erase (ask .dark) ++ [.lampReadyGrant] })
      ∧ (∀ d, (∀ f, s.blu.state ≠ .fault f) → s.blu.state ≠ .settled ∨ s.blu.requested ≠ d →
        exec (ask (.settled d)) s = .next { s with
          blu := { s.blu with ask := some { cond := .settled d, time := t } }
          inFlight := s.inFlight.erase (ask (.settled d)) })
      ∧ (∀ d f, s.blu.state = .fault f → exec (ask (.settled d)) s = .next { s with
        blu := { s.blu with ask := none }, inFlight := s.inFlight.erase (ask (.settled d)) ++ [.lampFaultReport] }))
    ∧ (∀ since, s.blu.grant = none → exec (.lampReadyRelease since) s = .next { s with
        blu := { s.blu with ask := none }, inFlight := s.inFlight.erase (.lampReadyRelease since) })
    ∧ (∀ since a d, s.blu.grant = some a → a.cond = .settled d → s.blu.state = .settled → s.blu.deferred = false →
      s.blu.pendingDrive = none → (s.lampRelease since).2 = some (measuredIntensity s.blu.history
          (s.blu.clock + since) a.time (Config.freeIntensity s.freeCount))
        ∧ exec (.lampReadyRelease since) s = .next { s with
          blu := if s.blu.driveChanged then ({ s.blu with
              grant := none, driveChanged := false, state := .settling, settleCount := 0, settleTimer := some 2000
              commanded := s.blu.capped s.blu.requested })
            else { s.blu with grant := none, driveChanged := false }
          freeCount := s.freeCount + 1
          inFlight := s.inFlight.erase (.lampReadyRelease since) })
    ∧ (∀ since a d x, s.blu.grant = some a → a.cond = .settled d → s.blu.state = .settled → s.blu.deferred = false →
      s.blu.pendingDrive = some x →
      let done : Blu := { s.blu with grant := none, pendingDrive := none, driveChanged := false }
      let left (b : Blu) : State := { s with
        blu := b, freeCount := s.freeCount + 1, inFlight := s.inFlight.erase (.lampReadyRelease since) }
      (s.blu.quiesce = true ∨ x = s.blu.requested → exec (.lampReadyRelease since) s = .next (left done))
      ∧ (s.blu.quiesce = false → x ≠ s.blu.requested →
        (s.blu.capped x = s.blu.commanded →
          exec (.lampReadyRelease since) s = .next (left { done with requested := x }))
        ∧ (s.blu.capped x ≠ s.blu.commanded → exec (.lampReadyRelease since) s = .next (left { done with
          state := .settling, requested := x, commanded := s.blu.capped x, settleCount := 0
          settleTimer := some 2000 }))))
    ∧ (∀ (h : List (Nat × Nat)) (now t free : Nat) (inside : List Nat),
        inside = (h.filter fun p => decide (now < p.1 + t ∧ p.1 ≤ now)).map (·.2) →
        (inside ≠ [] → measuredIntensity h now t free = max 1 ((inside.sum + inside.length / 2) / inside.length))
        ∧ (∀ p, inside = [] → h.find? (fun p => decide (p.1 + t ≤ now)) = some p →
            measuredIntensity h now t free = max 1 p.2))
    ∧ (s.blu.state = .dark → exec .darkHold s = .next { s with inFlight := s.inFlight.erase .darkHold })
    ∧ (s.blu.state ≠ .dark → (∀ e, s.sfe.exposing = some e → e.req.lamp = .dark) →
      let dark : Blu := { s.blu with
        state := .dark, commanded := 0, settleCount := 0, settleTimer := none, zeroCount := 0, lit := 0
        driveChanged := false, grant := none }
      let out := s.inFlight.erase .darkHold
      ((∀ a, s.blu.ask = some a → a.cond ≠ .dark) →
        ((∀ f, s.blu.state ≠ .fault f) →
          (s.blu.grant = none → exec .darkHold s = .next { s with blu := dark, inFlight := out })
          ∧ (s.blu.grant ≠ none → exec .darkHold s = .next { s with blu := dark, inFlight := out ++ [.lampLost] }))
        ∧ (∀ f, s.blu.state = .fault f → s.blu.grant = none → exec .darkHold s = .next ({ s with
            blu := { dark with remembered := some f }
            inFlight := out }.notice (.lampState .dark s.blu.throttle 0 s.blu.panelTemp))))
      ∧ (∀ t, s.blu.ask = some { cond := .dark, time := t } → s.blu.grant = none → (∀ f, s.blu.state ≠ .fault f) →
        exec .darkHold s = .next { s with
          blu := { dark with ask := none, grant := some { cond := .dark, time := t } }
          inFlight := out ++ [.lampReadyGrant] }))
    ∧ (s.blu.state ≠ .dark → exec .darkHoldRelease s = .next { s with inFlight := s.inFlight.erase .darkHoldRelease })
    ∧ (∀ f, s.blu.state = .dark → s.blu.remembered = some f → (∀ e, s.sfe.exposing = some e → e.req.lamp ≠ .dark) →
      exec .darkHoldRelease s = .next ({ s with
        blu := { s.blu with
          state := .fault f, remembered := none, requested := 0, commanded := 0, pendingDrive := none, grant := none }
        inFlight := s.inFlight.erase .darkHoldRelease }.notice
          (.lampState (.fault f) s.blu.throttle 0 s.blu.panelTemp)))
    ∧ (s.blu.state = .dark → s.blu.remembered = none → (∀ e, s.sfe.exposing = some e → e.req.lamp ≠ .dark) →
      (s.blu.pendingDrive = none → exec .darkHoldRelease s = .next ({ s with
        blu := { s.blu with
          grant := none, state := .standby, requested := 0, commanded := 0, settleCount := 0, settleTimer := none
          zeroCount := 0, deferred := false }
        inFlight := s.inFlight.erase .darkHoldRelease }.notice
          (.lampState .standby s.blu.throttle 0 s.blu.panelTemp)))
      ∧ (∀ d, s.blu.pendingDrive = some d → exec .darkHoldRelease s = .next ({ s with
        blu := { s.blu with
          grant := none, pendingDrive := none, state := .warming, requested := d, commanded := s.blu.capped d
          settleCount := 0, settleTimer := some 30000, zeroCount := 0, lit := 0 }
        inFlight := s.inFlight.erase .darkHoldRelease }.notice
          (.lampState .warming s.blu.throttle (s.blu.capped d) s.blu.panelTemp))))
    ∧ (∀ f, s.blu.state = .fault f → exec .leaveFault s = .next ({ s with
        blu := { s.blu with state := .standby, requested := 0, commanded := 0 }
        inFlight := s.inFlight.erase .leaveFault }.notice (.lampState .standby s.blu.throttle 0 s.blu.panelTemp)))
    ∧ ((∀ f, s.blu.state ≠ .fault f) → exec .leaveFault s = .next { s with inFlight := s.inFlight.erase .leaveFault })
    ∧ (∀ c x, (c = .idleTimerExpiry ∧ s.blu.idleTimer = some x)
          ∨ (c = .deferredStandby ∧ s.blu.deferred = true ∧ s.blu.idleTimer = none) →
      (s.blu.state = .settled → 5000 ≤ s.blu.lit → s.blu.grant = none → exec c s = .next ({ s with
        blu := { s.blu with
          idleTimer := none, state := .standby, requested := 0, commanded := 0, settleCount := 0, settleTimer := none
          zeroCount := 0, deferred := false } }.notice (.lampState .standby s.blu.throttle 0 s.blu.panelTemp)))
      ∧ (s.blu.state = .warming ∨ s.blu.state = .settling ∨ (s.blu.state = .settled
          ∧ (s.blu.lit < 5000 ∨ s.blu.grant ≠ none)) →
        exec c s = .next { s with blu := { s.blu with idleTimer := none, deferred := true } }))

/-! ## The transport -/

/-- The report that ends a load, a move or an unload goes to the block that asked for it (R140 to R142). -/
def Sys2Proof.Machine.TrsClient.report (c : TrsClient) (prc cru : Instr) : Instr :=
  match c with
  | .prc => prc
  | .cru => cru

/-- R139 to R143: loads, moves and unloads with their legs, a load that brings no carrier into sight, an unload refused
in FAULT with no carrier on the record, the settle, and the stage interlock: an ask is granted AT_REST with no motion
pending and held otherwise, a motion taken under the grant begins at the release, and a second one is refused. (An
INTERLOCK_ASK over a grant already held: with no motion pending it is granted again, and with one pending it waits
behind the grant, through the motion: log entry 34. PRC is told of the fault of a motion of CRU too: log entry 27. What
PRC does when a request is turned back: log entry 40. A late completion of a leg that timed out: log entry 49. A
request of PRC whose job HOME has ended: log entry 54. What is on its way between blocks: log entry 1.) -/
def Obligations.TransportMotions : Prop :=
  ∀ (s : State) (c : TrsClient), s.trs.quiesce = false →
    let leg : Option Nat := some s.liu.params.motionTimeoutMs
    (∀ p, p < 20 → s.trs.state = .empty →
      (s.trs.magazine[p]? = some .vacant → exec (.loadRequest c p) s = .next { s with
        inFlight := s.inFlight.erase (.loadRequest c p) ++ [c.report .noCarrier (.calTransportFault .noCarrier)] })
      ∧ (s.trs.magazine[p]? ≠ some .vacant → exec (.loadRequest c p) s = .next { s with
        trs := { s.trs with state := .loading, work := some (.load c p), motionTimer := leg, pendingMotion := none }
        inFlight := s.inFlight.erase (.loadRequest c p) }))
    ∧ (∀ p, s.trs.state = .loading → s.trs.work = some (.load c p) → s.trs.interlock = .none →
      exec (.loadLegCompletion true) s = .next { s with
        trs := { s.trs with
          state := .atRest, stage := .carrier p, pos := .transfer, motionTimer := none, work := none
          magazine := s.trs.magazine.setIfInBounds p .out }
        inFlight := s.inFlight ++ [c.report .loadComplete .flatLoadComplete] })
    ∧ (∀ p, s.trs.state = .loading → s.trs.work = some (.load c p) → s.trs.interlock = .none →
      exec (.loadLegCompletion false) s = .next ({ s with
        trs := { s.trs with
          state := .fault .noCarrierSeen, stage := .none, pos := .unknown, motionTimer := none, settleTimer := none
          work := none, pendingMotion := none, heldLoad := none
          magazine := s.trs.magazine.setIfInBounds p .unknown }
        inFlight := s.inFlight ++ Instr.transportFault
          :: (if c = TrsClient.cru then [Instr.calTransportFault .fault] else [])
        }.notice (.transportState (.fault .noCarrierSeen) s.trs.homed .none none)))
    ∧ (∀ f seen, s.trs.state = .fault f → (∀ p, s.trs.stage ≠ .carrier p) →
      exec (.unloadRequest c seen) s = .next (match c with
        | .prc => { s with
          prc := { s.prc with trsReq := none, recoveryJob := none }, inFlight := s.inFlight.erase (.unloadRequest c true) }
        | .cru => { s with
          inFlight := s.inFlight.erase (.unloadRequest c true) ++ [.calTransportFault .refused] }))
    ∧ (∀ g, s.trs.state = .atRest → s.trs.pendingMotion = none →
      (s.trs.interlock = .none ∨ s.trs.interlock = .asked → exec (.moveRequest c g) s = .next { s with
        trs := { s.trs with state := .moving, work := some (.move c g), motionTimer := leg }
        inFlight := s.inFlight.erase (.moveRequest c g) })
      ∧ (s.trs.interlock = .granted ∨ s.trs.interlock = .grantedAsked → exec (.moveRequest c g) s = .next { s with
        trs := { s.trs with pendingMotion := some (.move c g) }, inFlight := s.inFlight.erase (.moveRequest c g) }))
    ∧ (∀ g w, s.trs.state = .atRest → s.trs.pendingMotion = some w →
      (c = .prc → exec (.moveRequest c g) s = .next { s with
        prc := { s.prc with trsReq := none, recoveryJob := none }, inFlight := s.inFlight.erase (.moveRequest c g) })
      ∧ (c = .cru → exec (.moveRequest c g) s = .next { s with
        inFlight := s.inFlight.erase (.moveRequest c g) ++ [.calTransportFault .refused] }))
    ∧ (∀ g, s.trs.state ≠ .atRest → c = .prc → exec (.moveRequest c g) s = .next { s with
        prc := { s.prc with trsReq := none, recoveryJob := none }, inFlight := s.inFlight.erase (.moveRequest c g) })
    ∧ (∀ g, s.trs.state = .moving → s.trs.work = some (.move c g) →
      let pos : StagePos := match g with
        | .point x y => .point x y
        | .aperture => .aperture
      (s.liu.params.settleMs ≠ 0 → exec .moveLegCompletion s = .next { s with
        trs := { s.trs with
          state := .settling, pos := pos, motionTimer := none, settleTimer := some s.liu.params.settleMs } })
      ∧ (s.liu.params.settleMs = 0 → s.trs.interlock = .none → exec .moveLegCompletion s = .next { s with
        trs := { s.trs with state := .atRest, pos := pos, motionTimer := none, settleTimer := none, work := none }
        inFlight := s.inFlight ++ [c.report .settleCompletion .flatSettleComplete] }))
    ∧ (∀ g, s.trs.state = .settling → s.trs.work = some (.move c g) → s.trs.pendingMotion = none →
      let rest : Trs := { s.trs with state := .atRest, motionTimer := none, settleTimer := none, work := none }
      let out := s.inFlight ++ [c.report .settleCompletion .flatSettleComplete]
      (s.trs.interlock = .none → exec .settleTimerExpiry s = .next { s with trs := rest, inFlight := out })
      ∧ (s.trs.interlock = .asked → exec .settleTimerExpiry s = .next { s with
        trs := { rest with interlock := .granted }, inFlight := out ++ [.interlockGrant] }))
    ∧ (∀ p seen, s.trs.stage = .carrier p →
      (s.trs.state = .atRest → s.trs.pendingMotion = none →
        (s.trs.interlock = .none ∨ s.trs.interlock = .asked → exec (.unloadRequest c seen) s = .next { s with
          trs := { s.trs with state := .unloading, work := some (.unload c), motionTimer := leg }
          inFlight := s.inFlight.erase (.unloadRequest c true) })
        ∧ (s.trs.interlock = .granted ∨ s.trs.interlock = .grantedAsked →
          exec (.unloadRequest c seen) s = .next { s with
            trs := { s.trs with pendingMotion := some (.unload c) }
            inFlight := s.inFlight.erase (.unloadRequest c true) }))
      ∧ (s.trs.state = .fault .timeout → seen = true → exec (.unloadRequest c seen) s = .next ({ s with
          trs := { s.trs with
            state := .unloading, work := some (.unload c), motionTimer := leg, pendingMotion := none }
          inFlight := s.inFlight.erase (.unloadRequest c true) }.notice
            (.transportState .unloading s.trs.homed (.carrier p) none)))
      ∧ (s.trs.state = .unloading → s.trs.work = some (.unload c) → s.trs.interlock = .none →
        exec .unloadLegCompletion s = .next ({ s with
          trs := { s.trs with
            state := .empty, stage := .none, pos := .transfer, motionTimer := none, work := none
            magazine := s.trs.magazine.setIfInBounds p .present }
          inFlight := s.inFlight ++ [c.report .unloadComplete .flatUnloadComplete] }.notice
            (.transportState .empty s.trs.homed .none none))))
    ∧ (s.trs.state = .atRest → s.trs.pendingMotion = none → exec .interlockAsk s = .next { s with
        trs := { s.trs with interlock := .granted }, inFlight := s.inFlight.erase .interlockAsk ++ [.interlockGrant] })
    ∧ (s.trs.state = .loading ∨ s.trs.state = .moving ∨ s.trs.state = .settling ∨ s.trs.state = .unloading
        ∨ (s.trs.state = .atRest ∧ s.trs.pendingMotion ≠ none) →
      (s.trs.interlock = .none ∨ s.trs.interlock = .asked → exec .interlockAsk s = .next { s with
        trs := { s.trs with interlock := .asked }, inFlight := s.inFlight.erase .interlockAsk })
      ∧ (s.trs.interlock = .granted ∨ s.trs.interlock = .grantedAsked → exec .interlockAsk s = .next { s with
        trs := { s.trs with interlock := .grantedAsked }, inFlight := s.inFlight.erase .interlockAsk }))
    ∧ (s.trs.state = .unhomed ∨ s.trs.state = .empty ∨ (∃ l, s.trs.state = .homing l) ∨ (∃ f, s.trs.state = .fault f) →
      exec .interlockAsk s = .next { s with
        trs := { s.trs with interlock := .none }, inFlight := s.inFlight.erase .interlockAsk ++ [.stageFaultReport] })
    ∧ (s.trs.interlock = .granted →
      (s.trs.pendingMotion = none → exec .interlockRelease s = .next { s with
        trs := { s.trs with interlock := .none }, inFlight := s.inFlight.erase .interlockRelease })
      ∧ (∀ g, s.trs.pendingMotion = some (.move c g) → exec .interlockRelease s = .next { s with
        trs := { s.trs with
          interlock := .none, state := .moving, work := some (.move c g), motionTimer := leg, pendingMotion := none }
        inFlight := s.inFlight.erase .interlockRelease })
      ∧ (s.trs.pendingMotion = some (.unload c) → exec .interlockRelease s = .next { s with
        trs := { s.trs with
          interlock := .none, state := .unloading, work := some (.unload c), motionTimer := leg, pendingMotion := none }
        inFlight := s.inFlight.erase .interlockRelease }))
    ∧ (∀ g, s.trs.interlock = .grantedAsked → s.trs.pendingMotion = some (.move c g) →
      exec .interlockRelease s = .next { s with
        trs := { s.trs with
          interlock := .asked, state := .moving, work := some (.move c g), motionTimer := leg, pendingMotion := none }
        inFlight := s.inFlight.erase .interlockRelease })
    ∧ (s.trs.interlock = .none ∨ s.trs.interlock = .asked → exec .interlockRelease s = .next { s with
        inFlight := s.inFlight.erase .interlockRelease })
    ∧ exec .interlockAskWithdraw s = .next { s with
        trs := { s.trs with interlock := match s.trs.interlock with
          | .none | .asked => .none
          | .granted | .grantedAsked => .granted }
        inFlight := s.inFlight.erase .interlockAskWithdraw }

/-- R41, R139, R143, R145: HOME's refusals, a tile of the active job that is EXPOSING in a HELD run among them, and
legs; the end of an active job by an accepted HOME, its tiles not yet captured abandoned as Table 2.3 states; and a
timeout, of a motion and of each leg of HOME. A fault keeps or settles the stage record, drops what was in progress,
reports to PRC and CRU, and is notified. (PRC is told of the fault of a motion of CRU, of one in HOME, and of an
ORPHAN, too: log entry 27. The notice of a HOME that begins with the axis leg carries the homed mark cleared: log entry
34. HOME ends an interlock ask or grant with a fault report to SFE: log entry 13. A late completion of a leg that timed
out: log entry 49. A request on its way to TRS at HOME stays on its way: log entry 54. What is on its way between
blocks: log entry 1.) -/
def Obligations.HomeAndFaults : Prop :=
  (∀ (s : State) (h : Hdr) (p : Nat), s.takes h → s.cru.flatRunning = false → s.trs.state = .atRest →
    s.trs.stage = .carrier p → s.prc.run = .idle ∨ (∃ c, s.prc.run = .held c) → s.prc.active = none →
    s.sfe.exposing = none → s.trs.interlock ≠ .none →
    exec (.home h) s = .next (({ s with
      prc := { s.prc with trsReq := none, unloadNext := none, recoveryJob := none, retryBack := none }
      trs := { s.trs with
        state := .homing .unload, motionTimer := some s.liu.params.motionTimeoutMs, settleTimer := none, work := none
        pendingMotion := none, interlock := .none }
      inFlight := s.inFlight ++ [Instr.stageFaultReport]
      }.notice (.transportState (.homing .unload) s.trs.homed (.carrier p) none)).replied h .home .ok .none))
  ∧ ∀ s : State, s.trs.interlock = .none → s.trs.quiesce = false →
    let leg : Option Nat := some s.liu.params.motionTimeoutMs
    (∀ h, s.takes h →
      (s.cru.flatRunning = true ∨ (∃ l, s.trs.state = .homing l) ∨ s.trs.state = .loading ∨ s.trs.state = .moving
          ∨ s.trs.state = .settling ∨ s.trs.state = .unloading →
        exec (.home h) s = .next (s.replied h .home .busy .none))
      ∧ (s.cru.flatRunning = false →
          s.trs.state = .unhomed ∨ s.trs.state = .empty ∨ s.trs.state = .atRest ∨ (∃ f, s.trs.state = .fault f) →
        (s.prc.run = .running ∨ s.prc.run = .holding → exec (.home h) s = .next (s.replied h .home .wrongState .none))
        ∧ (s.prc.run = .idle ∨ (∃ c, s.prc.run = .held c) → s.prc.active = none →
          let prc : Prc := { s.prc with trsReq := none, unloadNext := none, recoveryJob := none, retryBack := none }
          (∀ p, s.trs.stage = .carrier p → exec (.home h) s = .next (({ s with
            prc := prc
            trs := { s.trs with
              state := .homing .unload, motionTimer := leg, settleTimer := none, work := none, pendingMotion := none }
            }.notice (.transportState (.homing .unload) s.trs.homed (.carrier p) none)).replied h .home .ok .none))
          ∧ (s.trs.stage = .none → exec (.home h) s = .next (({ s with
            prc := prc
            trs := { s.trs with
              state := .homing .axis, homed := false, motionTimer := leg, settleTimer := none, work := none
              pendingMotion := none } }.notice (.transportState (.homing .axis) false .none none)).replied h .home .ok
                .none)))
        ∧ (∀ c j, s.prc.run = .held c → s.prc.tableLaw → s.prc.countLaw → s.prc.activeJob? = some j →
          ((∃ x ∈ j.tiles, x.state = .exposing) → exec (.home h) s = .next (s.replied h .home .wrongState .none))
          ∧ (j.state = .loading ∨ j.state = .capturing ∨ j.state = .unloading → (∀ x ∈ j.tiles, x.state ≠ .exposing) →
            let e : State := s.jobEnded j .command
            let prc : Prc := { e.prc with trsReq := none, unloadNext := none, recoveryJob := none, retryBack := none }
            prc.active = none ∧ prc.run = .held c
            ∧ (∀ p, s.trs.stage = .carrier p → exec (.home h) s = .next (({ e with
              prc := prc
              trs := { s.trs with
                state := .homing .unload, motionTimer := leg, settleTimer := none, work := none, pendingMotion := none }
              }.notice (.transportState (.homing .unload) s.trs.homed (.carrier p) none)).replied h .home .ok .none))
            ∧ ((∀ p, s.trs.stage ≠ .carrier p) → exec (.home h) s = .next (({ e with
              prc := prc
              trs := { s.trs with
                state := .homing .axis, homed := false, motionTimer := leg, settleTimer := none, work := none
                pendingMotion := none } }.notice (.transportState (.homing .axis) false s.trs.stage none)).replied h
                  .home .ok .none))))))
    ∧ (∀ p, s.trs.state = .homing .unload → s.trs.stage = .carrier p → exec .homeUnloadLegDone s = .next { s with
        trs := { s.trs with
          state := .homing .axis, stage := .none, pos := .transfer, homed := false, motionTimer := leg
          magazine := s.trs.magazine.setIfInBounds p .present } })
    ∧ (s.trs.state = .homing .axis → exec .homeAxisLegDone s = .next { s with
        trs := { s.trs with state := .homing .scan, pos := .transfer, motionTimer := leg } })
    ∧ (∀ present, s.trs.state = .homing .scan → ∃ table : Vector MagEntry 20,
      (∀ p, p < 20 → table[p]? = if s.trs.magazine[p]? = some .out then some .out
          else some (if present.getLsbD p then .present else .vacant))
      ∧ (s.trs.stage = .none → s.trs.heldLoad = none → exec (.homeScanLegDone present) s = .next ({ s with
          trs := { s.trs with state := .empty, homed := true, motionTimer := none, magazine := table }
          inFlight := s.inFlight ++ [Instr.trsEmptyReport] }.notice (.transportState .empty true .none (some table))))
      ∧ (s.trs.stage = .unknownCarrier → s.trs.heldLoad = none → s.cru.flatRunning = false →
          exec (.homeScanLegDone present) s = .next ({ s with
            trs := { s.trs with
              state := .fault .orphan, homed := true, pos := .unknown, motionTimer := none, magazine := table }
            inFlight := s.inFlight ++ [Instr.transportFault] }.notice
              (.transportState (.fault .orphan) true .unknownCarrier (some table)))))
    ∧ (s.trs.motionTimer = none → ∀ seen l, exec (.motionTimeout seen l) s = .next s)
    ∧ (∀ t0 l seen scanned, s.trs.motionTimer = some t0 → s.trs.work = none → s.trs.state = .homing l →
      ∃ table : Vector MagEntry 20,
        exec (.motionTimeout seen scanned) s = .next ({ s with
          trs := { s.trs with
            state := .fault .timeout, pos := .unknown, motionTimer := none, settleTimer := none
            pendingMotion := none, heldLoad := none, magazine := table }
          inFlight := s.inFlight ++ [Instr.transportFault] ++ (if s.cru.flatRunning = true ∨ s.trs.heldLoad ≠ none then
            [Instr.calTransportFault .fault] else []) }.notice
            (.transportState (.fault .timeout) s.trs.homed s.trs.stage none))
        ∧ (l ≠ .scan → table = s.trs.magazine)
        ∧ (∀ p, (∀ b, (p, b) ∉ scanned) → table[p]? = s.trs.magazine[p]?)
        ∧ ∀ p b, l = .scan → p < 20 → (p, b) ∈ scanned → (∀ b', (p, b') ∈ scanned → b' = b) →
            table[p]? = if s.trs.magazine[p]? = some .out then some .out
              else some (if b then MagEntry.present else .vacant))
    ∧ (∀ t0 seen w, s.trs.motionTimer = some t0 → s.trs.work = some w →
      let out := if w.client = .cru then [Instr.transportFault, .calTransportFault .fault] else [.transportFault]
      let fallen (t : Trs) : Trs := { t with
        state := .fault .timeout, pos := .unknown, motionTimer := none, settleTimer := none, work := none
        pendingMotion := none, heldLoad := none }
      (s.trs.state = .moving ∨ s.trs.state = .unloading → exec (.motionTimeout seen []) s = .next ({ s with
        trs := fallen s.trs, inFlight := s.inFlight ++ out }.notice
          (.transportState (.fault .timeout) s.trs.homed s.trs.stage none)))
      ∧ (∀ c p, s.trs.state = .loading → w = .load c p →
        let record : StageRecord := if seen then .carrier p else .none
        exec (.motionTimeout seen []) s = .next ({ s with
          trs := fallen { s.trs with
            stage := record, magazine := s.trs.magazine.setIfInBounds p (if seen then .out else .unknown) }
          inFlight := s.inFlight ++ out }.notice (.transportState (.fault .timeout) s.trs.homed record none))))

/-- R143, R144, R146: a carrier that the presence sensor no longer sees AT_REST, MOVING or SETTLING is lost, with all
that a fault brings (an exposure in progress: ExposureCutShort; PRC is told of the fault of a request of CRU and of one
in a flat calibration too: log entry 27); in any other state the sensor is not watched. CLEAR_STAGE is refused while a
flat calibration runs, outside FAULT, and when a carrier is seen; otherwise it empties the stage record. (What is on its
way between blocks: log entry 1.) -/
def Obligations.CarrierLostOrCleared : Prop :=
  (∀ s : State, s.trs.quiesce = false →
    (∀ p, s.trs.state = .atRest ∨ s.trs.state = .moving ∨ s.trs.state = .settling → s.trs.stage = .carrier p →
      s.sfe.exposing = none →
      let toPrc : Bool := s.trs.work.isSome || s.prc.active.isSome || s.cru.flatRunning
      let toCru : Bool := match s.trs.work with
        | some w => decide (w.client = .cru)
        | none => s.cru.flatRunning || s.trs.heldLoad.isSome
      exec .lostCarrier s = .next ({ s with
        trs := { s.trs with
          state := .fault .lostCarrier, stage := .none, pos := .unknown, motionTimer := none, settleTimer := none
          work := none, pendingMotion := none, heldLoad := none, interlock := .none
          magazine := s.trs.magazine.setIfInBounds p .unknown }
        inFlight := s.inFlight ++ (if s.trs.interlock = Interlock.none then [] else [Instr.stageFaultReport])
          ++ (if toPrc then [Instr.transportFault] else []) ++ (if toCru then [Instr.calTransportFault .fault] else []) }.notice
            (.transportState (.fault .lostCarrier) s.trs.homed .none none)))
    ∧ (s.trs.state ≠ .atRest → s.trs.state ≠ .moving → s.trs.state ≠ .settling → exec .lostCarrier s = .next s))
  ∧ (∀ (h : Hdr) (seen : Bool) (s : State), s.takes h →
    (s.cru.flatRunning = true → exec (.clearStage h seen) s = .next (s.replied h .clearStage .busy .none))
    ∧ (s.cru.flatRunning = false → (∀ f, s.trs.state ≠ .fault f) ∨ seen = true →
      exec (.clearStage h seen) s = .next (s.replied h .clearStage .wrongState .none))
    ∧ (∀ f, s.cru.flatRunning = false → s.trs.state = .fault f → seen = false →
      let st : TrsState := if s.trs.homed then .empty else .unhomed
      exec (.clearStage h seen) s = .next (({ s with
        trs := { s.trs with
          state := st, stage := .none
          magazine := match s.trs.stage with
            | .carrier p => s.trs.magazine.setIfInBounds p .vacant
            | .unknownCarrier | .none => s.trs.magazine }
        inFlight := s.inFlight ++ (if s.trs.homed then [Instr.trsEmptyReport] else []) }.notice
          (.transportState st s.trs.homed .none none)).replied h .clearStage .ok .none)))

/-! ## The merge -/

/-- R60, R62 to R65: the take-up of the head of the merge queue; one band, of slots the port lets BME read (a band
with a slot it does not is log entry 35); the merge completion, which leaves a finished or freed record as it is (R9)
and an abandoned tile abandoned (R65, log entry 12); and abandonment, whose band is still written to the destination
before it goes to FREE. In the event of a merge completion the stripe of the tile that joins an idle output starts where
credits are left (R156), a waiting admission is granted when enough slots are FREE (R102), the next head of the queue
is taken up (R60), and a WAITING CRU tests (R86); and so at the end of an abandoned merge, with no stripe, and at the
abandonment of a queued tile, with no take-up either. (That a band waits for no unit of the port: log entry 42. What is
on its way between blocks: log entry 1.) -/
def Obligations.MergeRuns : Prop :=
  ∀ (s : State) (t : TileRef), s.bme.quiesce = false → s.prc.run ≠ .quiescing →
    let nothingWaits : Prop := s.cru.state ≠ .waiting ∧ s.fst.wait = none
    let aside : State := { s.unwaited with bme := { s.bme with queue := [] } }
    let putBack (u : State) : State := { u with cru := s.cru, bme := { u.bme with queue := s.bme.queue } }
    let readable : MergeCtx → Prop := s.fst.mergeReadable
    let written : MergeWork → Nat → Nat → Nat → Option Nat := s.fst.mergeWritten
    (∀ rest d x j, s.bme.state = .idle → s.bme.queue = t :: rest → s.fst.slot d = some (.reserved t) →
      (∀ i, s.fst.slot i = some (.reserved t) → i = d) → s.prc.job? t.job = some j → s.prc.tile? t = some x →
      x.state = .exposed → ∃ (u : State) (prof : Profile), s.cru.profiles[j.profile]?.getD {} = prof
        ∧ exec .mergeTakeUp s = .next u ∧ s.fst.slots.setIfInBounds d (.dest t) = u.fst.slots
        ∧ u = { s with
          fst := { s.fst with slots := u.fst.slots }
          prc := u.prc
          bme := { s.bme with
            state := .merging, queue := rest
            merge := some { tile := t, band := 0, acc := {}
                            ctx := { exposures := x.exposures.map fun e => { time := e.time, m := e.m, slot := e.slot }
                                     dest := some d, bias := s.cru.dark.biasSlot, rate := s.cru.dark.rateSlot
                                     flat := prof.flatSlot, lClear := prof.lClear, encoding := j.encoding
                                     view := j.view, satCode := s.liu.params.satCode
                                     rounding := s.liu.params.roundingMode, weights := s.liu.weights } } }
          inFlight := s.inFlight.erase .mergeTakeUp }
        ∧ u.prc = { s.prc with jobs := u.prc.jobs } ∧ u.prc.otherRecords s.prc t
        ∧ u.prc.tile? t = some { x with state := .merging })
    ∧ (s.bme.state ≠ .idle ∨ s.bme.queue = [] →
      exec .mergeTakeUp s = .next { s with inFlight := s.inFlight.erase .mergeTakeUp })
    ∧ (∀ w d, s.bme.state = .merging → s.bme.merge = some w → w.tile = t → w.ctx.dest = some d →
      s.fst.slot d = some (.dest t) → s.fst.memoryLaw →
      (w.band < 59 → readable w.ctx → ∃ f : Fst, exec .bandCompletion s = .next { s with
          fst := f
          bme := { s.bme with merge := some { w with
            band := w.band + 1, acc := w.acc.addRuns (s.fst.mergeBand w.ctx w.band) } } }
        ∧ f = { s.fst with planes := f.planes }
        ∧ ∀ i row col, col < 5120 → f.pixel i row col = written w i row col)
      ∧ (w.band < 59 → (∃ e ∈ w.ctx.exposures, s.fst.slot e.slot = some .free) →
        exec .bandCompletion s = .next { s with bme := { s.bme with merge := some { w with band := w.band + 1 } } })
      ∧ (w.band = 59 → s.fst.wait = none ∨ s.fst.quiesce = false →
        s.goesOn .bandCompletion { aside with sou := { s.sou with credits := 0 } }
        (fun u => { putBack u with sou := { u.sou with credits := s.sou.credits } })
        (.stripeStart :: s.fst.asksAgain ++ [.mergeTakeUp, .calworkGrant]))
      ∧ (w.band = 59 → readable w.ctx → nothingWaits → s.bme.queue = [] → s.sou.credits = 0 →
        let acc := w.acc.addRuns (s.fst.mergeBand w.ctx 59)
        ∃ u, exec .bandCompletion s = .next u
          ∧ u = { s with
            fst := { s.fst with slots := u.fst.slots, planes := u.fst.planes }
            prc := { s.prc with jobs := u.prc.jobs }
            bme := { s.bme with state := .idle, merge := none, cal := none }
            sou := { s.sou with queue := s.sou.queue ++ [⟨t, d⟩] } }
          ∧ (∀ i, u.fst.slot i = if s.fst.slot i = some (.raw t) then some .free
              else if s.fst.slot i = some (.dest t) then some (.merged t) else s.fst.slot i)
          ∧ (∀ i row col, col < 5120 → u.fst.pixel i row col = written w i row col)
          ∧ u.prc.otherRecords s.prc t
          ∧ (∀ j x, s.prc.job? t.job = some j → s.prc.tile? t = some x →
              x.state = .merging ∨ x.state = .abandoned → u.prc.tile? t = some (
                if j.state = .done ∨ j.state = .failed ∨ j.state = .aborted then x
                else { x with
                  state := if x.state = .abandoned then .abandoned else .merged
                  stats := some acc
                  flags := { x.flags with limit := x.flags.limit || decide (0 < acc.limit) } }))
          ∧ (s.prc.job? t.job = none → u.prc = s.prc)))
    ∧ (∀ w, s.bme.state = .abandoning → s.bme.merge = some w → s.fst.wait = none ∨ s.fst.quiesce = false →
      s.goesOn .bandCompletion aside putBack (s.fst.asksAgain ++ [.mergeTakeUp, .calworkGrant]))
    ∧ (∀ w, s.bme.state = .abandoning → s.bme.merge = some w → w.tile = t → nothingWaits → s.bme.queue = [] →
      s.fst.memoryLaw → w.band < 60 → readable w.ctx → (∀ d, w.ctx.dest = some d → s.fst.slot d = some (.dest t)) →
      ∃ f : Fst, exec .bandCompletion s = .next { s with
          fst := f, bme := { s.bme with state := .idle, merge := none } }
        ∧ f = { s.fst with slots := f.slots, planes := f.planes }
        ∧ (∀ i, f.slot i = if s.fst.slot i = some (.raw t) ∨ s.fst.slot i = some (.reserved t)
            ∨ s.fst.slot i = some (.dest t) then some .free else s.fst.slot i)
        ∧ ∀ i row col, col < 5120 → f.pixel i row col = written w i row col)
    ∧ (t ∈ s.bme.queue → s.fst.wait = none ∨ s.fst.quiesce = false →
        s.goesOn (.bmeAbandon t) s.unwaited (fun u => { u with cru := s.cru }) (s.fst.asksAgain ++ [.calworkGrant]))
    ∧ (t ∈ s.bme.queue → nothingWaits → ∃ f : Fst, exec (.bmeAbandon t) s = .next { s with
          fst := f, bme := { s.bme with queue := s.bme.queue.filter fun x => decide (x ≠ t) }
          inFlight := s.inFlight.erase (.bmeAbandon t) }
        ∧ f = { s.fst with slots := f.slots }
        ∧ ∀ i, f.slot i = if s.fst.slot i = some (.raw t) ∨ s.fst.slot i = some (.reserved t)
            ∨ s.fst.slot i = some (.dest t) then some .free else s.fst.slot i)
    ∧ (∀ w, t ∉ s.bme.queue → s.bme.merge = some w → w.tile = t → exec (.bmeAbandon t) s = .next { s with
        bme := { s.bme with state := .abandoning }, inFlight := s.inFlight.erase (.bmeAbandon t) })

/-- R62, R67, R76, R78 to R80: the value of a band's pixel is the merge of that pixel's codes in the exposures' slots
with its bias, dark rate and flat gain; what the pixels of a band add to the accumulators of Table 4.5; and a band of
each calibration operation, pixel by pixel, on the distinct CALWORK slots that it uses, where the sum fits its 32 bits and
the mean the 16 of a slot (what does not is free: log entry 32), with what it adds to the total of the means and to the
count of defects. A band with a slot that the port does not let BME read changes
nothing (log entry 35). -/
def Obligations.BandsArePixelwise : Prop :=
  (∀ (f : Fst) (ctx : MergeCtx) (k i b q g : Nat), f.memoryLaw → k < 60 → i < 327680 →
    ctx.bias = some b → ctx.rate = some q → ctx.flat = some g → b < 48 → q < 48 → g < 48 →
    (∀ e ∈ ctx.exposures, e.slot < 48) →
    let value (slot : Nat) : Nat := (f.pixel slot (64 * k + i / 5120) (i % 5120)).getD 0
    runsGet? (f.mergeBand ctx k) i
      = some (mergePixel ctx { bias := value b, rate := value q, gain := value g }
          (ctx.exposures.map fun e => value e.slot)))
  ∧ (∀ (a : Stats) (band : Runs PixelOut),
    let pixels : List PixelOut := band.flatMap fun r => List.replicate r.1 r.2
    let codes : List Nat := (pixels.filter fun p => p.resolved).map (·.code)
    let new := a.addRuns band
    new.clippedBright = a.clippedBright + pixels.countP (·.clippedBright)
    ∧ new.clippedDense = a.clippedDense + pixels.countP (·.clippedDense)
    ∧ new.overClear = a.overClear + pixels.countP (·.overClear)
    ∧ new.denseLimit = a.denseLimit + pixels.countP (·.denseLimit)
    ∧ new.limit = a.limit + pixels.countP (·.limit)
    ∧ (new.minCode = none ↔ a.minCode = none ∧ codes = [])
    ∧ (∀ m, new.minCode = some m ↔ (a.minCode = some m ∨ m ∈ codes) ∧ ∀ c, a.minCode = some c ∨ c ∈ codes → m ≤ c)
    ∧ (new.maxCode = none ↔ a.maxCode = none ∧ codes = [])
    ∧ (∀ m, new.maxCode = some m ↔ (a.maxCode = some m ∨ m ∈ codes) ∧ ∀ c, a.maxCode = some c ∨ c ∈ codes → c ≤ m))
  ∧ (∀ (f : Fst) (dark : DarkEntry) (w : CalWork), f.memoryLaw → w.band < 60 →
    let held (l : List Nat) : Prop := l.Nodup ∧ ∀ k ∈ l, f.isCalwork k = true
    let at' (g : Fst) (slot i : Nat) : Nat := (g.pixel slot (64 * w.band + i / 5120) (i % 5120)).getD 0
    let sum (g : Fst) (i : Nat) : Nat := at' g w.low i + 65536 * at' g w.high i
    let after (op : CalOp) : Fst × CalWork := f.calBand dark { w with op := some op }
    (∀ n i, i < 327680 → held [w.low, w.high, n] →
      (sum f i + at' f n i < 4294967296 → sum (after (.accumulate n .raw)).1 i = sum f i + at' f n i)
      ∧ (∀ t p q, dark.biasSlot = some p → dark.rateSlot = some q →
          (∃ k, f.slot p = some (.ref k)) → (∃ k, f.slot q = some (.ref k)) →
          let signal := at' f n i - (at' f p i + min 16383 ((at' f q i * t + 2048) / 4096))
          sum f i + signal < 4294967296 →
            sum (after (.accumulate n (.darkCorrected t))).1 i = sum f i + signal))
    ∧ (held [w.low, w.high] → ∀ i, i < 327680 → sum (after .clear).1 i = 0)
    ∧ (∀ r op, held [w.low, w.high, r] → op = .biasFinish r ∨ op = .flatMean r →
      (∀ i, i < 327680 → (sum f i + 8) / 16 < 65536 → at' (after op).1 r i = (sum f i + 8) / 16)
      ∧ ((∀ i, i < 327680 → (sum f i + 8) / 16 < 65536) →
          (after op).2.total = w.total + ((List.range 327680).map fun i => (sum f i + 8) / 16).sum))
    ∧ (∀ r b t i, held [w.low, w.high, b, r] → 0 < t → i < 327680 → at' (after (.rateFinish t b r)).1 r i
        = min 65535 ((2 * (sum f i - 16 * at' f b i) * 4096 + 16 * t) / (2 * 16 * t)))
    ∧ (∀ r mean y, f.isCalwork r = true →
      let g (i : Nat) : Nat := (2 * 16384 * mean + at' f r i) / (2 * at' f r i)
      (∀ i, i < 327680 → at' (after (.flatGain r mean y)).1 r i
          = if at' f r i = 0 then 32767 else max 8192 (min 32767 (g i)))
      ∧ (after (.flatGain r mean y)).2.defects = w.defects
          + (List.range 327680).countP fun i => decide (at' f r i = 0 ∨ g i < 8192 ∨ 32767 < g i))
    ∧ (∀ op, (after op).2 = { w with
        op := some op, band := w.band + 1, total := (after op).2.total, defects := (after op).2.defects }
      ∧ ((∀ r, op ≠ .biasFinish r ∧ op ≠ .flatMean r) → (after op).2.total = w.total)
      ∧ ((∀ r mean y, op ≠ .flatGain r mean y) → (after op).2.defects = w.defects))
    ∧ ∀ op slot row col, col < 5120 → (row < 64 * w.band ∨ 64 * w.band + 64 ≤ row) →
        (after op).1.pixel slot row col = f.pixel slot row col)
  ∧ (∀ (f : Fst) (dark : DarkEntry) (w : CalWork) (n : Nat), f.slot n = some .free →
    w.op = some (.accumulate n .raw) → f.calBand dark w = (f, { w with band := w.band + 1 }))

/-- R67 to R72, R74, R75: the code of one pixel from its raw codes and references, and how it counts. -/
def Obligations.PixelArithmetic : Prop :=
  ∀ (ctx : MergeCtx) (r : PixelRef) (codes : List Nat), codes.length = ctx.exposures.length →
    let signal (e : MergeExposure) (c : Nat) : Nat :=
      ((c : Int) - r.bias - min 16383 ((r.rate * e.time + 2048) / 4096 : Nat)).toNat
    let weight (c : Nat) : Nat := if c < ctx.satCode then (ctx.weights[c / 64]?).getD 0 else 0
    let a := ((ctx.exposures.zip codes).map fun p => weight p.2 * ((signal p.1 p.2 * r.gain + 8192) / 16384)).sum
    let b := ((ctx.exposures.zip codes).map fun p => weight p.2 * (p.1.time * p.1.m)).sum
    let out := mergePixel ctx r codes
    (b = 0 → out.resolved = false ∧ out.overClear = false ∧ out.denseLimit = false ∧ out.limit = false
      ∧ ((∃ c ∈ codes, ctx.satCode ≤ c) → out.clippedBright = true ∧ out.clippedDense = false
          ∧ out.code = match ctx.encoding with
            | .density16 => 0
            | .linear16 _ => 65535)
      ∧ ((∀ c ∈ codes, c < ctx.satCode) → out.clippedBright = false ∧ out.clippedDense = true
          ∧ out.code = match ctx.encoding with
            | .density16 => 65535
            | .linear16 _ => 0))
    ∧ (0 < b → out.resolved = true ∧ out.clippedBright = false ∧ out.clippedDense = false ∧
      ∃ y, y = (match ctx.rounding with
          | .nearestUp => (2 * (a * 16777216) + b) / (2 * b)
          | .nearestEven =>
            if b < 2 * (a * 16777216 % b) ∨ (2 * (a * 16777216 % b) = b ∧ a * 16777216 / b % 2 = 1) then
              a * 16777216 / b + 1
            else a * 16777216 / b)
        ∧ let z := min 4294967295 y
          match ctx.encoding with
          | .linear16 shift =>
              let v := if shift = 0 then z else (z + 2 ^ (shift - 1)) / 2 ^ shift
              out.code = min 65535 v ∧ out.limit = decide (65535 < v ∨ 4294967295 < y)
              ∧ out.overClear = false ∧ out.denseLimit = false
          | .density16 =>
              let d : Int := ((ctx.lClear : Int) - logValue z + 8) / 16
              out.limit = decide (4294967295 < y) ∧ out.code ≤ 65534
              ∧ (z = 0 → out.code = 65534 ∧ out.denseLimit = true ∧ out.overClear = false)
              ∧ (z ≠ 0 → (out.code : Int) = max 0 (min 65534 d) ∧ out.overClear = decide (d < 0)
                  ∧ out.denseLimit = decide (65534 < d)))

/-- R73: L(Y) by the position of the highest bit and the log table, whose ends and a worked entry are the spec's; it
rises with Y and lies from 0 to 631,293. -/
def Obligations.LogValueRises : Prop :=
  logEntry 0 = 0 ∧ logEntry 4095 = 19725 ∧ logEntry 1504 = 8902
  ∧ (∀ y e, 2 ^ e ≤ y → y < 2 ^ (e + 1) → logValue y = e * 19728 + logEntry ((y - 2 ^ e) * 4096 / 2 ^ e))
  ∧ logValue 1 = 0
  ∧ (∀ a b, 1 ≤ a → a ≤ b → b ≤ 4294967295 → logValue a ≤ logValue b)
  ∧ ∀ y, 1 ≤ y → y ≤ 4294967295 → logValue y ≤ 631293

/-- R77 to R82: calibration work. BME takes it when it is free, with the work planes cleared; it takes one operation at
a time; an operation runs its 60 bands and is reported, with the sums that its bands have added up; a release ends the
work, in CAL_BUSY at the band's end, and the head of the merge queue is then taken up (R60) and a WAITING CRU tests
(R86) in the same event. A band's pixels are those of BandsArePixelwise. (A request or release taken late: log entry
56. What is on its way between blocks: log entry 1; a band with a slot that the port does not let BME read: log entry
35; that a band waits for no unit of the port: log entry 42.) -/
def Obligations.CalibrationWork : Prop :=
  ∀ s : State,
    let aside : State := { s with bme := { s.bme with queue := [] }, cru := { s.cru with state := .idle } }
    let putBack (u : State) : State := { u with cru := s.cru, bme := { u.bme with queue := s.bme.queue } }
    (∀ lo hi, s.bme.state = .idle → s.bme.queue = [] → s.bme.quiesce = false → ∃ f : Fst,
        exec (.calWorkRequest lo hi) s = .next { s with
          fst := f, bme := { s.bme with state := .calReady, cal := some { low := lo, high := hi } }
          inFlight := s.inFlight.erase (.calWorkRequest lo hi) ++ [.calWorkAccepted true lo hi] }
        ∧ f = { s.fst with planes := f.planes }
        ∧ ∀ n, f.plane n = if (n = lo ∨ n = hi) ∧ s.fst.isCalwork n = true then [(19660800, 0)] else s.fst.plane n)
    ∧ (∀ lo hi, s.bme.state ≠ .idle ∨ s.bme.queue ≠ [] ∨ s.bme.quiesce = true →
        exec (.calWorkRequest lo hi) s = .next { s with
          inFlight := s.inFlight.erase (.calWorkRequest lo hi) ++ [.calWorkAccepted false lo hi] })
    ∧ (∀ c op, (∃ n k, c = .accumulateRequest n k ∧ op = CalOp.accumulate n k)
          ∨ (∃ r, c = .biasFinish r ∧ op = .biasFinish r) ∨ (∃ x b r, c = .rateFinish x b r ∧ op = .rateFinish x b r)
          ∨ (c = .workClear ∧ op = .clear) ∨ (∃ r, c = .flatMean r ∧ op = .flatMean r)
          ∨ (∃ r m y, c = .flatGain r m y ∧ op = .flatGain r m y) →
        (∀ w, s.bme.state = .calReady → s.bme.cal = some w → s.bme.quiesce = false → exec c s = .next { s with
          bme := { s.bme with
            state := .calBusy, cal := some { w with op := some op, band := 0, total := 0, defects := 0 } }
          inFlight := s.inFlight.erase c })
        ∧ (s.bme.state ≠ .calReady → exec c s = .next { s with inFlight := s.inFlight.erase c }))
    ∧ (s.bme.state = .calReady → s.bme.queue = [] → s.cru.state ≠ .waiting → exec .calRelease s = .next { s with
        bme := { s.bme with state := .idle, merge := none, cal := none }
        inFlight := s.inFlight.erase .calRelease })
    ∧ (∀ w, s.bme.state = .calBusy → s.bme.cal = some w → exec .calRelease s = .next { s with
        bme := { s.bme with cal := some { w with released := true } }, inFlight := s.inFlight.erase .calRelease })
    ∧ (∀ w op, s.bme.state = .calBusy → s.bme.cal = some w → w.op = some op → w.released = false →
        s.bme.quiesce = false →
        let after := s.fst.calBand s.cru.dark w
        after.1 = { s.fst with planes := after.1.planes }
        ∧ (w.band < 59 → exec .bandCompletion s = .next { s with
            fst := after.1
            bme := { s.bme with
              cal := some { w with band := w.band + 1, total := after.2.total, defects := after.2.defects } } })
        ∧ (w.band = 59 → exec .bandCompletion s = .next { s with
            fst := after.1
            bme := { s.bme with
              state := .calReady, cal := some { w with op := none, band := 0, total := 0, defects := 0 } }
            inFlight := s.inFlight ++ [match op with
              | .accumulate _ _ => Instr.accumulationComplete
              | .clear => .clearComplete
              | .biasFinish _ => .biasFinishComplete ((after.2.total + 9830400) / 19660800)
              | .rateFinish _ _ _ => .rateFinishComplete
              | .flatMean _ => .flatMeanComplete ((after.2.total + 9830400) / 19660800)
              | .flatGain _ _ y => .flatGainComplete after.2.defects (logValue y)] }))
    ∧ (∀ w, s.bme.state = .calBusy → s.bme.cal = some w → w.released = true → s.bme.quiesce = false →
        s.bme.queue = [] → s.cru.state ≠ .waiting → exec .bandCompletion s = .next { s with
          fst := (s.fst.calBand s.cru.dark w).1, bme := { s.bme with state := .idle, merge := none, cal := none } })
    ∧ (∀ c, (c = .calRelease ∧ s.bme.state = .calReady)
          ∨ (c = .bandCompletion ∧ s.bme.quiesce = false ∧ s.bme.state = .calBusy
            ∧ ∃ w, s.bme.cal = some w ∧ w.released = true) →
        s.goesOn c aside putBack [.mergeTakeUp, .calworkGrant])

/-! ## Stripes -/

/-- R29, R110, R156, R157, R158: credits, the start of a stripe, and its end, with the rows as they stand in the
STREAMING slot; the next stripe, which starts in the same event while credits are left, at a stripe's end and at an
abandonment; the last stripe's end, at which a DRAINING job whose tiles have all ended goes to its pending outcome;
and abandonment at the output, of the head with a stripe in transfer, whose end then frees the slot and reports
nothing, of the head without, and of a tile behind it. Where a slot goes to FREE by these, a waiting
admission is granted in the same event when enough slots are FREE (R102), and a WAITING CRU tests (R86). (What is on its
way between blocks: log entry 1; a stripe whose
slot is not STREAMING carries no pixels and goes out: log entry 35; that its end waits for no unit of the port: log
entry 42.) -/
def Obligations.StripesGoOut : Prop :=
  ∀ s : State, s.sou.quiesce = false → s.prc.run ≠ .quiescing →
    (∀ e rest j x, s.sou.queue = e :: rest → s.sou.transfer = none → 0 < s.sou.credits → s.liu.attached = true →
      s.prc.job? e.tile.job = some j → s.prc.tile? e.tile = some x →
      let header : StripeHeader :=
        { job := j.id, row := x.row, seq := x.seq, index := s.sou.index, encoding := j.encoding, cols := j.cols
          rows := j.rows, last := decide (s.sou.index = 59), restart := s.sou.restart, view := j.view, flags := x.flags
          outCol := match j.view with
            | .glassSide => x.col
            | .emulsionSide => j.cols - 1 - x.col }
      (s.sou.started = true → exec .stripeStart s = .next { s with
        sou := { s.sou with credits := s.sou.credits - 1, restart := false, transfer := some header }
        inFlight := s.inFlight.erase .stripeStart })
      ∧ (s.sou.started = false → s.fst.slot e.slot = some (.merged e.tile) → x.state = .merged →
        ∃ u, exec .stripeStart s = .next u
          ∧ u = { s with
            sou := { s.sou with credits := s.sou.credits - 1, restart := false, transfer := some header, started := true }
            fst := { s.fst with slots := s.fst.slots.setIfInBounds e.slot .streaming }
            prc := { s.prc with jobs := u.prc.jobs }
            inFlight := s.inFlight.erase .stripeStart }
          ∧ u.prc.otherRecords s.prc e.tile ∧ u.prc.tile? e.tile = some { x with state := .sending }))
    ∧ (s.sou.queue = [] ∨ s.sou.credits = 0 ∨ s.sou.transfer ≠ none ∨ s.liu.attached = false →
      exec .stripeStart s = .next { s with inFlight := s.inFlight.erase .stripeStart })
    ∧ (∀ e rest h, s.sou.queue = e :: rest → s.sou.transfer = some h → s.sou.dropHead = false →
      s.sou.credits = 0 →
      let taken : Stripe :=
        { header := h
          payload := if s.fst.slot e.slot = some .streaming then
              runsSlice (h.index * 327680) 327680 (s.fst.plane e.slot)
            else [] }
      (h.index ≠ 59 → exec .stripeEnd s = .next { s with
        sou := { s.sou with transfer := none, taken := some taken, index := s.sou.index + 1 } })
      ∧ (∀ j x, h.index = 59 → s.prc.tableLaw → s.prc.job? e.tile.job = some j → s.prc.tile? e.tile = some x →
        j.countLaw → x.state = .sending → j.state = .capturing ∨ j.state = .unloading ∨ j.state = .draining →
        s.fst.slot e.slot = some .streaming → s.fst.wait = none → s.cru.state ≠ .waiting →
        ∃ u, exec .stripeEnd s = .next u
          ∧ u.sou = { s.sou with
            queue := rest, transfer := none, taken := some taken, index := 0, started := false, dropHead := false
            restart := false }
          ∧ u.fst = { s.fst with slots := s.fst.slots.setIfInBounds e.slot .free }
          ∧ u.prc.otherRecords s.prc e.tile ∧ u.prc.tile? e.tile = some { x with state := .sent }
          ∧ (u.prc.job? e.tile.job).map (fun k => (k.sent, k.abandoned)) = some (j.sent + 1, j.abandoned)
          ∧ (u.prc.job? e.tile.job).map (fun k => (k.state, k.outcome)) = some (
              if j.state = .draining ∧ j.sent + 1 + j.abandoned + j.masked = j.cols * j.rows then
                match j.outcome with
                | some (.failed c) => (.failed, some (.failed c))
                | some .aborted => (.aborted, some .aborted)
                | some .done | none => (.done, some .done)
              else (j.state, j.outcome))
          ∧ u.prc = { s.prc with jobs := u.prc.jobs }
          ∧ u.bpl = s.bpl ∧ u.sfe = s.sfe ∧ u.blu = s.blu ∧ u.trs = s.trs ∧ u.bme = s.bme ∧ u.cru = s.cru
          ∧ u.inFlight = s.inFlight ∧ s.noticesOnly u))
    ∧ (∀ e rest h j x, s.sou.queue = e :: rest → s.sou.transfer = some h → s.sou.dropHead = false → h.index ≠ 59 →
      0 < s.sou.credits → s.liu.attached = true → s.sou.started = true → s.prc.job? e.tile.job = some j →
      s.prc.tile? e.tile = some x →
      exec .stripeEnd s = .next { s with sou := { s.sou with
        taken := some
          { header := h
            payload := if s.fst.slot e.slot = some .streaming then
                runsSlice (h.index * 327680) 327680 (s.fst.plane e.slot)
              else [] }
        index := s.sou.index + 1, credits := s.sou.credits - 1, restart := false
        transfer := some
          { job := j.id, row := x.row, seq := x.seq, index := s.sou.index + 1, encoding := j.encoding, cols := j.cols
            rows := j.rows, last := decide (s.sou.index + 1 = 59), restart := s.sou.restart, view := j.view
            flags := x.flags
            outCol := match j.view with
              | .glassSide => x.col
              | .emulsionSide => j.cols - 1 - x.col } } })
    ∧ (∀ c, (c = .stripeEnd ∧ s.sou.transfer ≠ none ∧ s.sou.queue ≠ [])
          ∨ (∃ e ∈ s.sou.queue, c = .souAbandon e.tile) →
        ∃ u, exec c { s with sou := { s.sou with credits := 0 } } = .next u
          ∧ (.stripeStart ∉ u.inFlight →
            exec c s = exec .stripeStart { u with sou := { u.sou with credits := s.sou.credits } }))
    ∧ (∀ c e rest, s.sou.queue = e :: rest → s.fst.wait = none ∨ s.fst.quiesce = false →
        (c = .stripeEnd ∧ s.fst.slot e.slot = some .streaming
            ∧ ∃ h, s.sou.transfer = some h ∧ (s.sou.dropHead = true ∨ h.index = 59))
          ∨ (c = .souAbandon e.tile ∧ s.sou.started = true ∧ s.sou.transfer = none
            ∧ s.fst.slot e.slot = some .streaming)
          ∨ (c = .souAbandon e.tile ∧ s.sou.started = false ∧ s.fst.slot e.slot = some (.merged e.tile))
          ∨ (∃ x ∈ rest, c = .souAbandon x.tile ∧ x.tile ≠ e.tile ∧ (∀ y ∈ rest, y.tile = x.tile → y = x)
            ∧ s.fst.slot x.slot = some (.merged x.tile)) →
        s.goesOn c { s.unwaited with sou := { s.sou with credits := 0 } }
          (fun u => { u with cru := s.cru, sou := { u.sou with credits := s.sou.credits } })
          (s.fst.asksAgain ++ [.calworkGrant, .stripeStart]))
    ∧ (∀ e rest h, s.sou.queue = e :: rest → s.sou.transfer = some h → s.sou.dropHead = true →
      s.sou.credits = 0 ∨ rest = [] → s.fst.slot e.slot = some .streaming → s.fst.wait = none →
      s.cru.state ≠ .waiting → exec .stripeEnd s = .next { s with
        sou := { s.sou with
          queue := rest, transfer := none, index := 0, started := false, dropHead := false, restart := false
          taken := some { header := h, payload := runsSlice (h.index * 327680) 327680 (s.fst.plane e.slot) } }
        fst := { s.fst with slots := s.fst.slots.setIfInBounds e.slot .free } })
    ∧ (∀ e rest t, s.sou.queue = e :: rest → e.tile = t → s.sou.started = true → s.sou.transfer ≠ none →
      exec (.souAbandon t) s = .next { s with
        sou := { s.sou with dropHead := true, restart := false }, inFlight := s.inFlight.erase (.souAbandon t) })
    ∧ (∀ e rest t, s.sou.queue = e :: rest → e.tile = t → s.sou.transfer = none → s.sou.credits = 0 ∨ rest = [] →
      s.fst.wait = none → s.cru.state ≠ .waiting →
      (s.sou.started = true → s.fst.slot e.slot = some .streaming → exec (.souAbandon t) s = .next { s with
        sou := { s.sou with queue := rest, index := 0, started := false, dropHead := false, restart := false }
        fst := { s.fst with slots := s.fst.slots.setIfInBounds e.slot .free }
        inFlight := s.inFlight.erase (.souAbandon t) })
      ∧ (s.sou.started = false → s.fst.slot e.slot = some (.merged t) → (∀ k ∈ rest, k.tile ≠ t) →
        exec (.souAbandon t) s = .next { s with
          sou := { s.sou with queue := rest, restart := false }
          fst := { s.fst with slots := s.fst.slots.setIfInBounds e.slot .free }
          inFlight := s.inFlight.erase (.souAbandon t) }))
    ∧ (∀ e rest t x, s.sou.queue = e :: rest → e.tile ≠ t → rest = [x] → x.tile = t → s.sou.transfer ≠ none →
      s.fst.slot x.slot = some (.merged t) → s.fst.wait = none → s.cru.state ≠ .waiting →
      exec (.souAbandon t) s = .next { s with
        sou := { s.sou with queue := [e] }
        fst := { s.fst with slots := s.fst.slots.setIfInBounds x.slot .free }
        inFlight := s.inFlight.erase (.souAbandon t) })

/-- R157: GRANT_STRIPES. The counter rises, to 1024 at most; what follows is what SOU does when it looks at its
conditions for a stripe, as at STRIPE_START. (What is on its way between blocks: log entry 1.) -/
def Obligations.GrantStripes : Prop :=
  ∀ (h : Hdr) (n : Nat) (s : State), s.liu.attached = true → h.fits = true → s.sou.creditLaw →
    let granted : State := { s with sou := { s.sou with credits := min 1024 (s.sou.credits + n) } }
    (s.liu.resetWork = none →
      (n = 0 ∨ 1024 < n → exec (.grantStripes h n) s = .next (s.replied h .grantStripes .badArg .none))
      ∧ (1 ≤ n → n ≤ 1024 → .stripeStart ∉ s.inFlight → ∃ t, exec .stripeStart granted = .next t
          ∧ (s.sou.credits + n ≤ 1024 → exec (.grantStripes h n) s
            = .next (t.replied h .grantStripes .ok (.grant n (s.sou.credits + n))))
          ∧ (1024 < s.sou.credits + n → exec (.grantStripes h n) s
            = .next (t.replied h .grantStripes .clamped (.grant (1024 - s.sou.credits) 1024))))
      ∧ (s.sou.queue = [] → .stripeStart ∉ s.inFlight → exec .stripeStart granted = .next granted))
    ∧ (∀ w, s.liu.resetWork = some w → exec (.grantStripes h n) s = .next { s with
        liu := { s.liu with resetWork := some { w with
          busy := w.busy ++ [{ tag := h.tag, status := .busy, kind := .grantStripes, body := .none }] } } })

/-! ## Reset, power-on, attach and detach -/

/-- R160: RESET asks every block but LIU itself to quiesce (that LIU is none of those asked and waited for: log entry
30) and takes the run to QUIESCING; each acknowledgement is crossed off, and one that is not waited for is discarded.
And how a block stops under the mark. R125: SFE's readout or flush runs to its end, hands nothing over and is
acknowledged, and one whose timer expires ends in FAULT. R147: TRS begins no leg and ends the one in progress, or its
settle, HOME stops after its leg, and a fault is taken; a move's leg is followed by its settle, whose end is
acknowledged (log entry 30). R66: BME ends its band, discards its work, asks nothing of FST and takes up no tile. R48,
R160: BPL acknowledges as it becomes IDLE, and SOU at its stripe's end. A request that SFE holds beside a readout is
dropped at once (log entry 34). (What is on its way between blocks: log entry 1; what a requester does with a refusal
as busy: log entries 28, 32, and PRC with one of TRS: log entry 40.) -/
def Obligations.ResetHandshake : Prop :=
  ∀ s : State,
    (∀ h c kind, (c = .resetSoft h ∧ kind = .soft) ∨ (c = .resetFull h ∧ kind = .full) → s.takes h →
      ∃ (t : State) (w : ResetWork), exec c s = .next t ∧ t.liu.resetWork = some w ∧ w.kind = kind ∧ w.tag = h.tag
        ∧ (∀ b, b ∈ w.waiting ↔ b ≠ .liu) ∧ w.busy = [] ∧ t.prc.run = .quiescing ∧ t.prc.jobs = s.prc.jobs
        ∧ t.prc.admReq = none ∧ t.fst.quiesce = true ∧ t.fst.wait = none ∧ t.sfe.quiesce = true
        ∧ t.blu.quiesce = true ∧ t.trs.quiesce = true ∧ t.trs.pendingMotion = none ∧ t.bme.quiesce = true
        ∧ t.cru.quiesce = true ∧ t.sou.quiesce = true ∧ t.fst.planes = s.fst.planes ∧ t.fst.slots = s.fst.slots
        ∧ .quiesceAck .prc true ∈ t.inFlight ∧ .quiesceAck .fst true ∈ t.inFlight
        ∧ .quiesceAck .blu true ∈ t.inFlight ∧ .quiesceAck .cru true ∈ t.inFlight
        ∧ (s.sfe.state = .idle ∨ s.sfe.state = .held ∨ s.sfe.state = .armed →
            t.sfe.held = none ∧ .quiesceAck .sfe true ∈ t.inFlight)
        ∧ (∀ e, s.sfe.state = .exposing → s.sfe.exposing = some e →
            t.sfe.state = .reading ∧ t.sfe.exposing = none ∧ t.sfe.readout = some { kind := .flush 0 })
        ∧ (s.sfe.state = .reading → t.sfe.state = .reading ∧ t.sfe.held = none ∧ t.sfe.readout = s.sfe.readout)
        ∧ t.trs.state = s.trs.state ∧ t.trs.work = s.trs.work
        ∧ (s.trs.state = .unhomed ∨ s.trs.state = .empty ∨ s.trs.state = .atRest ∨ (∃ f, s.trs.state = .fault f) →
            .quiesceAck .trs true ∈ t.inFlight)
        ∧ (s.bme.state = .idle ∨ s.bme.state = .calReady → .quiesceAck .bme true ∈ t.inFlight)
        ∧ (s.bpl.work = none → .quiesceAck .bpl true ∈ t.inFlight)
        ∧ (s.sou.transfer = none → .quiesceAck .sou true ∈ t.inFlight))
    ∧ (∀ b seen, s.liu.resetWork = none → exec (.quiesceAck b seen) s = .next { s with
        inFlight := s.inFlight.erase (.quiesceAck b true) } ∧ exec (.resetTimeout seen) s = .next s)
    ∧ (∀ b w seen, s.liu.resetWork = some w → b ∈ w.waiting → (∃ a ∈ w.waiting, a ≠ b) →
      exec (.quiesceAck b seen) s = .next { s with
        liu := { s.liu with resetWork := some { w with waiting := w.waiting.filter fun x => decide (x ≠ b) } }
        inFlight := s.inFlight.erase (.quiesceAck b true) })
    ∧ (s.liu.resetWork ≠ none → s.sfe.quiesce = true →
      (∀ r, ∃ u, exec (.exposureRequest r) s = .next u
        ∧ u = { s with prc := u.prc, cru := u.cru, inFlight := s.inFlight.erase (.exposureRequest r) }
        ∧ u.prc = { s.prc with expReq := u.prc.expReq } ∧ u.cru = { s.cru with frameReq := u.cru.frameReq })
      ∧ ∀ q, s.sfe.held = none → s.sfe.readout = some q →
        let stopped : State := { s with
          sfe := { s.sfe with readout := none, state := if s.sfe.mark then .held else .idle }
          fst := { s.fst with port := s.fst.port.withoutSfe }
          inFlight := s.inFlight ++ [.quiesceAck .sfe true] }
        (∀ k, q.kind = .flush k → exec .flushCompletion s = .next stopped)
        ∧ (∀ e m temp frame, q.kind = .frame e m temp → exec (.readoutCompletion frame) s = .next { stopped with
            sfe := { stopped.sfe with
              hist := if e.req.target = .histogram then Vector.replicate 64 0 else s.sfe.hist } })
        ∧ ∃ u, exec .readoutTimeout s = .next u ∧ s.noticesOnly u
            ∧ u = { stopped with
              liu := u.liu, sfe := { s.sfe with readout := none, state := .fault, cause := some .readout } })
    ∧ (s.liu.resetWork ≠ none → s.trs.quiesce = true →
      (∀ c k, (k = c ∧ ((∃ p, c = .loadRequest .prc p) ∨ ∃ g, c = .moveRequest .prc g))
          ∨ (k = .unloadRequest .prc true ∧ ∃ seen, c = .unloadRequest .prc seen) →
        exec c s = .next { s with
          prc := { s.prc with trsReq := none, recoveryJob := none }, inFlight := s.inFlight.erase k })
      ∧ (∀ c k, (k = c ∧ ((∃ p, c = .loadRequest .cru p) ∨ ∃ g, c = .moveRequest .cru g))
          ∨ (k = .unloadRequest .cru true ∧ ∃ seen, c = .unloadRequest .cru seen) →
        exec c s = .next { s with inFlight := s.inFlight.erase k ++ [.calTransportFault .refused] })
      ∧ (∀ c p, s.trs.state = .loading → s.trs.work = some (.load c p) → s.trs.interlock = .none →
        exec (.loadLegCompletion true) s = .next { s with
          trs := { s.trs with
            state := .atRest, stage := .carrier p, pos := .transfer, work := none, motionTimer := none
            magazine := s.trs.magazine.setIfInBounds p .out }
          inFlight := s.inFlight ++ [match c with | .prc => .loadComplete | .cru => .flatLoadComplete]
            ++ [.quiesceAck .trs true] })
      ∧ (∀ c g, s.trs.state = .moving → s.trs.work = some (.move c g) →
        let pos : StagePos := match g with
          | .point x y => .point x y
          | .aperture => .aperture
        (s.liu.params.settleMs ≠ 0 → exec .moveLegCompletion s = .next { s with
          trs := { s.trs with
            state := .settling, pos := pos, motionTimer := none, settleTimer := some s.liu.params.settleMs } })
        ∧ (s.liu.params.settleMs = 0 → s.trs.interlock = .none → exec .moveLegCompletion s = .next { s with
          trs := { s.trs with state := .atRest, pos := pos, work := none, motionTimer := none, settleTimer := none }
          inFlight := s.inFlight ++ [match c with | .prc => .settleCompletion | .cru => .flatSettleComplete]
            ++ [.quiesceAck .trs true] }))
      ∧ (∀ c g, s.trs.state = .settling → s.trs.work = some (.move c g) → s.trs.interlock = .none →
        exec .settleTimerExpiry s = .next { s with
          trs := { s.trs with state := .atRest, work := none, motionTimer := none, settleTimer := none }
          inFlight := s.inFlight ++ [match c with | .prc => .settleCompletion | .cru => .flatSettleComplete]
            ++ [.quiesceAck .trs true] })
      ∧ (∀ c p, s.trs.state = .unloading → s.trs.work = some (.unload c) → s.trs.interlock = .none →
        s.trs.stage = .carrier p → ∃ u, exec .unloadLegCompletion s = .next u ∧ s.noticesOnly u
          ∧ u = { s with
            liu := u.liu
            trs := { s.trs with
              state := .empty, stage := .none, pos := .transfer, work := none, motionTimer := none
              magazine := s.trs.magazine.setIfInBounds p .present }
            inFlight := s.inFlight ++ [match c with | .prc => .unloadComplete | .cru => .flatUnloadComplete]
              ++ [.quiesceAck .trs true] })
      ∧ (∀ p, s.trs.state = .homing .unload → s.trs.stage = .carrier p → exec .homeUnloadLegDone s = .next { s with
          trs := { s.trs with
            state := .homingStopped .unload, stage := .none, pos := .transfer, motionTimer := none
            magazine := s.trs.magazine.setIfInBounds p .present }
          inFlight := s.inFlight ++ [.quiesceAck .trs true] })
      ∧ (s.trs.state = .homing .axis → exec .homeAxisLegDone s = .next { s with
          trs := { s.trs with state := .homingStopped .axis, pos := .transfer, motionTimer := none }
          inFlight := s.inFlight ++ [.quiesceAck .trs true] })
      ∧ (∀ present, s.trs.state = .homing .scan → s.trs.stage = .none → s.trs.heldLoad = none →
          ∃ table : Vector MagEntry 20,
            (∀ p, p < 20 → table[p]? = if s.trs.magazine[p]? = some .out then some .out
                else some (if present.getLsbD p then .present else .vacant))
            ∧ exec (.homeScanLegDone present) s = .next ({ s with
              trs := { s.trs with state := .empty, homed := true, motionTimer := none, magazine := table }
              inFlight := s.inFlight ++ [Instr.trsEmptyReport, .quiesceAck .trs true] }.notice
                (.transportState .empty true .none (some table))))
      ∧ (s.trs.motionTimer ≠ none → ∀ seen l, ∃ u, exec (.motionTimeout seen l) s = .next u
          ∧ u.trs.state = .fault .timeout ∧ .quiesceAck .trs true ∈ u.inFlight))
    ∧ (s.liu.resetWork ≠ none → s.bme.quiesce = true →
      (exec .mergeTakeUp s = .next { s with inFlight := s.inFlight.erase .mergeTakeUp })
      ∧ (∀ t, t ∈ s.bme.queue → exec (.bmeAbandon t) s = .next { s with
          bme := { s.bme with queue := s.bme.queue.filter fun x => decide (x ≠ t) }
          inFlight := s.inFlight.erase (.bmeAbandon t) })
      ∧ (∀ w d, s.bme.state = .merging ∨ s.bme.state = .abandoning → s.bme.merge = some w → w.ctx.dest = some d →
          s.fst.slot d = some (.dest w.tile) → s.fst.memoryLaw → w.band < 60 → s.fst.mergeReadable w.ctx →
          ∃ f : Fst, exec .bandCompletion s = .next { s with
              fst := f
              bme := { s.bme with state := .idle, merge := none, cal := none }
              inFlight := s.inFlight ++ [.quiesceAck .bme true] }
            ∧ f = { s.fst with planes := f.planes }
            ∧ ∀ i row col, col < 5120 → f.pixel i row col = s.fst.mergeWritten w i row col)
      ∧ (∀ w, s.bme.state = .calBusy → s.bme.cal = some w → exec .bandCompletion s = .next { s with
          fst := (s.fst.calBand s.cru.dark w).1
          bme := { s.bme with state := .idle, merge := none, cal := none }
          inFlight := s.inFlight ++ [.quiesceAck .bme true] }))
    ∧ (s.liu.resetWork ≠ none →
      (∀ r w, s.bpl.work = some w → w.planner = r → exec (.planWithdraw r) s = .next { s with
          bpl := { work := none }
          inFlight := s.inFlight.erase (.planWithdraw r) ++ [.exposureWithdraw (.bpl r), .quiesceAck .bpl true] })
      ∧ (∀ e rest h, s.sou.quiesce = true → s.sou.queue = e :: rest → s.sou.transfer = some h →
          s.sou.dropHead = false → h.index ≠ 59 → exec .stripeEnd s = .next { s with
            sou := { s.sou with
              transfer := none, index := s.sou.index + 1
              taken := some { header := h
                              payload := if s.fst.slot e.slot = some .streaming then
                                  runsSlice (h.index * 327680) 327680 (s.fst.plane e.slot)
                                else [] } }
            inFlight := s.inFlight ++ [.quiesceAck .sou true] }))

/-- R160, R161: what the application of a reset leaves, at the last acknowledgement or at the reset timer's expiry. A
soft reset keeps the parameters, the weight table, the references with their REF slots, and TRS as it stands when TRS
has acknowledged, EMPTY or UNHOMED where HOME has stopped after a leg; of a TRS that was forced every magazine entry
is UNKNOWN but that of the carrier seen on the stage; BLU is in STANDBY with its drives 0 and all that it holds
dropped, its idle timer runs from lamp_idle_s, and its throttle flag, panel temperature and samples stay (R136); SFE
initialises the sensor, with an empty histogram (R112, R125). A full reset leaves every block at its power-on values,
but for the link and its replies, and the sensor, which is initialised; the planes stay as they are (R100). What the
stage record of a forced TRS becomes is log entry 24, and the values a block has before its first events are log entry
21. (What is on its way between blocks: log entry 1.) -/
def Obligations.ResetApplied : Prop :=
  ∀ (s : State) (c : Instr) (w : ResetWork) (forced : List Block) (seen : Bool), s.liu.resetWork = some w →
    (∃ b, c = .quiesceAck b seen ∧ w.waiting = [b] ∧ forced = []) ∨ (c = .resetTimeout seen ∧ forced = w.waiting) →
    let lamp (idle : Nat) : Blu :=
      { state := .standby, requested := 0, commanded := 0, throttle := false, panelTemp := 0, history := [], clock := 0
        settleCount := 0, settleTimer := none, zeroCount := 0, lit := 0, ask := none, grant := none
        driveChanged := false, pendingDrive := none, remembered := none, deferred := false, quiesce := false
        idleTimer := if idle = 0 then none else some idle }
    ∃ t, exec c s = .next t
      ∧ t.prc = Prc.reset ∧ t.bpl.work = none ∧ t.bme = Bme.reset ∧ t.inFlight = [] ∧ t.pending = s.pending
      ∧ t.fst.planes = s.fst.planes ∧ t.fst.wait = none ∧ t.fst.port = Port.reset ∧ t.fst.quiesce = false
      ∧ t.sou = { Sou.reset with taken := s.sou.taken }
      ∧ t.sfe.state = .fault ∧ t.sfe.reinit = true ∧ t.sfe.cause = none ∧ t.sfe.held = none
      ∧ t.sfe.exposing = none ∧ t.sfe.readout = none ∧ t.sfe.hist = Vector.replicate 64 0 ∧ t.sfe.quiesce = false
      ∧ t.liu.attached = s.liu.attached ∧ t.liu.resetWork = none ∧ t.liu.notices = [] ∧ t.liu.overflow = 0
      ∧ t.liu.replies = s.liu.replies ++ (if w.replyLost then [] else
          [{ tag := w.tag, status := .ok, kind := .reset, body := .reset w.kind forced .idle }]) ++ w.busy
      ∧ (w.kind = .full → t.liu.params = {} ∧ t.liu.weights = defaultWeights ∧ t.liu.sticky = {}
          ∧ t.liu.noticeSeq = 0 ∧ t.cru = Cru.reset ∧ t.trs = Trs.reset seen ∧ t.sfe.temp = 0 ∧ t.sfe.mark = false
          ∧ t.blu = lamp t.liu.params.lampIdleS ∧ ∀ i, i < 48 → t.fst.slot i = some .free)
      ∧ (w.kind = .soft → t.liu.params = s.liu.params ∧ t.liu.weights = s.liu.weights ∧ t.liu.sticky = s.liu.sticky
          ∧ t.liu.noticeSeq = s.liu.noticeSeq ∧ t.cru = { Cru.reset with dark := s.cru.dark, profiles := s.cru.profiles }
          ∧ t.sfe.temp = s.sfe.temp ∧ t.sfe.mark = s.sfe.mark
          ∧ t.blu = { lamp s.liu.params.lampIdleS with
            throttle := s.blu.throttle, panelTemp := s.blu.panelTemp, history := s.blu.history, clock := s.blu.clock }
          ∧ (∀ i x, s.fst.slot i = some x → t.fst.slot i = some (match x with
              | .ref n => .ref n
              | _ => .free))
          ∧ (Block.trs ∉ forced →
              t.trs.magazine = s.trs.magazine ∧ t.trs.stage = s.trs.stage ∧ t.trs.pos = s.trs.pos
              ∧ t.trs.interlock = .none ∧ t.trs.quiesce = false
              ∧ (s.trs.state = .empty ∨ s.trs.state = .atRest ∨ s.trs.state = .unhomed
                  ∨ (∃ f, s.trs.state = .fault f) → t.trs.state = s.trs.state ∧ t.trs.homed = s.trs.homed)
              ∧ (s.trs.state = .settling → t.trs.state = .atRest)
              ∧ (s.trs.state = .homingStopped .unload →
                  t.trs.state = (if s.trs.homed then .empty else .unhomed) ∧ t.trs.homed = s.trs.homed)
              ∧ (s.trs.state = .homingStopped .axis → t.trs.state = .unhomed ∧ t.trs.homed = false))
          ∧ (Block.trs ∈ forced → t.trs.state = .unhomed ∧ t.trs.homed = false ∧ t.trs.pos = .unknown
              ∧ (seen = true → t.trs.stage = match s.trs.stage, s.trs.work with
                  | .none, some (.load _ p) => .carrier p
                  | x, _ => x)
              ∧ (seen = false → t.trs.stage = .none)
              ∧ ∀ p, p < 20 → t.trs.magazine[p]? = some (if t.trs.stage = .carrier p then .out else .unknown)))

/-- R42, R156, R159, R161: power-on, attach and detach. The values after power-on that the rules leave open are log
entry 21, the lamp's idle timer runs then by log entry 26, and the TRANSPORT_STATE notice of the entry into UNHOMED is
queued beside them by log entry 30. At attach SOU looks at its conditions for a stripe, as at STRIPE_START. At detach
the replies and the notices not yet sent are discarded, in a reset the replies kept and its own to come as well, and
the RUN_STATE notices of the hold are the first that are queued after; the credits are 0, and a stripe in transfer is
taken as not sent and will be sent again under RESTART. A RUNNING run goes to HOLDING, and on to HELD(LINK) where
nothing is outstanding. (A head tile that waited for its stripe's end only to leave the queue leaves at the detach: log
entry 29. What is on its way between blocks: log entry 1.) -/
def Obligations.PowerAndLink : Prop :=
  ∀ s : State,
    (∀ seen, let stage : StageRecord := if seen then .unknownCarrier else .none
      exec (.powerOn seen) s = .next ({ State.reset with
        trs := { State.reset.trs with stage := stage }
        freeCount := s.freeCount, pending := s.pending }.notice (.transportState .unhomed false stage none)))
    ∧ (s.sou.credits = 0 → exec .attach s = .next { s with liu := { s.liu with attached := true } })
    ∧ (.stripeStart ∉ s.inFlight →
      exec .attach s = exec .stripeStart { s with liu := { s.liu with attached := true } })
    ∧ (s.liu.attached = false → exec .detach s = .next s)
    ∧ (s.liu.attached = true →
      let runNotice (r : RunState) : Notice := .runState r s.prc.active s.prc.queue.head?
      let reached : Bool := s.prc.trsReq.isNone && s.prc.unloadNext.isNone && s.prc.planReq.isNone
        && s.prc.expReq.isNone && (s.prc.firstTile Tile.unexposed).isNone
      let run : RunState := match s.prc.run with
        | .running => if reached then .held .link else .holding
        | .idle => .held .link
        | .held c => if c = .transport ∨ c = .sensor ∨ c = .lamp then .held c else .held .link
        | .holding => .holding
        | .quiescing => .quiescing
      let told : List Notice := match s.prc.run with
        | .running => runNotice .holding :: if reached then [runNotice (.held .link)] else []
        | .idle => [runNotice (.held .link)]
        | .held c => if c = .transport ∨ c = .sensor ∨ c = .lamp ∨ c = .link then [] else [runNotice (.held .link)]
        | .holding | .quiescing => []
      let detached : State := { s with
        liu := { s.liu with
          attached := false, replies := [], overflow := 0
          notices := told.filter fun n => n.enabled s.liu.params.noticeEnable
          resetWork := s.liu.resetWork.map fun w => { w with busy := [], replyLost := true } }
        prc := { s.prc with
          run := run
          holdByLink := s.prc.holdByLink || decide (s.prc.run = .running) || decide (s.prc.run = .holding) }
        sou := { s.sou with credits := 0 } }
      let stopped : State := { detached with
        inFlight := s.inFlight ++ (if s.sou.quiesce && s.liu.resetWork.isSome then [.quiesceAck .sou true] else []) }
      (s.sou.transfer = none → exec .detach s = .next detached)
      ∧ (s.sou.transfer ≠ none → s.sou.dropHead = false → exec .detach s
          = .next { stopped with sou := { s.sou with credits := 0, transfer := none, restart := true } })
      ∧ (∀ e rest, s.sou.transfer ≠ none → s.sou.dropHead = true → s.sou.queue = e :: rest →
          s.fst.slot e.slot = some .streaming →
          (s.fst.wait = none → s.cru.state ≠ .waiting → exec .detach s = .next { stopped with
            sou := { s.sou with
              queue := rest, credits := 0, transfer := none, restart := false, index := 0, started := false
              dropHead := false }
            fst := { s.fst with slots := s.fst.slots.setIfInBounds e.slot .free } })
          ∧ (s.sou.quiesce = false → s.fst.wait = none ∨ s.fst.quiesce = false →
            s.goesOn .detach s.unwaited (fun u => { u with cru := s.cru }) (s.fst.asksAgain ++ [.calworkGrant]))))
end

