-- ==== Sys2Proof/Laws/State.lean ====
section
/-! SUPPORT. Beside State: what each named update of the record leaves and what it puts in the fields it changes. An
`_frame` lemma lists every field that its operation leaves for every argument; the changed fields have a lemma of
their own. With these, no later proof unfolds an update. -/

namespace Sys2Proof.Machine

set_option linter.all false

/-! ## The fields that an update changes -/

@[simp] theorem Answer.okay_state (s : State) : (Answer.okay s).state = s := rfl
@[simp] theorem Answer.okay_status (s : State) : (Answer.okay s).status = .ok := rfl
@[simp] theorem Answer.okay_body (s : State) : (Answer.okay s).body = .none := rfl
@[simp] theorem Answer.refuse_state (s : State) (e : Status) : (Answer.refuse s e).state = s := rfl
@[simp] theorem Answer.refuse_status (s : State) (e : Status) : (Answer.refuse s e).status = e := rfl
@[simp] theorem Answer.refuse_body (s : State) (e : Status) : (Answer.refuse s e).body = .none := rfl

@[simp] theorem State.emit_inFlight (s : State) (c : Instr) : (s.emit c).inFlight = s.inFlight ++ [c.asMessage] := rfl
@[simp] theorem State.deliver_inFlight (s : State) (c : Instr) :
    (s.deliver c).inFlight = s.inFlight.erase c.asMessage := rfl
@[simp] theorem State.recall_inFlight (s : State) (p : Instr → Bool) :
    (s.recall p).inFlight = s.inFlight.filter fun c => !p c := rfl
@[simp] theorem State.notice_liu (s : State) (n : Notice) : (s.notice n).liu = s.liu.raise n := rfl
@[simp] theorem State.setSlot_fst (s : State) (i : Nat) (x : SlotState) : (s.setSlot i x).fst = s.fst.setSlot i x := rfl
@[simp] theorem State.stopIdle_blu (s : State) :
    s.stopIdle.blu = { s.blu with idleTimer := none, deferred := false } := rfl

@[simp] theorem Prc.mapJob_frame (p : Prc) (id : Nat) (f : Job → Job) :
    (p.mapJob id f).jobs = p.jobs.map (fun j => if j.id = id then f j else j) ∧
    { p.mapJob id f with jobs := p.jobs } = p := ⟨rfl, rfl⟩

@[simp] theorem Fst.setSlot_frame (f : Fst) (i : Nat) (x : SlotState) :
    (f.setSlot i x).slots = f.slots.setIfInBounds i x ∧ (f.setSlot i x).wait = f.wait ∧
    (f.setSlot i x).port = f.port ∧ (f.setSlot i x).quiesce = f.quiesce ∧ (f.setSlot i x).planes = f.planes :=
  ⟨rfl, rfl, rfl, rfl, rfl⟩

@[simp] theorem Fst.setSlots_frame (f : Fst) (l : List Nat) (x : SlotState) :
    (f.setSlots l x).wait = f.wait ∧ (f.setSlots l x).port = f.port ∧
    (f.setSlots l x).quiesce = f.quiesce ∧ (f.setSlots l x).planes = f.planes := by
  unfold Fst.setSlots
  induction l generalizing f with
  | nil => simp
  | cons i l ih => simp [List.foldl_cons, ih]

@[simp] theorem Fst.takeCalwork_frame (f : Fst) (l : List (Nat × CalRole)) :
    (f.takeCalwork l).wait = f.wait ∧ (f.takeCalwork l).port = f.port ∧
    (f.takeCalwork l).quiesce = f.quiesce ∧ (f.takeCalwork l).planes = f.planes := by
  unfold Fst.takeCalwork
  induction l generalizing f with
  | nil => simp
  | cons i l ih => simp [List.foldl_cons, ih]

/-! ## The fields that an update leaves -/

@[simp] theorem State.emit_frame (s : State) (c : Instr) :
    (s.emit c).liu = s.liu ∧ (s.emit c).prc = s.prc ∧ (s.emit c).bpl = s.bpl ∧ (s.emit c).fst = s.fst ∧
    (s.emit c).sfe = s.sfe ∧ (s.emit c).blu = s.blu ∧ (s.emit c).trs = s.trs ∧ (s.emit c).bme = s.bme ∧
    (s.emit c).cru = s.cru ∧ (s.emit c).sou = s.sou ∧ (s.emit c).freeCount = s.freeCount ∧
    (s.emit c).pending = s.pending :=
    by simp [State.emit]

@[simp] theorem State.deliver_frame (s : State) (c : Instr) :
    (s.deliver c).liu = s.liu ∧ (s.deliver c).prc = s.prc ∧ (s.deliver c).bpl = s.bpl ∧
    (s.deliver c).fst = s.fst ∧ (s.deliver c).sfe = s.sfe ∧ (s.deliver c).blu = s.blu ∧
    (s.deliver c).trs = s.trs ∧ (s.deliver c).bme = s.bme ∧ (s.deliver c).cru = s.cru ∧
    (s.deliver c).sou = s.sou ∧ (s.deliver c).freeCount = s.freeCount ∧ (s.deliver c).pending = s.pending :=
    by simp [State.deliver]

@[simp] theorem State.recall_frame (s : State) (p : Instr → Bool) :
    (s.recall p).liu = s.liu ∧ (s.recall p).prc = s.prc ∧ (s.recall p).bpl = s.bpl ∧
    (s.recall p).fst = s.fst ∧ (s.recall p).sfe = s.sfe ∧ (s.recall p).blu = s.blu ∧
    (s.recall p).trs = s.trs ∧ (s.recall p).bme = s.bme ∧ (s.recall p).cru = s.cru ∧
    (s.recall p).sou = s.sou ∧ (s.recall p).freeCount = s.freeCount ∧ (s.recall p).pending = s.pending :=
    by simp [State.recall]

@[simp] theorem State.notice_frame (s : State) (n : Notice) :
    (s.notice n).prc = s.prc ∧ (s.notice n).bpl = s.bpl ∧ (s.notice n).fst = s.fst ∧
    (s.notice n).sfe = s.sfe ∧ (s.notice n).blu = s.blu ∧ (s.notice n).trs = s.trs ∧
    (s.notice n).bme = s.bme ∧ (s.notice n).cru = s.cru ∧ (s.notice n).sou = s.sou ∧
    (s.notice n).inFlight = s.inFlight ∧ (s.notice n).freeCount = s.freeCount ∧
    (s.notice n).pending = s.pending :=
    by simp [State.notice]

@[simp] theorem State.lampNotice_frame (s : State) :
    s.lampNotice.prc = s.prc ∧ s.lampNotice.bpl = s.bpl ∧ s.lampNotice.fst = s.fst ∧
    s.lampNotice.sfe = s.sfe ∧ s.lampNotice.blu = s.blu ∧ s.lampNotice.trs = s.trs ∧
    s.lampNotice.bme = s.bme ∧ s.lampNotice.cru = s.cru ∧ s.lampNotice.sou = s.sou ∧
    s.lampNotice.inFlight = s.inFlight ∧ s.lampNotice.freeCount = s.freeCount ∧
    s.lampNotice.pending = s.pending :=
    by simp [State.lampNotice]

@[simp] theorem State.sensorNotice_frame (s : State) :
    s.sensorNotice.prc = s.prc ∧ s.sensorNotice.bpl = s.bpl ∧ s.sensorNotice.fst = s.fst ∧
    s.sensorNotice.sfe = s.sfe ∧ s.sensorNotice.blu = s.blu ∧ s.sensorNotice.trs = s.trs ∧
    s.sensorNotice.bme = s.bme ∧ s.sensorNotice.cru = s.cru ∧ s.sensorNotice.sou = s.sou ∧
    s.sensorNotice.inFlight = s.inFlight ∧ s.sensorNotice.freeCount = s.freeCount ∧
    s.sensorNotice.pending = s.pending :=
    by simp [State.sensorNotice]

@[simp] theorem State.transportNotice_frame (s : State) (scan : Bool) :
    (s.transportNotice scan).prc = s.prc ∧ (s.transportNotice scan).bpl = s.bpl ∧
    (s.transportNotice scan).fst = s.fst ∧ (s.transportNotice scan).sfe = s.sfe ∧
    (s.transportNotice scan).blu = s.blu ∧ (s.transportNotice scan).trs = s.trs ∧
    (s.transportNotice scan).bme = s.bme ∧ (s.transportNotice scan).cru = s.cru ∧
    (s.transportNotice scan).sou = s.sou ∧ (s.transportNotice scan).inFlight = s.inFlight ∧
    (s.transportNotice scan).freeCount = s.freeCount ∧ (s.transportNotice scan).pending = s.pending :=
    by simp [State.transportNotice]

@[simp] theorem State.mapTile_frame (s : State) (t : TileRef) (f : Tile → Tile) :
    (s.mapTile t f).liu = s.liu ∧ (s.mapTile t f).bpl = s.bpl ∧ (s.mapTile t f).fst = s.fst ∧
    (s.mapTile t f).sfe = s.sfe ∧ (s.mapTile t f).blu = s.blu ∧ (s.mapTile t f).trs = s.trs ∧
    (s.mapTile t f).bme = s.bme ∧ (s.mapTile t f).cru = s.cru ∧ (s.mapTile t f).sou = s.sou ∧
    (s.mapTile t f).inFlight = s.inFlight ∧ (s.mapTile t f).freeCount = s.freeCount ∧
    (s.mapTile t f).pending = s.pending :=
    by unfold State.mapTile; (repeat' split) <;> simp

@[simp] theorem State.setJob_frame (s : State) (id : Nat) (st : JobState) (out : Option JobOutcome) :
    (s.setJob id st out).bpl = s.bpl ∧ (s.setJob id st out).fst = s.fst ∧ (s.setJob id st out).sfe = s.sfe ∧
    (s.setJob id st out).blu = s.blu ∧ (s.setJob id st out).trs = s.trs ∧ (s.setJob id st out).bme = s.bme ∧
    (s.setJob id st out).cru = s.cru ∧ (s.setJob id st out).sou = s.sou ∧
    (s.setJob id st out).inFlight = s.inFlight ∧ (s.setJob id st out).freeCount = s.freeCount ∧
    (s.setJob id st out).pending = s.pending :=
    by unfold State.setJob; (repeat' split) <;> simp

@[simp] theorem State.moveTile_frame (s : State) (t : TileRef) (st : TileState) :
    (s.moveTile t st).liu = s.liu ∧ (s.moveTile t st).bpl = s.bpl ∧ (s.moveTile t st).fst = s.fst ∧
    (s.moveTile t st).sfe = s.sfe ∧ (s.moveTile t st).blu = s.blu ∧ (s.moveTile t st).trs = s.trs ∧
    (s.moveTile t st).bme = s.bme ∧ (s.moveTile t st).cru = s.cru ∧ (s.moveTile t st).sou = s.sou ∧
    (s.moveTile t st).inFlight = s.inFlight ∧ (s.moveTile t st).freeCount = s.freeCount ∧
    (s.moveTile t st).pending = s.pending :=
    by simp [State.moveTile]

@[simp] theorem State.endTile_frame (s : State) (t : TileRef) (sent : Bool) :
    (s.endTile t sent).bpl = s.bpl ∧ (s.endTile t sent).fst = s.fst ∧ (s.endTile t sent).sfe = s.sfe ∧
    (s.endTile t sent).blu = s.blu ∧ (s.endTile t sent).trs = s.trs ∧ (s.endTile t sent).bme = s.bme ∧
    (s.endTile t sent).cru = s.cru ∧ (s.endTile t sent).sou = s.sou ∧
    (s.endTile t sent).inFlight = s.inFlight ∧ (s.endTile t sent).freeCount = s.freeCount ∧
    (s.endTile t sent).pending = s.pending :=
    by unfold State.endTile; (repeat' split) <;> simp

@[simp] theorem State.drainJob_frame (s : State) (id : Nat) :
    (s.drainJob id).bpl = s.bpl ∧ (s.drainJob id).fst = s.fst ∧ (s.drainJob id).sfe = s.sfe ∧
    (s.drainJob id).blu = s.blu ∧ (s.drainJob id).trs = s.trs ∧ (s.drainJob id).bme = s.bme ∧
    (s.drainJob id).cru = s.cru ∧ (s.drainJob id).sou = s.sou ∧ (s.drainJob id).inFlight = s.inFlight ∧
    (s.drainJob id).freeCount = s.freeCount ∧ (s.drainJob id).pending = s.pending :=
    by unfold State.drainJob; (repeat' split) <;> simp

@[simp] theorem State.runNotice_frame (s : State) :
    s.runNotice.prc = s.prc ∧ s.runNotice.bpl = s.bpl ∧ s.runNotice.fst = s.fst ∧ s.runNotice.sfe = s.sfe ∧
    s.runNotice.blu = s.blu ∧ s.runNotice.trs = s.trs ∧ s.runNotice.bme = s.bme ∧ s.runNotice.cru = s.cru ∧
    s.runNotice.sou = s.sou ∧ s.runNotice.inFlight = s.inFlight ∧ s.runNotice.freeCount = s.freeCount ∧
    s.runNotice.pending = s.pending :=
    by simp [State.runNotice]

@[simp] theorem State.setRun_frame (s : State) (r : RunState) :
    (s.setRun r).bpl = s.bpl ∧ (s.setRun r).fst = s.fst ∧ (s.setRun r).sfe = s.sfe ∧
    (s.setRun r).blu = s.blu ∧ (s.setRun r).trs = s.trs ∧ (s.setRun r).bme = s.bme ∧
    (s.setRun r).cru = s.cru ∧ (s.setRun r).sou = s.sou ∧ (s.setRun r).inFlight = s.inFlight ∧
    (s.setRun r).freeCount = s.freeCount ∧ (s.setRun r).pending = s.pending :=
    by unfold State.setRun; (repeat' split) <;> simp

@[simp] theorem State.goHeld_frame (s : State) (c : HoldCause) :
    (s.goHeld c).bpl = s.bpl ∧ (s.goHeld c).fst = s.fst ∧ (s.goHeld c).sfe = s.sfe ∧
    (s.goHeld c).blu = s.blu ∧ (s.goHeld c).trs = s.trs ∧ (s.goHeld c).bme = s.bme ∧
    (s.goHeld c).cru = s.cru ∧ (s.goHeld c).sou = s.sou ∧ (s.goHeld c).inFlight = s.inFlight ∧
    (s.goHeld c).freeCount = s.freeCount ∧ (s.goHeld c).pending = s.pending :=
    by unfold State.goHeld; (repeat' split) <;> simp

@[simp] theorem State.setSlot_frame (s : State) (i : Nat) (x : SlotState) :
    (s.setSlot i x).liu = s.liu ∧ (s.setSlot i x).prc = s.prc ∧ (s.setSlot i x).bpl = s.bpl ∧
    (s.setSlot i x).sfe = s.sfe ∧ (s.setSlot i x).blu = s.blu ∧ (s.setSlot i x).trs = s.trs ∧
    (s.setSlot i x).bme = s.bme ∧ (s.setSlot i x).cru = s.cru ∧ (s.setSlot i x).sou = s.sou ∧
    (s.setSlot i x).inFlight = s.inFlight ∧ (s.setSlot i x).freeCount = s.freeCount ∧
    (s.setSlot i x).pending = s.pending :=
    by simp [State.setSlot]

@[simp] theorem State.grantSlots_frame (s : State) (t : TileRef) (n : Nat) :
    (s.grantSlots t n).liu = s.liu ∧ (s.grantSlots t n).prc = s.prc ∧ (s.grantSlots t n).bpl = s.bpl ∧
    (s.grantSlots t n).sfe = s.sfe ∧ (s.grantSlots t n).blu = s.blu ∧ (s.grantSlots t n).trs = s.trs ∧
    (s.grantSlots t n).bme = s.bme ∧ (s.grantSlots t n).cru = s.cru ∧ (s.grantSlots t n).sou = s.sou ∧
    (s.grantSlots t n).freeCount = s.freeCount ∧ (s.grantSlots t n).pending = s.pending :=
    by simp [State.grantSlots]

@[simp] theorem State.grantWait_frame (s : State) :
    s.grantWait.liu = s.liu ∧ s.grantWait.prc = s.prc ∧ s.grantWait.bpl = s.bpl ∧ s.grantWait.sfe = s.sfe ∧
    s.grantWait.blu = s.blu ∧ s.grantWait.trs = s.trs ∧ s.grantWait.bme = s.bme ∧ s.grantWait.cru = s.cru ∧
    s.grantWait.sou = s.sou ∧ s.grantWait.freeCount = s.freeCount ∧ s.grantWait.pending = s.pending :=
    by unfold State.grantWait; (repeat' split) <;> simp

@[simp] theorem State.cruTest_frame (s : State) :
    s.cruTest.liu = s.liu ∧ s.cruTest.prc = s.prc ∧ s.cruTest.bpl = s.bpl ∧ s.cruTest.sfe = s.sfe ∧
    s.cruTest.blu = s.blu ∧ s.cruTest.trs = s.trs ∧ s.cruTest.bme = s.bme ∧ s.cruTest.sou = s.sou ∧
    s.cruTest.freeCount = s.freeCount ∧ s.cruTest.pending = s.pending :=
    by unfold State.cruTest; (repeat' split) <;> simp

@[simp] theorem State.afterFree_frame (s : State) :
    s.afterFree.liu = s.liu ∧ s.afterFree.prc = s.prc ∧ s.afterFree.bpl = s.bpl ∧ s.afterFree.sfe = s.sfe ∧
    s.afterFree.blu = s.blu ∧ s.afterFree.trs = s.trs ∧ s.afterFree.bme = s.bme ∧ s.afterFree.sou = s.sou ∧
    s.afterFree.freeCount = s.freeCount ∧ s.afterFree.pending = s.pending :=
    by simp [State.afterFree]

@[simp] theorem State.freeSlots_frame (s : State) (l : List Nat) :
    (s.freeSlots l).liu = s.liu ∧ (s.freeSlots l).prc = s.prc ∧ (s.freeSlots l).bpl = s.bpl ∧
    (s.freeSlots l).sfe = s.sfe ∧ (s.freeSlots l).blu = s.blu ∧ (s.freeSlots l).trs = s.trs ∧
    (s.freeSlots l).bme = s.bme ∧ (s.freeSlots l).sou = s.sou ∧ (s.freeSlots l).freeCount = s.freeCount ∧
    (s.freeSlots l).pending = s.pending :=
    by simp [State.freeSlots]

@[simp] theorem State.startIdle_frame (s : State) :
    s.startIdle.liu = s.liu ∧ s.startIdle.prc = s.prc ∧ s.startIdle.bpl = s.bpl ∧ s.startIdle.fst = s.fst ∧
    s.startIdle.sfe = s.sfe ∧ s.startIdle.trs = s.trs ∧ s.startIdle.bme = s.bme ∧ s.startIdle.cru = s.cru ∧
    s.startIdle.sou = s.sou ∧ s.startIdle.inFlight = s.inFlight ∧ s.startIdle.freeCount = s.freeCount ∧
    s.startIdle.pending = s.pending :=
    by unfold State.startIdle; (repeat' split) <;> simp

@[simp] theorem State.stopIdle_frame (s : State) :
    s.stopIdle.liu = s.liu ∧ s.stopIdle.prc = s.prc ∧ s.stopIdle.bpl = s.bpl ∧ s.stopIdle.fst = s.fst ∧
    s.stopIdle.sfe = s.sfe ∧ s.stopIdle.trs = s.trs ∧ s.stopIdle.bme = s.bme ∧ s.stopIdle.cru = s.cru ∧
    s.stopIdle.sou = s.sou ∧ s.stopIdle.inFlight = s.inFlight ∧ s.stopIdle.freeCount = s.freeCount ∧
    s.stopIdle.pending = s.pending :=
    by simp [State.stopIdle]

@[simp] theorem State.ack_frame (s : State) (b : Block) :
    (s.ack b).liu = s.liu ∧ (s.ack b).prc = s.prc ∧ (s.ack b).bpl = s.bpl ∧ (s.ack b).fst = s.fst ∧
    (s.ack b).sfe = s.sfe ∧ (s.ack b).blu = s.blu ∧ (s.ack b).trs = s.trs ∧ (s.ack b).bme = s.bme ∧
    (s.ack b).cru = s.cru ∧ (s.ack b).sou = s.sou ∧ (s.ack b).freeCount = s.freeCount ∧
    (s.ack b).pending = s.pending :=
    by unfold State.ack; (repeat' split) <;> simp

end Sys2Proof.Machine
end

