-- ==== Sys2Proof/Laws/Frames.lean ====
section
/-! SUPPORT. The fields that the operations of the blocks leave, whatever their arguments: one lemma for each
operation of Machine/Planner, FrameStore, Calibration, Output, Backlight, Transport, Sensor and Faults. -/

namespace Sys2Proof.Machine

set_option linter.all false

/-! ## Planner (BPL) -/

@[simp] theorem State.reportAttempt_frame (s : State) (r : Planner) (k : Nat) :
    (s.reportAttempt r k).liu = s.liu ∧ (s.reportAttempt r k).bpl = s.bpl ∧
    (s.reportAttempt r k).fst = s.fst ∧ (s.reportAttempt r k).sfe = s.sfe ∧
    (s.reportAttempt r k).blu = s.blu ∧ (s.reportAttempt r k).trs = s.trs ∧
    (s.reportAttempt r k).bme = s.bme ∧ (s.reportAttempt r k).cru = s.cru ∧
    (s.reportAttempt r k).sou = s.sou ∧ (s.reportAttempt r k).inFlight = s.inFlight ∧
    (s.reportAttempt r k).freeCount = s.freeCount ∧ (s.reportAttempt r k).pending = s.pending :=
    by unfold State.reportAttempt; (repeat' split) <;> simp

@[simp] theorem State.requestAttempt_frame (s : State) (r : Planner) (c : PlanCopies) (k : Nat) (e : PlanEntry) (last : Option AttemptResult) :
    (s.requestAttempt r c k e last).liu = s.liu ∧ (s.requestAttempt r c k e last).fst = s.fst ∧
    (s.requestAttempt r c k e last).sfe = s.sfe ∧ (s.requestAttempt r c k e last).blu = s.blu ∧
    (s.requestAttempt r c k e last).trs = s.trs ∧ (s.requestAttempt r c k e last).bme = s.bme ∧
    (s.requestAttempt r c k e last).cru = s.cru ∧ (s.requestAttempt r c k e last).sou = s.sou ∧
    (s.requestAttempt r c k e last).freeCount = s.freeCount ∧
    (s.requestAttempt r c k e last).pending = s.pending :=
    by simp [State.requestAttempt]

@[simp] theorem State.startMetering_frame (s : State) (r : Planner) (dSpan : Nat) :
    (s.startMetering r dSpan).liu = s.liu ∧ (s.startMetering r dSpan).fst = s.fst ∧
    (s.startMetering r dSpan).sfe = s.sfe ∧ (s.startMetering r dSpan).blu = s.blu ∧
    (s.startMetering r dSpan).trs = s.trs ∧ (s.startMetering r dSpan).bme = s.bme ∧
    (s.startMetering r dSpan).cru = s.cru ∧ (s.startMetering r dSpan).sou = s.sou ∧
    (s.startMetering r dSpan).freeCount = s.freeCount ∧ (s.startMetering r dSpan).pending = s.pending :=
    by simp [State.startMetering]

@[simp] theorem State.planRefused_frame (s : State) (r : Planner) :
    (s.planRefused r).liu = s.liu ∧ (s.planRefused r).bpl = s.bpl ∧ (s.planRefused r).fst = s.fst ∧
    (s.planRefused r).sfe = s.sfe ∧ (s.planRefused r).blu = s.blu ∧ (s.planRefused r).trs = s.trs ∧
    (s.planRefused r).bme = s.bme ∧ (s.planRefused r).cru = s.cru ∧ (s.planRefused r).sou = s.sou ∧
    (s.planRefused r).inFlight = s.inFlight ∧ (s.planRefused r).freeCount = s.freeCount ∧
    (s.planRefused r).pending = s.pending :=
    by unfold State.planRefused; (repeat' split) <;> simp

@[simp] theorem State.planRequested_frame (s : State) (r : Planner) :
    (s.planRequested r).liu = s.liu ∧ (s.planRequested r).fst = s.fst ∧ (s.planRequested r).sfe = s.sfe ∧
    (s.planRequested r).blu = s.blu ∧ (s.planRequested r).trs = s.trs ∧ (s.planRequested r).bme = s.bme ∧
    (s.planRequested r).cru = s.cru ∧ (s.planRequested r).sou = s.sou ∧
    (s.planRequested r).freeCount = s.freeCount ∧ (s.planRequested r).pending = s.pending :=
    by unfold State.planRequested; (repeat' split) <;> simp

@[simp] theorem State.bplIdle_frame (s : State) :
    s.bplIdle.liu = s.liu ∧ s.bplIdle.prc = s.prc ∧ s.bplIdle.fst = s.fst ∧ s.bplIdle.sfe = s.sfe ∧
    s.bplIdle.blu = s.blu ∧ s.bplIdle.trs = s.trs ∧ s.bplIdle.bme = s.bme ∧ s.bplIdle.cru = s.cru ∧
    s.bplIdle.sou = s.sou ∧ s.bplIdle.freeCount = s.freeCount ∧ s.bplIdle.pending = s.pending :=
    by simp [State.bplIdle]

@[simp] theorem State.planWithdrawn_frame (s : State) (r : Planner) :
    (s.planWithdrawn r).liu = s.liu ∧ (s.planWithdrawn r).prc = s.prc ∧ (s.planWithdrawn r).fst = s.fst ∧
    (s.planWithdrawn r).sfe = s.sfe ∧ (s.planWithdrawn r).blu = s.blu ∧ (s.planWithdrawn r).trs = s.trs ∧
    (s.planWithdrawn r).bme = s.bme ∧ (s.planWithdrawn r).cru = s.cru ∧ (s.planWithdrawn r).sou = s.sou ∧
    (s.planWithdrawn r).freeCount = s.freeCount ∧ (s.planWithdrawn r).pending = s.pending :=
    by unfold State.planWithdrawn; (repeat' split) <;> simp

@[simp] theorem State.sendPlan_frame (s : State) (w : Metering) (plan : List PlanEntry) (flags : PlanFlags) :
    (s.sendPlan w plan flags).liu = s.liu ∧ (s.sendPlan w plan flags).prc = s.prc ∧
    (s.sendPlan w plan flags).fst = s.fst ∧ (s.sendPlan w plan flags).sfe = s.sfe ∧
    (s.sendPlan w plan flags).blu = s.blu ∧ (s.sendPlan w plan flags).trs = s.trs ∧
    (s.sendPlan w plan flags).bme = s.bme ∧ (s.sendPlan w plan flags).cru = s.cru ∧
    (s.sendPlan w plan flags).sou = s.sou ∧ (s.sendPlan w plan flags).freeCount = s.freeCount ∧
    (s.sendPlan w plan flags).pending = s.pending :=
    by unfold State.sendPlan; (repeat' split) <;> simp

@[simp] theorem State.planFrom_frame (s : State) (w : Metering) (r : AttemptResult) (m : Nat) :
    (s.planFrom w r m).liu = s.liu ∧ (s.planFrom w r m).prc = s.prc ∧ (s.planFrom w r m).fst = s.fst ∧
    (s.planFrom w r m).sfe = s.sfe ∧ (s.planFrom w r m).blu = s.blu ∧ (s.planFrom w r m).trs = s.trs ∧
    (s.planFrom w r m).bme = s.bme ∧ (s.planFrom w r m).cru = s.cru ∧ (s.planFrom w r m).sou = s.sou ∧
    (s.planFrom w r m).freeCount = s.freeCount ∧ (s.planFrom w r m).pending = s.pending :=
    by simp [State.planFrom]

@[simp] theorem State.attemptDone_frame (s : State) (w : Metering) (m : Nat) :
    (s.attemptDone w m).liu = s.liu ∧ (s.attemptDone w m).fst = s.fst ∧ (s.attemptDone w m).sfe = s.sfe ∧
    (s.attemptDone w m).blu = s.blu ∧ (s.attemptDone w m).trs = s.trs ∧ (s.attemptDone w m).bme = s.bme ∧
    (s.attemptDone w m).cru = s.cru ∧ (s.attemptDone w m).sou = s.sou ∧
    (s.attemptDone w m).freeCount = s.freeCount ∧ (s.attemptDone w m).pending = s.pending :=
    by unfold State.attemptDone; dsimp only; (repeat' split) <;> simp

@[simp] theorem State.attemptCompleted_frame (s : State) (r : Planner) (attempt : Nat) (m : Nat) :
    (s.attemptCompleted r attempt m).liu = s.liu ∧ (s.attemptCompleted r attempt m).fst = s.fst ∧
    (s.attemptCompleted r attempt m).sfe = s.sfe ∧ (s.attemptCompleted r attempt m).blu = s.blu ∧
    (s.attemptCompleted r attempt m).trs = s.trs ∧ (s.attemptCompleted r attempt m).bme = s.bme ∧
    (s.attemptCompleted r attempt m).cru = s.cru ∧ (s.attemptCompleted r attempt m).sou = s.sou ∧
    (s.attemptCompleted r attempt m).freeCount = s.freeCount ∧
    (s.attemptCompleted r attempt m).pending = s.pending :=
    by unfold State.attemptCompleted; (repeat' split) <;> simp

/-! ## Frame store (FST) -/

@[simp] theorem State.servePort_frame (k : Nat) (s : State) :
    (State.servePort k s).liu = s.liu ∧ (State.servePort k s).prc = s.prc ∧
    (State.servePort k s).bpl = s.bpl ∧ (State.servePort k s).blu = s.blu ∧
    (State.servePort k s).trs = s.trs ∧ (State.servePort k s).bme = s.bme ∧
    (State.servePort k s).cru = s.cru ∧ (State.servePort k s).sou = s.sou ∧
    (State.servePort k s).inFlight = s.inFlight ∧ (State.servePort k s).freeCount = s.freeCount ∧
    (State.servePort k s).pending = s.pending := by
  induction k generalizing s with
  | zero => unfold State.servePort; simp
  | succ k ih =>
    unfold State.servePort; split
    · simp
    · dsimp only; split
      · simp
      · simp only [ih]; unfold State.readoutRefused; split <;> simp

@[simp] theorem State.changeSlot_frame (s : State) (slot : Nat) (c : SlotChange) (t : TileRef) :
    (s.changeSlot slot c t).liu = s.liu ∧ (s.changeSlot slot c t).prc = s.prc ∧
    (s.changeSlot slot c t).bpl = s.bpl ∧ (s.changeSlot slot c t).sfe = s.sfe ∧
    (s.changeSlot slot c t).blu = s.blu ∧ (s.changeSlot slot c t).trs = s.trs ∧
    (s.changeSlot slot c t).bme = s.bme ∧ (s.changeSlot slot c t).sou = s.sou ∧
    (s.changeSlot slot c t).freeCount = s.freeCount ∧ (s.changeSlot slot c t).pending = s.pending :=
    by unfold State.changeSlot; (repeat' split) <;> simp

@[simp] theorem State.admissionRefused_frame (s : State) (t : TileRef) :
    (s.admissionRefused t).liu = s.liu ∧ (s.admissionRefused t).bpl = s.bpl ∧ (s.admissionRefused t).fst = s.fst ∧
    (s.admissionRefused t).sfe = s.sfe ∧ (s.admissionRefused t).blu = s.blu ∧ (s.admissionRefused t).trs = s.trs ∧
    (s.admissionRefused t).bme = s.bme ∧ (s.admissionRefused t).cru = s.cru ∧ (s.admissionRefused t).sou = s.sou ∧
    (s.admissionRefused t).inFlight = s.inFlight ∧ (s.admissionRefused t).freeCount = s.freeCount ∧
    (s.admissionRefused t).pending = s.pending :=
    by simp [State.admissionRefused]

@[simp] theorem State.askSlots_frame (s : State) (t : TileRef) (n : Nat) :
    (s.askSlots t n).liu = s.liu ∧ (s.askSlots t n).bpl = s.bpl ∧ (s.askSlots t n).sfe = s.sfe ∧
    (s.askSlots t n).blu = s.blu ∧ (s.askSlots t n).trs = s.trs ∧ (s.askSlots t n).bme = s.bme ∧
    (s.askSlots t n).cru = s.cru ∧ (s.askSlots t n).sou = s.sou ∧ (s.askSlots t n).freeCount = s.freeCount ∧
    (s.askSlots t n).pending = s.pending :=
    by unfold State.askSlots; (repeat' split) <;> simp

@[simp] theorem State.withdrawAdmission_frame (s : State) (t : TileRef) :
    (s.withdrawAdmission t).liu = s.liu ∧ (s.withdrawAdmission t).prc = s.prc ∧
    (s.withdrawAdmission t).bpl = s.bpl ∧ (s.withdrawAdmission t).sfe = s.sfe ∧
    (s.withdrawAdmission t).blu = s.blu ∧ (s.withdrawAdmission t).trs = s.trs ∧
    (s.withdrawAdmission t).bme = s.bme ∧ (s.withdrawAdmission t).sou = s.sou ∧
    (s.withdrawAdmission t).freeCount = s.freeCount ∧ (s.withdrawAdmission t).pending = s.pending :=
    by unfold State.withdrawAdmission; (repeat' split) <;> simp

@[simp] theorem State.commitRefs_frame (s : State) (entries : List (Nat × RefName)) :
    (s.commitRefs entries).liu = s.liu ∧ (s.commitRefs entries).prc = s.prc ∧
    (s.commitRefs entries).bpl = s.bpl ∧ (s.commitRefs entries).sfe = s.sfe ∧
    (s.commitRefs entries).blu = s.blu ∧ (s.commitRefs entries).trs = s.trs ∧
    (s.commitRefs entries).bme = s.bme ∧ (s.commitRefs entries).sou = s.sou ∧
    (s.commitRefs entries).freeCount = s.freeCount ∧ (s.commitRefs entries).pending = s.pending :=
    by simp [State.commitRefs]

@[simp] theorem State.returnCalwork_frame (s : State) (l : List Nat) :
    (s.returnCalwork l).liu = s.liu ∧ (s.returnCalwork l).prc = s.prc ∧ (s.returnCalwork l).bpl = s.bpl ∧
    (s.returnCalwork l).sfe = s.sfe ∧ (s.returnCalwork l).blu = s.blu ∧ (s.returnCalwork l).trs = s.trs ∧
    (s.returnCalwork l).bme = s.bme ∧ (s.returnCalwork l).sou = s.sou ∧
    (s.returnCalwork l).freeCount = s.freeCount ∧ (s.returnCalwork l).pending = s.pending :=
    by simp [State.returnCalwork]

@[simp] theorem State.requestCalwork_frame (s : State) (k : CalKind) :
    (s.requestCalwork k).liu = s.liu ∧ (s.requestCalwork k).prc = s.prc ∧ (s.requestCalwork k).bpl = s.bpl ∧
    (s.requestCalwork k).sfe = s.sfe ∧ (s.requestCalwork k).blu = s.blu ∧ (s.requestCalwork k).trs = s.trs ∧
    (s.requestCalwork k).bme = s.bme ∧ (s.requestCalwork k).sou = s.sou ∧
    (s.requestCalwork k).freeCount = s.freeCount ∧ (s.requestCalwork k).pending = s.pending :=
    by unfold State.requestCalwork; dsimp only; (repeat' split) <;> simp

@[simp] theorem State.readoutRefused_frame (s : State) (u : PortUnit) :
    (s.readoutRefused u).liu = s.liu ∧ (s.readoutRefused u).prc = s.prc ∧ (s.readoutRefused u).bpl = s.bpl ∧
    (s.readoutRefused u).fst = s.fst ∧ (s.readoutRefused u).blu = s.blu ∧ (s.readoutRefused u).trs = s.trs ∧
    (s.readoutRefused u).bme = s.bme ∧ (s.readoutRefused u).cru = s.cru ∧ (s.readoutRefused u).sou = s.sou ∧
    (s.readoutRefused u).inFlight = s.inFlight ∧ (s.readoutRefused u).freeCount = s.freeCount ∧
    (s.readoutRefused u).pending = s.pending :=
    by unfold State.readoutRefused; (repeat' split) <;> simp

@[simp] theorem State.requestUnit_frame (s : State) (u : PortUnit) :
    (s.requestUnit u).liu = s.liu ∧ (s.requestUnit u).prc = s.prc ∧ (s.requestUnit u).bpl = s.bpl ∧
    (s.requestUnit u).blu = s.blu ∧ (s.requestUnit u).trs = s.trs ∧ (s.requestUnit u).bme = s.bme ∧
    (s.requestUnit u).cru = s.cru ∧ (s.requestUnit u).sou = s.sou ∧
    (s.requestUnit u).inFlight = s.inFlight ∧ (s.requestUnit u).freeCount = s.freeCount ∧
    (s.requestUnit u).pending = s.pending :=
    by unfold State.requestUnit; dsimp only; (repeat' split) <;> simp

@[simp] theorem State.finishUnit_frame (s : State) (u : PortUnit) :
    (s.finishUnit u).liu = s.liu ∧ (s.finishUnit u).prc = s.prc ∧ (s.finishUnit u).bpl = s.bpl ∧
    (s.finishUnit u).blu = s.blu ∧ (s.finishUnit u).trs = s.trs ∧ (s.finishUnit u).bme = s.bme ∧
    (s.finishUnit u).cru = s.cru ∧ (s.finishUnit u).sou = s.sou ∧ (s.finishUnit u).inFlight = s.inFlight ∧
    (s.finishUnit u).freeCount = s.freeCount ∧ (s.finishUnit u).pending = s.pending :=
    by unfold State.finishUnit; (repeat' split) <;> simp

@[simp] theorem State.unitDone_frame (s : State) :
    s.unitDone.liu = s.liu ∧ s.unitDone.prc = s.prc ∧ s.unitDone.bpl = s.bpl ∧ s.unitDone.blu = s.blu ∧
    s.unitDone.trs = s.trs ∧ s.unitDone.bme = s.bme ∧ s.unitDone.cru = s.cru ∧ s.unitDone.sou = s.sou ∧
    s.unitDone.inFlight = s.inFlight ∧ s.unitDone.freeCount = s.freeCount ∧
    s.unitDone.pending = s.pending :=
    by unfold State.unitDone; (repeat' split) <;> simp

/-! ## Calibration (CRU) -/

@[simp] theorem State.calEnd_frame (s : State) (r : CalResult) :
    (s.calEnd r).prc = s.prc ∧ (s.calEnd r).bpl = s.bpl ∧ (s.calEnd r).fst = s.fst ∧
    (s.calEnd r).sfe = s.sfe ∧ (s.calEnd r).trs = s.trs ∧ (s.calEnd r).bme = s.bme ∧
    (s.calEnd r).sou = s.sou ∧ (s.calEnd r).freeCount = s.freeCount ∧ (s.calEnd r).pending = s.pending :=
    by unfold State.calEnd; (repeat' split) <;> simp

@[simp] theorem State.calFreeWork_frame (s : State) :
    s.calFreeWork.liu = s.liu ∧ s.calFreeWork.prc = s.prc ∧ s.calFreeWork.bpl = s.bpl ∧
    s.calFreeWork.fst = s.fst ∧ s.calFreeWork.sfe = s.sfe ∧ s.calFreeWork.blu = s.blu ∧
    s.calFreeWork.trs = s.trs ∧ s.calFreeWork.bme = s.bme ∧ s.calFreeWork.sou = s.sou ∧
    s.calFreeWork.freeCount = s.freeCount ∧ s.calFreeWork.pending = s.pending :=
    by simp [State.calFreeWork]

@[simp] theorem State.calUnload_frame (s : State) :
    s.calUnload.liu = s.liu ∧ s.calUnload.prc = s.prc ∧ s.calUnload.bpl = s.bpl ∧ s.calUnload.fst = s.fst ∧
    s.calUnload.sfe = s.sfe ∧ s.calUnload.blu = s.blu ∧ s.calUnload.trs = s.trs ∧ s.calUnload.bme = s.bme ∧
    s.calUnload.sou = s.sou ∧ s.calUnload.freeCount = s.freeCount ∧ s.calUnload.pending = s.pending :=
    by simp [State.calUnload]

@[simp] theorem State.calGiveUp_frame (s : State) (r : CalResult) :
    (s.calGiveUp r).prc = s.prc ∧ (s.calGiveUp r).bpl = s.bpl ∧ (s.calGiveUp r).fst = s.fst ∧
    (s.calGiveUp r).sfe = s.sfe ∧ (s.calGiveUp r).trs = s.trs ∧ (s.calGiveUp r).bme = s.bme ∧
    (s.calGiveUp r).sou = s.sou ∧ (s.calGiveUp r).freeCount = s.freeCount ∧
    (s.calGiveUp r).pending = s.pending :=
    by unfold State.calGiveUp; dsimp only; (repeat' split) <;> simp

@[simp] theorem State.calStop_frame (s : State) (r : CalResult) :
    (s.calStop r).prc = s.prc ∧ (s.calStop r).bpl = s.bpl ∧ (s.calStop r).fst = s.fst ∧
    (s.calStop r).sfe = s.sfe ∧ (s.calStop r).trs = s.trs ∧ (s.calStop r).bme = s.bme ∧
    (s.calStop r).sou = s.sou ∧ (s.calStop r).freeCount = s.freeCount ∧ (s.calStop r).pending = s.pending :=
    by simp [State.calStop]

@[simp] theorem State.calFrame_frame (s : State) :
    s.calFrame.liu = s.liu ∧ s.calFrame.prc = s.prc ∧ s.calFrame.bpl = s.bpl ∧ s.calFrame.fst = s.fst ∧
    s.calFrame.sfe = s.sfe ∧ s.calFrame.blu = s.blu ∧ s.calFrame.trs = s.trs ∧ s.calFrame.bme = s.bme ∧
    s.calFrame.sou = s.sou ∧ s.calFrame.freeCount = s.freeCount ∧ s.calFrame.pending = s.pending :=
    by unfold State.calFrame; (repeat' split) <;> simp

@[simp] theorem State.calWithdrawFrame_frame (s : State) :
    s.calWithdrawFrame.liu = s.liu ∧ s.calWithdrawFrame.prc = s.prc ∧ s.calWithdrawFrame.bpl = s.bpl ∧
    s.calWithdrawFrame.fst = s.fst ∧ s.calWithdrawFrame.sfe = s.sfe ∧ s.calWithdrawFrame.blu = s.blu ∧
    s.calWithdrawFrame.trs = s.trs ∧ s.calWithdrawFrame.bme = s.bme ∧ s.calWithdrawFrame.cru = s.cru ∧
    s.calWithdrawFrame.sou = s.sou ∧ s.calWithdrawFrame.freeCount = s.freeCount ∧
    s.calWithdrawFrame.pending = s.pending :=
    by unfold State.calWithdrawFrame; (repeat' split) <;> simp

@[simp] theorem State.calWithdrawPlan_frame (s : State) :
    s.calWithdrawPlan.liu = s.liu ∧ s.calWithdrawPlan.prc = s.prc ∧ s.calWithdrawPlan.bpl = s.bpl ∧
    s.calWithdrawPlan.fst = s.fst ∧ s.calWithdrawPlan.sfe = s.sfe ∧ s.calWithdrawPlan.blu = s.blu ∧
    s.calWithdrawPlan.trs = s.trs ∧ s.calWithdrawPlan.bme = s.bme ∧ s.calWithdrawPlan.cru = s.cru ∧
    s.calWithdrawPlan.sou = s.sou ∧ s.calWithdrawPlan.freeCount = s.freeCount ∧
    s.calWithdrawPlan.pending = s.pending :=
    by unfold State.calWithdrawPlan; (repeat' split) <;> simp

@[simp] theorem State.calFrameCut_frame (s : State) :
    s.calFrameCut.prc = s.prc ∧ s.calFrameCut.bpl = s.bpl ∧ s.calFrameCut.fst = s.fst ∧
    s.calFrameCut.sfe = s.sfe ∧ s.calFrameCut.trs = s.trs ∧ s.calFrameCut.bme = s.bme ∧
    s.calFrameCut.sou = s.sou ∧ s.calFrameCut.freeCount = s.freeCount ∧ s.calFrameCut.pending = s.pending :=
    by unfold State.calFrameCut; dsimp only; (repeat' split) <;> simp

@[simp] theorem State.calAccept_frame (s : State) (k : CalKind) :
    (s.calAccept k).liu = s.liu ∧ (s.calAccept k).prc = s.prc ∧ (s.calAccept k).bpl = s.bpl ∧
    (s.calAccept k).sfe = s.sfe ∧ (s.calAccept k).trs = s.trs ∧ (s.calAccept k).bme = s.bme ∧
    (s.calAccept k).sou = s.sou ∧ (s.calAccept k).freeCount = s.freeCount ∧
    (s.calAccept k).pending = s.pending :=
    by simp [State.calAccept]

@[simp] theorem State.calibrateDark_frame (s : State) :
    (s.calibrateDark).state.liu = s.liu ∧ (s.calibrateDark).state.prc = s.prc ∧
    (s.calibrateDark).state.bpl = s.bpl ∧ (s.calibrateDark).state.sfe = s.sfe ∧
    (s.calibrateDark).state.trs = s.trs ∧ (s.calibrateDark).state.bme = s.bme ∧
    (s.calibrateDark).state.sou = s.sou ∧ (s.calibrateDark).state.freeCount = s.freeCount ∧
    (s.calibrateDark).state.pending = s.pending :=
    by unfold State.calibrateDark; (repeat' split) <;> simp

@[simp] theorem State.calibrateFlat_frame (s : State) (p : Nat) :
    (s.calibrateFlat p).state.liu = s.liu ∧ (s.calibrateFlat p).state.prc = s.prc ∧
    (s.calibrateFlat p).state.bpl = s.bpl ∧ (s.calibrateFlat p).state.sfe = s.sfe ∧
    (s.calibrateFlat p).state.trs = s.trs ∧ (s.calibrateFlat p).state.bme = s.bme ∧
    (s.calibrateFlat p).state.sou = s.sou ∧ (s.calibrateFlat p).state.freeCount = s.freeCount ∧
    (s.calibrateFlat p).state.pending = s.pending :=
    by unfold State.calibrateFlat; (repeat' split) <;> simp

@[simp] theorem State.calAnswered_frame (s : State) (ok : Bool) (low : Nat) (high : Nat) :
    (s.calAnswered ok low high).liu = s.liu ∧ (s.calAnswered ok low high).prc = s.prc ∧
    (s.calAnswered ok low high).bpl = s.bpl ∧ (s.calAnswered ok low high).fst = s.fst ∧
    (s.calAnswered ok low high).sfe = s.sfe ∧ (s.calAnswered ok low high).blu = s.blu ∧
    (s.calAnswered ok low high).trs = s.trs ∧ (s.calAnswered ok low high).bme = s.bme ∧
    (s.calAnswered ok low high).sou = s.sou ∧ (s.calAnswered ok low high).freeCount = s.freeCount ∧
    (s.calAnswered ok low high).pending = s.pending :=
    by unfold State.calAnswered; (repeat' split) <;> simp

@[simp] theorem State.calFrameDone_frame (s : State) (temp : Int) (m : Option Nat) :
    (s.calFrameDone temp m).prc = s.prc ∧ (s.calFrameDone temp m).bpl = s.bpl ∧
    (s.calFrameDone temp m).fst = s.fst ∧ (s.calFrameDone temp m).sfe = s.sfe ∧
    (s.calFrameDone temp m).trs = s.trs ∧ (s.calFrameDone temp m).bme = s.bme ∧
    (s.calFrameDone temp m).sou = s.sou ∧ (s.calFrameDone temp m).freeCount = s.freeCount ∧
    (s.calFrameDone temp m).pending = s.pending :=
    by unfold State.calFrameDone; dsimp only; (repeat' split) <;> simp

@[simp] theorem State.calAccumulated_frame (s : State) :
    s.calAccumulated.liu = s.liu ∧ s.calAccumulated.prc = s.prc ∧ s.calAccumulated.bpl = s.bpl ∧
    s.calAccumulated.fst = s.fst ∧ s.calAccumulated.sfe = s.sfe ∧ s.calAccumulated.blu = s.blu ∧
    s.calAccumulated.trs = s.trs ∧ s.calAccumulated.bme = s.bme ∧ s.calAccumulated.sou = s.sou ∧
    s.calAccumulated.freeCount = s.freeCount ∧ s.calAccumulated.pending = s.pending :=
    by unfold State.calAccumulated; dsimp only; (repeat' split) <;> simp

@[simp] theorem State.calBiasDone_frame (s : State) (b0 : Nat) :
    (s.calBiasDone b0).liu = s.liu ∧ (s.calBiasDone b0).prc = s.prc ∧ (s.calBiasDone b0).bpl = s.bpl ∧
    (s.calBiasDone b0).fst = s.fst ∧ (s.calBiasDone b0).sfe = s.sfe ∧ (s.calBiasDone b0).blu = s.blu ∧
    (s.calBiasDone b0).trs = s.trs ∧ (s.calBiasDone b0).bme = s.bme ∧ (s.calBiasDone b0).sou = s.sou ∧
    (s.calBiasDone b0).freeCount = s.freeCount ∧ (s.calBiasDone b0).pending = s.pending :=
    by unfold State.calBiasDone; (repeat' split) <;> simp

@[simp] theorem State.calClearDone_frame (s : State) :
    s.calClearDone.liu = s.liu ∧ s.calClearDone.prc = s.prc ∧ s.calClearDone.bpl = s.bpl ∧
    s.calClearDone.fst = s.fst ∧ s.calClearDone.sfe = s.sfe ∧ s.calClearDone.blu = s.blu ∧
    s.calClearDone.trs = s.trs ∧ s.calClearDone.bme = s.bme ∧ s.calClearDone.sou = s.sou ∧
    s.calClearDone.freeCount = s.freeCount ∧ s.calClearDone.pending = s.pending :=
    by unfold State.calClearDone; (repeat' split) <;> simp

@[simp] theorem State.calRateDone_frame (s : State) :
    s.calRateDone.prc = s.prc ∧ s.calRateDone.bpl = s.bpl ∧ s.calRateDone.sfe = s.sfe ∧
    s.calRateDone.trs = s.trs ∧ s.calRateDone.bme = s.bme ∧ s.calRateDone.sou = s.sou ∧
    s.calRateDone.freeCount = s.freeCount ∧ s.calRateDone.pending = s.pending :=
    by unfold State.calRateDone; (repeat' split) <;> simp

@[simp] theorem State.calMeanDone_frame (s : State) (mean : Nat) :
    (s.calMeanDone mean).prc = s.prc ∧ (s.calMeanDone mean).bpl = s.bpl ∧ (s.calMeanDone mean).fst = s.fst ∧
    (s.calMeanDone mean).sfe = s.sfe ∧ (s.calMeanDone mean).trs = s.trs ∧ (s.calMeanDone mean).bme = s.bme ∧
    (s.calMeanDone mean).sou = s.sou ∧ (s.calMeanDone mean).freeCount = s.freeCount ∧
    (s.calMeanDone mean).pending = s.pending :=
    by unfold State.calMeanDone; (repeat' split) <;> simp

@[simp] theorem State.calGainDone_frame (s : State) (defects : Nat) (lClear : Nat) :
    (s.calGainDone defects lClear).liu = s.liu ∧ (s.calGainDone defects lClear).prc = s.prc ∧
    (s.calGainDone defects lClear).bpl = s.bpl ∧ (s.calGainDone defects lClear).fst = s.fst ∧
    (s.calGainDone defects lClear).sfe = s.sfe ∧ (s.calGainDone defects lClear).blu = s.blu ∧
    (s.calGainDone defects lClear).trs = s.trs ∧ (s.calGainDone defects lClear).bme = s.bme ∧
    (s.calGainDone defects lClear).sou = s.sou ∧ (s.calGainDone defects lClear).freeCount = s.freeCount ∧
    (s.calGainDone defects lClear).pending = s.pending :=
    by unfold State.calGainDone; (repeat' split) <;> simp

@[simp] theorem State.calLoaded_frame (s : State) :
    s.calLoaded.prc = s.prc ∧ s.calLoaded.bpl = s.bpl ∧ s.calLoaded.fst = s.fst ∧ s.calLoaded.sfe = s.sfe ∧
    s.calLoaded.trs = s.trs ∧ s.calLoaded.bme = s.bme ∧ s.calLoaded.sou = s.sou ∧
    s.calLoaded.freeCount = s.freeCount ∧ s.calLoaded.pending = s.pending :=
    by unfold State.calLoaded; (repeat' split) <;> simp

@[simp] theorem State.calSettled_frame (s : State) :
    s.calSettled.prc = s.prc ∧ s.calSettled.bpl = s.bpl ∧ s.calSettled.fst = s.fst ∧
    s.calSettled.sfe = s.sfe ∧ s.calSettled.trs = s.trs ∧ s.calSettled.bme = s.bme ∧
    s.calSettled.sou = s.sou ∧ s.calSettled.freeCount = s.freeCount ∧ s.calSettled.pending = s.pending :=
    by unfold State.calSettled; (repeat' split) <;> simp

@[simp] theorem State.calPlanned_frame (s : State) (e : PlanEntry) (flags : PlanFlags) :
    (s.calPlanned e flags).liu = s.liu ∧ (s.calPlanned e flags).prc = s.prc ∧
    (s.calPlanned e flags).bpl = s.bpl ∧ (s.calPlanned e flags).fst = s.fst ∧
    (s.calPlanned e flags).sfe = s.sfe ∧ (s.calPlanned e flags).blu = s.blu ∧
    (s.calPlanned e flags).trs = s.trs ∧ (s.calPlanned e flags).bme = s.bme ∧
    (s.calPlanned e flags).sou = s.sou ∧ (s.calPlanned e flags).freeCount = s.freeCount ∧
    (s.calPlanned e flags).pending = s.pending :=
    by unfold State.calPlanned; (repeat' split) <;> simp

@[simp] theorem State.calCommitFlat_frame (s : State) (p : Nat) (f : Nat) :
    (s.calCommitFlat p f).prc = s.prc ∧ (s.calCommitFlat p f).bpl = s.bpl ∧
    (s.calCommitFlat p f).sfe = s.sfe ∧ (s.calCommitFlat p f).trs = s.trs ∧
    (s.calCommitFlat p f).bme = s.bme ∧ (s.calCommitFlat p f).sou = s.sou ∧
    (s.calCommitFlat p f).freeCount = s.freeCount ∧ (s.calCommitFlat p f).pending = s.pending :=
    by simp [State.calCommitFlat]

@[simp] theorem State.calFinish_frame (s : State) (r : CalResult) :
    (s.calFinish r).prc = s.prc ∧ (s.calFinish r).bpl = s.bpl ∧ (s.calFinish r).fst = s.fst ∧
    (s.calFinish r).sfe = s.sfe ∧ (s.calFinish r).trs = s.trs ∧ (s.calFinish r).bme = s.bme ∧
    (s.calFinish r).sou = s.sou ∧ (s.calFinish r).freeCount = s.freeCount ∧
    (s.calFinish r).pending = s.pending :=
    by unfold State.calFinish; dsimp only; (repeat' split) <;> simp

@[simp] theorem State.calUnloaded_frame (s : State) :
    s.calUnloaded.prc = s.prc ∧ s.calUnloaded.bpl = s.bpl ∧ s.calUnloaded.sfe = s.sfe ∧
    s.calUnloaded.trs = s.trs ∧ s.calUnloaded.bme = s.bme ∧ s.calUnloaded.sou = s.sou ∧
    s.calUnloaded.freeCount = s.freeCount ∧ s.calUnloaded.pending = s.pending :=
    by unfold State.calUnloaded; (repeat' split) <;> simp

@[simp] theorem State.calCancelSeries_frame (s : State) :
    s.calCancelSeries.prc = s.prc ∧ s.calCancelSeries.bpl = s.bpl ∧ s.calCancelSeries.fst = s.fst ∧
    s.calCancelSeries.sfe = s.sfe ∧ s.calCancelSeries.trs = s.trs ∧ s.calCancelSeries.bme = s.bme ∧
    s.calCancelSeries.sou = s.sou ∧ s.calCancelSeries.freeCount = s.freeCount ∧
    s.calCancelSeries.pending = s.pending :=
    by unfold State.calCancelSeries; (repeat' split) <;> simp

@[simp] theorem State.calCancel_frame (s : State) :
    (s.calCancel).state.prc = s.prc ∧ (s.calCancel).state.bpl = s.bpl ∧ (s.calCancel).state.fst = s.fst ∧
    (s.calCancel).state.sfe = s.sfe ∧ (s.calCancel).state.trs = s.trs ∧ (s.calCancel).state.bme = s.bme ∧
    (s.calCancel).state.sou = s.sou ∧ (s.calCancel).state.freeCount = s.freeCount ∧
    (s.calCancel).state.pending = s.pending :=
    by unfold State.calCancel; (repeat' split) <;> simp

@[simp] theorem State.calSensorFailed_frame (s : State) :
    s.calSensorFailed.prc = s.prc ∧ s.calSensorFailed.bpl = s.bpl ∧ s.calSensorFailed.fst = s.fst ∧
    s.calSensorFailed.sfe = s.sfe ∧ s.calSensorFailed.trs = s.trs ∧ s.calSensorFailed.bme = s.bme ∧
    s.calSensorFailed.sou = s.sou ∧ s.calSensorFailed.freeCount = s.freeCount ∧
    s.calSensorFailed.pending = s.pending :=
    by unfold State.calSensorFailed; (repeat' split) <;> simp

@[simp] theorem State.calLampFailed_frame (s : State) :
    s.calLampFailed.prc = s.prc ∧ s.calLampFailed.bpl = s.bpl ∧ s.calLampFailed.fst = s.fst ∧
    s.calLampFailed.sfe = s.sfe ∧ s.calLampFailed.trs = s.trs ∧ s.calLampFailed.bme = s.bme ∧
    s.calLampFailed.sou = s.sou ∧ s.calLampFailed.freeCount = s.freeCount ∧
    s.calLampFailed.pending = s.pending :=
    by unfold State.calLampFailed; (repeat' split) <;> simp

@[simp] theorem State.calTransportFailed_frame (s : State) (r : CalTrsReport) :
    (s.calTransportFailed r).prc = s.prc ∧ (s.calTransportFailed r).bpl = s.bpl ∧
    (s.calTransportFailed r).fst = s.fst ∧ (s.calTransportFailed r).sfe = s.sfe ∧
    (s.calTransportFailed r).trs = s.trs ∧ (s.calTransportFailed r).bme = s.bme ∧
    (s.calTransportFailed r).sou = s.sou ∧ (s.calTransportFailed r).freeCount = s.freeCount ∧
    (s.calTransportFailed r).pending = s.pending :=
    by unfold State.calTransportFailed; (repeat' split) <;> simp

@[simp] theorem State.calQuiesce_frame (s : State) :
    s.calQuiesce.liu = s.liu ∧ s.calQuiesce.prc = s.prc ∧ s.calQuiesce.bpl = s.bpl ∧
    s.calQuiesce.fst = s.fst ∧ s.calQuiesce.sfe = s.sfe ∧ s.calQuiesce.blu = s.blu ∧
    s.calQuiesce.trs = s.trs ∧ s.calQuiesce.bme = s.bme ∧ s.calQuiesce.sou = s.sou ∧
    s.calQuiesce.freeCount = s.freeCount ∧ s.calQuiesce.pending = s.pending :=
    by unfold State.calQuiesce; (repeat' split) <;> simp

/-! ## Output (SOU) -/

@[simp] theorem State.startTile_frame (s : State) (e : OutEntry) :
    (s.startTile e).liu = s.liu ∧ (s.startTile e).bpl = s.bpl ∧ (s.startTile e).sfe = s.sfe ∧
    (s.startTile e).blu = s.blu ∧ (s.startTile e).trs = s.trs ∧ (s.startTile e).bme = s.bme ∧
    (s.startTile e).freeCount = s.freeCount ∧ (s.startTile e).pending = s.pending :=
    by unfold State.startTile; (repeat' split) <;> simp

@[simp] theorem State.startStripe_frame (s : State) (e : OutEntry) (j : Job) (x : Tile) :
    (s.startStripe e j x).liu = s.liu ∧ (s.startStripe e j x).bpl = s.bpl ∧
    (s.startStripe e j x).sfe = s.sfe ∧ (s.startStripe e j x).blu = s.blu ∧
    (s.startStripe e j x).trs = s.trs ∧ (s.startStripe e j x).bme = s.bme ∧
    (s.startStripe e j x).freeCount = s.freeCount ∧ (s.startStripe e j x).pending = s.pending :=
    by simp [State.startStripe]

@[simp] theorem State.tryStripe_frame (s : State) :
    s.tryStripe.liu = s.liu ∧ s.tryStripe.bpl = s.bpl ∧ s.tryStripe.sfe = s.sfe ∧ s.tryStripe.blu = s.blu ∧
    s.tryStripe.trs = s.trs ∧ s.tryStripe.bme = s.bme ∧ s.tryStripe.freeCount = s.freeCount ∧
    s.tryStripe.pending = s.pending :=
    by unfold State.tryStripe; (repeat' split) <;> simp

@[simp] theorem State.removeHead_frame (s : State) :
    s.removeHead.liu = s.liu ∧ s.removeHead.prc = s.prc ∧ s.removeHead.bpl = s.bpl ∧
    s.removeHead.sfe = s.sfe ∧ s.removeHead.blu = s.blu ∧ s.removeHead.trs = s.trs ∧
    s.removeHead.bme = s.bme ∧ s.removeHead.freeCount = s.freeCount ∧ s.removeHead.pending = s.pending :=
    by unfold State.removeHead; (repeat' split) <;> simp

@[simp] theorem State.stripeTaken_frame (s : State) :
    s.stripeTaken.bpl = s.bpl ∧ s.stripeTaken.sfe = s.sfe ∧ s.stripeTaken.blu = s.blu ∧
    s.stripeTaken.trs = s.trs ∧ s.stripeTaken.bme = s.bme ∧ s.stripeTaken.freeCount = s.freeCount ∧
    s.stripeTaken.pending = s.pending :=
    by unfold State.stripeTaken; dsimp only; (repeat' split) <;> simp

@[simp] theorem State.souAbandoned_frame (s : State) (t : TileRef) :
    (s.souAbandoned t).liu = s.liu ∧ (s.souAbandoned t).bpl = s.bpl ∧ (s.souAbandoned t).sfe = s.sfe ∧
    (s.souAbandoned t).blu = s.blu ∧ (s.souAbandoned t).trs = s.trs ∧ (s.souAbandoned t).bme = s.bme ∧
    (s.souAbandoned t).freeCount = s.freeCount ∧ (s.souAbandoned t).pending = s.pending :=
    by unfold State.souAbandoned; (repeat' split) <;> simp

@[simp] theorem State.grantStripes_frame (s : State) (n : Nat) :
    (s.grantStripes n).state.liu = s.liu ∧ (s.grantStripes n).state.bpl = s.bpl ∧
    (s.grantStripes n).state.sfe = s.sfe ∧ (s.grantStripes n).state.blu = s.blu ∧
    (s.grantStripes n).state.trs = s.trs ∧ (s.grantStripes n).state.bme = s.bme ∧
    (s.grantStripes n).state.freeCount = s.freeCount ∧ (s.grantStripes n).state.pending = s.pending :=
    by unfold State.grantStripes; (repeat' split) <;> simp

@[simp] theorem State.souDetach_frame (s : State) :
    s.souDetach.liu = s.liu ∧ s.souDetach.prc = s.prc ∧ s.souDetach.bpl = s.bpl ∧ s.souDetach.sfe = s.sfe ∧
    s.souDetach.blu = s.blu ∧ s.souDetach.trs = s.trs ∧ s.souDetach.bme = s.bme ∧
    s.souDetach.freeCount = s.freeCount ∧ s.souDetach.pending = s.pending :=
    by unfold State.souDetach; dsimp only; (repeat' split) <;> simp

@[simp] theorem State.souQuiesce_frame (s : State) :
    s.souQuiesce.liu = s.liu ∧ s.souQuiesce.prc = s.prc ∧ s.souQuiesce.bpl = s.bpl ∧
    s.souQuiesce.fst = s.fst ∧ s.souQuiesce.sfe = s.sfe ∧ s.souQuiesce.blu = s.blu ∧
    s.souQuiesce.trs = s.trs ∧ s.souQuiesce.bme = s.bme ∧ s.souQuiesce.cru = s.cru ∧
    s.souQuiesce.freeCount = s.freeCount ∧ s.souQuiesce.pending = s.pending :=
    by unfold State.souQuiesce; dsimp only; (repeat' split) <;> simp

/-! ## Backlight (BLU) -/

@[simp] theorem State.enterStandby_frame (s : State) :
    s.enterStandby.prc = s.prc ∧ s.enterStandby.bpl = s.bpl ∧ s.enterStandby.fst = s.fst ∧
    s.enterStandby.sfe = s.sfe ∧ s.enterStandby.trs = s.trs ∧ s.enterStandby.bme = s.bme ∧
    s.enterStandby.cru = s.cru ∧ s.enterStandby.sou = s.sou ∧ s.enterStandby.inFlight = s.inFlight ∧
    s.enterStandby.freeCount = s.freeCount ∧ s.enterStandby.pending = s.pending :=
    by simp [State.enterStandby]

@[simp] theorem State.enterWarming_frame (s : State) (d : Nat) :
    (s.enterWarming d).prc = s.prc ∧ (s.enterWarming d).bpl = s.bpl ∧ (s.enterWarming d).fst = s.fst ∧
    (s.enterWarming d).sfe = s.sfe ∧ (s.enterWarming d).trs = s.trs ∧ (s.enterWarming d).bme = s.bme ∧
    (s.enterWarming d).cru = s.cru ∧ (s.enterWarming d).sou = s.sou ∧
    (s.enterWarming d).inFlight = s.inFlight ∧ (s.enterWarming d).freeCount = s.freeCount ∧
    (s.enterWarming d).pending = s.pending :=
    by simp [State.enterWarming]

@[simp] theorem State.tryStandby_frame (s : State) :
    s.tryStandby.prc = s.prc ∧ s.tryStandby.bpl = s.bpl ∧ s.tryStandby.fst = s.fst ∧
    s.tryStandby.sfe = s.sfe ∧ s.tryStandby.trs = s.trs ∧ s.tryStandby.bme = s.bme ∧
    s.tryStandby.cru = s.cru ∧ s.tryStandby.sou = s.sou ∧ s.tryStandby.inFlight = s.inFlight ∧
    s.tryStandby.freeCount = s.freeCount ∧ s.tryStandby.pending = s.pending :=
    by unfold State.tryStandby; (repeat' split) <;> simp

@[simp] theorem State.tryLampGrant_frame (s : State) :
    s.tryLampGrant.liu = s.liu ∧ s.tryLampGrant.prc = s.prc ∧ s.tryLampGrant.bpl = s.bpl ∧
    s.tryLampGrant.fst = s.fst ∧ s.tryLampGrant.sfe = s.sfe ∧ s.tryLampGrant.trs = s.trs ∧
    s.tryLampGrant.bme = s.bme ∧ s.tryLampGrant.cru = s.cru ∧ s.tryLampGrant.sou = s.sou ∧
    s.tryLampGrant.freeCount = s.freeCount ∧ s.tryLampGrant.pending = s.pending :=
    by unfold State.tryLampGrant; (repeat' split) <;> simp

@[simp] theorem State.applyLight_frame (s : State) (d : Nat) :
    (s.applyLight d).prc = s.prc ∧ (s.applyLight d).bpl = s.bpl ∧ (s.applyLight d).fst = s.fst ∧
    (s.applyLight d).sfe = s.sfe ∧ (s.applyLight d).trs = s.trs ∧ (s.applyLight d).bme = s.bme ∧
    (s.applyLight d).cru = s.cru ∧ (s.applyLight d).sou = s.sou ∧ (s.applyLight d).freeCount = s.freeCount ∧
    (s.applyLight d).pending = s.pending :=
    by unfold State.applyLight; (repeat' split) <;> simp

@[simp] theorem State.afterGrant_frame (s : State) :
    s.afterGrant.prc = s.prc ∧ s.afterGrant.bpl = s.bpl ∧ s.afterGrant.fst = s.fst ∧
    s.afterGrant.sfe = s.sfe ∧ s.afterGrant.trs = s.trs ∧ s.afterGrant.bme = s.bme ∧
    s.afterGrant.cru = s.cru ∧ s.afterGrant.sou = s.sou ∧ s.afterGrant.freeCount = s.freeCount ∧
    s.afterGrant.pending = s.pending :=
    by unfold State.afterGrant; dsimp only; (repeat' split) <;> simp

@[simp] theorem State.endGrant_frame (s : State) (a : LampAsk) :
    (s.endGrant a).prc = s.prc ∧ (s.endGrant a).bpl = s.bpl ∧ (s.endGrant a).fst = s.fst ∧
    (s.endGrant a).sfe = s.sfe ∧ (s.endGrant a).trs = s.trs ∧ (s.endGrant a).bme = s.bme ∧
    (s.endGrant a).cru = s.cru ∧ (s.endGrant a).sou = s.sou ∧ (s.endGrant a).freeCount = s.freeCount ∧
    (s.endGrant a).pending = s.pending :=
    by unfold State.endGrant; (repeat' split) <;> simp

@[simp] theorem State.lampRelease_frame (s : State) (since : Nat) :
    (s.lampRelease since).1.prc = s.prc ∧ (s.lampRelease since).1.bpl = s.bpl ∧
    (s.lampRelease since).1.fst = s.fst ∧ (s.lampRelease since).1.sfe = s.sfe ∧
    (s.lampRelease since).1.trs = s.trs ∧ (s.lampRelease since).1.bme = s.bme ∧
    (s.lampRelease since).1.cru = s.cru ∧ (s.lampRelease since).1.sou = s.sou ∧
    (s.lampRelease since).1.pending = s.pending :=
    by unfold State.lampRelease; (repeat' split) <;> simp

/-- What a release does to BLU, LIU and the counter does not depend on the messages on their way, on TRS or on SFE; with no
drive to apply in FAULT it sends nothing. -/
theorem State.lampRelease_congr (s : State) (h : s.blu.grant = none ∨ ∀ f, s.blu.state ≠ .fault f) (since : Nat)
    (l : List Instr) (k : Trs) (q : Sfe) :
    (({ s with inFlight := l, trs := k, sfe := q } : State).lampRelease since).1
      = { (s.lampRelease since).1 with inFlight := l, trs := k, sfe := q } := by
  unfold State.lampRelease
  rcases hg : s.blu.grant with _ | ⟨cond, tm⟩
  · simp
  · replace h : ∀ f, s.blu.state ≠ .fault f := by simpa [hg] using h
    cases cond <;> simp only [State.endGrant, State.afterGrant] <;>
    (cases hp : s.blu.pendingDrive <;> cases hd : s.blu.driveChanged <;> cases hq : s.blu.quiesce <;>
      cases hs : s.blu.state <;>
      simp_all [State.applyLight, State.tryStandby, State.enterStandby, State.enterWarming, State.lampNotice,
        State.notice, Blu.startSettling, Blu.recommand, LampState.lit] <;>
      (repeat' split) <;> simp_all [State.lampNotice, State.notice])

@[simp] theorem State.lampAsk_frame (s : State) (a : LampAsk) :
    (s.lampAsk a).prc = s.prc ∧ (s.lampAsk a).bpl = s.bpl ∧ (s.lampAsk a).fst = s.fst ∧
    (s.lampAsk a).sfe = s.sfe ∧ (s.lampAsk a).trs = s.trs ∧ (s.lampAsk a).bme = s.bme ∧
    (s.lampAsk a).cru = s.cru ∧ (s.lampAsk a).sou = s.sou ∧ (s.lampAsk a).freeCount = s.freeCount ∧
    (s.lampAsk a).pending = s.pending :=
    by unfold State.lampAsk; dsimp only; (repeat' split) <;> simp

@[simp] theorem State.settleComplete_frame (s : State) :
    s.settleComplete.prc = s.prc ∧ s.settleComplete.bpl = s.bpl ∧ s.settleComplete.fst = s.fst ∧
    s.settleComplete.sfe = s.sfe ∧ s.settleComplete.trs = s.trs ∧ s.settleComplete.bme = s.bme ∧
    s.settleComplete.cru = s.cru ∧ s.settleComplete.sou = s.sou ∧ s.settleComplete.freeCount = s.freeCount ∧
    s.settleComplete.pending = s.pending :=
    by simp [State.settleComplete]

@[simp] theorem State.throttleChanged_frame (s : State) :
    s.throttleChanged.liu = s.liu ∧ s.throttleChanged.prc = s.prc ∧ s.throttleChanged.bpl = s.bpl ∧
    s.throttleChanged.fst = s.fst ∧ s.throttleChanged.sfe = s.sfe ∧ s.throttleChanged.trs = s.trs ∧
    s.throttleChanged.bme = s.bme ∧ s.throttleChanged.cru = s.cru ∧ s.throttleChanged.sou = s.sou ∧
    s.throttleChanged.freeCount = s.freeCount ∧ s.throttleChanged.pending = s.pending :=
    by unfold State.throttleChanged; dsimp only; (repeat' split) <;> simp

@[simp] theorem State.panelSample_frame (s : State) (t : Int) :
    (s.panelSample t).prc = s.prc ∧ (s.panelSample t).bpl = s.bpl ∧ (s.panelSample t).fst = s.fst ∧
    (s.panelSample t).trs = s.trs ∧ (s.panelSample t).bme = s.bme ∧ (s.panelSample t).cru = s.cru ∧
    (s.panelSample t).sou = s.sou ∧ (s.panelSample t).freeCount = s.freeCount ∧
    (s.panelSample t).pending = s.pending :=
    by unfold State.panelSample; dsimp only; (repeat' split) <;> simp

@[simp] theorem State.enterDark_frame (s : State) :
    s.enterDark.prc = s.prc ∧ s.enterDark.bpl = s.bpl ∧ s.enterDark.fst = s.fst ∧
    s.enterDark.sfe = s.sfe ∧ s.enterDark.trs = s.trs ∧ s.enterDark.bme = s.bme ∧ s.enterDark.cru = s.cru ∧
    s.enterDark.sou = s.sou ∧ s.enterDark.freeCount = s.freeCount ∧ s.enterDark.pending = s.pending :=
    by unfold State.enterDark; dsimp only; (repeat' split) <;> simp

@[simp] theorem State.leaveFault_frame (s : State) :
    s.leaveFault.prc = s.prc ∧ s.leaveFault.bpl = s.bpl ∧ s.leaveFault.fst = s.fst ∧
    s.leaveFault.sfe = s.sfe ∧ s.leaveFault.trs = s.trs ∧ s.leaveFault.bme = s.bme ∧
    s.leaveFault.cru = s.cru ∧ s.leaveFault.sou = s.sou ∧ s.leaveFault.inFlight = s.inFlight ∧
    s.leaveFault.freeCount = s.freeCount ∧ s.leaveFault.pending = s.pending :=
    by unfold State.leaveFault; (repeat' split) <;> simp

/-! ## Transport (TRS) -/

@[simp] theorem State.reportLoad_frame (s : State) (c : TrsClient) :
    (s.reportLoad c).liu = s.liu ∧ (s.reportLoad c).prc = s.prc ∧ (s.reportLoad c).bpl = s.bpl ∧
    (s.reportLoad c).fst = s.fst ∧ (s.reportLoad c).sfe = s.sfe ∧ (s.reportLoad c).blu = s.blu ∧
    (s.reportLoad c).trs = s.trs ∧ (s.reportLoad c).bme = s.bme ∧ (s.reportLoad c).cru = s.cru ∧
    (s.reportLoad c).sou = s.sou ∧ (s.reportLoad c).freeCount = s.freeCount ∧
    (s.reportLoad c).pending = s.pending :=
    by unfold State.reportLoad; (repeat' split) <;> simp

@[simp] theorem State.reportSettle_frame (s : State) (c : TrsClient) :
    (s.reportSettle c).liu = s.liu ∧ (s.reportSettle c).prc = s.prc ∧ (s.reportSettle c).bpl = s.bpl ∧
    (s.reportSettle c).fst = s.fst ∧ (s.reportSettle c).sfe = s.sfe ∧ (s.reportSettle c).blu = s.blu ∧
    (s.reportSettle c).trs = s.trs ∧ (s.reportSettle c).bme = s.bme ∧ (s.reportSettle c).cru = s.cru ∧
    (s.reportSettle c).sou = s.sou ∧ (s.reportSettle c).freeCount = s.freeCount ∧
    (s.reportSettle c).pending = s.pending :=
    by unfold State.reportSettle; (repeat' split) <;> simp

@[simp] theorem State.reportUnload_frame (s : State) (c : TrsClient) :
    (s.reportUnload c).liu = s.liu ∧ (s.reportUnload c).prc = s.prc ∧ (s.reportUnload c).bpl = s.bpl ∧
    (s.reportUnload c).fst = s.fst ∧ (s.reportUnload c).sfe = s.sfe ∧ (s.reportUnload c).blu = s.blu ∧
    (s.reportUnload c).trs = s.trs ∧ (s.reportUnload c).bme = s.bme ∧ (s.reportUnload c).cru = s.cru ∧
    (s.reportUnload c).sou = s.sou ∧ (s.reportUnload c).freeCount = s.freeCount ∧
    (s.reportUnload c).pending = s.pending :=
    by unfold State.reportUnload; (repeat' split) <;> simp

@[simp] theorem State.trsRefuse_frame (s : State) (c : TrsClient) :
    (s.trsRefuse c).liu = s.liu ∧ (s.trsRefuse c).bpl = s.bpl ∧ (s.trsRefuse c).fst = s.fst ∧
    (s.trsRefuse c).sfe = s.sfe ∧ (s.trsRefuse c).blu = s.blu ∧ (s.trsRefuse c).trs = s.trs ∧
    (s.trsRefuse c).bme = s.bme ∧ (s.trsRefuse c).cru = s.cru ∧ (s.trsRefuse c).sou = s.sou ∧
    (s.trsRefuse c).freeCount = s.freeCount ∧ (s.trsRefuse c).pending = s.pending :=
    by unfold State.trsRefuse; (repeat' split) <;> simp

@[simp] theorem State.tryInterlock_frame (s : State) :
    s.tryInterlock.liu = s.liu ∧ s.tryInterlock.prc = s.prc ∧ s.tryInterlock.bpl = s.bpl ∧
    s.tryInterlock.fst = s.fst ∧ s.tryInterlock.sfe = s.sfe ∧ s.tryInterlock.blu = s.blu ∧
    s.tryInterlock.bme = s.bme ∧ s.tryInterlock.cru = s.cru ∧ s.tryInterlock.sou = s.sou ∧
    s.tryInterlock.freeCount = s.freeCount ∧ s.tryInterlock.pending = s.pending :=
    by unfold State.tryInterlock; (repeat' split) <;> simp

@[simp] theorem State.beginMotion_frame (s : State) (w : TrsWork) :
    (s.beginMotion w).liu = s.liu ∧ (s.beginMotion w).prc = s.prc ∧ (s.beginMotion w).bpl = s.bpl ∧
    (s.beginMotion w).fst = s.fst ∧ (s.beginMotion w).sfe = s.sfe ∧ (s.beginMotion w).blu = s.blu ∧
    (s.beginMotion w).bme = s.bme ∧ (s.beginMotion w).cru = s.cru ∧ (s.beginMotion w).sou = s.sou ∧
    (s.beginMotion w).inFlight = s.inFlight ∧ (s.beginMotion w).freeCount = s.freeCount ∧
    (s.beginMotion w).pending = s.pending :=
    by simp [State.beginMotion]

@[simp] theorem State.interlockRelease_frame (s : State) :
    s.interlockRelease.liu = s.liu ∧ s.interlockRelease.prc = s.prc ∧ s.interlockRelease.bpl = s.bpl ∧
    s.interlockRelease.fst = s.fst ∧ s.interlockRelease.sfe = s.sfe ∧ s.interlockRelease.blu = s.blu ∧
    s.interlockRelease.bme = s.bme ∧ s.interlockRelease.cru = s.cru ∧ s.interlockRelease.sou = s.sou ∧
    s.interlockRelease.freeCount = s.freeCount ∧ s.interlockRelease.pending = s.pending :=
    by unfold State.interlockRelease; dsimp only; (repeat' split) <;> simp

/-- With a motion pending, or no ask behind the grant, the release sends nothing. -/
theorem State.interlockRelease_inFlight (s : State)
    (h : s.trs.interlock ≠ .grantedAsked ∨ s.trs.pendingMotion ≠ none) :
    s.interlockRelease.inFlight = s.inFlight := by
  unfold State.interlockRelease State.tryInterlock
  cases hi : s.trs.interlock <;> cases hp : s.trs.pendingMotion <;>
    simp_all [Interlock.held, Interlock.released, Interlock.waits]

@[simp] theorem State.interlockAsked_frame (s : State) :
    s.interlockAsked.liu = s.liu ∧ s.interlockAsked.prc = s.prc ∧ s.interlockAsked.bpl = s.bpl ∧
    s.interlockAsked.fst = s.fst ∧ s.interlockAsked.sfe = s.sfe ∧ s.interlockAsked.blu = s.blu ∧
    s.interlockAsked.bme = s.bme ∧ s.interlockAsked.cru = s.cru ∧ s.interlockAsked.sou = s.sou ∧
    s.interlockAsked.freeCount = s.freeCount ∧ s.interlockAsked.pending = s.pending :=
    by simp [State.interlockAsked]

@[simp] theorem State.interlockWithdraw_frame (s : State) :
    s.interlockWithdraw.liu = s.liu ∧ s.interlockWithdraw.prc = s.prc ∧ s.interlockWithdraw.bpl = s.bpl ∧
    s.interlockWithdraw.fst = s.fst ∧ s.interlockWithdraw.sfe = s.sfe ∧ s.interlockWithdraw.blu = s.blu ∧
    s.interlockWithdraw.bme = s.bme ∧ s.interlockWithdraw.cru = s.cru ∧ s.interlockWithdraw.sou = s.sou ∧
    s.interlockWithdraw.inFlight = s.inFlight ∧ s.interlockWithdraw.freeCount = s.freeCount ∧
    s.interlockWithdraw.pending = s.pending :=
    by simp [State.interlockWithdraw]

@[simp] theorem State.motionAtRest_frame (s : State) (w : TrsWork) :
    (s.motionAtRest w).liu = s.liu ∧ (s.motionAtRest w).bpl = s.bpl ∧ (s.motionAtRest w).fst = s.fst ∧
    (s.motionAtRest w).sfe = s.sfe ∧ (s.motionAtRest w).blu = s.blu ∧ (s.motionAtRest w).bme = s.bme ∧
    (s.motionAtRest w).cru = s.cru ∧ (s.motionAtRest w).sou = s.sou ∧
    (s.motionAtRest w).freeCount = s.freeCount ∧ (s.motionAtRest w).pending = s.pending :=
    by unfold State.motionAtRest; (repeat' split) <;> simp

@[simp] theorem State.takeLoad_frame (s : State) (c : TrsClient) (p : Nat) :
    (s.takeLoad c p).liu = s.liu ∧ (s.takeLoad c p).bpl = s.bpl ∧ (s.takeLoad c p).fst = s.fst ∧
    (s.takeLoad c p).sfe = s.sfe ∧ (s.takeLoad c p).blu = s.blu ∧ (s.takeLoad c p).bme = s.bme ∧
    (s.takeLoad c p).cru = s.cru ∧ (s.takeLoad c p).sou = s.sou ∧ (s.takeLoad c p).freeCount = s.freeCount ∧
    (s.takeLoad c p).pending = s.pending :=
    by unfold State.takeLoad; (repeat' split) <;> simp

@[simp] theorem State.takeMove_frame (s : State) (c : TrsClient) (g : StageTarget) :
    (s.takeMove c g).liu = s.liu ∧ (s.takeMove c g).bpl = s.bpl ∧ (s.takeMove c g).fst = s.fst ∧
    (s.takeMove c g).sfe = s.sfe ∧ (s.takeMove c g).blu = s.blu ∧ (s.takeMove c g).bme = s.bme ∧
    (s.takeMove c g).cru = s.cru ∧ (s.takeMove c g).sou = s.sou ∧ (s.takeMove c g).freeCount = s.freeCount ∧
    (s.takeMove c g).pending = s.pending :=
    by unfold State.takeMove; (repeat' split) <;> simp

@[simp] theorem State.takeUnload_frame (s : State) (c : TrsClient) (seen : Bool) :
    (s.takeUnload c seen).bpl = s.bpl ∧ (s.takeUnload c seen).fst = s.fst ∧
    (s.takeUnload c seen).sfe = s.sfe ∧ (s.takeUnload c seen).blu = s.blu ∧
    (s.takeUnload c seen).bme = s.bme ∧ (s.takeUnload c seen).cru = s.cru ∧
    (s.takeUnload c seen).sou = s.sou ∧ (s.takeUnload c seen).freeCount = s.freeCount ∧
    (s.takeUnload c seen).pending = s.pending :=
    by unfold State.takeUnload; (repeat' split) <;> simp

@[simp] theorem State.trsSettled_frame (s : State) :
    s.trsSettled.liu = s.liu ∧ s.trsSettled.prc = s.prc ∧ s.trsSettled.bpl = s.bpl ∧
    s.trsSettled.fst = s.fst ∧ s.trsSettled.sfe = s.sfe ∧ s.trsSettled.blu = s.blu ∧
    s.trsSettled.trs = s.trs ∧ s.trsSettled.bme = s.bme ∧ s.trsSettled.cru = s.cru ∧
    s.trsSettled.sou = s.sou ∧ s.trsSettled.freeCount = s.freeCount ∧ s.trsSettled.pending = s.pending :=
    by unfold State.trsSettled; (repeat' split) <;> simp

@[simp] theorem State.settleDone_frame (s : State) (c : TrsClient) :
    (s.settleDone c).liu = s.liu ∧ (s.settleDone c).prc = s.prc ∧ (s.settleDone c).bpl = s.bpl ∧
    (s.settleDone c).fst = s.fst ∧ (s.settleDone c).sfe = s.sfe ∧ (s.settleDone c).blu = s.blu ∧
    (s.settleDone c).bme = s.bme ∧ (s.settleDone c).cru = s.cru ∧ (s.settleDone c).sou = s.sou ∧
    (s.settleDone c).freeCount = s.freeCount ∧ (s.settleDone c).pending = s.pending :=
    by simp [State.settleDone]

@[simp] theorem State.moveLegDone_frame (s : State) :
    s.moveLegDone.liu = s.liu ∧ s.moveLegDone.prc = s.prc ∧ s.moveLegDone.bpl = s.bpl ∧
    s.moveLegDone.fst = s.fst ∧ s.moveLegDone.sfe = s.sfe ∧ s.moveLegDone.blu = s.blu ∧
    s.moveLegDone.bme = s.bme ∧ s.moveLegDone.cru = s.cru ∧ s.moveLegDone.sou = s.sou ∧
    s.moveLegDone.freeCount = s.freeCount ∧ s.moveLegDone.pending = s.pending :=
    by unfold State.moveLegDone; dsimp only; (repeat' split) <;> simp

@[simp] theorem State.settleExpired_frame (s : State) :
    s.settleExpired.liu = s.liu ∧ s.settleExpired.prc = s.prc ∧ s.settleExpired.bpl = s.bpl ∧
    s.settleExpired.fst = s.fst ∧ s.settleExpired.sfe = s.sfe ∧ s.settleExpired.blu = s.blu ∧
    s.settleExpired.bme = s.bme ∧ s.settleExpired.cru = s.cru ∧ s.settleExpired.sou = s.sou ∧
    s.settleExpired.freeCount = s.freeCount ∧ s.settleExpired.pending = s.pending :=
    by unfold State.settleExpired; (repeat' split) <;> simp

@[simp] theorem State.startAxis_frame (s : State) :
    s.startAxis.liu = s.liu ∧ s.startAxis.prc = s.prc ∧ s.startAxis.bpl = s.bpl ∧ s.startAxis.fst = s.fst ∧
    s.startAxis.sfe = s.sfe ∧ s.startAxis.blu = s.blu ∧ s.startAxis.bme = s.bme ∧ s.startAxis.cru = s.cru ∧
    s.startAxis.sou = s.sou ∧ s.startAxis.inFlight = s.inFlight ∧ s.startAxis.freeCount = s.freeCount ∧
    s.startAxis.pending = s.pending :=
    by simp [State.startAxis]

@[simp] theorem State.stopHome_frame (s : State) (leg : HomeLeg) :
    (s.stopHome leg).liu = s.liu ∧ (s.stopHome leg).prc = s.prc ∧ (s.stopHome leg).bpl = s.bpl ∧
    (s.stopHome leg).fst = s.fst ∧ (s.stopHome leg).sfe = s.sfe ∧ (s.stopHome leg).blu = s.blu ∧
    (s.stopHome leg).bme = s.bme ∧ (s.stopHome leg).cru = s.cru ∧ (s.stopHome leg).sou = s.sou ∧
    (s.stopHome leg).freeCount = s.freeCount ∧ (s.stopHome leg).pending = s.pending :=
    by simp [State.stopHome]

@[simp] theorem State.homeUnloadDone_frame (s : State) :
    s.homeUnloadDone.liu = s.liu ∧ s.homeUnloadDone.prc = s.prc ∧ s.homeUnloadDone.bpl = s.bpl ∧
    s.homeUnloadDone.fst = s.fst ∧ s.homeUnloadDone.sfe = s.sfe ∧ s.homeUnloadDone.blu = s.blu ∧
    s.homeUnloadDone.bme = s.bme ∧ s.homeUnloadDone.cru = s.cru ∧ s.homeUnloadDone.sou = s.sou ∧
    s.homeUnloadDone.freeCount = s.freeCount ∧ s.homeUnloadDone.pending = s.pending :=
    by unfold State.homeUnloadDone; dsimp only; (repeat' split) <;> simp

@[simp] theorem State.homeAxisDone_frame (s : State) :
    s.homeAxisDone.liu = s.liu ∧ s.homeAxisDone.prc = s.prc ∧ s.homeAxisDone.bpl = s.bpl ∧
    s.homeAxisDone.fst = s.fst ∧ s.homeAxisDone.sfe = s.sfe ∧ s.homeAxisDone.blu = s.blu ∧
    s.homeAxisDone.bme = s.bme ∧ s.homeAxisDone.cru = s.cru ∧ s.homeAxisDone.sou = s.sou ∧
    s.homeAxisDone.freeCount = s.freeCount ∧ s.homeAxisDone.pending = s.pending :=
    by unfold State.homeAxisDone; dsimp only; (repeat' split) <;> simp

/-! ## Sensor front end (SFE) -/

@[simp] theorem State.reportFailure_frame (s : State) (c : ExposureClient) :
    (s.reportFailure c).liu = s.liu ∧ (s.reportFailure c).prc = s.prc ∧ (s.reportFailure c).fst = s.fst ∧
    (s.reportFailure c).sfe = s.sfe ∧ (s.reportFailure c).blu = s.blu ∧ (s.reportFailure c).trs = s.trs ∧
    (s.reportFailure c).bme = s.bme ∧ (s.reportFailure c).cru = s.cru ∧ (s.reportFailure c).sou = s.sou ∧
    (s.reportFailure c).freeCount = s.freeCount ∧ (s.reportFailure c).pending = s.pending :=
    by unfold State.reportFailure; (repeat' split) <;> simp

@[simp] theorem State.reportCut_frame (s : State) (c : ExposureClient) :
    (s.reportCut c).bpl = s.bpl ∧ (s.reportCut c).fst = s.fst ∧ (s.reportCut c).sfe = s.sfe ∧
    (s.reportCut c).trs = s.trs ∧ (s.reportCut c).bme = s.bme ∧ (s.reportCut c).sou = s.sou ∧
    (s.reportCut c).freeCount = s.freeCount ∧ (s.reportCut c).pending = s.pending :=
    by unfold State.reportCut; (repeat' split) <;> simp

@[simp] theorem State.pursue_frame (s : State) (h : HeldReq) :
    (s.pursue h).liu = s.liu ∧ (s.pursue h).prc = s.prc ∧ (s.pursue h).bpl = s.bpl ∧
    (s.pursue h).fst = s.fst ∧ (s.pursue h).blu = s.blu ∧ (s.pursue h).trs = s.trs ∧
    (s.pursue h).bme = s.bme ∧ (s.pursue h).cru = s.cru ∧ (s.pursue h).sou = s.sou ∧
    (s.pursue h).freeCount = s.freeCount ∧ (s.pursue h).pending = s.pending :=
    by unfold State.pursue; (repeat' split) <;> simp

@[simp] theorem State.chooseNext_frame (s : State) :
    s.chooseNext.liu = s.liu ∧ s.chooseNext.prc = s.prc ∧ s.chooseNext.bpl = s.bpl ∧
    s.chooseNext.fst = s.fst ∧ s.chooseNext.blu = s.blu ∧ s.chooseNext.trs = s.trs ∧
    s.chooseNext.bme = s.bme ∧ s.chooseNext.cru = s.cru ∧ s.chooseNext.sou = s.sou ∧
    s.chooseNext.freeCount = s.freeCount ∧ s.chooseNext.pending = s.pending :=
    by unfold State.chooseNext; (repeat' split) <;> simp

@[simp] theorem State.releaseLamp_frame (s : State) (since : Nat) :
    (s.releaseLamp since).prc = s.prc ∧ (s.releaseLamp since).bpl = s.bpl ∧ (s.releaseLamp since).fst = s.fst ∧
    (s.releaseLamp since).sfe = s.sfe ∧ (s.releaseLamp since).trs = s.trs ∧ (s.releaseLamp since).bme = s.bme ∧
    (s.releaseLamp since).cru = s.cru ∧ (s.releaseLamp since).sou = s.sou ∧
    (s.releaseLamp since).pending = s.pending :=
    by simp [State.releaseLamp]

@[simp] theorem State.dropStage_frame (s : State) :
    s.dropStage.liu = s.liu ∧ s.dropStage.prc = s.prc ∧ s.dropStage.bpl = s.bpl ∧ s.dropStage.fst = s.fst ∧
    s.dropStage.sfe = s.sfe ∧ s.dropStage.blu = s.blu ∧ s.dropStage.bme = s.bme ∧ s.dropStage.cru = s.cru ∧
    s.dropStage.sou = s.sou ∧ s.dropStage.freeCount = s.freeCount ∧ s.dropStage.pending = s.pending :=
    by simp [State.dropStage]

/-- All that withdrawing the interlock ask does: the ask and the grant are gone, a motion pending behind the grant begins,
and what is on its way of the start ends. -/
theorem State.dropStage_eq (s : State) : s.dropStage = { s with
    trs := match s.trs.interlock.held, s.trs.pendingMotion with
      | true, some w => { s.trs.begin w s.liu.params.motionTimeoutMs with interlock := .none }
      | _, _ => { s.trs with interlock := .none }
    inFlight := s.inFlight.filter fun c => !ofStart c } := by
  unfold State.dropStage State.interlockWithdraw State.interlockRelease State.recall State.tryInterlock
  cases hi : s.trs.interlock <;> cases hp : s.trs.pendingMotion <;>
    simp [Interlock.withoutAsk, Interlock.held, Interlock.released, hp, hi, Interlock.waits, State.beginMotion, Trs.begin]

@[simp] theorem State.withdrawAsks_frame (s : State) :
    s.withdrawAsks.prc = s.prc ∧ s.withdrawAsks.bpl = s.bpl ∧ s.withdrawAsks.fst = s.fst ∧
    s.withdrawAsks.sfe = s.sfe ∧ s.withdrawAsks.bme = s.bme ∧ s.withdrawAsks.cru = s.cru ∧
    s.withdrawAsks.sou = s.sou ∧ s.withdrawAsks.pending = s.pending :=
    by unfold State.withdrawAsks; (repeat' split) <;> simp

@[simp] theorem State.askAgain_frame (s : State) (h : HeldReq) :
    (s.askAgain h).prc = s.prc ∧ (s.askAgain h).bpl = s.bpl ∧ (s.askAgain h).fst = s.fst ∧
    (s.askAgain h).bme = s.bme ∧ (s.askAgain h).cru = s.cru ∧ (s.askAgain h).sou = s.sou ∧
    (s.askAgain h).pending = s.pending :=
    by simp [State.askAgain]

@[simp] theorem State.forgetHeld_frame (s : State) :
    s.forgetHeld.liu = s.liu ∧ s.forgetHeld.prc = s.prc ∧ s.forgetHeld.bpl = s.bpl ∧ s.forgetHeld.fst = s.fst ∧
    s.forgetHeld.blu = s.blu ∧ s.forgetHeld.trs = s.trs ∧ s.forgetHeld.bme = s.bme ∧ s.forgetHeld.cru = s.cru ∧
    s.forgetHeld.sou = s.sou ∧ s.forgetHeld.freeCount = s.freeCount ∧ s.forgetHeld.pending = s.pending :=
    by simp [State.forgetHeld]

@[simp] theorem State.forgetHeld_sfe (s : State) : s.forgetHeld.sfe = { s.sfe with held := none } := rfl

@[simp] theorem State.endHeld_frame (s : State) :
    s.endHeld.prc = s.prc ∧ s.endHeld.bpl = s.bpl ∧ s.endHeld.fst = s.fst ∧
    s.endHeld.bme = s.bme ∧ s.endHeld.cru = s.cru ∧ s.endHeld.sou = s.sou ∧ s.endHeld.pending = s.pending :=
    by unfold State.endHeld; (repeat' split) <;> simp

@[simp] theorem State.holdRequest_frame (s : State) (r : ExposureReq) :
    (s.holdRequest r).liu = s.liu ∧ (s.holdRequest r).prc = s.prc ∧ (s.holdRequest r).bpl = s.bpl ∧
    (s.holdRequest r).fst = s.fst ∧ (s.holdRequest r).blu = s.blu ∧ (s.holdRequest r).trs = s.trs ∧
    (s.holdRequest r).bme = s.bme ∧ (s.holdRequest r).cru = s.cru ∧ (s.holdRequest r).sou = s.sou ∧
    (s.holdRequest r).inFlight = s.inFlight ∧ (s.holdRequest r).freeCount = s.freeCount ∧
    (s.holdRequest r).pending = s.pending :=
    by simp [State.holdRequest]

@[simp] theorem State.refuseBusy_frame (s : State) (c : ExposureClient) :
    (s.refuseBusy c).liu = s.liu ∧ (s.refuseBusy c).bpl = s.bpl ∧ (s.refuseBusy c).fst = s.fst ∧
    (s.refuseBusy c).sfe = s.sfe ∧ (s.refuseBusy c).blu = s.blu ∧ (s.refuseBusy c).trs = s.trs ∧
    (s.refuseBusy c).bme = s.bme ∧ (s.refuseBusy c).sou = s.sou ∧ (s.refuseBusy c).inFlight = s.inFlight ∧
    (s.refuseBusy c).freeCount = s.freeCount ∧ (s.refuseBusy c).pending = s.pending := by
  unfold State.refuseBusy; (repeat' split) <;> simp

@[simp] theorem State.exposureRequested_frame (s : State) (r : ExposureReq) :
    (s.exposureRequested r).liu = s.liu ∧ (s.exposureRequested r).fst = s.fst ∧
    (s.exposureRequested r).blu = s.blu ∧ (s.exposureRequested r).trs = s.trs ∧
    (s.exposureRequested r).bme = s.bme ∧ (s.exposureRequested r).sou = s.sou ∧
    (s.exposureRequested r).freeCount = s.freeCount ∧ (s.exposureRequested r).pending = s.pending := by
  unfold State.exposureRequested; (repeat' split) <;> simp

@[simp] theorem State.releaseAll_frame (s : State) (r : ExposureReq) :
    (s.releaseAll r).prc = s.prc ∧ (s.releaseAll r).bpl = s.bpl ∧ (s.releaseAll r).fst = s.fst ∧
    (s.releaseAll r).sfe = s.sfe ∧ (s.releaseAll r).bme = s.bme ∧ (s.releaseAll r).cru = s.cru ∧
    (s.releaseAll r).sou = s.sou ∧ (s.releaseAll r).pending = s.pending :=
    by unfold State.releaseAll; (repeat' split) <;> simp

@[simp] theorem State.beginExposure_frame (s : State) (h : HeldReq) :
    (s.beginExposure h).liu = s.liu ∧ (s.beginExposure h).prc = s.prc ∧ (s.beginExposure h).bpl = s.bpl ∧
    (s.beginExposure h).fst = s.fst ∧ (s.beginExposure h).blu = s.blu ∧ (s.beginExposure h).trs = s.trs ∧
    (s.beginExposure h).bme = s.bme ∧ (s.beginExposure h).cru = s.cru ∧ (s.beginExposure h).sou = s.sou ∧
    (s.beginExposure h).inFlight = s.inFlight ∧ (s.beginExposure h).freeCount = s.freeCount ∧
    (s.beginExposure h).pending = s.pending :=
    by simp [State.beginExposure]

@[simp] theorem State.startExposure_frame (s : State) (h : HeldReq) :
    (s.startExposure h).prc = s.prc ∧ (s.startExposure h).bpl = s.bpl ∧ (s.startExposure h).bme = s.bme ∧
    (s.startExposure h).cru = s.cru ∧ (s.startExposure h).sou = s.sou ∧
    (s.startExposure h).pending = s.pending :=
    by unfold State.startExposure; (repeat' split) <;> simp

@[simp] theorem State.lampGranted_frame (s : State) :
    s.lampGranted.prc = s.prc ∧ s.lampGranted.bpl = s.bpl ∧ s.lampGranted.bme = s.bme ∧
    s.lampGranted.cru = s.cru ∧ s.lampGranted.sou = s.sou ∧ s.lampGranted.pending = s.pending :=
    by unfold State.lampGranted; (repeat' split) <;> simp

@[simp] theorem State.stageGranted_frame (s : State) :
    s.stageGranted.prc = s.prc ∧ s.stageGranted.bpl = s.bpl ∧ s.stageGranted.bme = s.bme ∧
    s.stageGranted.cru = s.cru ∧ s.stageGranted.sou = s.sou ∧ s.stageGranted.pending = s.pending :=
    by unfold State.stageGranted; (repeat' split) <;> simp

@[simp] theorem State.lampLost_frame (s : State) :
    s.lampLost.prc = s.prc ∧ s.lampLost.bpl = s.bpl ∧ s.lampLost.fst = s.fst ∧
    s.lampLost.bme = s.bme ∧ s.lampLost.cru = s.cru ∧ s.lampLost.sou = s.sou ∧
    s.lampLost.pending = s.pending :=
    by unfold State.lampLost; (repeat' split) <;> simp

@[simp] theorem State.cutShort_frame (s : State) (e : Exposing) :
    (s.cutShort e).prc = s.prc ∧ (s.cutShort e).bpl = s.bpl ∧ (s.cutShort e).fst = s.fst ∧
    (s.cutShort e).bme = s.bme ∧ (s.cutShort e).cru = s.cru ∧ (s.cutShort e).sou = s.sou ∧
    (s.cutShort e).pending = s.pending :=
    by simp [State.cutShort]

@[simp] theorem State.faultCut_frame (s : State) (e : Exposing) :
    (s.faultCut e).bpl = s.bpl ∧ (s.faultCut e).bme = s.bme ∧ (s.faultCut e).sou = s.sou ∧
    (s.faultCut e).pending = s.pending :=
    by unfold State.faultCut; (repeat' split) <;> simp

@[simp] theorem State.cutHeld_frame (s : State) (h : HeldReq) :
    (s.cutHeld h).bpl = s.bpl ∧ (s.cutHeld h).fst = s.fst ∧ (s.cutHeld h).bme = s.bme ∧ (s.cutHeld h).sou = s.sou ∧ (s.cutHeld h).pending = s.pending :=
    by simp [State.cutHeld]

@[simp] theorem State.lampFaulted_frame (s : State) :
    s.lampFaulted.bpl = s.bpl ∧ s.lampFaulted.bme = s.bme ∧ s.lampFaulted.sou = s.sou ∧
    s.lampFaulted.pending = s.pending :=
    by unfold State.lampFaulted; (repeat' split) <;> simp

@[simp] theorem State.stageFaulted_frame (s : State) :
    s.stageFaulted.bpl = s.bpl ∧ s.stageFaulted.bme = s.bme ∧ s.stageFaulted.sou = s.sou ∧
    s.stageFaulted.pending = s.pending :=
    by unfold State.stageFaulted; (repeat' split) <;> simp

@[simp] theorem State.goneAhead_frame (s : State) :
    s.goneAhead.liu = s.liu ∧ s.goneAhead.prc = s.prc ∧ s.goneAhead.bpl = s.bpl ∧ s.goneAhead.fst = s.fst ∧
    s.goneAhead.blu = s.blu ∧ s.goneAhead.trs = s.trs ∧ s.goneAhead.bme = s.bme ∧ s.goneAhead.cru = s.cru ∧
    s.goneAhead.sou = s.sou ∧ s.goneAhead.freeCount = s.freeCount ∧ s.goneAhead.pending = s.pending :=
    by unfold State.goneAhead; dsimp only; (repeat' split) <;> simp

@[simp] theorem State.exposureWithdrawn_frame (s : State) (c : ExposureClient) :
    (s.exposureWithdrawn c).prc = s.prc ∧ (s.exposureWithdrawn c).bpl = s.bpl ∧
    (s.exposureWithdrawn c).bme = s.bme ∧ (s.exposureWithdrawn c).cru = s.cru ∧
    (s.exposureWithdrawn c).sou = s.sou ∧ (s.exposureWithdrawn c).pending = s.pending := by
  unfold State.exposureWithdrawn; (repeat' split) <;> simp

@[simp] theorem State.reportEnd_frame (s : State) (c : ExposureClient) (m : Option Nat) :
    (s.reportEnd c m).liu = s.liu ∧ (s.reportEnd c m).prc = s.prc ∧ (s.reportEnd c m).fst = s.fst ∧
    (s.reportEnd c m).sfe = s.sfe ∧ (s.reportEnd c m).blu = s.blu ∧ (s.reportEnd c m).trs = s.trs ∧
    (s.reportEnd c m).bme = s.bme ∧ (s.reportEnd c m).cru = s.cru ∧ (s.reportEnd c m).sou = s.sou ∧
    (s.reportEnd c m).freeCount = s.freeCount ∧ (s.reportEnd c m).pending = s.pending :=
    by unfold State.reportEnd; (repeat' split) <;> simp

@[simp] theorem State.exposureEnded_frame (s : State) (since : Nat) :
    (s.exposureEnded since).prc = s.prc ∧ (s.exposureEnded since).fst = s.fst ∧
    (s.exposureEnded since).bme = s.bme ∧ (s.exposureEnded since).cru = s.cru ∧
    (s.exposureEnded since).sou = s.sou ∧ (s.exposureEnded since).pending = s.pending :=
    by unfold State.exposureEnded; (repeat' split) <;> simp

@[simp] theorem State.endReadout_frame (s : State) :
    s.endReadout.liu = s.liu ∧ s.endReadout.prc = s.prc ∧ s.endReadout.bpl = s.bpl ∧
    s.endReadout.blu = s.blu ∧ s.endReadout.trs = s.trs ∧ s.endReadout.bme = s.bme ∧
    s.endReadout.cru = s.cru ∧ s.endReadout.sou = s.sou ∧ s.endReadout.inFlight = s.inFlight ∧
    s.endReadout.freeCount = s.freeCount ∧ s.endReadout.pending = s.pending :=
    by simp [State.endReadout]

@[simp] theorem State.writeFrame_frame (s : State) (slot : Nat) (row : Nat) (frame : Runs Nat) :
    (s.writeFrame slot row frame).liu = s.liu ∧ (s.writeFrame slot row frame).prc = s.prc ∧
    (s.writeFrame slot row frame).bpl = s.bpl ∧ (s.writeFrame slot row frame).sfe = s.sfe ∧
    (s.writeFrame slot row frame).blu = s.blu ∧ (s.writeFrame slot row frame).trs = s.trs ∧
    (s.writeFrame slot row frame).bme = s.bme ∧ (s.writeFrame slot row frame).cru = s.cru ∧
    (s.writeFrame slot row frame).sou = s.sou ∧ (s.writeFrame slot row frame).inFlight = s.inFlight ∧
    (s.writeFrame slot row frame).freeCount = s.freeCount ∧
    (s.writeFrame slot row frame).pending = s.pending :=
    by simp [State.writeFrame]

@[simp] theorem State.handOver_frame (s : State) (r : Readout) (e : Exposing) (m : Option Nat) (temp : Int) (frame : Runs Nat) :
    (s.handOver r e m temp frame).liu = s.liu ∧ (s.handOver r e m temp frame).prc = s.prc ∧
    (s.handOver r e m temp frame).bpl = s.bpl ∧ (s.handOver r e m temp frame).blu = s.blu ∧
    (s.handOver r e m temp frame).trs = s.trs ∧ (s.handOver r e m temp frame).bme = s.bme ∧
    (s.handOver r e m temp frame).cru = s.cru ∧ (s.handOver r e m temp frame).sou = s.sou ∧
    (s.handOver r e m temp frame).freeCount = s.freeCount ∧
    (s.handOver r e m temp frame).pending = s.pending :=
    by unfold State.handOver; dsimp only; (repeat' split) <;> simp

@[simp] theorem State.clearHistogram_frame (s : State) (e : Exposing) :
    (s.clearHistogram e).liu = s.liu ∧ (s.clearHistogram e).prc = s.prc ∧ (s.clearHistogram e).bpl = s.bpl ∧
    (s.clearHistogram e).fst = s.fst ∧ (s.clearHistogram e).blu = s.blu ∧ (s.clearHistogram e).trs = s.trs ∧
    (s.clearHistogram e).bme = s.bme ∧ (s.clearHistogram e).cru = s.cru ∧ (s.clearHistogram e).sou = s.sou ∧
    (s.clearHistogram e).inFlight = s.inFlight ∧ (s.clearHistogram e).freeCount = s.freeCount ∧
    (s.clearHistogram e).pending = s.pending :=
    by unfold State.clearHistogram; (repeat' split) <;> simp

@[simp] theorem State.sfeSettled_frame (s : State) :
    s.sfeSettled.liu = s.liu ∧ s.sfeSettled.prc = s.prc ∧ s.sfeSettled.bpl = s.bpl ∧
    s.sfeSettled.fst = s.fst ∧ s.sfeSettled.sfe = s.sfe ∧ s.sfeSettled.blu = s.blu ∧
    s.sfeSettled.trs = s.trs ∧ s.sfeSettled.bme = s.bme ∧ s.sfeSettled.cru = s.cru ∧
    s.sfeSettled.sou = s.sou ∧ s.sfeSettled.freeCount = s.freeCount ∧ s.sfeSettled.pending = s.pending :=
    by unfold State.sfeSettled; (repeat' split) <;> simp

@[simp] theorem State.readoutDone_frame (s : State) (frame : Runs Nat) :
    (s.readoutDone frame).liu = s.liu ∧ (s.readoutDone frame).prc = s.prc ∧
    (s.readoutDone frame).bpl = s.bpl ∧ (s.readoutDone frame).blu = s.blu ∧
    (s.readoutDone frame).trs = s.trs ∧ (s.readoutDone frame).bme = s.bme ∧
    (s.readoutDone frame).cru = s.cru ∧ (s.readoutDone frame).sou = s.sou ∧
    (s.readoutDone frame).freeCount = s.freeCount ∧ (s.readoutDone frame).pending = s.pending :=
    by unfold State.readoutDone; (repeat' split) <;> simp

@[simp] theorem State.flushDone_frame (s : State) :
    s.flushDone.liu = s.liu ∧ s.flushDone.prc = s.prc ∧ s.flushDone.bpl = s.bpl ∧ s.flushDone.blu = s.blu ∧
    s.flushDone.trs = s.trs ∧ s.flushDone.bme = s.bme ∧ s.flushDone.cru = s.cru ∧ s.flushDone.sou = s.sou ∧
    s.flushDone.freeCount = s.freeCount ∧ s.flushDone.pending = s.pending :=
    by unfold State.flushDone; (repeat' split) <;> simp

@[simp] theorem State.refuseHeld_frame (s : State) :
    s.refuseHeld.liu = s.liu ∧ s.refuseHeld.prc = s.prc ∧ s.refuseHeld.fst = s.fst ∧
    s.refuseHeld.blu = s.blu ∧ s.refuseHeld.trs = s.trs ∧ s.refuseHeld.bme = s.bme ∧
    s.refuseHeld.cru = s.cru ∧ s.refuseHeld.sou = s.sou ∧ s.refuseHeld.freeCount = s.freeCount ∧
    s.refuseHeld.pending = s.pending :=
    by unfold State.refuseHeld; (repeat' split) <;> simp

@[simp] theorem State.sensorFault_frame (s : State) (c : SensorFault) :
    (s.sensorFault c).prc = s.prc ∧ (s.sensorFault c).fst = s.fst ∧ (s.sensorFault c).blu = s.blu ∧
    (s.sensorFault c).trs = s.trs ∧ (s.sensorFault c).bme = s.bme ∧ (s.sensorFault c).cru = s.cru ∧
    (s.sensorFault c).sou = s.sou ∧ (s.sensorFault c).freeCount = s.freeCount ∧
    (s.sensorFault c).pending = s.pending :=
    by simp [State.sensorFault]

@[simp] theorem State.reportRetry_frame (s : State) (c : ExposureClient) :
    (s.reportRetry c).liu = s.liu ∧ (s.reportRetry c).prc = s.prc ∧ (s.reportRetry c).bpl = s.bpl ∧
    (s.reportRetry c).fst = s.fst ∧ (s.reportRetry c).sfe = s.sfe ∧ (s.reportRetry c).blu = s.blu ∧
    (s.reportRetry c).trs = s.trs ∧ (s.reportRetry c).bme = s.bme ∧ (s.reportRetry c).cru = s.cru ∧
    (s.reportRetry c).sou = s.sou ∧ (s.reportRetry c).freeCount = s.freeCount ∧
    (s.reportRetry c).pending = s.pending :=
    by unfold State.reportRetry; (repeat' split) <;> simp

@[simp] theorem State.abandonReadout_frame (s : State) (e : Exposing) :
    (s.abandonReadout e).liu = s.liu ∧ (s.abandonReadout e).prc = s.prc ∧ (s.abandonReadout e).bpl = s.bpl ∧
    (s.abandonReadout e).blu = s.blu ∧ (s.abandonReadout e).trs = s.trs ∧ (s.abandonReadout e).bme = s.bme ∧
    (s.abandonReadout e).sou = s.sou ∧ (s.abandonReadout e).freeCount = s.freeCount ∧
    (s.abandonReadout e).pending = s.pending :=
    by unfold State.abandonReadout; (repeat' split) <;> simp

@[simp] theorem State.armRepeat_frame (s : State) (e : Exposing) :
    (s.armRepeat e).liu = s.liu ∧ (s.armRepeat e).prc = s.prc ∧ (s.armRepeat e).bpl = s.bpl ∧
    (s.armRepeat e).blu = s.blu ∧ (s.armRepeat e).trs = s.trs ∧ (s.armRepeat e).bme = s.bme ∧
    (s.armRepeat e).sou = s.sou ∧ (s.armRepeat e).freeCount = s.freeCount ∧
    (s.armRepeat e).pending = s.pending :=
    by simp [State.armRepeat]

@[simp] theorem State.readoutExpired_frame (s : State) :
    s.readoutExpired.prc = s.prc ∧ s.readoutExpired.blu = s.blu ∧ s.readoutExpired.trs = s.trs ∧
    s.readoutExpired.bme = s.bme ∧ s.readoutExpired.sou = s.sou ∧ s.readoutExpired.freeCount = s.freeCount ∧
    s.readoutExpired.pending = s.pending :=
    by unfold State.readoutExpired; (repeat' split) <;> simp

@[simp] theorem State.holdHot_frame (s : State) :
    s.holdHot.prc = s.prc ∧ s.holdHot.bpl = s.bpl ∧ s.holdHot.fst = s.fst ∧
    s.holdHot.bme = s.bme ∧ s.holdHot.cru = s.cru ∧ s.holdHot.sou = s.sou ∧ s.holdHot.pending = s.pending :=
    by unfold State.holdHot; (repeat' split) <;> simp

@[simp] theorem State.releaseHot_frame (s : State) :
    s.releaseHot.liu = s.liu ∧ s.releaseHot.prc = s.prc ∧ s.releaseHot.bpl = s.bpl ∧
    s.releaseHot.fst = s.fst ∧ s.releaseHot.blu = s.blu ∧ s.releaseHot.trs = s.trs ∧
    s.releaseHot.bme = s.bme ∧ s.releaseHot.cru = s.cru ∧ s.releaseHot.sou = s.sou ∧
    s.releaseHot.freeCount = s.freeCount ∧ s.releaseHot.pending = s.pending :=
    by unfold State.releaseHot; (repeat' split) <;> simp

@[simp] theorem State.sensorSample_frame (s : State) (t : Int) :
    (s.sensorSample t).prc = s.prc ∧ (s.sensorSample t).bpl = s.bpl ∧ (s.sensorSample t).fst = s.fst ∧
    (s.sensorSample t).bme = s.bme ∧ (s.sensorSample t).cru = s.cru ∧
    (s.sensorSample t).sou = s.sou ∧ (s.sensorSample t).pending = s.pending :=
    by unfold State.sensorSample; dsimp only; (repeat' split) <;> simp

@[simp] theorem State.startReinit_frame (s : State) :
    s.startReinit.liu = s.liu ∧ s.startReinit.prc = s.prc ∧ s.startReinit.bpl = s.bpl ∧
    s.startReinit.fst = s.fst ∧ s.startReinit.blu = s.blu ∧ s.startReinit.trs = s.trs ∧
    s.startReinit.bme = s.bme ∧ s.startReinit.cru = s.cru ∧ s.startReinit.sou = s.sou ∧
    s.startReinit.inFlight = s.inFlight ∧ s.startReinit.freeCount = s.freeCount ∧
    s.startReinit.pending = s.pending :=
    by unfold State.startReinit; (repeat' split) <;> simp

@[simp] theorem State.reinitDone_frame (s : State) :
    s.reinitDone.prc = s.prc ∧ s.reinitDone.bpl = s.bpl ∧ s.reinitDone.fst = s.fst ∧
    s.reinitDone.blu = s.blu ∧ s.reinitDone.trs = s.trs ∧ s.reinitDone.bme = s.bme ∧
    s.reinitDone.cru = s.cru ∧ s.reinitDone.sou = s.sou ∧ s.reinitDone.freeCount = s.freeCount ∧
    s.reinitDone.pending = s.pending :=
    by unfold State.reinitDone; (repeat' split) <;> simp

@[simp] theorem State.reinitFailed_frame (s : State) :
    s.reinitFailed.prc = s.prc ∧ s.reinitFailed.fst = s.fst ∧ s.reinitFailed.blu = s.blu ∧
    s.reinitFailed.trs = s.trs ∧ s.reinitFailed.bme = s.bme ∧ s.reinitFailed.cru = s.cru ∧
    s.reinitFailed.sou = s.sou ∧ s.reinitFailed.freeCount = s.freeCount ∧
    s.reinitFailed.pending = s.pending :=
    by unfold State.reinitFailed; (repeat' split) <;> simp

@[simp] theorem State.sfeQuiesce_frame (s : State) :
    s.sfeQuiesce.prc = s.prc ∧ s.sfeQuiesce.bpl = s.bpl ∧ s.sfeQuiesce.fst = s.fst ∧
    s.sfeQuiesce.bme = s.bme ∧ s.sfeQuiesce.cru = s.cru ∧ s.sfeQuiesce.sou = s.sou ∧
    s.sfeQuiesce.pending = s.pending :=
    by unfold State.sfeQuiesce; dsimp only; (repeat' split) <;> simp

/-! ## Faults of BLU and TRS -/

@[simp] theorem State.reportLampFault_frame (s : State) :
    s.reportLampFault.bpl = s.bpl ∧ s.reportLampFault.bme = s.bme ∧ s.reportLampFault.sou = s.sou ∧
    s.reportLampFault.pending = s.pending := by
  unfold State.reportLampFault; (repeat' split) <;> simp

@[simp] theorem State.lampFault_frame (s : State) (cause : LampFault) :
    (s.lampFault cause).bpl = s.bpl ∧ (s.lampFault cause).bme = s.bme ∧ (s.lampFault cause).sou = s.sou ∧
    (s.lampFault cause).pending = s.pending := by
  unfold State.lampFault; dsimp only; (repeat' split) <;> simp

@[simp] theorem State.sample_frame (s : State) (v0 : Nat) :
    (s.sample v0).bpl = s.bpl ∧ (s.sample v0).bme = s.bme ∧ (s.sample v0).sou = s.sou ∧
    (s.sample v0).pending = s.pending := by
  unfold State.sample; dsimp only; (repeat' split) <;> simp

@[simp] theorem State.leaveDark_frame (s : State) :
    s.leaveDark.prc = s.prc ∧ s.leaveDark.bpl = s.bpl ∧ s.leaveDark.fst = s.fst ∧
    s.leaveDark.sfe = s.sfe ∧ s.leaveDark.trs = s.trs ∧ s.leaveDark.bme = s.bme ∧
    s.leaveDark.cru = s.cru ∧ s.leaveDark.sou = s.sou ∧ s.leaveDark.inFlight = s.inFlight ∧
    s.leaveDark.freeCount = s.freeCount ∧ s.leaveDark.pending = s.pending :=
    by unfold State.leaveDark; (repeat' split) <;> simp

@[simp] theorem State.cutDark_frame (s : State) :
    s.cutDark.bpl = s.bpl ∧ s.cutDark.bme = s.bme ∧ s.cutDark.sou = s.sou ∧ s.cutDark.pending = s.pending :=
    by unfold State.cutDark; (repeat' split) <;> simp

/-- Without a dark frame in progress there is nothing to cut. -/
theorem State.cutDark_none (s : State) (h : ∀ e, s.sfe.exposing = some e → e.req.lamp ≠ .dark) : s.cutDark = s := by
  unfold State.cutDark; cases he : s.sfe.exposing <;> simp_all

@[simp] theorem State.cutLit_frame (s : State) :
    s.cutLit.bpl = s.bpl ∧ s.cutLit.bme = s.bme ∧ s.cutLit.sou = s.sou ∧ s.cutLit.pending = s.pending :=
    by unfold State.cutLit; (repeat' split) <;> simp

/-- With no lit exposure in progress the dark hold cuts nothing. -/
theorem State.cutLit_none (s : State) (h : ∀ e, s.sfe.exposing = some e → e.req.lamp = .dark) : s.cutLit = s := by
  unfold State.cutLit; cases he : s.sfe.exposing <;> simp_all

@[simp] theorem State.darkHold_frame (s : State) :
    s.darkHold.bpl = s.bpl ∧ s.darkHold.bme = s.bme ∧ s.darkHold.sou = s.sou ∧
    s.darkHold.pending = s.pending :=
    by unfold State.darkHold; (repeat' split) <;> simp

@[simp] theorem State.darkRelease_frame (s : State) :
    s.darkRelease.bpl = s.bpl ∧ s.darkRelease.bme = s.bme ∧ s.darkRelease.sou = s.sou ∧
    s.darkRelease.pending = s.pending :=
    by unfold State.darkRelease; (repeat' split) <;> simp

@[simp] theorem State.endInterlock_frame (s : State) :
    s.endInterlock.bpl = s.bpl ∧ s.endInterlock.bme = s.bme ∧ s.endInterlock.sou = s.sou ∧
    s.endInterlock.pending = s.pending := by
  unfold State.endInterlock; dsimp only; (repeat' split) <;> simp

@[simp] theorem State.trsFault_frame (s : State) (cause : TrsFault) (seen : Bool) :
    (s.trsFault cause seen).bpl = s.bpl ∧ (s.trsFault cause seen).bme = s.bme ∧
    (s.trsFault cause seen).sou = s.sou ∧ (s.trsFault cause seen).pending = s.pending := by
  unfold State.trsFault; dsimp only; (repeat' split) <;> simp

@[simp] theorem State.loadLegDone_frame (s : State) (seen : Bool) :
    (s.loadLegDone seen).bpl = s.bpl ∧ (s.loadLegDone seen).bme = s.bme ∧ (s.loadLegDone seen).sou = s.sou ∧
    (s.loadLegDone seen).pending = s.pending := by
  unfold State.loadLegDone; (repeat' split) <;> simp

@[simp] theorem State.unloadLegDone_frame (s : State) :
    s.unloadLegDone.bpl = s.bpl ∧ s.unloadLegDone.bme = s.bme ∧ s.unloadLegDone.sou = s.sou ∧
    s.unloadLegDone.pending = s.pending := by
  unfold State.unloadLegDone; (repeat' split) <;> simp

@[simp] theorem State.startHome_frame (s : State) :
    s.startHome.bpl = s.bpl ∧ s.startHome.bme = s.bme ∧ s.startHome.sou = s.sou ∧
    s.startHome.pending = s.pending := by
  unfold State.startHome; dsimp only; (repeat' split) <;> simp

@[simp] theorem State.motionExpired_frame (s : State) (seen : Bool) (scanned : List (Nat × Bool)) :
    (s.motionExpired seen scanned).bpl = s.bpl ∧ (s.motionExpired seen scanned).bme = s.bme ∧
    (s.motionExpired seen scanned).sou = s.sou ∧ (s.motionExpired seen scanned).pending = s.pending := by
  unfold State.motionExpired; (repeat' split) <;> simp

end Sys2Proof.Machine
end

