-- ==== Sys2Proof/Laws/FramesRun.lean ====
section
/-! SUPPORT. The fields that the operations of the merge engine, the run, the jobs, the link and the reset leave,
whatever their arguments. -/

namespace Sys2Proof.Machine

set_option linter.all false

/-! ## Merge engine (BME) -/

@[simp] theorem State.takeUp_frame (s : State) :
    s.takeUp.liu = s.liu ∧ s.takeUp.bpl = s.bpl ∧ s.takeUp.sfe = s.sfe ∧ s.takeUp.blu = s.blu ∧
    s.takeUp.trs = s.trs ∧ s.takeUp.sou = s.sou ∧ s.takeUp.freeCount = s.freeCount ∧
    s.takeUp.pending = s.pending :=
    by unfold State.takeUp; dsimp only; (repeat' split) <;> simp

@[simp] theorem State.mergeAppend_frame (s : State) (t : TileRef) :
    (s.mergeAppend t).liu = s.liu ∧ (s.mergeAppend t).bpl = s.bpl ∧ (s.mergeAppend t).sfe = s.sfe ∧
    (s.mergeAppend t).blu = s.blu ∧ (s.mergeAppend t).trs = s.trs ∧ (s.mergeAppend t).sou = s.sou ∧
    (s.mergeAppend t).freeCount = s.freeCount ∧ (s.mergeAppend t).pending = s.pending :=
    by simp [State.mergeAppend]

@[simp] theorem State.bmeIdle_frame (s : State) :
    s.bmeIdle.liu = s.liu ∧ s.bmeIdle.bpl = s.bpl ∧ s.bmeIdle.sfe = s.sfe ∧ s.bmeIdle.blu = s.blu ∧
    s.bmeIdle.trs = s.trs ∧ s.bmeIdle.sou = s.sou ∧ s.bmeIdle.freeCount = s.freeCount ∧
    s.bmeIdle.pending = s.pending :=
    by simp [State.bmeIdle]

@[simp] theorem State.mergeBandDone_frame (s : State) (w : MergeWork) :
    (s.mergeBandDone w).1.liu = s.liu ∧ (s.mergeBandDone w).1.prc = s.prc ∧
    (s.mergeBandDone w).1.bpl = s.bpl ∧ (s.mergeBandDone w).1.sfe = s.sfe ∧
    (s.mergeBandDone w).1.blu = s.blu ∧ (s.mergeBandDone w).1.trs = s.trs ∧
    (s.mergeBandDone w).1.bme = s.bme ∧ (s.mergeBandDone w).1.cru = s.cru ∧
    (s.mergeBandDone w).1.sou = s.sou ∧ (s.mergeBandDone w).1.inFlight = s.inFlight ∧
    (s.mergeBandDone w).1.freeCount = s.freeCount ∧ (s.mergeBandDone w).1.pending = s.pending :=
    by unfold State.mergeBandDone; (repeat' split) <;> simp

@[simp] theorem State.reportMerge_frame (s : State) (w : MergeWork) :
    (s.reportMerge w).liu = s.liu ∧ (s.reportMerge w).bpl = s.bpl ∧ (s.reportMerge w).fst = s.fst ∧
    (s.reportMerge w).sfe = s.sfe ∧ (s.reportMerge w).blu = s.blu ∧ (s.reportMerge w).trs = s.trs ∧
    (s.reportMerge w).bme = s.bme ∧ (s.reportMerge w).cru = s.cru ∧ (s.reportMerge w).sou = s.sou ∧
    (s.reportMerge w).inFlight = s.inFlight ∧ (s.reportMerge w).freeCount = s.freeCount ∧
    (s.reportMerge w).pending = s.pending :=
    by unfold State.reportMerge; split <;> simp

@[simp] theorem State.outAppend_frame (s : State) (w : MergeWork) :
    (s.outAppend w).liu = s.liu ∧ (s.outAppend w).bpl = s.bpl ∧ (s.outAppend w).sfe = s.sfe ∧
    (s.outAppend w).blu = s.blu ∧ (s.outAppend w).trs = s.trs ∧ (s.outAppend w).bme = s.bme ∧
    (s.outAppend w).freeCount = s.freeCount ∧ (s.outAppend w).pending = s.pending :=
    by unfold State.outAppend; (repeat' split) <;> simp

@[simp] theorem State.mergeDone_frame (s : State) (w : MergeWork) :
    (s.mergeDone w).liu = s.liu ∧ (s.mergeDone w).bpl = s.bpl ∧ (s.mergeDone w).sfe = s.sfe ∧
    (s.mergeDone w).blu = s.blu ∧ (s.mergeDone w).trs = s.trs ∧ (s.mergeDone w).freeCount = s.freeCount ∧
    (s.mergeDone w).pending = s.pending :=
    by simp [State.mergeDone]

@[simp] theorem State.mergeAbandoned_frame (s : State) (t : TileRef) :
    (s.mergeAbandoned t).liu = s.liu ∧ (s.mergeAbandoned t).bpl = s.bpl ∧ (s.mergeAbandoned t).sfe = s.sfe ∧
    (s.mergeAbandoned t).blu = s.blu ∧ (s.mergeAbandoned t).trs = s.trs ∧ (s.mergeAbandoned t).sou = s.sou ∧
    (s.mergeAbandoned t).freeCount = s.freeCount ∧ (s.mergeAbandoned t).pending = s.pending :=
    by simp [State.mergeAbandoned]

@[simp] theorem State.bmeDiscard_frame (s : State) :
    s.bmeDiscard.liu = s.liu ∧ s.bmeDiscard.prc = s.prc ∧ s.bmeDiscard.bpl = s.bpl ∧
    s.bmeDiscard.fst = s.fst ∧ s.bmeDiscard.sfe = s.sfe ∧ s.bmeDiscard.blu = s.blu ∧
    s.bmeDiscard.trs = s.trs ∧ s.bmeDiscard.cru = s.cru ∧ s.bmeDiscard.sou = s.sou ∧
    s.bmeDiscard.freeCount = s.freeCount ∧ s.bmeDiscard.pending = s.pending :=
    by simp [State.bmeDiscard]

@[simp] theorem State.calOpDone_frame (s : State) (c : CalWork) :
    (s.calOpDone c).liu = s.liu ∧ (s.calOpDone c).prc = s.prc ∧ (s.calOpDone c).bpl = s.bpl ∧
    (s.calOpDone c).fst = s.fst ∧ (s.calOpDone c).sfe = s.sfe ∧ (s.calOpDone c).blu = s.blu ∧
    (s.calOpDone c).trs = s.trs ∧ (s.calOpDone c).cru = s.cru ∧ (s.calOpDone c).sou = s.sou ∧
    (s.calOpDone c).freeCount = s.freeCount ∧ (s.calOpDone c).pending = s.pending :=
    by unfold State.calOpDone; (repeat' split) <;> simp

@[simp] theorem State.calBandDone_frame (s : State) (c : CalWork) :
    (s.calBandDone c).liu = s.liu ∧ (s.calBandDone c).bpl = s.bpl ∧ (s.calBandDone c).sfe = s.sfe ∧
    (s.calBandDone c).blu = s.blu ∧ (s.calBandDone c).trs = s.trs ∧ (s.calBandDone c).sou = s.sou ∧
    (s.calBandDone c).freeCount = s.freeCount ∧ (s.calBandDone c).pending = s.pending :=
    by unfold State.calBandDone; dsimp only; (repeat' split) <;> simp

@[simp] theorem State.mergingBandDone_frame (s : State) (w : MergeWork) :
    (s.mergingBandDone w).liu = s.liu ∧ (s.mergingBandDone w).bpl = s.bpl ∧
    (s.mergingBandDone w).sfe = s.sfe ∧ (s.mergingBandDone w).blu = s.blu ∧
    (s.mergingBandDone w).trs = s.trs ∧ (s.mergingBandDone w).freeCount = s.freeCount ∧
    (s.mergingBandDone w).pending = s.pending :=
    by unfold State.mergingBandDone; dsimp only; (repeat' split) <;> simp

@[simp] theorem State.abandoningBandDone_frame (s : State) (w : MergeWork) :
    (s.abandoningBandDone w).liu = s.liu ∧ (s.abandoningBandDone w).bpl = s.bpl ∧
    (s.abandoningBandDone w).sfe = s.sfe ∧ (s.abandoningBandDone w).blu = s.blu ∧
    (s.abandoningBandDone w).trs = s.trs ∧ (s.abandoningBandDone w).sou = s.sou ∧
    (s.abandoningBandDone w).freeCount = s.freeCount ∧ (s.abandoningBandDone w).pending = s.pending :=
    by unfold State.abandoningBandDone; dsimp only; (repeat' split) <;> simp

@[simp] theorem State.bandDone_frame (s : State) :
    s.bandDone.liu = s.liu ∧ s.bandDone.bpl = s.bpl ∧ s.bandDone.sfe = s.sfe ∧ s.bandDone.blu = s.blu ∧
    s.bandDone.trs = s.trs ∧ s.bandDone.freeCount = s.freeCount ∧ s.bandDone.pending = s.pending :=
    by unfold State.bandDone; (repeat' split) <;> simp

@[simp] theorem State.bmeAbandoned_frame (s : State) (t : TileRef) :
    (s.bmeAbandoned t).liu = s.liu ∧ (s.bmeAbandoned t).prc = s.prc ∧ (s.bmeAbandoned t).bpl = s.bpl ∧
    (s.bmeAbandoned t).sfe = s.sfe ∧ (s.bmeAbandoned t).blu = s.blu ∧ (s.bmeAbandoned t).trs = s.trs ∧
    (s.bmeAbandoned t).sou = s.sou ∧ (s.bmeAbandoned t).freeCount = s.freeCount ∧
    (s.bmeAbandoned t).pending = s.pending :=
    by unfold State.bmeAbandoned; dsimp only; (repeat' split) <;> simp

@[simp] theorem State.calWorkAsked_frame (s : State) (low : Nat) (high : Nat) :
    (s.calWorkAsked low high).liu = s.liu ∧ (s.calWorkAsked low high).prc = s.prc ∧
    (s.calWorkAsked low high).bpl = s.bpl ∧ (s.calWorkAsked low high).sfe = s.sfe ∧
    (s.calWorkAsked low high).blu = s.blu ∧ (s.calWorkAsked low high).trs = s.trs ∧
    (s.calWorkAsked low high).cru = s.cru ∧ (s.calWorkAsked low high).sou = s.sou ∧
    (s.calWorkAsked low high).freeCount = s.freeCount ∧ (s.calWorkAsked low high).pending = s.pending :=
    by unfold State.calWorkAsked; (repeat' split) <;> simp

@[simp] theorem State.calOp_frame (s : State) (op : CalOp) :
    (s.calOp op).liu = s.liu ∧ (s.calOp op).prc = s.prc ∧ (s.calOp op).bpl = s.bpl ∧
    (s.calOp op).fst = s.fst ∧ (s.calOp op).sfe = s.sfe ∧ (s.calOp op).blu = s.blu ∧
    (s.calOp op).trs = s.trs ∧ (s.calOp op).cru = s.cru ∧ (s.calOp op).sou = s.sou ∧
    (s.calOp op).inFlight = s.inFlight ∧ (s.calOp op).freeCount = s.freeCount ∧
    (s.calOp op).pending = s.pending :=
    by unfold State.calOp; (repeat' split) <;> simp

@[simp] theorem State.calReleased_frame (s : State) :
    s.calReleased.liu = s.liu ∧ s.calReleased.bpl = s.bpl ∧ s.calReleased.sfe = s.sfe ∧
    s.calReleased.blu = s.blu ∧ s.calReleased.trs = s.trs ∧ s.calReleased.sou = s.sou ∧
    s.calReleased.freeCount = s.freeCount ∧ s.calReleased.pending = s.pending :=
    by unfold State.calReleased; (repeat' split) <;> simp

@[simp] theorem State.bmeQuiesce_frame (s : State) :
    s.bmeQuiesce.liu = s.liu ∧ s.bmeQuiesce.prc = s.prc ∧ s.bmeQuiesce.bpl = s.bpl ∧
    s.bmeQuiesce.fst = s.fst ∧ s.bmeQuiesce.sfe = s.sfe ∧ s.bmeQuiesce.blu = s.blu ∧
    s.bmeQuiesce.trs = s.trs ∧ s.bmeQuiesce.cru = s.cru ∧ s.bmeQuiesce.sou = s.sou ∧
    s.bmeQuiesce.freeCount = s.freeCount ∧ s.bmeQuiesce.pending = s.pending :=
    by unfold State.bmeQuiesce; dsimp only; (repeat' split) <;> simp

/-! ## Shared operations of the run -/

@[simp] theorem State.abandonTiles_frame (s : State) (j : Job) (f : TileState → Bool) :
    (s.abandonTiles j f).bpl = s.bpl ∧ (s.abandonTiles j f).fst = s.fst ∧
    (s.abandonTiles j f).sfe = s.sfe ∧ (s.abandonTiles j f).blu = s.blu ∧
    (s.abandonTiles j f).trs = s.trs ∧ (s.abandonTiles j f).bme = s.bme ∧
    (s.abandonTiles j f).cru = s.cru ∧ (s.abandonTiles j f).sou = s.sou ∧
    (s.abandonTiles j f).freeCount = s.freeCount ∧ (s.abandonTiles j f).pending = s.pending := by
  unfold State.abandonTiles
  generalize ((j.tiles.filter fun x => f x.state).map j.ref) = l
  induction l generalizing s with
  | nil => simp
  | cons t l ih =>
    rw [List.foldl_cons]; simp only [ih]; unfold State.abandonTile State.withdrawTile; (repeat' split) <;> simp

@[simp] theorem State.issueUnload_frame (s : State) (k : TrsRequest) :
    (s.issueUnload k).liu = s.liu ∧ (s.issueUnload k).bpl = s.bpl ∧ (s.issueUnload k).fst = s.fst ∧
    (s.issueUnload k).sfe = s.sfe ∧ (s.issueUnload k).blu = s.blu ∧ (s.issueUnload k).trs = s.trs ∧
    (s.issueUnload k).bme = s.bme ∧ (s.issueUnload k).cru = s.cru ∧ (s.issueUnload k).sou = s.sou ∧
    (s.issueUnload k).freeCount = s.freeCount ∧ (s.issueUnload k).pending = s.pending :=
    by simp [State.issueUnload]

@[simp] theorem State.askUnload_frame (s : State) (k : TrsRequest) :
    (s.askUnload k).liu = s.liu ∧ (s.askUnload k).bpl = s.bpl ∧ (s.askUnload k).fst = s.fst ∧
    (s.askUnload k).sfe = s.sfe ∧ (s.askUnload k).blu = s.blu ∧ (s.askUnload k).trs = s.trs ∧
    (s.askUnload k).bme = s.bme ∧ (s.askUnload k).cru = s.cru ∧ (s.askUnload k).sou = s.sou ∧
    (s.askUnload k).freeCount = s.freeCount ∧ (s.askUnload k).pending = s.pending :=
    by unfold State.askUnload; (repeat' split) <;> simp

@[simp] theorem State.askMove_frame (s : State) (x : Tile) (k : TrsRequest) :
    (s.askMove x k).liu = s.liu ∧ (s.askMove x k).bpl = s.bpl ∧ (s.askMove x k).fst = s.fst ∧
    (s.askMove x k).sfe = s.sfe ∧ (s.askMove x k).blu = s.blu ∧ (s.askMove x k).trs = s.trs ∧
    (s.askMove x k).bme = s.bme ∧ (s.askMove x k).cru = s.cru ∧ (s.askMove x k).sou = s.sou ∧
    (s.askMove x k).freeCount = s.freeCount ∧ (s.askMove x k).pending = s.pending :=
    by simp [State.askMove]

@[simp] theorem State.beginTile_frame (s : State) (t : TileRef) :
    (s.beginTile t).liu = s.liu ∧ (s.beginTile t).bpl = s.bpl ∧ (s.beginTile t).fst = s.fst ∧
    (s.beginTile t).sfe = s.sfe ∧ (s.beginTile t).blu = s.blu ∧ (s.beginTile t).trs = s.trs ∧
    (s.beginTile t).bme = s.bme ∧ (s.beginTile t).cru = s.cru ∧ (s.beginTile t).sou = s.sou ∧
    (s.beginTile t).freeCount = s.freeCount ∧ (s.beginTile t).pending = s.pending :=
    by unfold State.beginTile; (repeat' split) <;> simp

@[simp] theorem State.beginNext_frame (s : State) :
    s.beginNext.liu = s.liu ∧ s.beginNext.bpl = s.bpl ∧ s.beginNext.fst = s.fst ∧ s.beginNext.sfe = s.sfe ∧
    s.beginNext.blu = s.blu ∧ s.beginNext.trs = s.trs ∧ s.beginNext.bme = s.bme ∧ s.beginNext.cru = s.cru ∧
    s.beginNext.sou = s.sou ∧ s.beginNext.freeCount = s.freeCount ∧ s.beginNext.pending = s.pending :=
    by unfold State.beginNext; (repeat' split) <;> simp

@[simp] theorem State.issuePlan_frame (s : State) (t : TileRef) :
    (s.issuePlan t).liu = s.liu ∧ (s.issuePlan t).bpl = s.bpl ∧ (s.issuePlan t).fst = s.fst ∧
    (s.issuePlan t).sfe = s.sfe ∧ (s.issuePlan t).blu = s.blu ∧ (s.issuePlan t).trs = s.trs ∧
    (s.issuePlan t).bme = s.bme ∧ (s.issuePlan t).cru = s.cru ∧ (s.issuePlan t).sou = s.sou ∧
    (s.issuePlan t).freeCount = s.freeCount ∧ (s.issuePlan t).pending = s.pending :=
    by unfold State.issuePlan; (repeat' split) <;> simp

@[simp] theorem State.requestExposure_frame (s : State) (t : TileRef) :
    (s.requestExposure t).liu = s.liu ∧ (s.requestExposure t).bpl = s.bpl ∧
    (s.requestExposure t).fst = s.fst ∧ (s.requestExposure t).sfe = s.sfe ∧
    (s.requestExposure t).blu = s.blu ∧ (s.requestExposure t).trs = s.trs ∧
    (s.requestExposure t).bme = s.bme ∧ (s.requestExposure t).cru = s.cru ∧
    (s.requestExposure t).sou = s.sou ∧ (s.requestExposure t).freeCount = s.freeCount ∧
    (s.requestExposure t).pending = s.pending :=
    by unfold State.requestExposure; (repeat' split) <;> simp

@[simp] theorem State.tryHoldPoint_frame (s : State) :
    s.tryHoldPoint.bpl = s.bpl ∧ s.tryHoldPoint.fst = s.fst ∧ s.tryHoldPoint.sfe = s.sfe ∧
    s.tryHoldPoint.blu = s.blu ∧ s.tryHoldPoint.trs = s.trs ∧ s.tryHoldPoint.bme = s.bme ∧
    s.tryHoldPoint.cru = s.cru ∧ s.tryHoldPoint.sou = s.sou ∧ s.tryHoldPoint.inFlight = s.inFlight ∧
    s.tryHoldPoint.freeCount = s.freeCount ∧ s.tryHoldPoint.pending = s.pending :=
    by unfold State.tryHoldPoint; (repeat' split) <;> simp

@[simp] theorem State.startJob_frame (s : State) (j : Job) :
    (s.startJob j).bpl = s.bpl ∧ (s.startJob j).fst = s.fst ∧ (s.startJob j).sfe = s.sfe ∧
    (s.startJob j).trs = s.trs ∧ (s.startJob j).bme = s.bme ∧ (s.startJob j).cru = s.cru ∧
    (s.startJob j).sou = s.sou ∧ (s.startJob j).freeCount = s.freeCount ∧
    (s.startJob j).pending = s.pending :=
    by simp [State.startJob]

@[simp] theorem State.considerStart_frame (s : State) :
    s.considerStart.bpl = s.bpl ∧ s.considerStart.fst = s.fst ∧ s.considerStart.sfe = s.sfe ∧
    s.considerStart.trs = s.trs ∧ s.considerStart.bme = s.bme ∧ s.considerStart.cru = s.cru ∧
    s.considerStart.sou = s.sou ∧ s.considerStart.freeCount = s.freeCount ∧
    s.considerStart.pending = s.pending :=
    by unfold State.considerStart; (repeat' split) <;> simp

@[simp] theorem State.idleCheck_frame (s : State) :
    s.idleCheck.bpl = s.bpl ∧ s.idleCheck.fst = s.fst ∧ s.idleCheck.sfe = s.sfe ∧ s.idleCheck.blu = s.blu ∧
    s.idleCheck.trs = s.trs ∧ s.idleCheck.bme = s.bme ∧ s.idleCheck.cru = s.cru ∧ s.idleCheck.sou = s.sou ∧
    s.idleCheck.inFlight = s.inFlight ∧ s.idleCheck.freeCount = s.freeCount ∧
    s.idleCheck.pending = s.pending :=
    by unfold State.idleCheck; (repeat' split) <;> simp

@[simp] theorem State.afterJob_frame (s : State) :
    s.afterJob.bpl = s.bpl ∧ s.afterJob.fst = s.fst ∧ s.afterJob.sfe = s.sfe ∧ s.afterJob.trs = s.trs ∧
    s.afterJob.bme = s.bme ∧ s.afterJob.cru = s.cru ∧ s.afterJob.sou = s.sou ∧
    s.afterJob.freeCount = s.freeCount ∧ s.afterJob.pending = s.pending :=
    by simp [State.afterJob]

@[simp] theorem State.captureCheck_frame (s : State) :
    s.captureCheck.bpl = s.bpl ∧ s.captureCheck.fst = s.fst ∧ s.captureCheck.sfe = s.sfe ∧
    s.captureCheck.blu = s.blu ∧ s.captureCheck.trs = s.trs ∧ s.captureCheck.bme = s.bme ∧
    s.captureCheck.cru = s.cru ∧ s.captureCheck.sou = s.sou ∧ s.captureCheck.freeCount = s.freeCount ∧
    s.captureCheck.pending = s.pending :=
    by unfold State.captureCheck; (repeat' split) <;> simp

@[simp] theorem State.kickExposure_frame (s : State) :
    s.kickExposure.liu = s.liu ∧ s.kickExposure.bpl = s.bpl ∧ s.kickExposure.fst = s.fst ∧
    s.kickExposure.sfe = s.sfe ∧ s.kickExposure.blu = s.blu ∧ s.kickExposure.trs = s.trs ∧
    s.kickExposure.bme = s.bme ∧ s.kickExposure.cru = s.cru ∧ s.kickExposure.sou = s.sou ∧
    s.kickExposure.freeCount = s.freeCount ∧ s.kickExposure.pending = s.pending :=
    by unfold State.kickExposure; (repeat' split) <;> simp

@[simp] theorem State.kickPlan_frame (s : State) :
    s.kickPlan.liu = s.liu ∧ s.kickPlan.bpl = s.bpl ∧ s.kickPlan.fst = s.fst ∧ s.kickPlan.sfe = s.sfe ∧
    s.kickPlan.blu = s.blu ∧ s.kickPlan.trs = s.trs ∧ s.kickPlan.bme = s.bme ∧ s.kickPlan.cru = s.cru ∧
    s.kickPlan.sou = s.sou ∧ s.kickPlan.freeCount = s.freeCount ∧ s.kickPlan.pending = s.pending :=
    by unfold State.kickPlan; (repeat' split) <;> simp

@[simp] theorem State.kickNext_frame (s : State) :
    s.kickNext.bpl = s.bpl ∧ s.kickNext.fst = s.fst ∧ s.kickNext.sfe = s.sfe ∧ s.kickNext.blu = s.blu ∧
    s.kickNext.trs = s.trs ∧ s.kickNext.bme = s.bme ∧ s.kickNext.cru = s.cru ∧ s.kickNext.sou = s.sou ∧
    s.kickNext.freeCount = s.freeCount ∧ s.kickNext.pending = s.pending :=
    by unfold State.kickNext; (repeat' split) <;> simp

@[simp] theorem State.kick_frame (s : State) :
    s.kick.bpl = s.bpl ∧ s.kick.fst = s.fst ∧ s.kick.sfe = s.sfe ∧ s.kick.blu = s.blu ∧ s.kick.trs = s.trs ∧
    s.kick.bme = s.bme ∧ s.kick.cru = s.cru ∧ s.kick.sou = s.sou ∧ s.kick.freeCount = s.freeCount ∧
    s.kick.pending = s.pending :=
    by unfold State.kick; dsimp only; (repeat' split) <;> simp

@[simp] theorem State.withdrawTile_frame (s : State) (t : TileRef) (st : TileState) :
    (s.withdrawTile t st).liu = s.liu ∧ (s.withdrawTile t st).bpl = s.bpl ∧
    (s.withdrawTile t st).fst = s.fst ∧ (s.withdrawTile t st).sfe = s.sfe ∧
    (s.withdrawTile t st).blu = s.blu ∧ (s.withdrawTile t st).trs = s.trs ∧
    (s.withdrawTile t st).bme = s.bme ∧ (s.withdrawTile t st).cru = s.cru ∧
    (s.withdrawTile t st).sou = s.sou ∧ (s.withdrawTile t st).freeCount = s.freeCount ∧
    (s.withdrawTile t st).pending = s.pending :=
    by unfold State.withdrawTile; (repeat' split) <;> simp

@[simp] theorem State.abandonTile_frame (s : State) (t : TileRef) :
    (s.abandonTile t).bpl = s.bpl ∧ (s.abandonTile t).fst = s.fst ∧ (s.abandonTile t).sfe = s.sfe ∧
    (s.abandonTile t).blu = s.blu ∧ (s.abandonTile t).trs = s.trs ∧ (s.abandonTile t).bme = s.bme ∧
    (s.abandonTile t).cru = s.cru ∧ (s.abandonTile t).sou = s.sou ∧
    (s.abandonTile t).freeCount = s.freeCount ∧ (s.abandonTile t).pending = s.pending :=
    by unfold State.abandonTile; (repeat' split) <;> simp

@[simp] theorem State.endJob_frame (s : State) (j : Job) (c : FailCause) :
    (s.endJob j c).bpl = s.bpl ∧ (s.endJob j c).fst = s.fst ∧ (s.endJob j c).sfe = s.sfe ∧
    (s.endJob j c).trs = s.trs ∧ (s.endJob j c).bme = s.bme ∧ (s.endJob j c).cru = s.cru ∧
    (s.endJob j c).sou = s.sou ∧ (s.endJob j c).freeCount = s.freeCount ∧
    (s.endJob j c).pending = s.pending :=
    by simp [State.endJob]

@[simp] theorem State.askRecovery_frame (s : State) (id : Nat) :
    (s.askRecovery id).liu = s.liu ∧ (s.askRecovery id).bpl = s.bpl ∧ (s.askRecovery id).fst = s.fst ∧
    (s.askRecovery id).sfe = s.sfe ∧ (s.askRecovery id).blu = s.blu ∧ (s.askRecovery id).trs = s.trs ∧
    (s.askRecovery id).bme = s.bme ∧ (s.askRecovery id).cru = s.cru ∧ (s.askRecovery id).sou = s.sou ∧
    (s.askRecovery id).freeCount = s.freeCount ∧ (s.askRecovery id).pending = s.pending :=
    by simp [State.askRecovery]

/-! ## The run (PRC) -/

@[simp] theorem State.trsAnswered_frame (s : State) :
    s.trsAnswered.liu = s.liu ∧ s.trsAnswered.bpl = s.bpl ∧ s.trsAnswered.fst = s.fst ∧
    s.trsAnswered.sfe = s.sfe ∧ s.trsAnswered.blu = s.blu ∧ s.trsAnswered.trs = s.trs ∧
    s.trsAnswered.bme = s.bme ∧ s.trsAnswered.cru = s.cru ∧ s.trsAnswered.sou = s.sou ∧
    s.trsAnswered.inFlight = s.inFlight ∧ s.trsAnswered.freeCount = s.freeCount ∧
    s.trsAnswered.pending = s.pending :=
    by simp [State.trsAnswered]

@[simp] theorem State.loadDone_frame (s : State) :
    s.loadDone.bpl = s.bpl ∧ s.loadDone.fst = s.fst ∧ s.loadDone.sfe = s.sfe ∧ s.loadDone.blu = s.blu ∧
    s.loadDone.trs = s.trs ∧ s.loadDone.bme = s.bme ∧ s.loadDone.cru = s.cru ∧ s.loadDone.sou = s.sou ∧
    s.loadDone.freeCount = s.freeCount ∧ s.loadDone.pending = s.pending :=
    by unfold State.loadDone; dsimp only; (repeat' split) <;> simp

@[simp] theorem State.loadNoCarrier_frame (s : State) :
    s.loadNoCarrier.bpl = s.bpl ∧ s.loadNoCarrier.fst = s.fst ∧ s.loadNoCarrier.sfe = s.sfe ∧
    s.loadNoCarrier.trs = s.trs ∧ s.loadNoCarrier.bme = s.bme ∧ s.loadNoCarrier.cru = s.cru ∧
    s.loadNoCarrier.sou = s.sou ∧ s.loadNoCarrier.freeCount = s.freeCount ∧
    s.loadNoCarrier.pending = s.pending :=
    by unfold State.loadNoCarrier; (repeat' split) <;> simp

@[simp] theorem State.tileSettled_frame (s : State) (t : TileRef) :
    (s.tileSettled t).bpl = s.bpl ∧ (s.tileSettled t).fst = s.fst ∧ (s.tileSettled t).sfe = s.sfe ∧
    (s.tileSettled t).blu = s.blu ∧ (s.tileSettled t).trs = s.trs ∧ (s.tileSettled t).bme = s.bme ∧
    (s.tileSettled t).cru = s.cru ∧ (s.tileSettled t).sou = s.sou ∧
    (s.tileSettled t).freeCount = s.freeCount ∧ (s.tileSettled t).pending = s.pending :=
    by unfold State.tileSettled; dsimp only; (repeat' split) <;> simp

@[simp] theorem State.bringBack_frame (s : State) (t : TileRef) :
    (s.bringBack t).liu = s.liu ∧ (s.bringBack t).bpl = s.bpl ∧ (s.bringBack t).fst = s.fst ∧
    (s.bringBack t).sfe = s.sfe ∧ (s.bringBack t).blu = s.blu ∧ (s.bringBack t).trs = s.trs ∧
    (s.bringBack t).bme = s.bme ∧ (s.bringBack t).cru = s.cru ∧ (s.bringBack t).sou = s.sou ∧
    (s.bringBack t).freeCount = s.freeCount ∧ (s.bringBack t).pending = s.pending :=
    by unfold State.bringBack; (repeat' split) <;> simp

@[simp] theorem State.broughtBack_frame (s : State) :
    s.broughtBack.bpl = s.bpl ∧ s.broughtBack.fst = s.fst ∧ s.broughtBack.sfe = s.sfe ∧
    s.broughtBack.blu = s.blu ∧ s.broughtBack.trs = s.trs ∧ s.broughtBack.bme = s.bme ∧
    s.broughtBack.cru = s.cru ∧ s.broughtBack.sou = s.sou ∧ s.broughtBack.freeCount = s.freeCount ∧
    s.broughtBack.pending = s.pending :=
    by unfold State.broughtBack; dsimp only; (repeat' split) <;> simp

@[simp] theorem State.settled_frame (s : State) :
    s.settled.bpl = s.bpl ∧ s.settled.fst = s.fst ∧ s.settled.sfe = s.sfe ∧ s.settled.blu = s.blu ∧
    s.settled.trs = s.trs ∧ s.settled.bme = s.bme ∧ s.settled.cru = s.cru ∧ s.settled.sou = s.sou ∧
    s.settled.freeCount = s.freeCount ∧ s.settled.pending = s.pending :=
    by unfold State.settled; dsimp only; (repeat' split) <;> simp

@[simp] theorem State.askAdmission_frame (s : State) (t : TileRef) (n : Nat) :
    (s.askAdmission t n).liu = s.liu ∧ (s.askAdmission t n).bpl = s.bpl ∧ (s.askAdmission t n).fst = s.fst ∧
    (s.askAdmission t n).sfe = s.sfe ∧ (s.askAdmission t n).blu = s.blu ∧ (s.askAdmission t n).trs = s.trs ∧
    (s.askAdmission t n).bme = s.bme ∧ (s.askAdmission t n).cru = s.cru ∧ (s.askAdmission t n).sou = s.sou ∧
    (s.askAdmission t n).freeCount = s.freeCount ∧ (s.askAdmission t n).pending = s.pending :=
    by simp [State.askAdmission]

@[simp] theorem State.staleCheck_frame (s : State) (t : TileRef) (n : Nat) :
    (s.staleCheck t n).bpl = s.bpl ∧ (s.staleCheck t n).fst = s.fst ∧ (s.staleCheck t n).sfe = s.sfe ∧
    (s.staleCheck t n).blu = s.blu ∧ (s.staleCheck t n).trs = s.trs ∧ (s.staleCheck t n).bme = s.bme ∧
    (s.staleCheck t n).cru = s.cru ∧ (s.staleCheck t n).sou = s.sou ∧
    (s.staleCheck t n).freeCount = s.freeCount ∧ (s.staleCheck t n).pending = s.pending :=
    by unfold State.staleCheck; (repeat' split) <;> simp

@[simp] theorem State.planned_frame (s : State) (t : TileRef) (plan : List PlanEntry) (attempts : Nat) (flags : PlanFlags) :
    (s.planned t plan attempts flags).bpl = s.bpl ∧ (s.planned t plan attempts flags).fst = s.fst ∧
    (s.planned t plan attempts flags).sfe = s.sfe ∧ (s.planned t plan attempts flags).blu = s.blu ∧
    (s.planned t plan attempts flags).trs = s.trs ∧ (s.planned t plan attempts flags).bme = s.bme ∧
    (s.planned t plan attempts flags).cru = s.cru ∧ (s.planned t plan attempts flags).sou = s.sou ∧
    (s.planned t plan attempts flags).freeCount = s.freeCount ∧
    (s.planned t plan attempts flags).pending = s.pending :=
    by unfold State.planned; dsimp only; (repeat' split) <;> simp

@[simp] theorem State.admitted_frame (s : State) (t : TileRef) :
    (s.admitted t).liu = s.liu ∧ (s.admitted t).bpl = s.bpl ∧ (s.admitted t).fst = s.fst ∧
    (s.admitted t).sfe = s.sfe ∧ (s.admitted t).blu = s.blu ∧ (s.admitted t).trs = s.trs ∧
    (s.admitted t).bme = s.bme ∧ (s.admitted t).cru = s.cru ∧ (s.admitted t).sou = s.sou ∧
    (s.admitted t).freeCount = s.freeCount ∧ (s.admitted t).pending = s.pending :=
    by unfold State.admitted; dsimp only; (repeat' split) <;> simp

@[simp] theorem State.tileExposureEnd_frame (s : State) (t : TileRef) :
    (s.tileExposureEnd t).liu = s.liu ∧ (s.tileExposureEnd t).bpl = s.bpl ∧
    (s.tileExposureEnd t).fst = s.fst ∧ (s.tileExposureEnd t).sfe = s.sfe ∧
    (s.tileExposureEnd t).blu = s.blu ∧ (s.tileExposureEnd t).trs = s.trs ∧
    (s.tileExposureEnd t).bme = s.bme ∧ (s.tileExposureEnd t).cru = s.cru ∧
    (s.tileExposureEnd t).sou = s.sou ∧ (s.tileExposureEnd t).freeCount = s.freeCount ∧
    (s.tileExposureEnd t).pending = s.pending :=
    by unfold State.tileExposureEnd; (repeat' split) <;> simp

@[simp] theorem State.tileExposed_frame (s : State) (t : TileRef) :
    (s.tileExposed t).bpl = s.bpl ∧ (s.tileExposed t).sfe = s.sfe ∧ (s.tileExposed t).blu = s.blu ∧
    (s.tileExposed t).trs = s.trs ∧ (s.tileExposed t).sou = s.sou ∧
    (s.tileExposed t).freeCount = s.freeCount ∧ (s.tileExposed t).pending = s.pending :=
    by unfold State.tileExposed; dsimp only; (repeat' split) <;> simp

@[simp] theorem State.tileExposureDone_frame (s : State) (r : ExposureDone) :
    (s.tileExposureDone r).bpl = s.bpl ∧ (s.tileExposureDone r).sfe = s.sfe ∧
    (s.tileExposureDone r).blu = s.blu ∧ (s.tileExposureDone r).trs = s.trs ∧
    (s.tileExposureDone r).sou = s.sou ∧ (s.tileExposureDone r).freeCount = s.freeCount ∧
    (s.tileExposureDone r).pending = s.pending :=
    by unfold State.tileExposureDone; dsimp only; (repeat' split) <;> simp

@[simp] theorem State.retried_frame (s : State) (t : TileRef) (metering : Bool) :
    (s.retried t metering).liu = s.liu ∧ (s.retried t metering).bpl = s.bpl ∧
    (s.retried t metering).fst = s.fst ∧ (s.retried t metering).sfe = s.sfe ∧
    (s.retried t metering).blu = s.blu ∧ (s.retried t metering).trs = s.trs ∧
    (s.retried t metering).bme = s.bme ∧ (s.retried t metering).cru = s.cru ∧
    (s.retried t metering).sou = s.sou ∧ (s.retried t metering).freeCount = s.freeCount ∧
    (s.retried t metering).pending = s.pending :=
    by unfold State.retried; dsimp only; (repeat' split) <;> simp

@[simp] theorem State.tileSensorFailure_frame (s : State) (t : TileRef) :
    (s.tileSensorFailure t).bpl = s.bpl ∧ (s.tileSensorFailure t).fst = s.fst ∧
    (s.tileSensorFailure t).sfe = s.sfe ∧ (s.tileSensorFailure t).trs = s.trs ∧
    (s.tileSensorFailure t).bme = s.bme ∧ (s.tileSensorFailure t).cru = s.cru ∧
    (s.tileSensorFailure t).sou = s.sou ∧ (s.tileSensorFailure t).freeCount = s.freeCount ∧
    (s.tileSensorFailure t).pending = s.pending :=
    by unfold State.tileSensorFailure; (repeat' split) <;> simp

@[simp] theorem State.drainTransport_frame (s : State) (id : Nat) :
    (s.drainTransport id).bpl = s.bpl ∧ (s.drainTransport id).fst = s.fst ∧
    (s.drainTransport id).sfe = s.sfe ∧ (s.drainTransport id).blu = s.blu ∧
    (s.drainTransport id).trs = s.trs ∧ (s.drainTransport id).bme = s.bme ∧
    (s.drainTransport id).cru = s.cru ∧ (s.drainTransport id).sou = s.sou ∧
    (s.drainTransport id).inFlight = s.inFlight ∧ (s.drainTransport id).freeCount = s.freeCount ∧
    (s.drainTransport id).pending = s.pending :=
    by unfold State.drainTransport; (repeat' split) <;> simp

@[simp] theorem State.recoveryFault_frame (s : State) (id : Nat) :
    (s.recoveryFault id).bpl = s.bpl ∧ (s.recoveryFault id).fst = s.fst ∧ (s.recoveryFault id).sfe = s.sfe ∧
    (s.recoveryFault id).blu = s.blu ∧ (s.recoveryFault id).trs = s.trs ∧ (s.recoveryFault id).bme = s.bme ∧
    (s.recoveryFault id).cru = s.cru ∧ (s.recoveryFault id).sou = s.sou ∧
    (s.recoveryFault id).freeCount = s.freeCount ∧ (s.recoveryFault id).pending = s.pending :=
    by unfold State.recoveryFault; dsimp only; (repeat' split) <;> simp

@[simp] theorem State.idleTransportFault_frame (s : State) :
    s.idleTransportFault.bpl = s.bpl ∧ s.idleTransportFault.fst = s.fst ∧ s.idleTransportFault.sfe = s.sfe ∧
    s.idleTransportFault.trs = s.trs ∧ s.idleTransportFault.bme = s.bme ∧ s.idleTransportFault.cru = s.cru ∧
    s.idleTransportFault.sou = s.sou ∧ s.idleTransportFault.freeCount = s.freeCount ∧
    s.idleTransportFault.pending = s.pending :=
    by unfold State.idleTransportFault; dsimp only; (repeat' split) <;> simp

@[simp] theorem State.transportFaulted_frame (s : State) :
    s.transportFaulted.bpl = s.bpl ∧ s.transportFaulted.fst = s.fst ∧ s.transportFaulted.sfe = s.sfe ∧
    s.transportFaulted.trs = s.trs ∧ s.transportFaulted.bme = s.bme ∧ s.transportFaulted.cru = s.cru ∧
    s.transportFaulted.sou = s.sou ∧ s.transportFaulted.freeCount = s.freeCount ∧
    s.transportFaulted.pending = s.pending :=
    by unfold State.transportFaulted; dsimp only; (repeat' split) <;> simp

@[simp] theorem State.withdrawPlan_frame (s : State) :
    s.withdrawPlan.liu = s.liu ∧ s.withdrawPlan.bpl = s.bpl ∧ s.withdrawPlan.fst = s.fst ∧
    s.withdrawPlan.sfe = s.sfe ∧ s.withdrawPlan.blu = s.blu ∧ s.withdrawPlan.trs = s.trs ∧
    s.withdrawPlan.bme = s.bme ∧ s.withdrawPlan.cru = s.cru ∧ s.withdrawPlan.sou = s.sou ∧
    s.withdrawPlan.freeCount = s.freeCount ∧ s.withdrawPlan.pending = s.pending :=
    by unfold State.withdrawPlan; (repeat' split) <;> simp

@[simp] theorem State.backlightFaulted_frame (s : State) :
    s.backlightFaulted.bpl = s.bpl ∧ s.backlightFaulted.fst = s.fst ∧ s.backlightFaulted.sfe = s.sfe ∧
    s.backlightFaulted.blu = s.blu ∧ s.backlightFaulted.trs = s.trs ∧ s.backlightFaulted.bme = s.bme ∧
    s.backlightFaulted.cru = s.cru ∧ s.backlightFaulted.sou = s.sou ∧
    s.backlightFaulted.freeCount = s.freeCount ∧ s.backlightFaulted.pending = s.pending :=
    by unfold State.backlightFaulted; (repeat' split) <;> simp

@[simp] theorem State.jobUnloaded_frame (s : State) (j : Job) :
    (s.jobUnloaded j).bpl = s.bpl ∧ (s.jobUnloaded j).fst = s.fst ∧ (s.jobUnloaded j).sfe = s.sfe ∧
    (s.jobUnloaded j).trs = s.trs ∧ (s.jobUnloaded j).bme = s.bme ∧ (s.jobUnloaded j).cru = s.cru ∧
    (s.jobUnloaded j).sou = s.sou ∧ (s.jobUnloaded j).freeCount = s.freeCount ∧
    (s.jobUnloaded j).pending = s.pending :=
    by unfold State.jobUnloaded; dsimp only; (repeat' split) <;> simp

@[simp] theorem State.unloaded_frame (s : State) :
    s.unloaded.bpl = s.bpl ∧ s.unloaded.fst = s.fst ∧ s.unloaded.sfe = s.sfe ∧ s.unloaded.trs = s.trs ∧
    s.unloaded.bme = s.bme ∧ s.unloaded.cru = s.cru ∧ s.unloaded.sou = s.sou ∧
    s.unloaded.freeCount = s.freeCount ∧ s.unloaded.pending = s.pending :=
    by unfold State.unloaded; (repeat' split) <;> simp

@[simp] theorem State.cruIdle_frame (s : State) :
    s.cruIdle.bpl = s.bpl ∧ s.cruIdle.fst = s.fst ∧ s.cruIdle.sfe = s.sfe ∧ s.cruIdle.trs = s.trs ∧
    s.cruIdle.bme = s.bme ∧ s.cruIdle.cru = s.cru ∧ s.cruIdle.sou = s.sou ∧
    s.cruIdle.freeCount = s.freeCount ∧ s.cruIdle.pending = s.pending :=
    by simp [State.cruIdle]

/-! ## Jobs -/

@[simp] theorem State.acceptJob_frame (s : State) (j : Job) :
    (s.acceptJob j).bpl = s.bpl ∧ (s.acceptJob j).fst = s.fst ∧ (s.acceptJob j).sfe = s.sfe ∧
    (s.acceptJob j).trs = s.trs ∧ (s.acceptJob j).bme = s.bme ∧ (s.acceptJob j).cru = s.cru ∧
    (s.acceptJob j).sou = s.sou ∧ (s.acceptJob j).freeCount = s.freeCount ∧
    (s.acceptJob j).pending = s.pending :=
    by unfold State.acceptJob; dsimp only; (repeat' split) <;> simp

@[simp] theorem State.submit_frame (s : State) (payload : List Byte) :
    (s.submit payload).state.bpl = s.bpl ∧ (s.submit payload).state.fst = s.fst ∧
    (s.submit payload).state.sfe = s.sfe ∧ (s.submit payload).state.trs = s.trs ∧
    (s.submit payload).state.bme = s.bme ∧ (s.submit payload).state.cru = s.cru ∧
    (s.submit payload).state.sou = s.sou ∧ (s.submit payload).state.freeCount = s.freeCount ∧
    (s.submit payload).state.pending = s.pending :=
    by unfold State.submit; (repeat' split) <;> simp

@[simp] theorem State.queryJob_frame (s : State) (id : Nat) (start : Nat) :
    (s.queryJob id start).state.liu = s.liu ∧ (s.queryJob id start).state.prc = s.prc ∧
    (s.queryJob id start).state.bpl = s.bpl ∧ (s.queryJob id start).state.fst = s.fst ∧
    (s.queryJob id start).state.sfe = s.sfe ∧ (s.queryJob id start).state.blu = s.blu ∧
    (s.queryJob id start).state.trs = s.trs ∧ (s.queryJob id start).state.bme = s.bme ∧
    (s.queryJob id start).state.cru = s.cru ∧ (s.queryJob id start).state.sou = s.sou ∧
    (s.queryJob id start).state.inFlight = s.inFlight ∧
    (s.queryJob id start).state.freeCount = s.freeCount ∧ (s.queryJob id start).state.pending = s.pending :=
    by unfold State.queryJob; (repeat' split) <;> simp

@[simp] theorem State.releaseJob_frame (s : State) (id : Nat) :
    (s.releaseJob id).state.liu = s.liu ∧ (s.releaseJob id).state.bpl = s.bpl ∧
    (s.releaseJob id).state.fst = s.fst ∧ (s.releaseJob id).state.sfe = s.sfe ∧
    (s.releaseJob id).state.blu = s.blu ∧ (s.releaseJob id).state.trs = s.trs ∧
    (s.releaseJob id).state.bme = s.bme ∧ (s.releaseJob id).state.cru = s.cru ∧
    (s.releaseJob id).state.sou = s.sou ∧ (s.releaseJob id).state.inFlight = s.inFlight ∧
    (s.releaseJob id).state.freeCount = s.freeCount ∧ (s.releaseJob id).state.pending = s.pending :=
    by unfold State.releaseJob; (repeat' split) <;> simp

@[simp] theorem State.abortQueued_frame (s : State) (j : Job) :
    (s.abortQueued j).bpl = s.bpl ∧ (s.abortQueued j).fst = s.fst ∧ (s.abortQueued j).sfe = s.sfe ∧
    (s.abortQueued j).blu = s.blu ∧ (s.abortQueued j).trs = s.trs ∧ (s.abortQueued j).bme = s.bme ∧
    (s.abortQueued j).cru = s.cru ∧ (s.abortQueued j).sou = s.sou ∧
    (s.abortQueued j).freeCount = s.freeCount ∧ (s.abortQueued j).pending = s.pending :=
    by simp [State.abortQueued]

@[simp] theorem State.abortActive_frame (s : State) (j : Job) :
    (s.abortActive j).bpl = s.bpl ∧ (s.abortActive j).fst = s.fst ∧ (s.abortActive j).sfe = s.sfe ∧
    (s.abortActive j).blu = s.blu ∧ (s.abortActive j).trs = s.trs ∧ (s.abortActive j).bme = s.bme ∧
    (s.abortActive j).cru = s.cru ∧ (s.abortActive j).sou = s.sou ∧
    (s.abortActive j).freeCount = s.freeCount ∧ (s.abortActive j).pending = s.pending :=
    by unfold State.abortActive; (repeat' split) <;> simp

@[simp] theorem State.abortDraining_frame (s : State) (j : Job) :
    (s.abortDraining j).bpl = s.bpl ∧ (s.abortDraining j).fst = s.fst ∧ (s.abortDraining j).sfe = s.sfe ∧
    (s.abortDraining j).blu = s.blu ∧ (s.abortDraining j).trs = s.trs ∧ (s.abortDraining j).bme = s.bme ∧
    (s.abortDraining j).cru = s.cru ∧ (s.abortDraining j).sou = s.sou ∧
    (s.abortDraining j).freeCount = s.freeCount ∧ (s.abortDraining j).pending = s.pending :=
    by simp [State.abortDraining]

@[simp] theorem State.abortJob_frame (s : State) (id : Nat) :
    (s.abortJob id).state.bpl = s.bpl ∧ (s.abortJob id).state.fst = s.fst ∧
    (s.abortJob id).state.sfe = s.sfe ∧ (s.abortJob id).state.blu = s.blu ∧
    (s.abortJob id).state.trs = s.trs ∧ (s.abortJob id).state.bme = s.bme ∧
    (s.abortJob id).state.cru = s.cru ∧ (s.abortJob id).state.sou = s.sou ∧
    (s.abortJob id).state.freeCount = s.freeCount ∧ (s.abortJob id).state.pending = s.pending :=
    by unfold State.abortJob; (repeat' split) <;> simp

@[simp] theorem State.holdRun_frame (s : State) :
    (s.holdRun).state.bpl = s.bpl ∧ (s.holdRun).state.fst = s.fst ∧ (s.holdRun).state.sfe = s.sfe ∧
    (s.holdRun).state.blu = s.blu ∧ (s.holdRun).state.trs = s.trs ∧ (s.holdRun).state.bme = s.bme ∧
    (s.holdRun).state.cru = s.cru ∧ (s.holdRun).state.sou = s.sou ∧
    (s.holdRun).state.inFlight = s.inFlight ∧ (s.holdRun).state.freeCount = s.freeCount ∧
    (s.holdRun).state.pending = s.pending :=
    by unfold State.holdRun; (repeat' split) <;> simp

@[simp] theorem State.resumeRun_frame (s : State) :
    s.resumeRun.bpl = s.bpl ∧ s.resumeRun.fst = s.fst ∧ s.resumeRun.trs = s.trs ∧ s.resumeRun.bme = s.bme ∧
    s.resumeRun.cru = s.cru ∧ s.resumeRun.sou = s.sou ∧ s.resumeRun.freeCount = s.freeCount ∧
    s.resumeRun.pending = s.pending :=
    by simp [State.resumeRun]

@[simp] theorem State.resume_frame (s : State) :
    (s.resume).state.bpl = s.bpl ∧ (s.resume).state.fst = s.fst ∧ (s.resume).state.trs = s.trs ∧
    (s.resume).state.bme = s.bme ∧ (s.resume).state.cru = s.cru ∧ (s.resume).state.sou = s.sou ∧
    (s.resume).state.freeCount = s.freeCount ∧ (s.resume).state.pending = s.pending :=
    by unfold State.resume; (repeat' split) <;> simp

@[simp] theorem State.homeEndsJob_frame (s : State) :
    s.homeEndsJob.bpl = s.bpl ∧ s.homeEndsJob.fst = s.fst ∧ s.homeEndsJob.sfe = s.sfe ∧
    s.homeEndsJob.trs = s.trs ∧ s.homeEndsJob.bme = s.bme ∧ s.homeEndsJob.cru = s.cru ∧
    s.homeEndsJob.sou = s.sou ∧ s.homeEndsJob.freeCount = s.freeCount ∧ s.homeEndsJob.pending = s.pending :=
    by unfold State.homeEndsJob; (repeat' split) <;> simp

@[simp] theorem State.prcDetach_frame (s : State) :
    s.prcDetach.bpl = s.bpl ∧ s.prcDetach.fst = s.fst ∧ s.prcDetach.sfe = s.sfe ∧ s.prcDetach.blu = s.blu ∧
    s.prcDetach.trs = s.trs ∧ s.prcDetach.bme = s.bme ∧ s.prcDetach.cru = s.cru ∧ s.prcDetach.sou = s.sou ∧
    s.prcDetach.inFlight = s.inFlight ∧ s.prcDetach.freeCount = s.freeCount ∧
    s.prcDetach.pending = s.pending :=
    by unfold State.prcDetach; (repeat' split) <;> simp

@[simp] theorem State.withdrawAdmissionReq_frame (s : State) :
    s.withdrawAdmissionReq.liu = s.liu ∧ s.withdrawAdmissionReq.bpl = s.bpl ∧
    s.withdrawAdmissionReq.fst = s.fst ∧ s.withdrawAdmissionReq.sfe = s.sfe ∧
    s.withdrawAdmissionReq.blu = s.blu ∧ s.withdrawAdmissionReq.trs = s.trs ∧
    s.withdrawAdmissionReq.bme = s.bme ∧ s.withdrawAdmissionReq.cru = s.cru ∧
    s.withdrawAdmissionReq.sou = s.sou ∧ s.withdrawAdmissionReq.freeCount = s.freeCount ∧
    s.withdrawAdmissionReq.pending = s.pending :=
    by unfold State.withdrawAdmissionReq; (repeat' split) <;> simp

@[simp] theorem State.prcQuiesce_frame (s : State) :
    s.prcQuiesce.liu = s.liu ∧ s.prcQuiesce.bpl = s.bpl ∧ s.prcQuiesce.fst = s.fst ∧
    s.prcQuiesce.sfe = s.sfe ∧ s.prcQuiesce.blu = s.blu ∧ s.prcQuiesce.trs = s.trs ∧
    s.prcQuiesce.bme = s.bme ∧ s.prcQuiesce.cru = s.cru ∧ s.prcQuiesce.sou = s.sou ∧
    s.prcQuiesce.freeCount = s.freeCount ∧ s.prcQuiesce.pending = s.pending :=
    by simp [State.prcQuiesce]

/-! ## Station -/

@[simp] theorem State.home_frame (s : State) :
    (s.home).state.bpl = s.bpl ∧ (s.home).state.bme = s.bme ∧ (s.home).state.sou = s.sou ∧
    (s.home).state.pending = s.pending :=
    by unfold State.home; (repeat' split) <;> simp

@[simp] theorem State.queryMagazine_frame (s : State) :
    (s.queryMagazine).state.liu = s.liu ∧ (s.queryMagazine).state.prc = s.prc ∧
    (s.queryMagazine).state.bpl = s.bpl ∧ (s.queryMagazine).state.fst = s.fst ∧
    (s.queryMagazine).state.sfe = s.sfe ∧ (s.queryMagazine).state.blu = s.blu ∧
    (s.queryMagazine).state.trs = s.trs ∧ (s.queryMagazine).state.bme = s.bme ∧
    (s.queryMagazine).state.cru = s.cru ∧ (s.queryMagazine).state.sou = s.sou ∧
    (s.queryMagazine).state.inFlight = s.inFlight ∧ (s.queryMagazine).state.freeCount = s.freeCount ∧
    (s.queryMagazine).state.pending = s.pending :=
    by simp [State.queryMagazine]

@[simp] theorem State.clearStage_frame (s : State) (seen : Bool) :
    (s.clearStage seen).state.prc = s.prc ∧ (s.clearStage seen).state.bpl = s.bpl ∧
    (s.clearStage seen).state.fst = s.fst ∧ (s.clearStage seen).state.sfe = s.sfe ∧
    (s.clearStage seen).state.blu = s.blu ∧ (s.clearStage seen).state.bme = s.bme ∧
    (s.clearStage seen).state.cru = s.cru ∧ (s.clearStage seen).state.sou = s.sou ∧
    (s.clearStage seen).state.freeCount = s.freeCount ∧ (s.clearStage seen).state.pending = s.pending :=
    by unfold State.clearStage; dsimp only; (repeat' split) <;> simp

/-! ## Link -/

@[simp] theorem State.answer_frame (s : State) (r : Reply) :
    (s.answer r).prc = s.prc ∧ (s.answer r).bpl = s.bpl ∧ (s.answer r).fst = s.fst ∧
    (s.answer r).sfe = s.sfe ∧ (s.answer r).blu = s.blu ∧ (s.answer r).trs = s.trs ∧
    (s.answer r).bme = s.bme ∧ (s.answer r).cru = s.cru ∧ (s.answer r).sou = s.sou ∧
    (s.answer r).inFlight = s.inFlight ∧ (s.answer r).freeCount = s.freeCount ∧
    (s.answer r).pending = s.pending :=
    by unfold State.answer; (repeat' split) <;> simp

@[simp] theorem State.badFrame_frame (s : State) (transfer : List Byte) :
    (s.badFrame transfer).prc = s.prc ∧ (s.badFrame transfer).bpl = s.bpl ∧
    (s.badFrame transfer).fst = s.fst ∧ (s.badFrame transfer).sfe = s.sfe ∧
    (s.badFrame transfer).blu = s.blu ∧ (s.badFrame transfer).trs = s.trs ∧
    (s.badFrame transfer).bme = s.bme ∧ (s.badFrame transfer).cru = s.cru ∧
    (s.badFrame transfer).sou = s.sou ∧ (s.badFrame transfer).inFlight = s.inFlight ∧
    (s.badFrame transfer).freeCount = s.freeCount ∧ (s.badFrame transfer).pending = s.pending :=
    by unfold State.badFrame; (repeat' split) <;> simp

@[simp] theorem State.badKind_frame (s : State) (kind : Byte) (tag : Byte) :
    (s.badKind kind tag).prc = s.prc ∧ (s.badKind kind tag).bpl = s.bpl ∧ (s.badKind kind tag).fst = s.fst ∧
    (s.badKind kind tag).sfe = s.sfe ∧ (s.badKind kind tag).blu = s.blu ∧ (s.badKind kind tag).trs = s.trs ∧
    (s.badKind kind tag).bme = s.bme ∧ (s.badKind kind tag).cru = s.cru ∧ (s.badKind kind tag).sou = s.sou ∧
    (s.badKind kind tag).inFlight = s.inFlight ∧ (s.badKind kind tag).freeCount = s.freeCount ∧
    (s.badKind kind tag).pending = s.pending :=
    by unfold State.badKind; (repeat' split) <;> simp

@[simp] theorem State.storeParam_frame (s : State) (p : Param) (v : Nat) :
    (s.storeParam p v).state.prc = s.prc ∧ (s.storeParam p v).state.bpl = s.bpl ∧
    (s.storeParam p v).state.fst = s.fst ∧ (s.storeParam p v).state.sfe = s.sfe ∧
    (s.storeParam p v).state.blu = s.blu ∧ (s.storeParam p v).state.trs = s.trs ∧
    (s.storeParam p v).state.bme = s.bme ∧ (s.storeParam p v).state.cru = s.cru ∧
    (s.storeParam p v).state.sou = s.sou ∧ (s.storeParam p v).state.inFlight = s.inFlight ∧
    (s.storeParam p v).state.freeCount = s.freeCount ∧ (s.storeParam p v).state.pending = s.pending :=
    by unfold State.storeParam; (repeat' split) <;> simp

@[simp] theorem State.setParam_frame (s : State) (p : Option Param) (v : Nat) :
    (s.setParam p v).state.prc = s.prc ∧ (s.setParam p v).state.bpl = s.bpl ∧
    (s.setParam p v).state.fst = s.fst ∧ (s.setParam p v).state.sfe = s.sfe ∧
    (s.setParam p v).state.blu = s.blu ∧ (s.setParam p v).state.trs = s.trs ∧
    (s.setParam p v).state.bme = s.bme ∧ (s.setParam p v).state.cru = s.cru ∧
    (s.setParam p v).state.sou = s.sou ∧ (s.setParam p v).state.inFlight = s.inFlight ∧
    (s.setParam p v).state.freeCount = s.freeCount ∧ (s.setParam p v).state.pending = s.pending :=
    by unfold State.setParam; (repeat' split) <;> simp

@[simp] theorem State.getParam_frame (s : State) (what : GetWhat) :
    (s.getParam what).state.liu = s.liu ∧ (s.getParam what).state.prc = s.prc ∧
    (s.getParam what).state.bpl = s.bpl ∧ (s.getParam what).state.fst = s.fst ∧
    (s.getParam what).state.sfe = s.sfe ∧ (s.getParam what).state.blu = s.blu ∧
    (s.getParam what).state.trs = s.trs ∧ (s.getParam what).state.bme = s.bme ∧
    (s.getParam what).state.cru = s.cru ∧ (s.getParam what).state.sou = s.sou ∧
    (s.getParam what).state.inFlight = s.inFlight ∧ (s.getParam what).state.freeCount = s.freeCount ∧
    (s.getParam what).state.pending = s.pending :=
    by unfold State.getParam; (repeat' split) <;> simp

@[simp] theorem State.loadTable_frame (s : State) (start : Nat) (entries : List Nat) :
    (s.loadTable start entries).state.prc = s.prc ∧ (s.loadTable start entries).state.bpl = s.bpl ∧
    (s.loadTable start entries).state.fst = s.fst ∧ (s.loadTable start entries).state.sfe = s.sfe ∧
    (s.loadTable start entries).state.blu = s.blu ∧ (s.loadTable start entries).state.trs = s.trs ∧
    (s.loadTable start entries).state.bme = s.bme ∧ (s.loadTable start entries).state.cru = s.cru ∧
    (s.loadTable start entries).state.sou = s.sou ∧
    (s.loadTable start entries).state.inFlight = s.inFlight ∧
    (s.loadTable start entries).state.freeCount = s.freeCount ∧
    (s.loadTable start entries).state.pending = s.pending :=
    by unfold State.loadTable; (repeat' split) <;> simp

@[simp] theorem State.identify_frame (s : State) :
    (s.identify).state.liu = s.liu ∧ (s.identify).state.prc = s.prc ∧ (s.identify).state.bpl = s.bpl ∧
    (s.identify).state.fst = s.fst ∧ (s.identify).state.sfe = s.sfe ∧ (s.identify).state.blu = s.blu ∧
    (s.identify).state.trs = s.trs ∧ (s.identify).state.bme = s.bme ∧ (s.identify).state.cru = s.cru ∧
    (s.identify).state.sou = s.sou ∧ (s.identify).state.inFlight = s.inFlight ∧
    (s.identify).state.freeCount = s.freeCount ∧ (s.identify).state.pending = s.pending :=
    by simp [State.identify]

@[simp] theorem State.queryStatus_frame (s : State) (clear : Bool) :
    (s.queryStatus clear).state.prc = s.prc ∧ (s.queryStatus clear).state.bpl = s.bpl ∧
    (s.queryStatus clear).state.fst = s.fst ∧ (s.queryStatus clear).state.sfe = s.sfe ∧
    (s.queryStatus clear).state.blu = s.blu ∧ (s.queryStatus clear).state.trs = s.trs ∧
    (s.queryStatus clear).state.bme = s.bme ∧ (s.queryStatus clear).state.cru = s.cru ∧
    (s.queryStatus clear).state.sou = s.sou ∧ (s.queryStatus clear).state.inFlight = s.inFlight ∧
    (s.queryStatus clear).state.freeCount = s.freeCount ∧ (s.queryStatus clear).state.pending = s.pending :=
    by unfold State.queryStatus; (repeat' split) <;> simp

/-! ## Reset -/

@[simp] theorem State.fstQuiesce_frame (s : State) :
    s.fstQuiesce.liu = s.liu ∧ s.fstQuiesce.prc = s.prc ∧ s.fstQuiesce.bpl = s.bpl ∧
    s.fstQuiesce.sfe = s.sfe ∧ s.fstQuiesce.blu = s.blu ∧ s.fstQuiesce.trs = s.trs ∧
    s.fstQuiesce.bme = s.bme ∧ s.fstQuiesce.cru = s.cru ∧ s.fstQuiesce.sou = s.sou ∧
    s.fstQuiesce.freeCount = s.freeCount ∧ s.fstQuiesce.pending = s.pending :=
    by simp [State.fstQuiesce]

@[simp] theorem State.bluQuiesce_frame (s : State) :
    s.bluQuiesce.liu = s.liu ∧ s.bluQuiesce.prc = s.prc ∧ s.bluQuiesce.bpl = s.bpl ∧
    s.bluQuiesce.fst = s.fst ∧ s.bluQuiesce.sfe = s.sfe ∧ s.bluQuiesce.trs = s.trs ∧
    s.bluQuiesce.bme = s.bme ∧ s.bluQuiesce.cru = s.cru ∧ s.bluQuiesce.sou = s.sou ∧
    s.bluQuiesce.freeCount = s.freeCount ∧ s.bluQuiesce.pending = s.pending :=
    by simp [State.bluQuiesce]

@[simp] theorem State.bplQuiesce_frame (s : State) :
    s.bplQuiesce.liu = s.liu ∧ s.bplQuiesce.prc = s.prc ∧ s.bplQuiesce.bpl = s.bpl ∧
    s.bplQuiesce.fst = s.fst ∧ s.bplQuiesce.sfe = s.sfe ∧ s.bplQuiesce.blu = s.blu ∧
    s.bplQuiesce.trs = s.trs ∧ s.bplQuiesce.bme = s.bme ∧ s.bplQuiesce.cru = s.cru ∧
    s.bplQuiesce.sou = s.sou ∧ s.bplQuiesce.freeCount = s.freeCount ∧ s.bplQuiesce.pending = s.pending :=
    by unfold State.bplQuiesce; (repeat' split) <;> simp

@[simp] theorem State.trsQuiesce_frame (s : State) :
    s.trsQuiesce.liu = s.liu ∧ s.trsQuiesce.prc = s.prc ∧ s.trsQuiesce.bpl = s.bpl ∧
    s.trsQuiesce.fst = s.fst ∧ s.trsQuiesce.sfe = s.sfe ∧ s.trsQuiesce.blu = s.blu ∧
    s.trsQuiesce.bme = s.bme ∧ s.trsQuiesce.cru = s.cru ∧ s.trsQuiesce.sou = s.sou ∧
    s.trsQuiesce.freeCount = s.freeCount ∧ s.trsQuiesce.pending = s.pending :=
    by unfold State.trsQuiesce; dsimp only; (repeat' split) <;> simp

@[simp] theorem State.quiesceAll_frame (s : State) :
    s.quiesceAll.bpl = s.bpl ∧ s.quiesceAll.pending = s.pending :=
    by simp [State.quiesceAll]

@[simp] theorem State.startReset_frame (s : State) (kind : ResetKind) (tag : Byte) :
    (s.startReset kind tag).bpl = s.bpl ∧ (s.startReset kind tag).pending = s.pending :=
    by simp [State.startReset]

@[simp] theorem State.resetCommand_frame (s : State) (h : Hdr) (kind : ResetKind) :
    (s.resetCommand h kind).bpl = s.bpl ∧ (s.resetCommand h kind).pending = s.pending :=
    by unfold State.resetCommand; (repeat' split) <;> simp

@[simp] theorem State.acknowledged_frame (s : State) (b : Block) (seen : Bool) :
    (s.acknowledged b seen).freeCount = s.freeCount ∧ (s.acknowledged b seen).pending = s.pending :=
    by and_intros <;> first | (unfold State.acknowledged; rfl) | (unfold State.acknowledged; (repeat' split) <;> first | rfl | (simp; done)) | (unfold State.acknowledged; dsimp only; (repeat' split) <;> first | rfl | (simp; done)) | (simp only [State.acknowledged]; (repeat' split) <;> first | rfl | (simp; done)) | (unfold State.acknowledged; simp only []; split <;> (try split) <;> (try split) <;> first | rfl | (simp; done))

@[simp] theorem State.resetExpired_frame (s : State) (seen : Bool) :
    (s.resetExpired seen).freeCount = s.freeCount ∧ (s.resetExpired seen).pending = s.pending :=
    by and_intros <;> first | (unfold State.resetExpired; rfl) | (unfold State.resetExpired; (repeat' split) <;> first | rfl | (simp; done)) | (unfold State.resetExpired; dsimp only; (repeat' split) <;> first | rfl | (simp; done)) | (simp only [State.resetExpired]; (repeat' split) <;> first | rfl | (simp; done)) | (unfold State.resetExpired; simp only []; split <;> (try split) <;> (try split) <;> first | rfl | (simp; done))

@[simp] theorem State.attach_frame (s : State) :
    s.attach.bpl = s.bpl ∧ s.attach.sfe = s.sfe ∧ s.attach.blu = s.blu ∧ s.attach.trs = s.trs ∧
    s.attach.bme = s.bme ∧ s.attach.freeCount = s.freeCount ∧ s.attach.pending = s.pending :=
    by simp [State.attach]

@[simp] theorem State.detach_frame (s : State) :
    s.detach.bpl = s.bpl ∧ s.detach.sfe = s.sfe ∧ s.detach.blu = s.blu ∧ s.detach.trs = s.trs ∧
    s.detach.bme = s.bme ∧ s.detach.freeCount = s.freeCount ∧ s.detach.pending = s.pending :=
    by unfold State.detach; (repeat' split) <;> simp

end Sys2Proof.Machine
end

