-- ==== Sys2Proof/Laws/Planes.lean ====
section
/-! SUPPORT. What the operations on runs and planes do to single pixels and to the canonical form: a write to a slot
is read back, leaves every other pixel and every other slot, and every memory operation keeps `Memory.wf`. -/

namespace Sys2Proof.Machine

variable {α β : Type}

/-! ## Length -/

@[simp] theorem runsLength_nil : runsLength ([] : Runs α) = 0 := rfl

@[simp] theorem runsLength_cons (r : Nat × α) (rs : Runs α) : runsLength (r :: rs) = r.1 + runsLength rs := by
  simp [runsLength]

@[simp] theorem runsLength_append (xs ys : Runs α) : runsLength (xs ++ ys) = runsLength xs + runsLength ys := by
  simp [runsLength]

@[simp] theorem runsLength_map (f : α → β) (rs : Runs α) : runsLength (runsMap f rs) = runsLength rs := by
  simp [runsLength, runsMap, Function.comp_def]

theorem runsLength_push [DecidableEq α] (n : Nat) (v : α) (rs : Runs α) :
    runsLength (runsPush n v rs) = n + runsLength rs := by
  unfold runsPush
  split
  · next h => simp [h]
  · cases rs with
    | nil => simp
    | cons r rest =>
      obtain ⟨m, w⟩ := r
      simp only; split <;> simp [Nat.add_assoc]

theorem runsLength_norm [DecidableEq α] (rs : Runs α) : runsLength (runsNorm rs) = runsLength rs := by
  induction rs with
  | nil => rfl
  | cons r rs ih =>
    have h : runsNorm (r :: rs) = runsPush r.1 r.2 (runsNorm rs) := rfl
    rw [h, runsLength_push, ih, runsLength_cons]

theorem runsLength_take (k : Nat) (rs : Runs α) : runsLength (runsTake k rs) = min k (runsLength rs) := by
  induction rs generalizing k with
  | nil => simp [runsTake]
  | cons r rs ih =>
    obtain ⟨n, v⟩ := r
    unfold runsTake
    split
    · split <;> simp <;> omega
    · simp [ih]; omega

theorem runsLength_drop (k : Nat) (rs : Runs α) : runsLength (runsDrop k rs) = runsLength rs - k := by
  induction rs generalizing k with
  | nil => simp [runsDrop]
  | cons r rs ih =>
    obtain ⟨n, v⟩ := r
    unfold runsDrop
    split
    · simp; omega
    · simp [ih]; omega

/-! ## Single pixels -/

theorem runsGet?_append (xs ys : Runs α) (i : Nat) :
    runsGet? (xs ++ ys) i = if i < runsLength xs then runsGet? xs i else runsGet? ys (i - runsLength xs) := by
  induction xs generalizing i with
  | nil => simp
  | cons r rs ih =>
    obtain ⟨n, v⟩ := r
    simp only [List.cons_append, runsGet?, ih, runsLength_cons]
    by_cases h : i < n
    · simp [h, show i < n + runsLength rs by omega]
    · by_cases h2 : i - n < runsLength rs
      · simp [h, h2, show i < n + runsLength rs by omega]
      · simp [h, h2, show ¬ i < n + runsLength rs by omega, Nat.sub_sub]

theorem runsGet?_push [DecidableEq α] (n : Nat) (v : α) (rs : Runs α) (i : Nat) :
    runsGet? (runsPush n v rs) i = if i < n then some v else runsGet? rs (i - n) := by
  unfold runsPush
  split
  · next h => simp [h]
  · cases rs with
    | nil => simp [runsGet?]
    | cons r rest =>
      obtain ⟨m, w⟩ := r
      simp only
      split
      · next h =>
        subst h
        simp only [runsGet?]
        by_cases h1 : i < n
        · simp [h1, show i < n + m by omega]
        · by_cases h2 : i - n < m
          · simp [h1, h2, show i < n + m by omega]
          · simp [h1, h2, show ¬ i < n + m by omega, Nat.sub_sub]
      · simp [runsGet?]

/-- The canonical form holds the same pixels. -/
theorem runsGet?_norm [DecidableEq α] (rs : Runs α) (i : Nat) : runsGet? (runsNorm rs) i = runsGet? rs i := by
  induction rs generalizing i with
  | nil => rfl
  | cons r rs ih =>
    have h : runsNorm (r :: rs) = runsPush r.1 r.2 (runsNorm rs) := rfl
    rw [h, runsGet?_push, ih]; rfl

theorem runsGet?_take (k : Nat) (rs : Runs α) (i : Nat) :
    runsGet? (runsTake k rs) i = if i < k then runsGet? rs i else none := by
  induction rs generalizing k i with
  | nil => simp [runsTake, runsGet?]
  | cons r rs ih =>
    obtain ⟨n, v⟩ := r
    unfold runsTake
    by_cases h : k < n
    · by_cases h0 : k = 0
      · simp [h0, show 0 < n by omega, runsGet?]
      · simp only [h, h0, if_true, if_false, runsGet?]
        by_cases h1 : i < k
        · simp [h1, show i < n by omega]
        · simp [h1]
    · simp only [h, if_false, runsGet?, ih]
      by_cases h1 : i < n
      · simp [h1, show i < k by omega]
      · by_cases h2 : i < k
        · simp [h1, h2, show i - n < k - n by omega]
        · simp [h1, h2, show ¬ i - n < k - n by omega]

theorem runsGet?_drop (k : Nat) (rs : Runs α) (i : Nat) : runsGet? (runsDrop k rs) i = runsGet? rs (k + i) := by
  induction rs generalizing k with
  | nil => simp [runsDrop, runsGet?]
  | cons r rs ih =>
    obtain ⟨n, v⟩ := r
    unfold runsDrop
    by_cases h : k < n
    · simp only [h, if_true, runsGet?]
      by_cases h1 : i < n - k
      · simp [h1, show k + i < n by omega]
      · simp [h1, show ¬ k + i < n by omega, show i - (n - k) = k + i - n by omega]
    · simp only [h, if_false, ih, runsGet?]
      simp [show ¬ k + i < n by omega, show k - n + i = k + i - n by omega]

theorem runsGet?_map (f : α → β) (rs : Runs α) (i : Nat) : runsGet? (runsMap f rs) i = (runsGet? rs i).map f := by
  induction rs generalizing i with
  | nil => rfl
  | cons r rs ih =>
    obtain ⟨n, v⟩ := r
    have h : runsMap f ((n, v) :: rs) = (n, f v) :: runsMap f rs := rfl
    simp only [h, runsGet?, ih]
    split <;> rfl

/-- There is a pixel at every place below the length. -/
theorem runsGet?_isSome (rs : Runs α) (i : Nat) : (runsGet? rs i).isSome = decide (i < runsLength rs) := by
  induction rs generalizing i with
  | nil => simp [runsGet?]
  | cons r rs ih =>
    obtain ⟨n, v⟩ := r
    simp only [runsGet?, runsLength_cons]
    by_cases h : i < n
    · simp [h]; omega
    · simp only [h, if_false, ih]; congr 1; apply propext; omega

/-! ## The canonical form -/

theorem runsCanonical_push [DecidableEq α] (n : Nat) (v : α) (rs : Runs α) (h : runsCanonical rs = true) :
    runsCanonical (runsPush n v rs) = true := by
  unfold runsPush
  split
  · exact h
  · next hn =>
    cases rs with
    | nil => simpa [runsCanonical] using hn
    | cons r rest =>
      obtain ⟨m, w⟩ := r
      simp only
      split
      · cases rest with
        | nil => simp [runsCanonical]; omega
        | cons q rest =>
          simp only [runsCanonical, Bool.and_eq_true, decide_eq_true_eq] at h ⊢
          exact ⟨⟨by omega, h.1.2⟩, h.2⟩
      · next hv => simp [runsCanonical, hn, hv, h]

/-- `runsNorm` answers the canonical form. -/
theorem runsCanonical_norm [DecidableEq α] (rs : Runs α) : runsCanonical (runsNorm rs) = true := by
  induction rs with
  | nil => rfl
  | cons r rs ih => exact runsCanonical_push _ _ _ ih

/-- A bound on every value. -/
theorem runsAll_push [DecidableEq α] (p : α → Bool) (n : Nat) (v : α) (rs : Runs α) (hv : p v = true)
    (h : rs.all (fun r => p r.2) = true) : (runsPush n v rs).all (fun r => p r.2) = true := by
  unfold runsPush
  split
  · exact h
  · cases rs with
    | nil => simp [hv]
    | cons r rest =>
      obtain ⟨m, w⟩ := r
      simp only [List.all_cons, Bool.and_eq_true] at h ⊢
      split
      · next e => simp only [List.all_cons, Bool.and_eq_true]; exact ⟨e ▸ hv, h.2⟩
      · simp only [List.all_cons, Bool.and_eq_true]; exact ⟨hv, h⟩

theorem runsAll_norm [DecidableEq α] (p : α → Bool) (rs : Runs α) (h : rs.all (fun r => p r.2) = true) :
    (runsNorm rs).all (fun r => p r.2) = true := by
  induction rs with
  | nil => rfl
  | cons r rs ih =>
    simp only [List.all_cons, Bool.and_eq_true] at h
    exact runsAll_push p _ _ _ h.1 (ih h.2)

theorem runsAll_take (p : α → Bool) (k : Nat) (rs : Runs α) (h : rs.all (fun r => p r.2) = true) :
    (runsTake k rs).all (fun r => p r.2) = true := by
  induction rs generalizing k with
  | nil => simp [runsTake]
  | cons r rs ih =>
    obtain ⟨n, v⟩ := r
    simp only [List.all_cons, Bool.and_eq_true] at h
    unfold runsTake
    split
    · split <;> simp [h.1]
    · simp only [List.all_cons, Bool.and_eq_true]; exact ⟨h.1, ih _ h.2⟩

theorem runsAll_drop (p : α → Bool) (k : Nat) (rs : Runs α) (h : rs.all (fun r => p r.2) = true) :
    (runsDrop k rs).all (fun r => p r.2) = true := by
  induction rs generalizing k with
  | nil => simp [runsDrop]
  | cons r rs ih =>
    obtain ⟨n, v⟩ := r
    simp only [List.all_cons, Bool.and_eq_true] at h
    unfold runsDrop
    split
    · simp only [List.all_cons, Bool.and_eq_true]; exact h
    · exact ih _ h.2

/-! ## A write into a plane -/

/-- A pixel of a plane after pixels have been written over it from `start` on. -/
theorem planeSplice_get (start i : Nat) (new plane : Runs Nat) (hs : start ≤ runsLength plane) :
    runsGet? (planeSplice start new plane) i
      = if i < start then runsGet? plane i
        else if i < start + runsLength new then runsGet? new (i - start) else runsGet? plane i := by
  unfold planeSplice
  rw [runsGet?_norm, List.append_assoc, runsGet?_append, runsGet?_append, runsLength_take,
    Nat.min_eq_left hs, runsGet?_take, runsGet?_drop]
  by_cases h : i < start
  · simp [h]
  · by_cases h2 : i < start + runsLength new
    · simp [h, h2, show i - start < runsLength new by omega]
    · simp [h, h2, show ¬ i - start < runsLength new by omega,
        show start + runsLength new + (i - start - runsLength new) = i by omega]

/-- A plane stays in its canonical form when values of 16 bits are written inside it. -/
theorem planeWf_splice (start : Nat) (new plane : Runs Nat) (h : planeWf plane = true)
    (hn : start + runsLength new ≤ tilePixels) (hv : new.all (fun r => decide (r.2 < 65536)) = true) :
    planeWf (planeSplice start new plane) = true := by
  simp only [planeWf, Bool.and_eq_true, decide_eq_true_eq] at h ⊢
  obtain ⟨⟨_, hl⟩, ha⟩ := h
  refine ⟨⟨runsCanonical_norm _, ?_⟩, ?_⟩
  · unfold planeSplice
    rw [runsLength_norm, runsLength_append, runsLength_append, runsLength_take, runsLength_drop, hl]; omega
  · unfold planeSplice
    refine runsAll_norm (fun v => decide (v < 65536)) _ ?_
    rw [List.all_append, List.all_append, Bool.and_eq_true, Bool.and_eq_true]
    exact ⟨⟨runsAll_take (fun v => decide (v < 65536)) _ _ ha, hv⟩,
      runsAll_drop (fun v => decide (v < 65536)) _ _ ha⟩

theorem runsAll_clip16 (rs : Runs Nat) : (runsMap clip16 rs).all (fun r => decide (r.2 < 65536)) = true := by
  simp only [runsMap, List.all_map, List.all_eq_true, Function.comp_def, clip16, decide_eq_true_eq]
  intro x _; exact Nat.mod_lt _ (by decide)

/-- The canonical form of the memory, slot by slot. -/
theorem Memory.wf_iff (planes : Vector (Runs Nat) 48) :
    Memory.wf planes = true ↔ ∀ (i : Nat) (hi : i < 48), planeWf planes[i] = true := by
  unfold Memory.wf
  simp only [List.all_eq_true, Vector.mem_toList_iff, Vector.mem_iff_getElem]
  exact ⟨fun h i hi => h _ ⟨i, hi, rfl⟩, fun h x ⟨i, hi, e⟩ => e ▸ h i hi⟩

theorem Memory.wf_set (planes : Vector (Runs Nat) 48) (slot : Nat) (p : Runs Nat) (h : Memory.wf planes = true)
    (hp : slot < 48 → planeWf p = true) : Memory.wf (planes.setIfInBounds slot p) = true := by
  rw [Memory.wf_iff] at h ⊢
  intro i hi
  rw [Vector.getElem_setIfInBounds]
  split
  · next e => exact hp (e ▸ hi)
  · exact h i hi

/-- The plane of a slot of a memory in canonical form. -/
theorem Fst.plane_wf (f : Fst) (slot : Nat) (h : f.memoryLaw) (hs : slot < 48) : planeWf (f.plane slot) = true := by
  have := (Memory.wf_iff f.planes).1 h slot hs
  simpa [Fst.plane, hs] using this

/-- A write into a slot keeps the canonical form of the memory. -/
theorem Fst.write_memoryLaw (f : Fst) (slot start : Nat) (new : Runs Nat) (h : f.memoryLaw) (hs : start ≤ tilePixels) :
    (f.write slot start new).memoryLaw := by
  unfold Fst.memoryLaw Fst.write
  refine Memory.wf_set _ _ _ h fun hlt => planeWf_splice _ _ _ (Fst.plane_wf f slot h hlt) ?_ ?_
  · rw [runsLength_take]; omega
  · exact runsAll_take (fun v => decide (v < 65536)) _ _ (runsAll_clip16 new)

/-- A write past the last pixel of a plane writes nothing. -/
theorem Fst.write_beyond (f : Fst) (slot start : Nat) (new : Runs Nat) (h : f.memoryLaw) (hs : tilePixels ≤ start) :
    (f.write slot start new).memoryLaw := by
  unfold Fst.memoryLaw Fst.write
  refine Memory.wf_set _ _ _ h fun hlt => ?_
  have hw := Fst.plane_wf f slot h hlt
  simp only [planeWf, Bool.and_eq_true, decide_eq_true_eq] at hw ⊢
  have h0 : tilePixels - start = 0 := by omega
  obtain ⟨⟨_, hl⟩, ha⟩ := hw
  have hpart : runsLength (runsTake (tilePixels - start) (runsMap clip16 new)) = 0 := by
    rw [runsLength_take, h0, Nat.zero_min]
  refine ⟨⟨runsCanonical_norm _, ?_⟩, ?_⟩
  · unfold planeSplice
    rw [runsLength_norm, runsLength_append, runsLength_append, runsLength_take, runsLength_drop, hl, hpart]; omega
  · unfold planeSplice
    refine runsAll_norm (fun v => decide (v < 65536)) _ ?_
    rw [List.all_append, List.all_append, Bool.and_eq_true, Bool.and_eq_true]
    exact ⟨⟨runsAll_take (fun v => decide (v < 65536)) _ _ ha,
      runsAll_take (fun v => decide (v < 65536)) _ _ (runsAll_clip16 new)⟩,
      runsAll_drop (fun v => decide (v < 65536)) _ _ ha⟩

/-- Every write keeps the canonical form of the memory. -/
theorem Fst.write_keeps (f : Fst) (slot start : Nat) (new : Runs Nat) (h : f.memoryLaw) :
    (f.write slot start new).memoryLaw := by
  rcases Nat.le_total start tilePixels with hs | hs
  · exact Fst.write_memoryLaw f slot start new h hs
  · exact Fst.write_beyond f slot start new h hs

/-- A write changes nothing of the frame store but the planes. -/
@[simp] theorem Fst.write_frame (f : Fst) (slot start : Nat) (new : Runs Nat) :
    (f.write slot start new).slots = f.slots ∧ (f.write slot start new).wait = f.wait ∧
    (f.write slot start new).port = f.port ∧ (f.write slot start new).quiesce = f.quiesce :=
  ⟨rfl, rfl, rfl, rfl⟩

/-- A write leaves the planes of the other slots. -/
theorem Fst.plane_write_ne (f : Fst) (slot start k : Nat) (new : Runs Nat) (hk : k ≠ slot) :
    (f.write slot start new).plane k = f.plane k := by
  unfold Fst.plane Fst.write
  simp only
  rw [Vector.getElem?_setIfInBounds, if_neg (Ne.symm hk)]

/-- A pixel of the slot written: the new value inside the written range, the old one outside it. -/
theorem Fst.plane_write_get (f : Fst) (slot start i : Nat) (new : Runs Nat) (h : f.memoryLaw) (hs : slot < 48)
    (hst : start + runsLength new ≤ tilePixels) :
    runsGet? ((f.write slot start new).plane slot) i
      = if i < start then runsGet? (f.plane slot) i
        else if i < start + runsLength new then (runsGet? new (i - start)).map clip16
        else runsGet? (f.plane slot) i := by
  have hw := Fst.plane_wf f slot h hs
  simp only [planeWf, Bool.and_eq_true, decide_eq_true_eq] at hw
  have e : (f.write slot start new).plane slot
      = planeSplice start (runsTake (tilePixels - start) (runsMap clip16 new)) (f.plane slot) := by
    unfold Fst.write
    simp [Fst.plane, hs]
  rw [e, planeSplice_get _ _ _ _ (by rw [hw.1.2]; omega), runsLength_take, runsLength_map, runsGet?_take, runsGet?_map,
    Nat.min_eq_right (by omega)]
  by_cases h1 : i < start
  · simp [h1]
  · by_cases h2 : i < start + runsLength new
    · simp [h1, h2, show i - start < tilePixels - start by omega]
    · simp [h1, h2]

/-- A slot's plane is set to zeros in the canonical form. -/
theorem Fst.blank_keeps (f : Fst) (slot : Nat) (h : f.memoryLaw) : (f.blank slot).memoryLaw := by
  unfold Fst.blank
  split
  · exact Memory.wf_set _ _ _ h fun _ => by decide
  · exact h

/-- A write into a calibration slot keeps the canonical form. -/
theorem Fst.writeCal_keeps (f : Fst) (slot start : Nat) (new : Runs Nat) (h : f.memoryLaw) :
    (f.writeCal slot start new).memoryLaw := by
  unfold Fst.writeCal
  split
  · exact Fst.write_keeps f slot start new h
  · exact h

/-- A reset leaves the planes, and so their canonical form. -/
theorem Fst.applied_keeps (f : Fst) (kind : ResetKind) (h : f.memoryLaw) : (f.applied kind).memoryLaw := h

/-- The memory after reset is in its canonical form. -/
theorem reset_memoryLaw : State.reset.fst.memoryLaw := by
  rw [Fst.memoryLaw, Memory.wf_iff]
  intro i hi
  have : State.reset.fst.planes[i] = blankPlane := Vector.getElem_replicate hi
  rw [this]; decide

end Sys2Proof.Machine
end

