-- ==== Sys2Proof/Laws/Ops.lean ====
section
/-! SUPPORT. What each shared operation can do, said once: commands and replies, notices, job and tile records, the run
state, and slots. -/

namespace Sys2Proof.Machine

/-! ## Commands and notices -/

/-- R149, R150: all that taking a command record can do. -/
theorem command_cases (h : Hdr) (kind : CommandKind) (owner : State → Answer) (s : State) :
    (s.liu.attached = false ∧ command h kind owner s = s)
    ∨ (s.liu.attached = true ∧ ∃ w, s.liu.resetWork = some w ∧ command h kind owner s
        = { s with liu := { s.liu with resetWork := some { w with
            busy := w.busy ++ [{ tag := h.tag, status := .busy, kind := kind, body := .none }] } } })
    ∨ (s.liu.attached = true ∧ s.liu.resetWork = none ∧
        ∃ a, a = (if h.fits then owner s else Answer.refuse s .badArg) ∧ command h kind owner s
          = { a.state with liu := { a.state.liu with replies := a.state.liu.replies
              ++ [{ tag := h.tag, status := a.status, kind := kind, body := a.body }] } }) := by
  unfold command
  cases ha : s.liu.attached
  · exact .inl ⟨rfl, by simp⟩
  · cases hw : s.liu.resetWork with
    | some w => exact .inr (.inl ⟨rfl, w, rfl, by simp⟩)
    | none => exact .inr (.inr ⟨rfl, rfl, _, rfl, by simp⟩)

/-- A command record that fits is taken by its owner. -/
theorem command_takes (h : Hdr) (kind : CommandKind) (owner : State → Answer) (s : State)
    (ha : s.liu.attached = true) (hw : s.liu.resetWork = none) (hf : h.fits = true) :
    command h kind owner s = { (owner s).state with liu := { (owner s).state.liu with
      replies := (owner s).state.liu.replies
        ++ [{ tag := h.tag, status := (owner s).status, kind := kind, body := (owner s).body }] } } := by
  unfold command; simp [ha, hw, hf]

/-- R155: all that raising a notice can do. -/
theorem Liu.raise_cases (l : Liu) (n : Notice) :
    (n.enabled l.params.noticeEnable = false ∧ l.raise n = l)
    ∨ (n.enabled l.params.noticeEnable = true ∧ l.notices.length < noticeCapacity ∧ l.overflow = 0 ∧
        l.raise n = { l with notices := l.notices ++ [n] })
    ∨ (n.enabled l.params.noticeEnable = true ∧ ¬ (l.notices.length < noticeCapacity ∧ l.overflow = 0) ∧
        l.raise n = { l with overflow := min 65535 (l.overflow + 1),
                             sticky := { l.sticky with noticeOverflow := true } }) := by
  unfold Liu.raise
  cases he : n.enabled l.params.noticeEnable
  · exact .inl ⟨rfl, by simp⟩
  · by_cases h : l.notices.length < noticeCapacity ∧ l.overflow = 0
    · exact .inr (.inl ⟨rfl, h.1, h.2, by simp [h.1, h.2]⟩)
    · exact .inr (.inr ⟨rfl, h, by simpa using fun h1 h2 => absurd ⟨h1, h2⟩ h⟩)

/-- Raising a notice leaves the replies, the parameters, the link and the reset in progress. -/
@[simp] theorem Liu.raise_frame (l : Liu) (n : Notice) :
    (l.raise n).replies = l.replies ∧ (l.raise n).params = l.params ∧ (l.raise n).attached = l.attached ∧
    (l.raise n).resetWork = l.resetWork := by
  unfold Liu.raise; (repeat' split) <;> simp

/-! ## Job and tile records -/

/-- Changing a record by a function that keeps its id leaves every other record. -/
theorem Prc.job?_mapJob_ne (p : Prc) (id k : Nat) (f : Job → Job) (hf : ∀ j, (f j).id = j.id) (hk : k ≠ id) :
    (p.mapJob id f).job? k = p.job? k := by
  simp only [Prc.job?, Prc.mapJob]
  induction p.jobs with
  | nil => rfl
  | cons a l ih =>
    rw [List.map_cons, List.find?_cons, List.find?_cons, ih]
    by_cases h : a.id = id
    · have h1 : ¬ a.id = k := fun e => hk (e.symm.trans h)
      simp [h, hf, Ne.symm hk]
    · simp [h]

/-- Changing a record by a function that keeps its id gives the changed record. -/
theorem Prc.job?_mapJob_self (p : Prc) (id : Nat) (f : Job → Job) (hf : ∀ j, (f j).id = j.id) :
    (p.mapJob id f).job? id = (p.job? id).map f := by
  simp only [Prc.job?, Prc.mapJob]
  induction p.jobs with
  | nil => rfl
  | cons a l ih =>
    rw [List.map_cons, List.find?_cons, List.find?_cons, ih]
    by_cases h : a.id = id
    · simp [h, hf]
    · simp [h]

/-- The record found under an id bears that id. -/
theorem Prc.job?_id {p : Prc} {id : Nat} {j : Job} (h : p.job? id = some j) : j.id = id := by
  simpa using List.find?_some h

/-- The record found is in the table. -/
theorem Prc.job?_mem {p : Prc} {id : Nat} {j : Job} (h : p.job? id = some j) : j ∈ p.jobs := List.mem_of_find?_eq_some h

/-- Where no two records bear one id, a record is found under its id. -/
theorem Prc.job?_of_mem {p : Prc} {j : Job} (hn : (p.jobs.map (·.id)).Nodup) (hj : j ∈ p.jobs) :
    p.job? j.id = some j := by
  unfold Prc.job?
  revert hn hj
  induction p.jobs with
  | nil => simp
  | cons a l ih =>
    intro hn hj
    simp only [List.map_cons, List.nodup_cons] at hn
    rcases List.mem_cons.1 hj with rfl | hm
    · simp
    · have : a.id ≠ j.id := fun e => hn.1 (e ▸ List.mem_map_of_mem hm)
      simp [this, ih hn.2 hm]

/-- Changing a tile leaves every other tile of every job. -/
theorem Prc.tile?_mapTile_ne (p : Prc) (t u : TileRef) (f : Tile → Tile) (hf : ∀ x, (f x).seq = x.seq) (hu : u ≠ t) :
    (p.mapTile t f).tile? u = p.tile? u := by
  unfold Prc.mapTile Prc.tile?
  by_cases hj : u.job = t.job
  · have hs : u.seq ≠ t.seq := fun e => hu (by cases u; cases t; simp_all)
    rw [hj, Prc.job?_mapJob_self (hf := by intro _; rfl)]
    cases p.job? t.job with
    | none => rfl
    | some j =>
      simp only [Option.map_some, Option.bind_some]
      induction j.tiles with
      | nil => rfl
      | cons a l ih =>
        rw [List.map_cons, List.find?_cons, List.find?_cons, ih]
        by_cases h : a.seq = t.seq
        · have h1 : ¬ a.seq = u.seq := fun e => hs (e.symm.trans h)
          simp [h, hf, Ne.symm hs]
        · simp [h]
  · rw [Prc.job?_mapJob_ne (hf := by intro _; rfl) (hk := hj)]

/-- Changing a tile gives the changed tile. -/
theorem Prc.tile?_mapTile_self (p : Prc) (t : TileRef) (f : Tile → Tile) (hf : ∀ x, (f x).seq = x.seq) :
    (p.mapTile t f).tile? t = (p.tile? t).map f := by
  unfold Prc.mapTile Prc.tile?
  rw [Prc.job?_mapJob_self (hf := by intro _; rfl)]
  cases p.job? t.job with
  | none => rfl
  | some j =>
    simp only [Option.map_some, Option.bind_some]
    induction j.tiles with
    | nil => rfl
    | cons a l ih =>
      rw [List.map_cons, List.find?_cons, List.find?_cons, ih]
      by_cases h : a.seq = t.seq <;> simp [h, hf]

/-- Changing a tile leaves the records of the other jobs. -/
theorem Prc.job?_mapTile_ne (p : Prc) (t : TileRef) (f : Tile → Tile) (k : Nat) (hk : k ≠ t.job) :
    (p.mapTile t f).job? k = p.job? k := Prc.job?_mapJob_ne _ _ _ _ (fun _ => rfl) hk

/-- Changing a tile changes one job record's list of tiles. -/
theorem Prc.job?_mapTile_self (p : Prc) (t : TileRef) (f : Tile → Tile) :
    (p.mapTile t f).job? t.job
      = (p.job? t.job).map fun j => { j with tiles := j.tiles.map fun x => if x.seq = t.seq then f x else x } :=
  Prc.job?_mapJob_self _ _ _ (fun _ => rfl)

/-- Changing a record leaves the tiles of the other jobs. -/
theorem Prc.tile?_mapJob_ne (p : Prc) (id : Nat) (u : TileRef) (f : Job → Job) (hf : ∀ j, (f j).id = j.id)
    (hu : u.job ≠ id) : (p.mapJob id f).tile? u = p.tile? u := by
  unfold Prc.tile?; rw [Prc.job?_mapJob_ne _ _ _ _ hf hu]

/-- Changing a record by a function that keeps its id and its tiles leaves every tile. -/
theorem Prc.tile?_mapJob (p : Prc) (id : Nat) (u : TileRef) (f : Job → Job) (hf : ∀ j, (f j).id = j.id)
    (ht : ∀ j, (f j).tiles = j.tiles) : (p.mapJob id f).tile? u = p.tile? u := by
  by_cases hu : u.job = id
  · unfold Prc.tile?; rw [hu, Prc.job?_mapJob_self _ _ _ hf]
    cases p.job? id with
    | none => rfl
    | some j => simp [ht]
  · exact Prc.tile?_mapJob_ne _ _ _ _ hf hu

/-- All that a change of a job's state can do (R9, R16). -/
theorem State.setJob_cases (s : State) (id : Nat) (st : JobState) (out : Option JobOutcome) :
    (s.setJob id st out = s ∧ (s.prc.job? id = none ∨ s.prc.run = .quiescing
        ∨ ∃ j, s.prc.job? id = some j ∧ j.state.finished = true))
    ∨ ∃ j, s.prc.job? id = some j ∧ j.state.finished = false ∧ s.prc.run ≠ .quiescing ∧
        s.setJob id st out = ({ s with prc := s.prc.mapJob id fun x => { x with state := st, outcome := out } }).notice
          { j with state := st, outcome := out }.notice := by
  unfold State.setJob
  cases hj : s.prc.job? id with
  | none => exact .inl ⟨rfl, .inl rfl⟩
  | some j =>
    by_cases hq : s.prc.run = .quiescing
    · exact .inl ⟨by simp [hq], .inr (.inl hq)⟩
    · cases hf : j.state.finished
      · exact .inr ⟨j, rfl, hf, hq, by simp [hf, hq]⟩
      · exact .inl ⟨by simp [hf], .inr (.inr ⟨j, rfl, hf⟩)⟩

/-- Outside a quiesce a tile's record is changed. -/
theorem State.mapTile_prc (s : State) (t : TileRef) (f : Tile → Tile) (h : s.prc.run ≠ .quiescing) :
    (s.mapTile t f).prc = s.prc.mapTile t f := by
  unfold State.mapTile; simp [h]

/-- Under a quiesce no record changes (R43). -/
theorem State.mapTile_quiescing (s : State) (t : TileRef) (f : Tile → Tile) (h : s.prc.run = .quiescing) :
    s.mapTile t f = s := by
  unfold State.mapTile; simp [h]

/-! ## The run state -/

/-- All that a change of the run state can do (R17). -/
theorem State.setRun_cases (s : State) (r : RunState) :
    (s.prc.run = r ∧ s.setRun r = s)
    ∨ (s.prc.run ≠ r ∧ s.setRun r = ({ s with prc := { s.prc with run := r } }).runNotice) := by
  unfold State.setRun
  by_cases h : s.prc.run = r
  · exact .inl ⟨h, by simp [h]⟩
  · exact .inr ⟨h, by simp [h]⟩

/-- The run is in the state it is set to. -/
@[simp] theorem State.setRun_run (s : State) (r : RunState) : (s.setRun r).prc.run = r := by
  rcases State.setRun_cases s r with ⟨h, e⟩ | ⟨_, e⟩
  · rw [e, h]
  · rw [e]; rfl

/-- A change of the run state leaves the table, the active job and the queue. -/
@[simp] theorem State.setRun_records (s : State) (r : RunState) :
    (s.setRun r).prc.jobs = s.prc.jobs ∧ (s.setRun r).prc.active = s.prc.active ∧
    (s.setRun r).prc.queue = s.prc.queue := by
  rcases State.setRun_cases s r with ⟨_, e⟩ | ⟨_, e⟩ <;> rw [e] <;> exact ⟨rfl, rfl, rfl⟩

/-- Where the run goes when an event calls for HELD (R18). -/
theorem State.goHeld_run (s : State) (c : HoldCause) :
    (s.goHeld c).prc.run = match s.prc.run with
      | .idle | .running | .holding => .held c
      | .held c0 => if c0.rank ≤ c.rank then .held c else .held c0
      | .quiescing => .quiescing := by
  unfold State.goHeld
  cases h : s.prc.run with
  | held c0 => simp only; split <;> simp [*]
  | _ => simp [h]

/-! ## Slots -/

/-- A slot after one slot has taken a state. -/
theorem Fst.slot_setSlot (f : Fst) (i k : Nat) (x : SlotState) :
    (f.setSlot i x).slot k = if k = i ∧ i < 48 then some x else f.slot k := by
  unfold Fst.slot Fst.setSlot
  simp only [Vector.getElem?_setIfInBounds]
  by_cases h : i = k
  · subst h
    by_cases hi : i < 48
    · simp [hi]
    · simp [hi]
  · simp [h, Ne.symm h]

/-- A slot after several slots have taken one state. -/
theorem Fst.slot_setSlots (f : Fst) (l : List Nat) (k : Nat) (x : SlotState) :
    (f.setSlots l x).slot k = if k ∈ l ∧ k < 48 then some x else f.slot k := by
  unfold Fst.setSlots
  induction l generalizing f with
  | nil => simp
  | cons i l ih =>
    rw [List.foldl_cons, ih, Fst.slot_setSlot]
    by_cases hk : k < 48 <;> by_cases h1 : k ∈ l <;> by_cases h2 : k = i <;> simp_all

/-- The slots of a state named, in ascending order. -/
theorem Fst.mem_slotsWhere (f : Fst) (p : SlotState → Bool) (i : Nat) :
    i ∈ f.slotsWhere p ↔ i < slotCount ∧ ∃ x, f.slot i = some x ∧ p x = true := by
  unfold Fst.slotsWhere
  rw [List.mem_filter, List.mem_range]
  cases h : f.slot i <;> simp

/-! ## The memory port -/

/-- What SFE has at the port when it gives up, in the words of `Safety.lean`. -/
theorem Port.giveUpSfe_eq (p : Port) : p.giveUpSfe = p.withoutSfe := by
  unfold Port.giveUpSfe Port.withoutSfe
  cases p.serving with
  | none => rfl
  | some u => by_cases hc : u.client = .sfe <;> simp [hc]

/-- The slot that the readout in progress goes into. -/
theorem Sfe.readsInto_iff (f : Sfe) (k : Nat) : f.readsInto k = true ↔ ∃ q e m temp, f.readout = some q
    ∧ q.kind = .frame e m temp ∧ (e.req.target = .calwork k ∨ ∃ t, e.req.target = .slot k t) := by
  unfold Sfe.readsInto
  cases f.readout with
  | none => simp
  | some q =>
    cases hk : q.kind with
    | flush n => simp [hk]
    | frame e m temp => cases ht : e.req.target <;> simp [hk, ht]

/-- Which units SFE asks for, in the words of `Safety.lean`. -/
theorem State.unitStopped_iff (s : State) (u : PortUnit) : s.unitStopped u = false ↔ s.sfe.asksFor u := by
  unfold Sfe.asksFor State.unitStopped Sfe.writesInto
  by_cases hc : u.client = .sfe
  · simp only [hc, ne_eq, not_true_eq_false, false_or, decide_true, Bool.true_and, Bool.not_eq_false', Bool.and_eq_true,
      Sfe.readsInto_iff]
    constructor
    · rintro ⟨⟨q, e, m, temp, h1, h2, h5⟩, h⟩
      simp only [h1, Bool.and_eq_true, Bool.not_eq_true'] at h
      exact ⟨q, e, m, temp, h1, h2, h.2, h.1, h5⟩
    · rintro ⟨q, e, m, temp, h1, h2, h3, h4, h5⟩
      exact ⟨⟨q, e, m, temp, h1, h2, h5⟩, by simp [h1, h3, h4]⟩
  · simp [hc]

/-- A unit that SFE asks for no more, and one of SFE without its write mark, changes nothing at its end. -/
theorem State.finishUnit_eq_self {s : State} {u : PortUnit}
    (h : ¬ s.sfe.asksFor u ∨ (u.client = .sfe ∧ u.write = false)) : s.finishUnit u = s := by
  unfold State.finishUnit
  split
  · rename_i hw
    rcases h with h | h
    · simp [Bool.eq_true_of_not_eq_false (mt (s.unitStopped_iff u).1 h)]
    · simp [hw] at h
  · rfl

/-- The port's choice of the next unit changes no slot and no plane. -/
theorem State.servePort_slots (k : Nat) (s : State) :
    (State.servePort k s).fst.slots = s.fst.slots ∧ (State.servePort k s).fst.planes = s.fst.planes := by
  induction k generalizing s with
  | zero => exact ⟨rfl, rfl⟩
  | succ k ih =>
    unfold State.servePort
    split
    · exact ⟨rfl, rfl⟩
    · dsimp only
      split
      · exact ⟨rfl, rfl⟩
      · rw [(ih _).1, (ih _).2]; unfold State.readoutRefused; split <;> exact ⟨rfl, rfl⟩

/-! ## What waits for slots, and what follows in one event (R86, R102) -/

@[simp] theorem execAll_nil (s : State) : execAll [] s = .next s := rfl

theorem execAll_cons {c : Instr} {s t : State} (h : exec c s = .next t) (cs : List Instr) :
    execAll (c :: cs) s = execAll cs t := by simp [execAll, h]

theorem State.grantWait_eq_self {s : State} (h : s.fst.wait = none) : s.grantWait = s := by simp [State.grantWait, h]

theorem State.cruTest_eq_self {s : State} (h : s.cru.state ≠ .waiting) : s.cruTest = s := by
  unfold State.cruTest; split <;> simp_all

/-- With nothing waiting, slots that return to FREE have no further effect. -/
@[simp] theorem State.afterFree_unwaited (s : State) : s.unwaited.afterFree = s.unwaited := by
  rw [State.afterFree, State.grantWait_eq_self rfl, State.cruTest_eq_self (by simp [State.unwaited])]

/-- The admission that waits is granted as one that asks again would be (R101, R102). -/
theorem State.grantWait_eq_askSlots {s : State} {u : TileRef} {n : Nat} (h : s.fst.wait = some (u, n))
    (hq : s.fst.quiesce = false) : s.grantWait = ({ s with fst := { s.fst with wait := none } }).askSlots u n := by
  have hw : s.fst = { s.fst with wait := some (u, n) } := by rw [← h]
  by_cases hn : n + 1 ≤ s.fst.freeCount
  · have asks : ({ s with fst := { s.fst with wait := none } } : State).askSlots u n
        = ({ s with fst := { s.fst with wait := none } } : State).grantSlots u n := by
      unfold State.askSlots
      rw [if_neg (by simp [hq])]
      exact if_pos hn
    rw [asks]
    simp only [State.grantWait, h, if_pos hn]
  · have asks : ({ s with fst := { s.fst with wait := none } } : State).askSlots u n
        = { s with fst := { s.fst with wait := some (u, n) } } := by
      unfold State.askSlots
      rw [if_neg (by simp [hq])]
      exact if_neg hn
    rw [asks, ← hw]
    simp only [State.grantWait, h, if_neg hn]

/-- R95: SFE is exposing or reading the frame that CRU awaits. -/
theorem Sfe.hasCalFrame_iff (f : Sfe) : f.hasCalFrame = true ↔ f.held.map (·.req.client) ≠ some .cru
    ∧ ((∃ e, f.exposing = some e ∧ e.req.client = .cru)
      ∨ ∃ q e m temp, f.readout = some q ∧ q.kind = .frame e m temp ∧ e.req.client = .cru ∧ q.dropped = false) := by
  unfold Sfe.hasCalFrame Readout.ofCalFrame
  cases f.exposing <;> cases f.readout with
  | none => simp
  | some q => cases h : q.kind <;> simp [h]

end Sys2Proof.Machine
end

