-- ==== Sys2Proof/Laws/Tiles.lean ====
section
/-! SUPPORT. What PRC does when it abandons tiles, and when a failure ends the active job, said once in the words of
`Safety.lean`. -/

namespace Sys2Proof.Machine

set_option linter.all false

/-- In a record whose tiles bear distinct numbers a tile is found under its number. -/
theorem find_seq {l : List Tile} (hn : (l.map (·.seq)).Nodup) {x : Tile} (hx : x ∈ l) (g : Tile → Tile)
    (hg : ∀ y, (g y).seq = y.seq) : (l.map g).find? (fun y => decide (y.seq = x.seq)) = some (g x) := by
  induction l with
  | nil => cases hx
  | cons y ys ih =>
    simp only [List.map_cons, List.nodup_cons, List.mem_map, not_exists, not_and] at hn
    simp only [List.map_cons, List.find?_cons, hg]
    rcases List.mem_cons.1 hx with rfl | hm
    · simp
    · have : y.seq ≠ x.seq := fun h => hn.1 x hm h.symm
      simp only [this, decide_false]
      exact ih hn.2 hm

/-- The state when PRC has abandoned the tiles of a list: `tilesGone` by membership. -/
def State.goneBy (s : State) (j : Job) (l : List Tile) : State :=
  { s with
    prc := { s.prc with
      jobs := s.prc.jobs.map fun k : Job => if k.id = j.id then
        { j with
          tiles := j.tiles.map fun x => if x ∈ l then { x with state := .abandoned } else x
          abandoned := j.abandoned + l.length }
        else k
      planReq := j.requestLeft l .metering s.prc.planReq
      admReq := j.requestLeft l .planned s.prc.admReq
      expReq := j.requestLeft l .exposing s.prc.expReq
      retryBack := if l.any fun x => decide (x.state = .exposing) then none else s.prc.retryBack }
    inFlight := s.inFlight ++ l.flatMap fun x => s.prc.withdrawals ⟨j.id, x.seq⟩ x.state
    liu := l.foldl (fun l x => l.raise (.tileDone j.id x.row x.col x.seq .abandoned x.flags x.stats)) s.liu }

/-- The job's record as `goneBy` leaves it. -/
theorem State.goneBy_job (s : State) (j : Job) (l : List Tile) (h : s.prc.job? j.id = some j) :
    (s.goneBy j l).prc.job? j.id = some { j with
      tiles := j.tiles.map fun x => if x ∈ l then { x with state := .abandoned } else x
      abandoned := j.abandoned + l.length } := by
  have hp : ((fun k : Job => decide (k.id = j.id)) ∘ fun k : Job => if k.id = j.id then
        { j with
          tiles := j.tiles.map fun x => if x ∈ l then { x with state := .abandoned } else x
          abandoned := j.abandoned + l.length }
        else k) = fun k => decide (k.id = j.id) := by
    funext k; by_cases hk : k.id = j.id <;> simp [hk]
  unfold Prc.job? at h ⊢
  simp only [State.goneBy, List.find?_map, hp, h]
  simp

/-- A tile not yet abandoned is found as it was. -/
theorem State.goneBy_tile (s : State) (j : Job) (l : List Tile) (x : Tile) (h : s.prc.job? j.id = some j)
    (hn : (j.tiles.map (·.seq)).Nodup) (hx : x ∈ j.tiles) (hl : x ∉ l) :
    (s.goneBy j l).prc.tile? ⟨j.id, x.seq⟩ = some x := by
  unfold Prc.tile?
  rw [State.goneBy_job s j l h]
  have := find_seq hn hx (fun x => if x ∈ l then { x with state := .abandoned } else x)
    (by intro y; split <;> rfl)
  simpa [hl] using this

/-- The requests left after one more tile. -/
theorem Job.requestLeft_append (j : Job) (l : List Tile) (x : Tile) (st : TileState) (r : Option TileRef) :
    j.requestLeft (l ++ [x]) st r
      = if x.state = st ∧ r = some ⟨j.id, x.seq⟩ then none else j.requestLeft l st r := by
  unfold Job.requestLeft
  by_cases h : x.state = st ∧ r = some ⟨j.id, x.seq⟩ <;> simp [h, List.any_append]

/-- A request for one tile is not taken from PRC by the abandonment of others. -/
theorem Job.requestLeft_eq (j : Job) (l : List Tile) (x : Tile) (st : TileState) (r : Option TileRef)
    (h : ∀ y ∈ l, y.seq ≠ x.seq) :
    j.requestLeft l st r = some ⟨j.id, x.seq⟩ ↔ r = some ⟨j.id, x.seq⟩ := by
  unfold Job.requestLeft
  split
  · rename_i ha
    obtain ⟨y, hy, hb⟩ := List.any_eq_true.1 ha
    simp only [Bool.and_eq_true, decide_eq_true_eq] at hb
    simp only [reduceCtorEq, false_iff]
    rw [hb.2]; intro e; injection e with e; injection e with _ e; exact h y hy e
  · rfl

/-- All that the withdrawal of a tile's requests does (Table 2.3). -/
theorem State.withdrawTile_eq (s : State) (t : TileRef) (st : TileState) :
    s.withdrawTile t st = { s with
      prc := { s.prc with
        planReq := if st = .metering ∧ s.prc.planReq = some t then none else s.prc.planReq
        admReq := if st = .planned ∧ s.prc.admReq = some t then none else s.prc.admReq
        expReq := if st = .exposing ∧ s.prc.expReq = some t then none else s.prc.expReq
        retryBack := if st = .exposing then none else s.prc.retryBack }
      inFlight := s.inFlight ++ s.prc.withdrawals t st } := by
  cases st
  case metering => by_cases h : s.prc.planReq = some t <;> simp [State.withdrawTile, Prc.withdrawals, h, State.emit, Instr.asMessage]
  case planned => by_cases h : s.prc.admReq = some t <;> simp [State.withdrawTile, Prc.withdrawals, h, State.emit, Instr.asMessage]
  case exposing => by_cases h : s.prc.expReq = some t <;> simp [State.withdrawTile, Prc.withdrawals, h, State.emit, Instr.asMessage]
  all_goals simp [State.withdrawTile, Prc.withdrawals, State.emit, Instr.asMessage]

/-- The withdrawals depend on the requests for the tile alone. -/
theorem Prc.withdrawals_congr (p q : Prc) (t : TileRef) (st : TileState) (h1 : p.planReq = some t ↔ q.planReq = some t)
    (h2 : p.admReq = some t ↔ q.admReq = some t) (h3 : p.expReq = some t ↔ q.expReq = some t) :
    p.withdrawals t st = q.withdrawals t st := by
  unfold Prc.withdrawals; cases st <;> simp only [h1, h2, h3]

/-- PRC withdraws the requests of one more tile. -/
theorem State.goneBy_withdraw (s : State) (j : Job) (l : List Tile) (x : Tile) (ho : ∀ y ∈ l, y.seq ≠ x.seq) :
    (s.goneBy j l).withdrawTile ⟨j.id, x.seq⟩ x.state =
      { s.goneBy j l with
        prc := { (s.goneBy j l).prc with
          planReq := (s.goneBy j (l ++ [x])).prc.planReq, admReq := (s.goneBy j (l ++ [x])).prc.admReq
          expReq := (s.goneBy j (l ++ [x])).prc.expReq, retryBack := (s.goneBy j (l ++ [x])).prc.retryBack }
        inFlight := (s.goneBy j (l ++ [x])).inFlight } := by
  have h1 := Job.requestLeft_eq j l x .metering s.prc.planReq ho
  have h2 := Job.requestLeft_eq j l x .planned s.prc.admReq ho
  have h3 := Job.requestLeft_eq j l x .exposing s.prc.expReq ho
  have hw := Prc.withdrawals_congr (s.goneBy j l).prc s.prc ⟨j.id, x.seq⟩ x.state h1 h2 h3
  have e1 : (s.goneBy j l).prc.planReq = j.requestLeft l .metering s.prc.planReq := rfl
  have e2 : (s.goneBy j l).prc.admReq = j.requestLeft l .planned s.prc.admReq := rfl
  have e3 : (s.goneBy j l).prc.expReq = j.requestLeft l .exposing s.prc.expReq := rfl
  have f1 : (s.goneBy j (l ++ [x])).prc.planReq = j.requestLeft (l ++ [x]) .metering s.prc.planReq := rfl
  have f2 : (s.goneBy j (l ++ [x])).prc.admReq = j.requestLeft (l ++ [x]) .planned s.prc.admReq := rfl
  have f3 : (s.goneBy j (l ++ [x])).prc.expReq = j.requestLeft (l ++ [x]) .exposing s.prc.expReq := rfl
  have f4 : (s.goneBy j (l ++ [x])).prc.retryBack
      = if x.state = .exposing then none else (s.goneBy j l).prc.retryBack := by
    by_cases hx : x.state = .exposing <;> simp [State.goneBy, List.any_append, hx]
  have f5 : (s.goneBy j (l ++ [x])).inFlight = (s.goneBy j l).inFlight ++ s.prc.withdrawals ⟨j.id, x.seq⟩ x.state := by
    simp [State.goneBy, List.append_assoc]
  rw [State.withdrawTile_eq, hw, f1, f2, f3, f4, f5, Job.requestLeft_append, Job.requestLeft_append,
    Job.requestLeft_append, ← e1, ← e2, ← e3]
  simp only [e1, e2, e3, h1, h2, h3]

/-- One more tile of the job is abandoned. -/
theorem State.goneBy_step (s : State) (j : Job) (l : List Tile) (x : Tile) (hr : s.prc.run ≠ .quiescing)
    (h : s.prc.job? j.id = some j)
    (hn : (j.tiles.map (·.seq)).Nodup) (hx : x ∈ j.tiles) (hl : x ∉ l)
    (ho : ∀ y ∈ l, y.seq ≠ x.seq) (he : x.state.ended = false) :
    (s.goneBy j l).abandonTile ⟨j.id, x.seq⟩ = s.goneBy j (l ++ [x]) := by
  have ht := State.goneBy_tile s j l x h hn hx hl
  have hu : ∀ y ∈ j.tiles, y.seq = x.seq → y = x := fun y hy e => List.inj_on_of_nodup_map hn hy hx e
  unfold State.abandonTile
  simp only [Prc.tileState?, ht, Option.map_some, State.goneBy_withdraw s j l x ho]
  unfold State.endTile
  have ht' : (s.goneBy j l).prc.tile? ⟨j.id, x.seq⟩ = some x := ht
  simp only [Prc.tile?, Prc.job?] at ht'
  simp only [Prc.tile?, Prc.job?, ht']
  have hq : (s.goneBy j l).prc.run = s.prc.run := rfl
  simp only [he, hq, hr, decide_false, Bool.or_self, Bool.false_eq_true, if_false, State.mapTile]
  simp only [State.goneBy, State.notice, Prc.mapTile, Prc.mapJob, List.map_map, List.foldl_append, List.foldl_cons,
    List.foldl_nil]
  have hjobs : s.prc.jobs.map ((fun k : Job => if k.id = j.id then { k with abandoned := k.abandoned + 1 } else k) ∘
      (fun k : Job => if k.id = j.id then { k with
        tiles := k.tiles.map fun y => if y.seq = x.seq then { y with state := .abandoned } else y } else k) ∘
      fun k : Job => if k.id = j.id then
        { j with
          tiles := j.tiles.map fun y => if y ∈ l then { y with state := .abandoned } else y
          abandoned := j.abandoned + l.length }
        else k) = s.prc.jobs.map fun k : Job => if k.id = j.id then
        { j with
          tiles := j.tiles.map fun y => if y ∈ l ++ [x] then { y with state := .abandoned } else y
          abandoned := j.abandoned + (l ++ [x]).length }
        else k := by
    refine List.map_congr_left fun k hk => ?_
    by_cases hid : k.id = j.id
    · simp only [Function.comp, hid, if_true, List.length_append, List.length_singleton, Nat.add_assoc, List.map_map]
      congr 1
      refine List.map_congr_left fun y hy => ?_
      by_cases hs : y.seq = x.seq
      · have := hu y hy hs; subst this; simp [hl]
      · have : y ≠ x := fun e => hs (by rw [e])
        by_cases hyl : y ∈ l <;> simp [hs, this, hyl]
    · simp [hid]
  simp only [← hjobs]

/-- Tiles of a job that have not ended are abandoned one after the other. -/
theorem State.goneBy_foldl (s : State) (j : Job) (q l : List Tile) (hr : s.prc.run ≠ .quiescing)
    (h : s.prc.job? j.id = some j) (hn : (j.tiles.map (·.seq)).Nodup) (hs : (l ++ q).Sublist j.tiles)
    (he : ∀ x ∈ q, x.state.ended = false) :
    (q.map j.ref).foldl State.abandonTile (s.goneBy j l) = s.goneBy j (l ++ q) := by
  induction q generalizing l with
  | nil => simp
  | cons x q ih =>
    have hd : ((l ++ x :: q).map (·.seq)).Nodup := List.Nodup.sublist (hs.map _) hn
    have ho : ∀ y ∈ l, y.seq ≠ x.seq := by
      intro y hy e
      rw [List.map_append, List.nodup_append] at hd
      exact hd.2.2 _ (List.mem_map_of_mem hy) _ (by simp) e
    rw [List.map_cons, List.foldl_cons]
    have := State.goneBy_step s j l x hr h hn (hs.subset (by simp)) (fun hm => ho x hm rfl) ho (he x (by simp))
    unfold Job.ref at this ⊢
    rw [this]
    have e : l ++ x :: q = (l ++ [x]) ++ q := by simp
    rw [e] at hs ⊢
    exact ih _ hs fun y hy => he y (by simp [hy])

/-- What PRC does when it abandons the tiles of a job whose state passes a test (Table 2.3). -/
theorem State.abandonTiles_eq (s : State) (j : Job) (f : TileState → Bool) (hr : s.prc.run ≠ .quiescing)
    (hi : (s.prc.jobs.map (·.id)).Nodup) (hj : j ∈ s.prc.jobs) (hn : (j.tiles.map (·.seq)).Nodup)
    (hf : ∀ st, f st = true → st.ended = false) : s.abandonTiles j f = s.tilesGone j f := by
  have h := Prc.job?_of_mem hi hj
  have h0 : s.goneBy j [] = s := by
    have : (s.prc.jobs.map fun k : Job => if k.id = j.id then
        { j with
          tiles := j.tiles.map fun x => if x ∈ ([] : List Tile) then { x with state := .abandoned } else x
          abandoned := j.abandoned + ([] : List Tile).length }
        else k) = s.prc.jobs := by
      conv_rhs => rw [← List.map_id s.prc.jobs]
      refine List.map_congr_left fun k hk => ?_
      by_cases hid : k.id = j.id
      · have := List.inj_on_of_nodup_map hi hk hj hid
        subst this; simp
      · simp [hid]
    simp only [State.goneBy, this, Job.requestLeft, List.any_nil, List.flatMap_nil, List.append_nil, List.foldl_nil]
    rfl
  have hg := State.goneBy_foldl s j (j.tiles.filter fun x => f x.state) [] hr h hn (by simp) (by
    intro x hx; exact hf _ (by simpa using (List.mem_filter.1 hx).2))
  rw [h0] at hg
  unfold State.abandonTiles
  rw [hg, List.nil_append]
  unfold State.goneBy State.tilesGone
  have : (s.prc.jobs.map fun k : Job => if k.id = j.id then
        { j with
          tiles := j.tiles.map fun x => if x ∈ j.tiles.filter (fun x => f x.state) then
            { x with state := .abandoned } else x
          abandoned := j.abandoned + (j.tiles.filter fun x => f x.state).length }
        else k) = s.prc.jobs.map fun k : Job => if k.id = j.id then j.without f else k := by
    refine List.map_congr_left fun k hk => ?_
    by_cases hid : k.id = j.id
    · simp only [hid, if_true, Job.without, List.countP_eq_length_filter]
      congr 1
      refine List.map_congr_left fun x hx => ?_
      by_cases hx' : f x.state = true <;> simp [hx, hx']
    · simp [hid]
  simp only [this]

/-- The record of the job when its tiles have been abandoned. -/
theorem State.tilesGone_job (s : State) (j : Job) (f : TileState → Bool) (h : s.prc.job? j.id = some j) :
    (s.tilesGone j f).prc.job? j.id = some (j.without f) := by
  have hp : ((fun k : Job => decide (k.id = j.id)) ∘ fun k : Job => if k.id = j.id then j.without f else k)
      = fun k => decide (k.id = j.id) := by
    funext k; by_cases hk : k.id = j.id <;> simp [hk, Job.without]
  unfold Prc.job? at h ⊢
  simp only [State.tilesGone, List.find?_map, hp, h]
  simp

/-- A job's state and outcome change, once its record is known (R16). -/
theorem State.setJob_eq (s : State) (k : Job) (st : JobState) (out : Option JobOutcome) (h : s.prc.job? k.id = some k)
    (hu : ∀ x ∈ s.prc.jobs, x.id = k.id → x = k) (hr : s.prc.run ≠ .quiescing) (hf : k.state.finished = false) :
    s.setJob k.id st out = s.recordJob { k with state := st, outcome := out } := by
  unfold State.setJob
  simp only [h, hf, hr, decide_false, Bool.or_self, Bool.false_eq_true, if_false, State.recordJob, Prc.mapJob, Job.notice]
  have : (s.prc.jobs.map fun x : Job => if x.id = k.id then { x with state := st, outcome := out } else x)
      = s.prc.jobs.map fun x : Job => if x.id = k.id then { k with state := st, outcome := out } else x :=
    List.map_congr_left fun x hx => by by_cases e : x.id = k.id <;> simp [e, hu x hx]
  simp only [this]

/-- All that the end of the active job by a failure does (R37, R39, R41). -/
theorem State.endJob_eq (s : State) (j : Job) (c : FailCause) (hr : s.prc.run ≠ .quiescing)
    (hi : (s.prc.jobs.map (·.id)).Nodup) (hj : j ∈ s.prc.jobs) (hn : (j.tiles.map (·.seq)).Nodup)
    (hf : j.state.finished = false) : s.endJob j c = s.jobEnded j c := by
  unfold State.endJob State.jobEnded
  rw [State.abandonTiles_eq s j _ hr hi hj hn (by intro st; cases st <;> simp [TileState.uncaptured, TileState.ended])]
  have h1 := State.tilesGone_job s j TileState.uncaptured (Prc.job?_of_mem hi hj)
  dsimp only
  congr 1
  refine State.setJob_eq _ (j.without TileState.uncaptured) _ _ h1 ?_ hr hf
  intro x hx e
  simp only [State.tilesGone, List.mem_map] at hx
  obtain ⟨y, -, rfl⟩ := hx
  by_cases hy : y.id = j.id
  · simp [hy]
  · simp only [hy, if_false] at e; exact absurd e hy

end Sys2Proof.Machine
end

