-- ==== Sys2Proof/WellFormed.lean ====
section
/-! DEFINITION. Which commands are well formed: every operand lies in the range that the spec gives it. A command of
the host is well formed whatever its operands, since the part answers a bad operand with a status (R149 to R153). -/

namespace Sys2Proof.Machine

/-- A frame slot number (00_scope.md, section 4). -/
def slotOk (n : Nat) : Bool := decide (n < slotCount)

/-- An exposure time in xu (Table 4.1 of 00_scope.md). -/
def timeOk (t : Nat) : Bool := decide (1 ≤ t) && decide (t ≤ maxTime)

/-- A planned drive. -/
def driveOk (d : Nat) : Bool := decide (1 ≤ d) && decide (d ≤ maxDrive)

/-- A measured intensity (R131). -/
def intensityOk (m : Nat) : Bool := decide (1 ≤ m) && decide (m ≤ 4096)

/-- A profile number. -/
def profileOk (p : Nat) : Bool := decide (p < 4)

/-- A magazine position (00_scope.md, section 4). -/
def positionOk (p : Nat) : Bool := decide (p < 20)

/-- A plan entry (R53). -/
def PlanEntry.wf (e : PlanEntry) : Bool := timeOk e.time && driveOk e.drive

/-- A plan: 1 to 6 entries (R11). -/
def planOk (l : List PlanEntry) : Bool := decide (1 ≤ l.length) && decide (l.length ≤ 6) && l.all PlanEntry.wf

/-- A requester of plans (R44). -/
def Planner.wf : Planner → Bool
  | .prc _ => true
  | .cru p d => profileOk p && driveOk d

/-- A requester of exposures. -/
def ExposureClient.wf : ExposureClient → Bool
  | .prc _ | .cru => true
  | .bpl r => r.wf

/-- A lamp condition (R130). -/
def LampCond.wf : LampCond → Bool
  | .settled d => driveOk d
  | .dark => true

/-- A target of an exposure (section 7.2). -/
def Target.wf : Target → Bool
  | .slot n _ | .calwork n => slotOk n
  | .histogram => true

/-- An exposure request (section 7.2): a lit exposure names the stage condition, a dark frame does not. -/
def ExposureReq.wf (r : ExposureReq) : Bool :=
  r.client.wf && timeOk r.time && r.target.wf && r.lamp.wf && decide (r.stage = true ↔ r.lamp ≠ .dark)

/-- An exposure completion (R119). -/
def ExposureDone.wf (r : ExposureDone) : Bool := timeOk r.time && driveOk r.drive && intensityOk r.m && slotOk r.slot

/-- A calibration kind (Table 5.1). -/
def CalKind.wf : CalKind → Bool
  | .dark => true
  | .flat p => profileOk p

/-- A reference name (Table 6.1). -/
def RefName.wf : RefName → Bool
  | .bias | .rate => true
  | .flat p => profileOk p

/-- A unit of port work (R109). -/
def PortUnit.wf (u : PortUnit) : Bool :=
  slotOk u.slot && decide (u.row < sensorRows) && u.codes.all fun r => decide (r.2 ≤ 16383)

/-- A whole frame (R118). -/
def frameOk (f : Runs Nat) : Bool :=
  decide (runsLength f = tilePixels) && f.all fun r => decide (r.2 ≤ 16383)

/-- An accumulation (R78). -/
def AccKind.wf : AccKind → Bool
  | .raw => true
  | .darkCorrected t => timeOk t

/-- The time since the last monitor sample: less than the 10 xu between two (R127). -/
def sinceOk (n : Nat) : Bool := decide (n < 10)

/-- Whether a command is well formed. -/
def wellFormed : Sys2Proof.Instr → Bool
  | .planCompletion _ plan attempts _ => planOk plan && decide (attempts ≤ 4)
  | .admissionGrant _ slots => decide (2 ≤ slots.length) && decide (slots.length ≤ 7) && slots.all slotOk
  | .exposureEnd _ m => intensityOk m
  | .exposureCompletion r => r.wf
  | .planRequest r | .planWithdraw r => r.wf
  | .attemptCompletion r attempt m => r.wf && decide (1 ≤ attempt) && decide (attempt ≤ 4) && intensityOk m
  | .admissionRequest _ n => decide (1 ≤ n) && decide (n ≤ 6)
  | .slotChange slot _ _ => slotOk slot
  | .calworkRequest k => k.wf
  | .calCommit entries => entries.all fun e => slotOk e.1 && e.2.wf
  | .calworkReturn slots => slots.all slotOk
  | .portUnitRequest u => u.wf
  | .exposureRequest r => r.wf
  | .exposureWithdraw c => c.wf
  | .exposureTimerExpiry since => sinceOk since
  | .readoutCompletion frame => frameOk frame
  | .lightRequest d => driveOk d
  | .lampReadyAsk c t => c.wf && timeOk t
  | .lampReadyRelease since => sinceOk since
  | .loadRequest _ p => positionOk p
  | .motionTimeout _ scanned => scanned.all fun p => positionOk p.1
  | .calWorkRequest low high => slotOk low && slotOk high && decide (low ≠ high)
  | .accumulateRequest slot k => slotOk slot && k.wf
  | .biasFinish r => slotOk r
  | .rateFinish t b r => timeOk t && slotOk b && slotOk r
  | .flatMean r => slotOk r
  | .flatGain r mean y => slotOk r && decide (mean ≤ 16383) && decide (y ≤ 4294967295)
  | .calWorkAccepted _ low high => slotOk low && slotOk high
  | .calFrameComplete _ m => (match m with | some v => intensityOk v | none => true)
  | .biasFinishComplete b0 => decide (b0 ≤ 16383)
  | .flatPlanCompletion e _ => e.wf
  | .flatMeanComplete mean => decide (mean ≤ 16383)
  | .flatGainComplete defects _ => decide (defects ≤ tilePixels)
  | .powerOn _ | .attach | .detach | .badFrame _ | .badKind _ _ | .recordSent | .identify _ | .setParam _ _ _
  | .getParam _ _ | .loadTable _ _ _ | .home _ | .queryMagazine _ | .calibrateDark _ | .calibrateFlat _ _
  | .calibrateCancel _ | .submitJob _ _ | .queryJob _ _ _ | .releaseJob _ _ | .abortJob _ _ | .hold _ | .resume _
  | .grantStripes _ _ | .queryStatus _ _ | .clearStage _ _ | .resetSoft _ | .resetFull _ | .quiesceAck _ _
  | .resetTimeout _ | .startJob | .holdPoint | .loadComplete | .noCarrier | .settleCompletion | .retryReport _ _
  | .secondReadoutFailure _ | .transportFault | .backlightFault _ | .unloadComplete | .trsEmptyReport
  | .reinitEndReport | .cruIdleReport | .admissionWithdraw _ | .tileRelease _ | .portUnitDone | .lampReadyGrant
  | .interlockGrant | .lampLost | .lampFaultReport | .stageFaultReport | .goAhead | .readoutTimeout
  | .flushCompletion | .sensorTempSample _ | .reinitRequest | .reinitComplete | .reinitTimeout | .monitorSample _
  | .lampSettleTimeout | .panelTempSample _ | .darkHold | .darkHoldRelease | .leaveFault | .idleTimerExpiry
  | .deferredStandby | .moveRequest _ _ | .unloadRequest _ _ | .interlockAsk | .interlockRelease
  | .loadLegCompletion _ | .moveLegCompletion | .settleTimerExpiry | .unloadLegCompletion | .homeUnloadLegDone
  | .homeAxisLegDone | .homeScanLegDone _ | .lostCarrier | .mergeTakeUp | .bandCompletion | .bmeAbandon _
  | .workClear | .calRelease | .calworkGrant | .accumulationComplete | .clearComplete | .rateFinishComplete
  | .flatLoadComplete | .flatSettleComplete | .flatUnloadComplete | .calSensorFailure | .calLampFault
  | .calTransportFault _ | .stripeStart | .stripeEnd | .souAbandon _ | .interlockAskWithdraw => true

end Sys2Proof.Machine
end

