-- ==== Sys2Proof/Tests/Slice0.lean ====
section
/-! SUPPORT. Tests of the model. Worked examples of the spec; each check of `wellFormed` refusing an ill-formed command;
and, for every statement that has hypotheses, a theorem `witness_<Name>` that shows concrete states and operands which
meet them, clause by clause; a name `witness_<Name>_<clause>` continues it. -/

open Sys2Proof Sys2Proof.Machine

namespace Sys2Proof.Tests

set_option linter.all false

/-! ## Small states -/

/-- A command header whose payload fits. -/
def hdr : Hdr := { tag := 7, fits := true }

/-- After power-on, with the host attached. -/
def on : State := { State.reset with liu := { Liu.reset with attached := true } }

/-- Tile number `k` of a row of tiles. -/
def tileOf (k : Nat) (st : TileState) : Tile :=
  { row := 0, col := k, maskIndex := k, seq := k, cx := 350 + 600 * k, cy := 262, state := st }

/-- A job of one row of tiles. -/
def jobOf (st : JobState) (l : List Tile) : Job :=
  { id := 1, position := 1, width := 700, height := 525, overlap := 100, view := .glassSide, profile := 0
    policy := .auto 3699, mask := 255, encoding := .density16, rush := false, label := none, cols := l.length, rows := 1
    state := st, outcome := none, tiles := l
    sent := l.countP fun x => decide (x.state = .sent)
    abandoned := l.countP fun x => decide (x.state = .abandoned)
    masked := l.countP fun x => decide (x.state = .masked) }

/-- PRC with one job, which is active, in a run state. -/
def prcOf (run : RunState) (st : JobState) (l : List Tile) : Prc :=
  { Prc.reset with jobs := [jobOf st l], run := run, active := some 1 }

/-- The part with PRC as given. -/
def withPrc (p : Prc) : State := { on with prc := p }

/-- The first tile of the job. -/
def t0 : TileRef := ⟨1, 0⟩

/-! ## The machine as a whole -/

/-- A state with something in every law: a QUEUED job with a MASKED tile, a REF slot, a carrier on the stage, a lit
lamp, and the credit counter at its end. -/
def busy : State :=
  { on with
    prc := { prcOf .running .queued [tileOf 0 .masked, tileOf 1 .pending] with active := none, queue := [1] }
    fst := { Fst.reset with slots := Fst.reset.slots.setIfInBounds 47 (.ref .bias) }
    blu := { Blu.reset with state := .settled, requested := 4096, commanded := 1024, throttle := true }
    trs := { Trs.reset true with
      state := .atRest, homed := true, stage := .carrier 19
      magazine := (Trs.reset true).magazine.setIfInBounds 19 .out }
    sou := { Sou.reset with credits := 1024 }
    pending := [.grantStripes hdr 1] }

/-- Every law holds in `busy`, and a step answers a next state. -/
theorem busy_safe : busy.Safe ∧ ∃ t, step busy = .next t := by
  refine ⟨⟨rfl, Nat.le_refl _, ⟨by decide, by decide, by decide⟩, by unfold Liu.paramLaw; decide,
    ⟨by decide, by decide, by decide⟩,
    ⟨by decide, ?_, ?_, by decide⟩, ?_, ⟨by decide, by decide⟩, reset_memoryLaw,
    by unfold Trs.outLaw; decide, ⟨by decide, ?_, ?_⟩⟩,
    _, rfl⟩
  · intro id
    simp [busy, withPrc, prcOf, jobOf, eq_comm]
  · intro id h; exact absurd h (by simp [busy, prcOf])
  · intro j hj
    rw [show j = jobOf .queued [tileOf 0 .masked, tileOf 1 .pending] by simpa [busy, prcOf] using hj]
    exact ⟨by decide, by decide, by decide, by decide⟩
  · trivial
  · trivial

theorem witness_RangesKept : ∃ s t : State, s.blu.driveLaw ∧ s.sou.creditLaw ∧ s.liu.noticeLaw ∧ s.liu.paramLaw
    ∧ step s = .next t :=
  let ⟨h, t, e⟩ := busy_safe; ⟨busy, t, h.1, h.2.1, h.2.2.1, h.2.2.2.1, e⟩

theorem witness_JobTableKept : ∃ s t : State, s.prc.tableLaw ∧ s.queueLaw ∧ step s = .next t :=
  let ⟨h, t, e⟩ := busy_safe; ⟨busy, t, h.2.2.2.2.1, h.2.2.2.2.2.1, e⟩

theorem witness_TileCountsKept : ∃ s t : State, s.prc.tableLaw ∧ s.prc.countLaw ∧ step s = .next t :=
  let ⟨h, t, e⟩ := busy_safe; ⟨busy, t, h.2.2.2.2.1, h.2.2.2.2.2.2.1, e⟩

theorem witness_FrameStoreLawsKept : ∃ s t : State, s.fst.refLaw ∧ s.fst.memoryLaw ∧ step s = .next t :=
  let ⟨h, t, e⟩ := busy_safe; ⟨busy, t, h.2.2.2.2.2.2.2.1, h.2.2.2.2.2.2.2.2.1, e⟩

theorem witness_MagazineRecordKept : ∃ s t : State, s.trs.outLaw ∧ s.trs.stageLaw ∧ step s = .next t :=
  let ⟨h, t, e⟩ := busy_safe; ⟨busy, t, h.2.2.2.2.2.2.2.2.2.1, h.2.2.2.2.2.2.2.2.2.2, e⟩

/-! ## Records and host commands -/

/-- A reset in progress that waits for two blocks. -/
def resetting : State :=
  { on with liu := { on.liu with resetWork := some { kind := .soft, tag := 1, waiting := [.sfe, .trs] } } }

/-- The link attached and detached, a reset in progress, and a payload that does not fit. -/
theorem witness_HostCommandGate : (Instr.hold hdr).host? = some (hdr, .hold) ∧ State.reset.liu.attached = false
    ∧ (resetting.liu.attached = true ∧ resetting.liu.resetWork.isSome = true)
    ∧ (on.liu.attached = true ∧ on.liu.resetWork = none ∧ { hdr with fits := false }.fits = false) := by decide

theorem on_takes : on.takes hdr := ⟨rfl, rfl, rfl⟩

theorem witness_ReportsAreTrue : on.takes hdr ∧ 255 ≤ 255 ∧ 255 < 256 := ⟨on_takes, by decide, by decide⟩

/-- Every report of QUERY_STATUS that may be absent: the admission wait, SFE's held request, a sample, an output head. -/
theorem witness_ReportsAreTrue_present : ∃ s : State, s.takes hdr ∧ s.fst.wait = some (⟨1, 0⟩, 6)
    ∧ (∃ q, s.sfe.held = some q) ∧ (∃ p ps, s.blu.history = p :: ps) ∧ ∃ e es, s.sou.queue = e :: es :=
  ⟨{ on with
      fst := { Fst.reset with wait := some (⟨1, 0⟩, 6) }
      sfe := { Sfe.reset with held := some {
        req := { client := .cru, time := 1, target := .calwork 2, lamp := .dark, stage := false }
        retry := 0, cleared := false } }
      blu := { Blu.reset with history := [(10, 7)] }
      sou := { Sou.reset with queue := [⟨⟨1, 0⟩, 5⟩] } }, ⟨rfl, rfl, rfl⟩, rfl, ⟨_, rfl⟩, ⟨_, _, rfl⟩, _, _, rfl⟩

/-- A tile is admitted. -/
def admitted : State := withPrc (prcOf .running .capturing [tileOf 0 .exposing])

theorem witness_ParametersStored : admitted.takes hdr ∧ on.takes hdr
    ∧ (∃ j ∈ admitted.prc.jobs, ∃ x ∈ j.tiles, x.state = .exposing ∨ x.state = .exposed ∨ x.state = .merging)
    ∧ (¬ ∃ j ∈ on.prc.jobs, ∃ x ∈ j.tiles, x.state = .exposing ∨ x.state = .exposed ∨ x.state = .merging)
    ∧ (∃ l : List Nat, 255 ≤ 255 ∧ l ≠ [] ∧ l.length ≤ 64 ∧ 255 + l.length ≤ 256 ∧ ∀ e ∈ l, e ≤ 255) :=
  ⟨⟨rfl, rfl, rfl⟩, on_takes, by decide, by decide, [255], by decide⟩

theorem witness_RecordsComeAndGo : on.liu.attached = true ∧ on.liu.resetWork = none
    ∧ (∃ l : List Byte, l.length < 4)
    ∧ (∃ l : List Byte, ¬ l.length < 4 ∧ 1020 < (l.getD 2 0).toNat + 256 * (l.getD 3 0).toNat)
    ∧ (∃ s : State, ∃ r, s.liu.attached = true ∧ s.liu.replies = [r])
    ∧ (∃ s : State, ∃ n, s.liu.attached = true ∧ s.liu.replies = [] ∧ s.liu.notices = [n] ∧ s.liu.overflow = 0)
    ∧ (∃ s : State, ∃ n, s.liu.attached = true ∧ s.liu.replies = [] ∧ s.liu.notices = [n] ∧ s.liu.overflow = 1)
    ∧ (on.liu.replies = [] ∧ on.liu.notices = [])
    ∧ (∃ (l : Liu) (n : Notice), n.enabled l.params.noticeEnable = false)
    ∧ (∃ (l : Liu) (n : Notice), n.enabled l.params.noticeEnable = true ∧ l.notices.length = 63 ∧ l.overflow = 0)
    ∧ (∃ (l : Liu) (n : Notice), n.enabled l.params.noticeEnable = true ∧ l.notices.length = 64) :=
  let n : Notice := .runState .idle none none
  ⟨rfl, rfl, ⟨[], by decide⟩, ⟨[0, 0, 253, 3], by decide⟩,
    ⟨{ on with liu := { on.liu with replies := [{ tag := 0, status := .ok, kind := .hold, body := .none }] } }, _,
      rfl, rfl⟩,
    ⟨{ on with liu := { on.liu with notices := [n] } }, n, rfl, rfl, rfl, rfl⟩,
    ⟨{ on with liu := { on.liu with notices := [n], overflow := 1 } }, n, rfl, rfl, rfl, rfl⟩, ⟨rfl, rfl⟩,
    ⟨{ on.liu with params := { noticeEnable := { runState := false } } }, n, rfl⟩,
    ⟨{ on.liu with notices := List.replicate 63 n }, n, rfl, rfl, rfl⟩,
    ⟨{ on.liu with notices := List.replicate 64 n }, n, rfl, rfl⟩⟩

/-! ## Jobs -/

/-- A submission at the ends of several ranges: the largest plate, and a plan entry past both its limits. -/
def sub : Submission :=
  { jobId := 65535, position := 19, view := 1, width := 4000, height := 300, overlap := 100, profile := 3, policy := 1
    encoding := 1, shift := 16, rush := 1, dSpan := 65535, mask := 64, plan := [⟨80001, 4097⟩], label := [65] }

theorem sub_inside : sub.fits = true ∧ ¬ sub.outside := by
  refine ⟨by decide, ?_⟩
  intro h
  rcases h with h | h | h | h | h | h | h | h | h | h | h | h | h | h | h | h | h | h | h | h
  all_goals first | (revert h; decide) | (exact absurd (h 0 6 (by decide) (by decide)) (by decide))

theorem witness_SubmissionRoundTrip : ∃ s : Submission, s.fits = true := ⟨sub, sub_inside.1⟩

/-- The part holding `n` finished jobs with the ids from 1 on. -/
def finishedJobs (n : Nat) : State :=
  withPrc { Prc.reset with jobs := (List.range n).map fun i => { jobOf .done [] with id := i + 1, position := 1 } }

theorem witness_SubmitJobRefusals :
    (on.takes hdr ∧ sub.fits = true ∧ { sub with position := 20 }.outside)
    ∧ (∃ s : State, s.takes hdr ∧ ¬ sub.outside ∧ ∃ j ∈ s.prc.jobs, j.id = sub.jobId)
    ∧ (∃ s : State, s.takes hdr ∧ ¬ sub.outside ∧ (∀ j ∈ s.prc.jobs, j.id ≠ sub.jobId) ∧ s.prc.claims? sub.position)
    ∧ ((finishedJobs 32).takes hdr ∧ ¬ sub.outside ∧ (∀ j ∈ (finishedJobs 32).prc.jobs, j.id ≠ sub.jobId)
        ∧ ¬ (finishedJobs 32).prc.claims? sub.position ∧ 32 ≤ (finishedJobs 32).prc.jobs.length) := by
  refine ⟨⟨on_takes, sub_inside.1, .inr (.inr (.inl (by decide)))⟩,
    ⟨withPrc { Prc.reset with jobs := [{ jobOf .done [] with id := 65535 }] }, ⟨rfl, rfl, rfl⟩, sub_inside.2, by decide⟩,
    ⟨withPrc { Prc.reset with jobs := [{ jobOf .queued [] with position := 19 }] }, ⟨rfl, rfl, rfl⟩, sub_inside.2,
      by decide, ?_⟩, ⟨rfl, rfl, rfl⟩, sub_inside.2, by decide, ?_, by decide⟩
  · unfold Prc.claims?; decide
  · unfold Prc.claims?; decide

/-- One record short of the table's end. -/
theorem witness_SubmitJobAccepted : ∃ s : State, s.takes hdr ∧ sub.fits = true ∧ ¬ sub.outside
    ∧ (∀ j ∈ s.prc.jobs, j.id ≠ sub.jobId) ∧ ¬ s.prc.claims? sub.position ∧ s.prc.jobs.length = 31
    ∧ s.prc.run = .held .step := by
  refine ⟨{ finishedJobs 31 with prc := { (finishedJobs 31).prc with run := .held .step } }, ⟨rfl, rfl, rfl⟩,
    sub_inside.1, sub_inside.2, by decide, ?_, by decide, rfl⟩
  unfold Prc.claims?; decide

/-- An IDLE and a RUNNING run in which nothing stands against the start of the job. -/
theorem witness_SubmitJobAccepted_starts : ∀ r, r = .idle ∨ r = .running → ∃ s : State, s.takes hdr ∧ sub.fits = true
    ∧ ¬ sub.outside ∧ (∀ j ∈ s.prc.jobs, j.id ≠ sub.jobId) ∧ ¬ s.prc.claims? sub.position ∧ s.prc.jobs.length < 32
    ∧ .startJob ∉ s.inFlight ∧ s.prc.run = r ∧ s.prc.active = none ∧ s.prc.queue = [] ∧ s.prc.trsReq = none
    ∧ s.trs.state = .empty ∧ s.sfe.state ≠ .fault ∧ (∀ f, s.blu.state ≠ .fault f) ∧ s.cru.state = .idle
    ∧ s.cru.dark.valid = true ∧ (s.cru.profile sub.profile).valid = true := by
  intro r _
  refine ⟨{ withPrc { Prc.reset with run := r } with
      trs := { Trs.reset false with state := .empty, homed := true }
      cru := { Cru.reset with dark := { valid := true }, profiles := Vector.replicate 4 { valid := true } } },
    ⟨rfl, rfl, rfl⟩, sub_inside.1, sub_inside.2, by simp [withPrc, Prc.reset], ?_, (by decide : 0 < 32),
    List.not_mem_nil, rfl, rfl, rfl, rfl, rfl, SfeState.noConfusion, fun f => LampState.noConfusion, rfl, rfl, rfl⟩
  simp [Prc.claims?, withPrc, Prc.reset]

theorem witness_TileGrid : 63 < 8 * 8 ∧ (100 : Nat) ≤ 100 := by decide

theorem withPrc_takes (p : Prc) : (withPrc p).takes hdr := ⟨rfl, rfl, rfl⟩

theorem prcOf_table (r : RunState) (st : JobState) (l : List Tile) : (prcOf r st l).tableLaw := by
  refine ⟨by simp [prcOf], by simp [prcOf], ?_⟩
  unfold Prc.claims
  cases h : st.finished <;> simp [prcOf, jobOf, h]

/-- The count law of a job of two tiles. -/
theorem jobOf_count (st : JobState) (a b : TileState) : (jobOf st [tileOf 0 a, tileOf 1 b]).countLaw := by
  refine ⟨by simp [jobOf, tileOf, List.range_succ], rfl, rfl, rfl⟩

theorem prcOf_count (r : RunState) (st : JobState) (a b : TileState) :
    (prcOf r st [tileOf 0 a, tileOf 1 b]).countLaw := by
  intro j hj
  rw [show j = jobOf st [tileOf 0 a, tileOf 1 b] by simpa [prcOf] using hj]
  exact jobOf_count st a b

/-- The part with the job ACTIVE or not, in the states given. -/
abbrev two (r : RunState) (st : JobState) (a b : TileState) : State := withPrc (prcOf r st [tileOf 0 a, tileOf 1 b])

theorem witness_QueryAndRelease : ∃ s : State, s.takes hdr ∧ s.prc.tableLaw ∧ (∀ j ∈ s.prc.jobs, j.id ≠ 2)
    ∧ ∃ j ∈ s.prc.jobs, j.id = 1 ∧ j.state = .failed ∧ j.countLaw ∧ j.cols * j.rows ≤ 2 :=
  ⟨two .idle .failed .sent .abandoned, withPrc_takes _, prcOf_table _ _ _, by decide, _, List.mem_singleton.2 rfl, rfl,
    rfl, jobOf_count _ _ _, by decide⟩

/-- One job of each kind of state that ABORT_JOB meets, with any request outstanding, or none. -/
theorem witness_AbortJobEndsTiles : ∀ st q, ∃ s : State, s.takes hdr ∧ s.prc.tableLaw ∧ s.prc.countLaw
    ∧ s.prc.run ≠ .quiescing ∧ s.prc.trsReq = q ∧ ∃ j ∈ s.prc.jobs, j.id = 1 ∧ j.state = st := by
  intro st q
  exact ⟨withPrc { prcOf .running st [tileOf 0 .masked, tileOf 1 .pending] with trsReq := q },
    withPrc_takes _, prcOf_table .running st _, prcOf_count .running st _ _, RunState.noConfusion, rfl, _, List.mem_singleton.2 rfl, rfl, rfl⟩

/-- The only job, QUEUED in a RUNNING run, with a SENT tile and one of any state, PRC's requests for it outstanding. -/
theorem witness_AbortJobEndsTiles_queued : ∀ a q p, ∃ (s : State) (j : Job), s.takes hdr ∧ s.prc.tableLaw ∧ s.prc.countLaw
    ∧ s.prc.run = .running ∧ s.prc.active = none ∧ s.prc.queue.filter (fun k => decide (k ≠ 1)) = [] ∧ j ∈ s.prc.jobs
    ∧ j.id = 1 ∧ j.state = .queued ∧ j.tiles = [tileOf 0 .sent, tileOf 1 a] ∧ s.prc.planReq = q ∧ s.prc.admReq = p :=
  fun a q p => ⟨withPrc { prcOf .running .queued [tileOf 0 .sent, tileOf 1 a] with
      active := none, queue := [1], planReq := q, admReq := p },
    jobOf .queued [tileOf 0 .sent, tileOf 1 a], withPrc_takes _, prcOf_table .running .queued _,
    prcOf_count .running .queued _ _, rfl, rfl, rfl, List.mem_singleton.2 rfl, rfl, rfl, rfl, rfl, rfl⟩

theorem witness_HoldCauseRanks : (two .running .capturing .pending .pending).prc.run = .running
    ∧ (∃ s : State, s.prc.run = .held .lamp ∧ HoldCause.lamp ≠ .sensor ∧ HoldCause.lamp.rank ≤ HoldCause.sensor.rank)
    ∧ (∃ s : State, s.prc.run = .held .lamp ∧ HoldCause.step.rank < HoldCause.lamp.rank) :=
  ⟨rfl, ⟨two (.held .lamp) .capturing .pending .pending, by decide⟩,
    ⟨two (.held .lamp) .capturing .pending .pending, by decide⟩⟩

theorem witness_HoldAndHoldPoint :
    (on.takes hdr ∧ on.prc.run ≠ .running)
    ∧ (let s := two .running .capturing .pending .pending; s.takes hdr ∧ s.prc.run = .running)
    ∧ (let s := two .holding .capturing .pending .merging
       s.prc.run = .holding ∧ s.prc.trsReq = none ∧ s.prc.unloadNext = none ∧ s.prc.planReq = none ∧ s.prc.expReq = none
       ∧ ∀ j, s.prc.activeJob? = some j → ∀ x ∈ j.tiles, x.state ≠ .exposing)
    ∧ (∃ s : State, s.prc.run = .holding ∧ s.prc.expReq ≠ none) := by
  refine ⟨⟨on_takes, by decide⟩, ⟨withPrc_takes _, rfl⟩, ⟨rfl, rfl, rfl, rfl, rfl, ?_⟩,
    ⟨withPrc { prcOf .holding .capturing [] with expReq := some t0 }, by decide⟩⟩
  intro j hj
  rw [← Option.some.inj (show some (jobOf .capturing [tileOf 0 .pending, tileOf 1 .merging]) = some j from hj)]
  decide

theorem witness_ResumeCommand :
    (on.takes hdr ∧ ∀ c, on.prc.run ≠ .held c)
    ∧ (let s := two (.held .transport) .capturing .pending .pending
       s.takes hdr ∧ s.prc.run = .held .transport ∧ s.trs.state ≠ .empty ∧ s.trs.state ≠ .atRest)
    ∧ (∃ s : State, ∃ j, s.takes hdr ∧ s.prc.run = .held .notCalibrated ∧ s.prc.queue.head? = some 1
        ∧ s.prc.job? 1 = some j ∧ s.cru.dark.valid = false)
    ∧ (∃ s : State, s.takes hdr ∧ s.prc.run = .held .transport ∧ s.trs.state = .empty ∧ s.prc.active = none
        ∧ s.prc.queue = [] ∧ s.sfe.state = .fault ∧ s.blu.state = .fault .noLight) :=
  ⟨⟨on_takes, by intro c; exact RunState.noConfusion⟩, ⟨withPrc_takes _, by decide⟩,
    ⟨withPrc { prcOf (.held .notCalibrated) .queued [] with queue := [1] }, _, withPrc_takes _, rfl, rfl, rfl, rfl⟩,
    ⟨{ on with prc := { Prc.reset with run := .held .transport }, trs := { Trs.reset false with state := .empty }
               sfe := { Sfe.reset with state := .fault }, blu := { Blu.reset with state := .fault .noLight } },
      ⟨rfl, rfl, rfl⟩, rfl, rfl, rfl, rfl, rfl, rfl⟩⟩

/-- A run HELD with a queued job that waited for its references. -/
theorem witness_ResumeCommand_queued : ∃ (s : State) (j : Job), s.takes hdr ∧ s.prc.run = .held .notCalibrated
    ∧ (∀ f, s.blu.state ≠ .fault f) ∧ s.sfe.state ≠ .fault ∧ s.prc.active = none ∧ s.prc.queue = [1]
    ∧ s.prc.job? 1 = some j ∧ j.state = .queued ∧ (∀ x ∈ j.tiles, x.state = .pending ∨ x.state = .masked)
    ∧ s.cru.dark.valid = true ∧ (s.cru.profile j.profile).valid = true ∧ .startJob ∉ s.inFlight :=
  ⟨{ withPrc { prcOf (.held .notCalibrated) .queued [tileOf 0 .masked] with active := none, queue := [1] } with
      cru := { Cru.reset with dark := { valid := true }, profiles := Vector.replicate 4 { valid := true } } },
    jobOf .queued [tileOf 0 .masked], ⟨rfl, rfl, rfl⟩, rfl, fun f => LampState.noConfusion, by decide, rfl, rfl, rfl, rfl,
    by decide, rfl, by decide, by decide⟩

/-- A run HELD with an active job whose two tiles are in the states given. -/
theorem resume_active (a b : TileState) : let s := two (.held .lamp) .capturing a b
    let j := jobOf .capturing [tileOf 0 a, tileOf 1 b]
    s.takes hdr ∧ s.prc.run = .held .lamp ∧ (∀ f, s.blu.state ≠ .fault f) ∧ s.sfe.state ≠ .fault ∧ s.prc.tableLaw
    ∧ s.prc.activeJob? = some j ∧ j.countLaw ∧ j.state = .capturing ∧ s.cru.state = .idle ∧ s.prc.trsReq = none
    ∧ s.prc.planReq = none ∧ s.prc.expReq = none ∧ s.prc.admReq = none ∧ s.prc.retryBack = none :=
  ⟨withPrc_takes _, rfl, fun f => LampState.noConfusion, SfeState.noConfusion, prcOf_table _ _ _, rfl, jobOf_count _ a b, rfl, rfl,
    rfl, rfl, rfl, rfl, rfl⟩

/-- The tile that each clause of an active job finds; the laws are those of `resume_active`. -/
theorem witness_ResumeCommand_active :
    ([tileOf 0 .exposing, tileOf 1 .pending].find? fun y => decide (y.state = .exposing)) = some (tileOf 0 .exposing)
    ∧ ((∀ y ∈ [tileOf 0 .sent, tileOf 1 .planned], y.state ≠ .exposing)
        ∧ ([tileOf 0 .sent, tileOf 1 .planned].find? fun y => decide (y.state = .metering ∨ y.state = .planned))
          = some (tileOf 1 .planned))
    ∧ ((∀ y ∈ [tileOf 0 .sent, tileOf 1 .pending], y.state ≠ .positioning ∧ y.state ≠ .metering ∧ y.state ≠ .planned
          ∧ y.state ≠ .exposing)
        ∧ ([tileOf 0 .sent, tileOf 1 .pending].find? fun y => decide (y.state = .pending)) = some (tileOf 1 .pending))
    ∧ ∀ y ∈ [tileOf 0 .sent, tileOf 1 .merging], y.state.uncaptured = false := by decide

/-- The next exposure of a tile EXPOSING, with its plan and its lowest RESERVED slot. -/
theorem witness_ResumeCommand_exposing : ∃ (s : State) (j : Job) (x : Tile), s.takes hdr ∧ s.prc.run = .held .lamp
    ∧ s.prc.tableLaw ∧ s.prc.activeJob? = some j ∧ j.countLaw ∧ s.prc.expReq = none
    ∧ j.tiles.find? (fun y => decide (y.state = .exposing)) = some x ∧ x.plan = some [⟨10, 1024⟩]
    ∧ [(⟨10, 1024⟩ : PlanEntry)][x.exposures.length]? = some ⟨10, 1024⟩ ∧ s.fst.lowestReserved ⟨j.id, x.seq⟩ = some 46
    ∧ s.blu.throttle = false := by
  let x : Tile := { tileOf 0 .exposing with plan := some [⟨10, 1024⟩] }
  exact ⟨{ withPrc (prcOf (.held .lamp) .capturing [x]) with
      fst := { Fst.reset with slots := Fst.reset.slots.setIfInBounds 46 (.reserved t0) } },
    jobOf .capturing [x], x, ⟨rfl, rfl, rfl⟩, rfl, prcOf_table _ _ _, rfl, ⟨by decide, rfl, rfl, rfl⟩, rfl, rfl, rfl, rfl,
    by decide, rfl⟩

/-- A run HELD by the lamp with SFE and BLU in FAULT, with an active job, with a queued one; and a tile PLANNED whose
admission request waits. -/
theorem witness_ResumeCommand_fault :
    (∀ a b, ∃ s : State, s.takes hdr ∧ s.prc.run = .held .lamp ∧ s.sfe.state = .fault ∧ s.blu.state = .fault .noLight
      ∧ s.prc.tableLaw ∧ s.prc.activeJob? = some (jobOf .capturing [tileOf 0 a, tileOf 1 b])
      ∧ (jobOf .capturing [tileOf 0 a, tileOf 1 b]).countLaw ∧ s.cru.state = .idle ∧ s.prc.trsReq = none
      ∧ s.prc.planReq = none ∧ s.prc.expReq = none ∧ s.prc.retryBack = none)
    ∧ (∃ s : State, s.takes hdr ∧ s.prc.run = .held .lamp ∧ s.sfe.state = .fault ∧ s.blu.state = .fault .noLight
      ∧ s.prc.active = none ∧ s.prc.queue = [1] ∧ s.prc.job? 1 = some (jobOf .queued [tileOf 0 .masked])
      ∧ .startJob ∉ s.inFlight)
    ∧ (∃ s : State, s.prc.run = .held .lamp ∧ s.prc.activeJob? = some (jobOf .capturing [tileOf 0 .sent, tileOf 1 .planned])
      ∧ s.prc.admReq = some ⟨(jobOf .capturing []).id, (tileOf 1 .planned).seq⟩)
    ∧ (∀ y ∈ [tileOf 0 .sent, tileOf 1 .planned], y.seq ≠ (tileOf 1 .planned).seq →
        y.state ≠ .metering ∧ y.state ≠ .planned ∧ y.state ≠ .exposing) :=
  ⟨fun a b => ⟨{ two (.held .lamp) .capturing a b with
        sfe := { Sfe.reset with state := .fault }, blu := { Blu.reset with state := .fault .noLight } },
      ⟨rfl, rfl, rfl⟩, rfl, rfl, rfl, prcOf_table _ _ _, rfl, jobOf_count _ a b, rfl, rfl, rfl, rfl, rfl⟩,
    ⟨{ withPrc { prcOf (.held .lamp) .queued [tileOf 0 .masked] with active := none, queue := [1] } with
        sfe := { Sfe.reset with state := .fault }, blu := { Blu.reset with state := .fault .noLight } },
      ⟨rfl, rfl, rfl⟩, rfl, rfl, rfl, rfl, rfl, rfl, List.not_mem_nil⟩,
    ⟨withPrc { prcOf (.held .lamp) .capturing [tileOf 0 .sent, tileOf 1 .planned] with admReq := some ⟨1, 1⟩ },
      rfl, rfl, rfl⟩, by decide⟩

/-! ## The plate run -/

/-- A run with one QUEUED job at the head of the queue, TRS and the other blocks as given. -/
def atStart (trs : TrsState) (sfe : SfeState) (blu : LampState) (cru : CruState) (cal : Bool) : State :=
  { withPrc { prcOf .running .queued [tileOf 0 .masked, tileOf 1 .pending] with active := none, queue := [1] } with
    trs := { Trs.reset false with state := trs }
    sfe := { Sfe.reset with state := sfe, reinit := decide (cru = .waiting) }
    blu := { Blu.reset with state := blu }
    cru := { Cru.reset with
      state := cru, dark := { valid := cal }, profiles := Vector.replicate 4 { valid := cal } } }

/-- What every clause of JobStart asks. -/
theorem atStart_ready (a b c d e) : let s := atStart a b c d e
    s.prc.run = .running ∧ s.prc.active = none ∧ s.prc.queue = [1]
    ∧ s.prc.job? 1 = some (jobOf .queued [tileOf 0 .masked, tileOf 1 .pending])
    ∧ (jobOf .queued [tileOf 0 .masked, tileOf 1 .pending]).state = .queued
    ∧ ∀ x ∈ (jobOf .queued [tileOf 0 .masked, tileOf 1 .pending]).tiles, x.state = .pending ∨ x.state = .masked :=
  ⟨rfl, rfl, rfl, rfl, rfl, by decide⟩

/-- The state of TRS, SFE, BLU and CRU in each clause. -/
theorem witness_JobStart :
    (atStart .unhomed .idle .standby .idle true).trs.state = .unhomed
    ∧ (let s := atStart .atRest .idle .standby .idle true
       s.trs.state = .atRest ∧ s.cru.flatRunning = false ∧ s.prc.trsReq = none)
    ∧ (atStart .loading .idle .standby .idle true).trs.state = .loading
    ∧ (let s := atStart .empty .fault .standby .idle true; s.sfe.state = .fault ∧ s.sfe.reinit = false)
    ∧ (let s := atStart .empty .fault .standby .waiting true; s.sfe.state = .fault ∧ s.sfe.reinit = true)
    ∧ (let s := atStart .empty .idle (.fault .noLight) .idle true
       s.trs.state = .empty ∧ s.sfe.state ≠ .fault ∧ s.blu.state = .fault .noLight)
    ∧ (let s := atStart .empty .idle .standby .darkBias true
       s.sfe.state ≠ .fault ∧ (∀ f, s.blu.state ≠ .fault f) ∧ s.cru.state ≠ .idle)
    ∧ (let s := atStart .empty .idle .standby .idle false; s.cru.state = .idle ∧ s.cru.dark.valid = false)
    ∧ (let s := atStart .empty .idle .standby .idle true
       (∀ f, s.blu.state ≠ .fault f) ∧ s.cru.state = .idle ∧ s.cru.dark.valid = true
         ∧ (s.cru.profile (jobOf .queued []).profile).valid = true) := by
  refine ⟨by decide, by decide, by decide, by decide, by decide, by decide, ⟨by decide, fun f => ?_, by decide⟩,
    by decide, fun f => ?_, by decide⟩ <;> exact LampState.noConfusion

/-- A start that waits for the report of a request of PRC, and one held while a flat calibration moves the stage. -/
theorem witness_JobStart_waits :
    (∃ s : State, s.prc.run = .running ∧ s.prc.active = none ∧ s.prc.queue = [1] ∧ s.trs.state = .empty
      ∧ s.prc.trsReq = some .recovery)
    ∧ (∃ s : State, s.prc.trsReq = none ∧ s.trs.state = .atRest ∧ s.cru.flatRunning = true) :=
  ⟨⟨{ atStart .empty .idle .standby .idle true with
      prc := { (atStart .empty .idle .standby .idle true).prc with trsReq := some .recovery } }, by decide⟩,
    ⟨{ atStart .atRest .idle .standby .idle true with
      cru := { Cru.reset with state := .flatMeter, request := some (.flat 0) } }, by decide⟩⟩

/-- CRU is IDLE again: the request of a tile EXPOSING was held back, or that of a tile METERING. -/
theorem witness_JobStart_heldBack :
    (∀ r, r = .running ∨ r = .holding → ∃ (s : State) (j : Job) (x : Tile), s.prc.tableLaw ∧ s.prc.activeJob? = some j
      ∧ j.countLaw ∧ j.state = .capturing ∧ s.cru.state = .idle ∧ s.prc.planReq = none ∧ s.prc.expReq = none
      ∧ s.prc.retryBack = none ∧ s.prc.run = r ∧ j.tiles.find? (fun y => decide (y.state = .exposing)) = some x
      ∧ x.plan = some [⟨10, 1024⟩] ∧ [(⟨10, 1024⟩ : PlanEntry)][x.exposures.length]? = some ⟨10, 1024⟩
      ∧ s.fst.lowestReserved ⟨j.id, x.seq⟩ = some 46)
    ∧ (∃ (s : State) (j : Job), s.prc.tableLaw ∧ s.prc.activeJob? = some j ∧ j.countLaw ∧ s.prc.run = .running
      ∧ s.prc.admReq = none ∧ (∀ y ∈ j.tiles, y.state ≠ .exposing)
      ∧ j.tiles.find? (fun y => decide (y.state = .metering ∨ y.state = .planned)) = some (tileOf 1 .metering)) := by
  constructor
  · intro r hr
    let x : Tile := { tileOf 0 .exposing with plan := some [⟨10, 1024⟩] }
    refine ⟨{ withPrc (prcOf r .capturing [x]) with
        fst := { Fst.reset with slots := Fst.reset.slots.setIfInBounds 46 (.reserved t0) } },
      jobOf .capturing [x], x, prcOf_table _ _ _, rfl, ⟨by decide, rfl, rfl, rfl⟩, rfl, rfl, rfl, rfl, rfl, rfl, rfl, rfl,
      rfl, ?_⟩
    rcases hr with rfl | rfl <;> decide
  · exact ⟨two .running .capturing .sent .metering, _, prcOf_table _ _ _, rfl, jobOf_count _ _ _, rfl, rfl, by decide,
      rfl⟩

/-- The part running, with the job in the states given and a request outstanding with TRS. -/
def outstanding (r : TrsRequest) (st : JobState) (a b : TileState) : State :=
  withPrc { prcOf .running st [tileOf 0 a, tileOf 1 b] with trsReq := some r }

theorem outstanding_laws (r st a b) : (outstanding r st a b).prc.tableLaw ∧ (outstanding r st a b).prc.countLaw
    ∧ (jobOf st [tileOf 0 a, tileOf 1 b]).countLaw ∧ (outstanding r st a b).prc.run = .running
    ∧ (outstanding r st a b).prc.trsReq = some r ∧ (outstanding r st a b).prc.queue = []
    ∧ (outstanding r st a b).prc.activeJob? = some (jobOf st [tileOf 0 a, tileOf 1 b]) :=
  ⟨prcOf_table .running st _, prcOf_count .running st a b, jobOf_count st a b, rfl, rfl, rfl, rfl⟩

/-- Loading, with the abort mark and without it; the laws are those of `outstanding_laws`. -/
theorem witness_LoadReports :
    (∃ s : State, s.prc.tableLaw ∧ s.prc.run = .running ∧ s.prc.trsReq = some .load
      ∧ s.prc.activeJob? = some (jobOf .loading [tileOf 0 .masked, tileOf 1 .pending])
      ∧ (jobOf .loading [tileOf 0 .masked, tileOf 1 .pending]).countLaw ∧ s.prc.abortMark = true)
    ∧ (let j := jobOf .loading [tileOf 0 .masked, tileOf 1 .pending]
       j.state = .loading ∧ (outstanding .load .loading .masked .pending).prc.abortMark = false
       ∧ j.tiles.find? (fun y => decide (y.state = .pending)) = some (tileOf 1 .pending)) :=
  ⟨⟨withPrc { prcOf .running .loading [tileOf 0 .masked, tileOf 1 .pending] with
      trsReq := some .load, abortMark := true }, prcOf_table .running .loading _, rfl, rfl, rfl,
      jobOf_count _ _ _, rfl⟩, by decide⟩

/-- A load outstanding in a run of any state, with the abort mark and without it, and with jobs queued or none. -/
theorem witness_LoadReports_runs : ∀ r mark queue, ∃ s : State, s.prc.tableLaw ∧ s.prc.countLaw ∧ s.prc.run = r
    ∧ s.prc.trsReq = some .load ∧ s.prc.activeJob? = some (jobOf .loading [tileOf 0 .masked, tileOf 1 .pending])
    ∧ (jobOf .loading [tileOf 0 .masked, tileOf 1 .pending]).countLaw ∧ s.prc.abortMark = mark ∧ s.prc.queue = queue
    ∧ s.prc.unloadNext = none ∧ s.prc.planReq = none ∧ s.prc.expReq = none ∧ .startJob ∉ s.inFlight
    ∧ ∀ x ∈ (jobOf .loading [tileOf 0 .masked, tileOf 1 .pending]).tiles, x.state = .pending ∨ x.state = .masked :=
  fun r mark queue => ⟨withPrc { prcOf r .loading [tileOf 0 .masked, tileOf 1 .pending] with
      trsReq := some .load, abortMark := mark, queue := queue }, prcOf_table r .loading _, prcOf_count r .loading _ _, rfl,
    rfl, rfl, jobOf_count _ _ _, rfl, rfl, rfl, rfl, rfl, List.not_mem_nil, by decide⟩

theorem witness_SettleCompletion :
    (∃ s : State, s.prc.run = .running ∧ s.prc.active = some 1 ∧ s.prc.trsReq = some (.move 1)
      ∧ s.prc.unloadNext = some .recovery)
    ∧ (let s := outstanding (.move 1) .capturing .exposed .positioning
       s.prc.active = some 1 ∧ s.prc.unloadNext = none ∧ s.prc.retryBack = none
       ∧ s.prc.tile? ⟨1, 1⟩ = some (tileOf 1 .positioning) ∧ s.prc.activeExposing = false ∧ s.cru.state = .idle)
    ∧ (∃ s : State, s.prc.run = .running ∧ s.prc.active = some 1 ∧ s.prc.trsReq = some (.moveBack 0)
      ∧ s.prc.unloadNext = none ∧ s.prc.retryBack = some t0 ∧ s.prc.expReq = some t0) :=
  ⟨⟨withPrc { prcOf .running .unloading [] with trsReq := some (.move 1), unloadNext := some .recovery }, by decide⟩,
    by decide,
    ⟨withPrc { prcOf .running .capturing [] with trsReq := some (.moveBack 0), retryBack := some t0, expReq := some t0 },
      by decide⟩⟩

/-- The stage arrives at the next tile while a retried one waits for it. -/
theorem witness_SettleCompletion_back : ∃ s : State, s.prc.run = .running ∧ s.prc.active = some 1
    ∧ s.prc.trsReq = some (.move 1) ∧ s.prc.unloadNext = none ∧ s.prc.retryBack = some t0 ∧ t0 ≠ ⟨1, 1⟩
    ∧ s.prc.tile? t0 = some (tileOf 0 .exposing) ∧ s.prc.tile? ⟨1, 1⟩ = some (tileOf 1 .positioning) :=
  ⟨withPrc { prcOf .running .capturing [tileOf 0 .exposing, tileOf 1 .positioning] with
      trsReq := some (.move 1), retryBack := some t0 }, by decide⟩

/-- A move outstanding in a run of any state, with an earlier tile EXPOSING or merged, CRU idle or with a calibration. -/
theorem witness_SettleCompletion_runs : ∀ r (a : TileState) c, ∃ s : State, s.prc.run = r
    ∧ s.prc.active = some 1 ∧ s.prc.trsReq = some (.move 1) ∧ s.prc.unloadNext = none ∧ s.prc.retryBack = none
    ∧ s.prc.tile? ⟨1, 1⟩ = some (tileOf 1 .positioning) ∧ s.prc.countLaw ∧ s.prc.planReq = none ∧ s.prc.expReq = none
    ∧ s.cru.state = c ∧ (a = .exposing → s.prc.activeExposing = true) ∧ (a = .merged → s.prc.activeExposing = false) := by
  intro r a c
  exact ⟨{ withPrc { prcOf r .capturing [tileOf 0 a, tileOf 1 .positioning] with trsReq := some (.move 1) } with
      cru := { Cru.reset with state := c } }, rfl, rfl, rfl, rfl, rfl, rfl, prcOf_count r .capturing _ _, rfl, rfl, rfl,
    by rintro rfl; rfl, by rintro rfl; rfl⟩

/-- A move outstanding with no job active, an unload put off behind it or none. -/
theorem witness_SettleCompletion_alone : ∀ r m u, m = .move 1 ∨ m = .moveBack 0 → ∃ s : State, s.prc.run = r
    ∧ s.prc.trsReq = some m ∧ s.prc.unloadNext = u ∧ s.prc.active = none ∧ s.prc.planReq = none ∧ s.prc.expReq = none :=
  fun r m u _ => ⟨withPrc { Prc.reset with run := r, trsReq := some m, unloadNext := u }, rfl, rfl, rfl, rfl, rfl, rfl⟩

/-- The dark references at the tolerance exactly, and one past it under each policy. -/
theorem witness_PlanCompletion :
    (let s := withPrc { prcOf .running .capturing [tileOf 0 .metering] with planReq := some t0 }
     s.prc.run = .running ∧ s.prc.planReq = some t0 ∧ s.prc.tile? t0 = some (tileOf 0 .metering))
    ∧ (∃ s : State, (s.cru.dark.temp - s.sfe.temp).natAbs = s.liu.params.darkTolerance)
    ∧ (∃ s : State, s.liu.params.darkTolerance < (s.cru.dark.temp - s.sfe.temp).natAbs
        ∧ s.liu.params.darkPolicy = .hold)
    ∧ (∃ s : State, s.liu.params.darkTolerance < (s.cru.dark.temp - s.sfe.temp).natAbs
        ∧ s.liu.params.darkPolicy = .continue) :=
  ⟨by decide, ⟨{ on with sfe := { Sfe.reset with temp := -32 } }, by decide⟩,
    ⟨{ on with sfe := { Sfe.reset with temp := -33 } }, by decide⟩,
    ⟨{ on with sfe := { Sfe.reset with temp := 33 }, liu := { on.liu with params := { darkPolicy := .continue } } },
      by decide⟩⟩

/-- A plan request outstanding in a run of any state. -/
theorem witness_PlanCompletion_runs : ∀ r, ∃ s : State, s.prc.run = r ∧ s.prc.planReq = some t0
    ∧ s.prc.tile? t0 = some (tileOf 0 .metering) ∧ s.prc.trsReq = none ∧ s.prc.unloadNext = none ∧ s.prc.expReq = none
    ∧ s.prc.activeExposing = false :=
  fun r => ⟨withPrc { prcOf r .capturing [tileOf 0 .metering] with planReq := some t0 }, rfl, rfl, rfl, rfl, rfl, rfl, rfl⟩

/-- A tile with a plan of two entries, in a state, with its slots RESERVED from slot 46 on. -/
def planned (st : TileState) : Tile := { tileOf 0 st with plan := some [⟨10, 1024⟩, ⟨80, 4096⟩] }

/-- The part with that tile admitted. -/
def reserved (st : TileState) : State :=
  { withPrc { prcOf .running .capturing [planned st] with admReq := some t0 } with
    fst := { Fst.reset with slots :=
      (Fst.reset.slots.setIfInBounds 46 (.reserved t0)).setIfInBounds 47 (.reserved t0) } }

theorem witness_ExposureRequests :
    (let s := reserved .planned
     s.prc.run = .running ∧ s.prc.admReq = some t0 ∧ s.prc.tile? t0 = some (planned .planned)
     ∧ (planned .planned).exposures = [] ∧ s.fst.lowestReserved t0 = some 46 ∧ s.cru.state = .idle ∧ s.prc.expReq = none
     ∧ s.prc.retryBack = none ∧ s.blu.throttle = false)
    ∧ (let s := reserved .exposing
       let r : ExposureDone := { tile := t0, time := 10, drive := 1024, m := 1000, temp := 0, slot := 45
                                 throttled := false, withFrame := true }
       s.prc.tile? r.tile = some (planned .exposing) ∧ r.withFrame = true
       ∧ ([⟨10, 1024⟩, ⟨80, 4096⟩] : List PlanEntry)[(planned .exposing).exposures.length + 1]? = some ⟨80, 4096⟩
       ∧ s.fst.lowestReserved r.tile = some 46) := by decide

/-- The throttle at the first drive it caps; and the last completion of a tile, alone and with a tile in METERING. -/
theorem witness_ExposureRequests_last :
    (∃ s : State, s.blu.throttle = true ∧ 1024 < 1025)
    ∧ ∀ b, b = .sent ∨ b = .metering → ∃ (s : State) (x : Tile), s.prc.tableLaw
      ∧ (jobOf .capturing [x, tileOf 1 b]).countLaw ∧ s.prc.run = .running
      ∧ s.prc.activeJob? = some (jobOf .capturing [x, tileOf 1 b]) ∧ s.prc.tile? t0 = some x ∧ x.state = .exposing
      ∧ x.plan = some [⟨1, 1⟩] ∧ x.exposures.length + 1 = [(⟨1, 1⟩ : PlanEntry)].length ∧ s.bme.state ≠ .idle
      ∧ s.cru.state = .idle ∧ s.prc.planReq = none ∧ s.prc.trsReq = none ∧ s.prc.admReq = none
      ∧ (∀ y ∈ [x, tileOf 1 b], y.state = .exposing → y.seq = x.seq)
      ∧ ((∀ y ∈ [x, tileOf 1 b], y.seq ≠ x.seq → y.state.uncaptured = false) ∨ [x, tileOf 1 b].find? (fun z =>
          decide (z.state = .metering ∨ z.state = .planned)) = some (tileOf 1 .metering)) := by
  refine ⟨⟨{ on with blu := { Blu.reset with throttle := true } }, rfl, by decide⟩, ?_⟩
  let x : Tile := { tileOf 0 .exposing with plan := some [⟨1, 1⟩] }
  rintro b (rfl | rfl) <;>
    exact ⟨{ withPrc (prcOf .running .capturing [x, tileOf 1 _]) with bme := { Bme.reset with state := .merging } }, x,
      prcOf_table _ _ _, ⟨by decide, rfl, rfl, rfl⟩, rfl, rfl, rfl, rfl, rfl, rfl, by decide, rfl, rfl, rfl, rfl,
      by decide, by decide⟩

/-- The tile admitted, or EXPOSING, in a run of any state. -/
theorem witness_ExposureRequests_runs : ∀ r st, ∃ s : State, s.prc.run = r ∧ s.prc.admReq = some t0
    ∧ s.prc.tile? t0 = some (planned st) ∧ s.fst.lowestReserved t0 = some 46 ∧ s.cru.state = .idle ∧ s.prc.expReq = none
    ∧ s.prc.retryBack = none ∧ s.blu.throttle = false :=
  fun r st => ⟨{ reserved st with prc := { (reserved st).prc with run := r } }, rfl, rfl, rfl,
    show (reserved .planned).fst.lowestReserved t0 = some 46 by decide, rfl, rfl, rfl, rfl⟩

/-- A tile's last completion in a run of any state, beside a tile of any state but EXPOSING. -/
theorem witness_ExposureRequests_lastRuns : ∀ r b, b ≠ .exposing → ∃ (s : State) (x : Tile), s.prc.tableLaw
    ∧ (jobOf .capturing [x, tileOf 1 b]).countLaw ∧ s.prc.run = r
    ∧ s.prc.activeJob? = some (jobOf .capturing [x, tileOf 1 b]) ∧ s.prc.tile? t0 = some x ∧ x.state = .exposing
    ∧ x.plan = some [⟨1, 1⟩] ∧ x.exposures.length + 1 = [(⟨1, 1⟩ : PlanEntry)].length ∧ s.bme.state ≠ .idle
    ∧ s.cru.state = .idle ∧ s.prc.planReq = none ∧ s.prc.trsReq = none ∧ s.prc.unloadNext = none ∧ s.prc.admReq = none
    ∧ ∀ y ∈ [x, tileOf 1 b], y.state = .exposing → y.seq = x.seq := by
  intro r b hb
  let x : Tile := { tileOf 0 .exposing with plan := some [⟨1, 1⟩] }
  refine ⟨{ withPrc (prcOf r .capturing [x, tileOf 1 b]) with bme := { Bme.reset with state := .merging } }, x,
    prcOf_table _ _ _, ⟨rfl, rfl, rfl, rfl⟩, rfl, rfl, rfl, rfl, rfl, rfl, BmeState.noConfusion, rfl, rfl, rfl, rfl, rfl, ?_⟩
  intro y hy he
  rcases List.mem_cons.1 hy with rfl | hy
  · rfl
  · rw [List.mem_singleton.1 hy] at he
    exact absurd he hb

/-- A tile's last completion at an IDLE BME. -/
theorem witness_ExposureRequests_takeUp : ∃ (s : State) (x : Tile) (r : ExposureDone), s.prc.tableLaw ∧ s.prc.countLaw
    ∧ s.prc.run = .running ∧ s.bme.state = .idle ∧ s.bme.queue = [] ∧ s.prc.tile? r.tile = some x ∧ x.state = .exposing
    ∧ x.plan = some [⟨1, 1⟩] ∧ r.withFrame = true ∧ ∃ t, exec (.exposureCompletion r)
      { s with bme := { s.bme with state := .merging } } = .next t ∧ .mergeTakeUp ∉ t.inFlight :=
  let x : Tile := { tileOf 0 .exposing with plan := some [⟨1, 1⟩] }
  ⟨withPrc (prcOf .running .capturing [x, tileOf 1 .sent]), x,
    { tile := t0, time := 1, drive := 1, m := 1, temp := 0, slot := 0, throttled := false, withFrame := true },
    prcOf_table _ _ _, fun j h => by rw [List.mem_singleton.1 h]; exact ⟨rfl, rfl, rfl, rfl⟩, rfl, rfl, rfl, rfl, rfl, rfl,
    rfl, _, rfl, by decide⟩

theorem witness_ExposureReports :
    (∃ (s : State) (j : Job), s.prc.tableLaw ∧ j.countLaw ∧ s.prc.run = .running ∧ s.prc.activeJob? = some j
      ∧ j.id = t0.job ∧ s.prc.trsReq = none ∧ ∃ x plan, s.prc.tile? t0 = some x ∧ x.state = .exposing
      ∧ x.plan = some plan ∧ x.exposures.length + 1 < plan.length)
    ∧ (∃ (s : State) (j : Job), s.prc.tableLaw ∧ j.countLaw ∧ s.prc.run = .running ∧ s.prc.activeJob? = some j
      ∧ j.id = t0.job ∧ s.prc.trsReq = none ∧ ∃ x plan, s.prc.tile? t0 = some x ∧ x.state = .exposing
      ∧ x.plan = some plan ∧ x.exposures.length + 1 = plan.length
      ∧ j.tiles.find? (fun y => decide (y.state = .pending)) = some (tileOf 1 .pending))
    ∧ (∃ s : State, s.prc.run ≠ .quiescing ∧ s.prc.tile? t0 = some (tileOf 0 .metering))
    ∧ (∃ s : State, s.prc.run ≠ .quiescing ∧ s.prc.tile? t0 = some (tileOf 0 .exposing) ∧ s.prc.movedOn = none) := by
  let x1 : Tile := planned .exposing
  let x2 : Tile := { tileOf 0 .exposing with plan := some [⟨1, 1⟩] }
  refine ⟨⟨withPrc (prcOf .running .capturing [x1, tileOf 1 .pending]), jobOf .capturing [x1, tileOf 1 .pending],
      prcOf_table .running .capturing _, ⟨by decide, rfl, rfl, rfl⟩, rfl, rfl, rfl, rfl, x1, _, rfl, rfl, rfl,
      by decide⟩,
    ⟨withPrc (prcOf .running .capturing [x2, tileOf 1 .pending]), jobOf .capturing [x2, tileOf 1 .pending],
      prcOf_table .running .capturing _, ⟨by decide, rfl, rfl, rfl⟩, rfl, rfl, rfl, rfl, x2, _, rfl, rfl, rfl, rfl, rfl⟩,
    ⟨two .running .capturing .metering .pending, RunState.noConfusion, rfl⟩,
    ⟨two .running .capturing .exposing .pending, RunState.noConfusion, rfl, rfl⟩⟩

theorem witness_FaultReports :
    (let s := two .running .capturing .sent .exposing
     let j := jobOf .capturing [tileOf 0 .sent, tileOf 1 .exposing]
     s.prc.tableLaw ∧ s.prc.countLaw ∧ s.prc.run = .running ∧ s.prc.activeJob? = some j ∧ j.state = .capturing
     ∧ s.prc.trsReq = none ∧ s.prc.tile? ⟨j.id, 1⟩ = some (tileOf 1 .exposing)
     ∧ (tileOf 1 .exposing).state.ended = false ∧ s.prc.planReq = none)
    ∧ (State.reset.prc.run ≠ .quiescing ∧ State.reset.prc.active = none)
    ∧ (∃ s : State, s.prc.activeJob? = some (jobOf .capturing []) ∧ s.prc.planReq = some t0 ∧ s.prc.run = .running)
    ∧ (∃ s : State, s.prc.activeJob? = some (jobOf .unloading []) ∧ s.prc.run ≠ .quiescing) :=
  ⟨⟨prcOf_table .running .capturing _, prcOf_count .running .capturing _ _, rfl, rfl, rfl, rfl, rfl, rfl, rfl⟩,
    by decide, ⟨withPrc { prcOf .running .capturing [] with planReq := some t0 }, by decide⟩,
    ⟨withPrc (prcOf .running .unloading []), by decide⟩⟩

/-- The stage has moved on, to a tile METERING and to one still on its way. -/
theorem witness_ExposureReports_movedOn : ∀ b, b = .metering ∨ b = .positioning → ∃ s : State, s.prc.run = .running
    ∧ s.prc.tile? t0 = some (tileOf 0 .exposing) ∧ s.prc.movedOn = some ⟨1, 1⟩
    ∧ s.prc.tile? ⟨1, 1⟩ = some (tileOf 1 b) := by
  rintro b (rfl | rfl)
  · exact ⟨two .running .capturing .exposing .metering, by decide⟩
  · exact ⟨two .running .capturing .exposing .positioning, by decide⟩

/-- A fault of a load, of a move and of an unload of the active job, and of a recovery unload. -/
theorem witness_FaultReports_transport :
    (∀ q st, let s := outstanding q st .sent .exposing
      s.prc.tableLaw ∧ s.prc.countLaw ∧ s.prc.run = .running ∧ s.prc.trsReq = some q
      ∧ s.prc.activeJob? = some (jobOf st [tileOf 0 .sent, tileOf 1 .exposing])
      ∧ s.prc.tile? ⟨1, 1⟩ = some (tileOf 1 .exposing) ∧ (tileOf 1 .exposing).state.ended = false)
    ∧ (∀ r, ∃ (s : State) (j : Job), s.prc.active = none ∧ s.prc.recoveryJob = some 1 ∧ s.prc.trsReq = some .recovery
        ∧ s.prc.unloadNext = none ∧ s.prc.run = r ∧ s.prc.job? 1 = some j ∧ j.state = .draining) :=
  ⟨fun q st => ⟨(outstanding_laws q st .sent .exposing).1, (outstanding_laws q st .sent .exposing).2.1, rfl, rfl, rfl,
      rfl, rfl⟩,
    fun r => ⟨withPrc { prcOf r .draining [] with
      active := none, recoveryJob := some 1, trsReq := some .recovery }, _, rfl, rfl, rfl, rfl, rfl, rfl, rfl⟩⟩

/-- An active job in a run of any state, with any request outstanding or none; and no active job nor recovery unload. -/
theorem witness_FaultReports_runs :
    (∀ r q st a b, ∃ s : State, s.prc.tableLaw ∧ s.prc.countLaw ∧ s.prc.run = r ∧ s.prc.trsReq = q
      ∧ s.prc.activeJob? = some (jobOf st [tileOf 0 a, tileOf 1 b]) ∧ s.prc.tile? ⟨1, 1⟩ = some (tileOf 1 b))
    ∧ (∀ r, ∃ s : State, s.prc.active = none ∧ s.prc.recoveryJob = none ∧ s.prc.run = r) :=
  ⟨fun r q st a b => ⟨withPrc { prcOf r st [tileOf 0 a, tileOf 1 b] with trsReq := q }, prcOf_table r st _,
      prcOf_count r st a b, rfl, rfl, rfl, rfl⟩,
    fun r => ⟨withPrc { Prc.reset with run := r }, rfl, rfl, rfl⟩⟩

theorem witness_UnloadCompletion :
    (∀ r lamp, ∃ s : State, s.prc.tableLaw ∧ s.prc.run = r ∧ s.prc.trsReq = some .unload
      ∧ s.prc.activeJob? = some (jobOf .unloading [tileOf 0 .sent, tileOf 1 .merging]) ∧ s.prc.queue = []
      ∧ s.prc.unloadNext = none ∧ s.prc.planReq = none ∧ s.prc.expReq = none ∧ s.prc.lampAfterUnload = lamp)
    ∧ (∀ r, ∃ s : State, s.prc.trsReq = some .recovery ∧ s.prc.run = r ∧ .startJob ∉ s.inFlight ∧ s.prc.unloadNext = none
        ∧ s.prc.planReq = none ∧ s.prc.expReq = none ∧ s.prc.active = none) ∧ on.prc.trsReq = none :=
  ⟨fun r lamp => ⟨withPrc { prcOf r .unloading [tileOf 0 .sent, tileOf 1 .merging] with
        trsReq := some .unload, lampAfterUnload := lamp },
      prcOf_table r .unloading _, rfl, rfl, rfl, rfl, rfl, rfl, rfl, rfl⟩,
    fun r => ⟨withPrc { Prc.reset with trsReq := some .recovery, run := r }, rfl, rfl, List.not_mem_nil, rfl, rfl, rfl, rfl⟩, rfl⟩

/-- The unload of a RUNNING run's job with others queued, with the lamp held off until it and without, under a mode. -/
theorem witness_UnloadCompletion_queued : ∀ mode lamp mark a, ∃ s : State, s.prc.tableLaw ∧ s.prc.run = .running
    ∧ s.prc.trsReq = some .unload ∧ s.prc.activeJob? = some (jobOf .unloading [tileOf 0 .sent, tileOf 1 a])
    ∧ s.prc.queue = [2] ∧ s.liu.params.runMode = mode ∧ s.prc.lampAfterUnload = lamp ∧ s.prc.abortMark = mark
    ∧ s.prc.unloadNext = none ∧ .startJob ∉ s.inFlight :=
  fun mode lamp mark a => ⟨{ withPrc { prcOf .running .unloading [tileOf 0 .sent, tileOf 1 a] with
        trsReq := some .unload, lampAfterUnload := lamp, abortMark := mark, queue := [2] } with
      liu := { on.liu with params := { runMode := mode } } },
    prcOf_table .running .unloading _, rfl, rfl, rfl, rfl, rfl, rfl, rfl, rfl, List.not_mem_nil⟩

/-! ## Calibration -/

/-- The five slots of a dark calibration and the four of a flat one, from slot 0 on. -/
def darkWork : List (Nat × CalRole) :=
  [(0, .workLow), (1, .workHigh), (2, .exposure), (3, .biasResult), (4, .rateResult)]
def flatWork : List (Nat × CalRole) := [(0, .workLow), (1, .workHigh), (2, .exposure), (3, .flatResult)]

/-- The part with CRU as given. -/
def withCru (c : Cru) : State := { on with cru := c }

/-- CRU in a state of a dark calibration. -/
def darkIn (st : CruState) (frames : Nat) (asked : Bool) : State :=
  { withCru { Cru.reset with
      state := st, request := some .dark, work := darkWork, frames := frames, frameReq := asked } with
    fst := { Fst.reset with slots := darkWork.foldl (fun v p => v.setIfInBounds p.1 (.calwork p.2)) Fst.reset.slots }
    sfe := { Sfe.reset with
      state := .exposing
      exposing := some { req := { client := .cru, time := 1, target := .calwork 2, lamp := .dark, stage := false }
                         retry := 0, throttled := false } } }

/-- CRU in a state of a flat calibration of profile 3. -/
def flatIn (st : CruState) (trs : Option CalMotion) (work : List (Nat × CalRole)) (frames : Nat) (asked : Bool) : State :=
  { withCru { Cru.reset with
      state := st, request := some (.flat 3), work := work, frames := frames, frameReq := asked, trsReq := trs
      plan := some ⟨100, 4096⟩, mSum := 16 * 4096, mean := some 2048 } with
    fst := { Fst.reset with slots := work.foldl (fun v p => v.setIfInBounds p.1 (.calwork p.2)) Fst.reset.slots } }

theorem witness_CalibrateCommands :
    (on.takes hdr ∧ on.cru.state = .idle ∧ on.prc.active = none ∧ ∀ j, on.prc.activeJob? = some j →
      ∀ x ∈ j.tiles, x.state ≠ .exposing)
    ∧ (darkIn .darkBias 0 true).cru.state ≠ .idle
    ∧ (let s := two .running .capturing .pending .pending; s.prc.active ≠ none ∧ ∀ c, s.prc.run ≠ .held c)
    ∧ ((3 : Nat) ≤ 3 ∧ 3 < 4)
    ∧ (on.trs.state = .unhomed ∧ (atStart .loading .idle .standby .idle true).trs.state ≠ .empty)
    ∧ (∃ s : State, s.takes hdr ∧ s.cru.state = .waiting ∧ s.cru.request = some .dark ∧ s.cru.work = []
        ∧ s.cru.mean = none)
    ∧ (let s := darkIn .darkRate 3 true
       s.cru.request = some .dark ∧ s.cru.frameReq = true ∧ s.sfe.held = none
       ∧ s.sfe.exposing.map (·.req.client) = some .cru)
    ∧ (darkIn .darkBias 3 false).cru.frameReq = false
    ∧ (flatIn .flatLoad (some .load) flatWork 0 false).cru.state = .flatLoad
    ∧ (let s := flatIn .flatMeter none flatWork 0 false; s.cru.state = .flatMeter ∧ s.cru.request = some (.flat 3))
    ∧ (let s := flatIn .flatFrames none flatWork 0 false; s.cru.state = .flatFrames ∧ s.cru.frameReq = false)
    ∧ (let s := flatIn .flatUnload (some .unload) [] 0 false; s.cru.state = .flatUnload ∧ s.cru.pend = none)
    ∧ (∃ s : State, s.cru.state = .flatUnload ∧ s.cru.pend = some (.failed .flatLow))
    ∧ (∃ s : State, s.cru.state = .cancelling) := by
  refine ⟨⟨on_takes, rfl, rfl, fun j hj => by cases hj⟩, by decide, ⟨by decide, fun c => RunState.noConfusion⟩,
    by decide, by decide, ⟨withCru { Cru.reset with state := .waiting, request := some .dark }, ⟨rfl, rfl, rfl⟩, rfl,
      rfl, rfl, rfl⟩, by decide, by decide, by decide, by decide, by decide, by decide,
    ⟨withCru { Cru.reset with state := .flatUnload, pend := some (.failed .flatLow) }, rfl, rfl⟩,
    ⟨withCru { Cru.reset with state := .cancelling }, rfl⟩⟩

/-- A flat series with a frame in progress. -/
theorem witness_CalibrateCommands_flatFrame : ∃ s : State, s.takes hdr ∧ s.cru.state = .flatFrames
    ∧ s.cru.request = some (.flat 3) ∧ s.cru.frameReq = true ∧ s.sfe.held = none
    ∧ s.sfe.exposing.map (·.req.client) = some .cru :=
  ⟨{ flatIn .flatFrames none flatWork 3 true with sfe := (darkIn .darkRate 3 true).sfe }, ⟨rfl, rfl, rfl⟩, by decide⟩

/-- A readout of an earlier calibration, withdrawn, beside the first frame of the present one, which SFE only holds: no
frame of the present one is in progress, in a dark series and in a flat one. -/
theorem witness_CalibrateCommands_heldFrame : ∀ k, k = .darkBias ∨ k = .flatFrames → ∃ (s : State) (r : ExposureReq),
    s.takes hdr ∧ s.cru.state = k ∧ s.cru.frameReq = true ∧ r.client = .cru
    ∧ s.sfe.held = some { req := r, retry := 0, cleared := false } ∧ s.sfe.exposing = none
    ∧ s.sfe.readout = some { kind := .frame ⟨r, 0, false⟩ none 0, dropped := true } ∧ s.sfe.hasCalFrame = false
    ∧ { s.sfe with held := none }.hasCalFrame = false := by
  let r : ExposureReq := { client := .cru, time := 1, target := .calwork 2, lamp := .dark, stage := false }
  let f : Sfe := { Sfe.reset with
    state := .reading, held := some { req := r, retry := 0, cleared := false }
    readout := some { kind := .frame ⟨r, 0, false⟩ none 0, dropped := true } }
  rintro k (rfl | rfl)
  · exact ⟨{ darkIn .darkBias 0 true with sfe := f }, r, ⟨rfl, rfl, rfl⟩, rfl, rfl, rfl, rfl, rfl, rfl, rfl, rfl⟩
  · exact ⟨{ flatIn .flatFrames none flatWork 0 true with sfe := f }, r, ⟨rfl, rfl, rfl⟩, rfl, rfl, rfl, rfl, rfl, rfl,
      rfl, rfl⟩

theorem witness_CalibrationFrames :
    (let s := darkIn .waiting 0 false
     s.cru.quiesce = false ∧ s.cru.slotOf .exposure = some 2 ∧ s.cru.slotOf .workLow = some 0
     ∧ s.cru.slotOf .workHigh = some 1 ∧ s.cru.state = .waiting ∧ s.cru.request = some .dark)
    ∧ (let s := flatIn .waiting none flatWork 0 false; s.cru.slotOf .exposure = some 2 ∧ s.cru.request = some (.flat 3))
    ∧ (let s := darkIn .darkBias 14 true; s.cru.frameReq = true ∧ s.cru.state = .darkBias)
    ∧ (let s := flatIn .flatFrames none flatWork 14 true
       s.cru.frameReq = true ∧ s.cru.plan = some ⟨100, 4096⟩)
    ∧ (let s := darkIn .darkRate 14 false; s.cru.frameReq = false ∧ s.cru.frames < 15 ∧ s.cru.state = .darkRate)
    ∧ (let s := flatIn .flatFrames none flatWork 14 false
       s.cru.frameReq = false ∧ s.cru.frames < 15 ∧ s.cru.plan = some ⟨100, 4096⟩)
    ∧ (let s := darkIn .darkBias 15 false; s.cru.frames = 15 ∧ s.cru.slotOf .biasResult = some 3)
    ∧ (let s := darkIn .darkRate 15 false
       s.cru.slotOf .biasResult = some 3 ∧ s.cru.slotOf .rateResult = some 4)
    ∧ (let s := flatIn .flatFrames none flatWork 15 false
       s.cru.frames = 15 ∧ s.cru.slotOf .flatResult = some 3) := by decide

theorem witness_DarkCalibrationCommits :
    (let s := darkIn .darkBias 16 false
     s.cru.quiesce = false ∧ s.cru.frames = 16 ∧ s.cru.request = some .dark ∧ s.cru.work = darkWork
     ∧ s.cru.state = .darkBias)
    ∧ (let s := darkIn .darkRate 16 false
       s.cru.state = .darkRate ∧ s.fst.wait = none ∧ [0, 1, 2, 3, 4].Nodup
       ∧ ∀ p ∈ s.cru.work, s.fst.slot p.1 = some (.calwork p.2)) := by decide

theorem witness_FlatCalibrationCommits :
    (let s := flatIn .flatLoad (some .load) flatWork 0 false
     s.cru.quiesce = false ∧ s.cru.request = some (.flat 3) ∧ s.cru.state = .flatLoad ∧ s.cru.trsReq = some .load)
    ∧ (flatIn .flatLoad (some .move) flatWork 0 false).cru.trsReq = some .move
    ∧ (let s := flatIn .flatMeter none flatWork 0 false; s.cru.state = .flatMeter ∧ s.cru.slotOf .exposure = some 2)
    ∧ (let s := flatIn .flatFrames none flatWork 16 false
       s.cru.frames = 16 ∧ s.cru.plan = some ⟨100, 4096⟩ ∧ s.cru.work = flatWork ∧ 2047 < 2048 ∧ 2048 ≤ 2048
       ∧ 0 < 100 * ((s.cru.mSum + 8) / 16) ∧ s.cru.mean.isSome = true)
    ∧ (let s := flatIn .flatUnload (some .unload) [(3, .flatResult)] 16 false
       s.cru.state = .flatUnload ∧ s.cru.pend = none ∧ s.cru.work = [(3, .flatResult)] ∧ 3 < 4 ∧ s.fst.wait = none
       ∧ s.fst.slot 3 = some (.calwork .flatResult))
    ∧ (∃ s : State, s.cru.quiesce = false ∧ s.cru.request = some (.flat 0) ∧ s.cru.state = .flatUnload
        ∧ s.cru.pend = some .cancelled ∧ s.cru.work = []) := by
  refine ⟨by decide, by decide, by decide, by decide, by decide,
    ⟨withCru { Cru.reset with state := .flatUnload, request := some (.flat 0), pend := some .cancelled }, by decide⟩⟩

/-- A frame awaited in CANCELLING, of each kind of calibration; a load and a move awaited there; and an unload with a pending
result while the result slot is still held. -/
theorem witness_CalibrationFrames_cancelled :
    (∃ s : State, s.cru.quiesce = false ∧ s.cru.slotOf .exposure = some 2 ∧ s.cru.frameReq = true
      ∧ s.cru.state = .cancelling ∧ s.cru.pend = some .cancelled ∧ s.cru.request = some .dark)
    ∧ (∃ s : State, s.cru.quiesce = false ∧ s.cru.slotOf .exposure = some 2 ∧ s.cru.frameReq = true
      ∧ s.cru.state = .cancelling ∧ s.cru.pend = some .cancelled ∧ s.cru.request = some (.flat 3))
    ∧ (∀ m, ∃ s : State, s.cru.quiesce = false ∧ s.cru.request = some (.flat 3) ∧ s.cru.state = .cancelling
      ∧ s.cru.pend = some .cancelled ∧ s.cru.trsReq = some m)
    ∧ (∀ r, r ≠ .ok → ∃ s : State, s.cru.quiesce = false ∧ s.cru.request = some (.flat 3) ∧ s.cru.state = .flatUnload
      ∧ s.cru.pend = some r ∧ s.cru.work ≠ []) :=
  ⟨⟨{ darkIn .cancelling 3 true with cru := { (darkIn .cancelling 3 true).cru with pend := some .cancelled } }, by decide⟩,
    ⟨{ flatIn .cancelling none flatWork 3 true with
      cru := { (flatIn .cancelling none flatWork 3 true).cru with pend := some .cancelled } }, by decide⟩,
    fun m => ⟨withCru { Cru.reset with
      state := .cancelling, request := some (.flat 3), pend := some .cancelled, trsReq := some m }, rfl, rfl, rfl, rfl, rfl⟩,
    fun r _ => ⟨withCru { Cru.reset with
      state := .flatUnload, request := some (.flat 3), pend := some r, work := [(3, .flatResult)] }, rfl, rfl, rfl, rfl,
      List.cons_ne_nil _ _⟩⟩

theorem witness_CalibrationFails :
    (let s := darkIn .darkRate 9 true
     s.cru.quiesce = false ∧ s.cru.state = .darkRate ∧ s.cru.request = some .dark ∧ s.cru.pend = none)
    ∧ (let s := flatIn .flatMeter none flatWork 0 false
       s.cru.request = some (.flat 3) ∧ s.cru.pend = none ∧ s.cru.state = .flatMeter)
    ∧ (flatIn .flatFrames none flatWork 0 true).cru.state = .flatFrames
    ∧ (∃ s : State, s.cru.quiesce = false ∧ s.cru.request = some (.flat 3) ∧ s.cru.pend = none
        ∧ s.cru.state = .flatLoad ∧ s.cru.mean = none ∧ s.cru.trsReq = some .load)
    ∧ (∃ s : State, s.cru.quiesce = false ∧ s.cru.request = some (.flat 3) ∧ s.cru.pend = none
        ∧ s.cru.state = .flatLoad ∧ s.cru.mean = none ∧ s.cru.trsReq = some .move)
    ∧ (let s := flatIn .flatUnload (some .unload) [] 0 false; s.cru.state = .flatUnload ∧ s.cru.work = [])
    ∧ on.cru.state = .idle :=
  ⟨by decide, by decide, by decide,
    ⟨withCru { Cru.reset with state := .flatLoad, request := some (.flat 3), trsReq := some .load }, by decide⟩,
    ⟨withCru { Cru.reset with state := .flatLoad, request := some (.flat 3), trsReq := some .move }, by decide⟩,
    by decide, rfl⟩

/-- The unload of a flat calibration with a result pending, with work slots and without. -/
theorem witness_CalibrationFails_unload : ∀ w x, ∃ s : State, s.cru.quiesce = false ∧ s.cru.state = .flatUnload
    ∧ s.cru.request = some (.flat 3) ∧ s.cru.work = w ∧ s.cru.pend = x :=
  fun w x => ⟨withCru { Cru.reset with state := .flatUnload, request := some (.flat 3), work := w, pend := x }, rfl, rfl,
    rfl, rfl, rfl⟩

/-- A failure in CANCELLING: of a dark and of a flat frame, of a cancelled load, and of a cancelled move. -/
theorem witness_CalibrationFails_cancelling : ∀ k m, ∃ s : State, s.cru.quiesce = false ∧ s.cru.state = .cancelling
    ∧ s.cru.pend = some .cancelled ∧ s.cru.request = some k ∧ s.cru.trsReq = m ∧ s.cru.mean = none :=
  fun k m => ⟨withCru { Cru.reset with
    state := .cancelling, pend := some .cancelled, request := some k, trsReq := m }, rfl, rfl, rfl, rfl, rfl, rfl⟩

/-! ## Metering and planning -/

/-- The copies of a plan request at the default parameters. -/
def copies : PlanCopies :=
  { meterTime := 10, topCode := 12000, hiPpm := 500, stepRatio := .r8, satCode := 15800, dSpan := 3699, b0 := 512 }

/-- BPL METERING at an attempt, over a histogram with every pixel in one bin. -/
def metering (attempt time drive bin : Nat) : State :=
  { two .running .capturing .metering .pending with
    bpl := { work := some { planner := .prc t0, attempt := attempt, time := time, drive := drive, copies := copies } }
    sfe := { Sfe.reset with hist := (Vector.replicate 64 0).setIfInBounds bin 19660800 } }

theorem witness_PlanRequests :
    (∃ (s : State) (j : Job), s.bpl.work = none ∧ s.prc.job? t0.job = some j ∧ j.policy = .fixed [⟨1, 1⟩])
    ∧ (let s := two .running .capturing .metering .pending
       s.bpl.work = none ∧ s.prc.job? t0.job = some (jobOf .capturing [tileOf 0 .metering, tileOf 1 .pending])
       ∧ (jobOf .capturing []).policy = .auto 3699 ∧ s.prc.run ≠ .quiescing ∧ s.prc.tile? t0 = some (tileOf 0 .metering))
    ∧ on.bpl.work = none
    ∧ (∃ (s : State) (w : Metering), s.bpl.work = some w ∧ w.planner ≠ .prc t0 ∧ s.prc.planReq = some t0)
    ∧ (∃ w : Metering, (metering 1 10 4096 20).bpl.work = some w ∧ w.planner = .prc t0)
    ∧ (∀ w, on.bpl.work = some w → w.planner ≠ .prc t0) := by
  refine ⟨⟨withPrc { Prc.reset with jobs := [{ jobOf .capturing [] with policy := .fixed [⟨1, 1⟩] }] }, _, rfl, rfl, rfl⟩,
    by decide, rfl, ⟨{ withPrc { Prc.reset with planReq := some t0 } with
      bpl := { work := some { planner := .cru 0 4096, attempt := 1, time := 10, drive := 4096, copies := copies } } }, _,
      rfl, by decide, rfl⟩, ⟨_, rfl, rfl⟩, fun w h => by cases h⟩

/-- A metered attempt, the fourth, a step that changes nothing, and one that leads to the next. -/
theorem witness_AttemptCompletion :
    (metering 1 10 4096 20).bpl.work.isSome = true
    ∧ evaluate copies (metering 1 10 4096 20).sfe.hist = .metered 5248
    ∧ evaluate copies (metering 4 10 4096 63).sfe.hist = .overexposed
    ∧ evaluate copies (metering 2 80000 4096 0).sfe.hist = .underexposed
    ∧ (∀ cHi, evaluate copies (metering 3 10 4096 1).sfe.hist ≠ .metered cHi) ∧ 3 ≠ 4 := by
  refine ⟨rfl, by decide, by decide, by decide, fun c => ?_, by decide⟩
  rw [show evaluate copies (metering 3 10 4096 1).sfe.hist = .underexposed by decide]
  exact AttemptResult.noConfusion

/-- The two sides of the underexposed edge, and the ends of the first exposure value. -/
theorem witness_BracketArithmetic :
    evaluate copies ((Vector.replicate 64 0).setIfInBounds 1 19660800) = .underexposed
    ∧ evaluate copies ((Vector.replicate 64 0).setIfInBounds 2 19660800) = .metered 640
    ∧ evaluate copies ((Vector.replicate 64 0).setIfInBounds 61 19660800) = .overexposed
    ∧ (1 : Nat) ≤ 1 := by decide

/-! ## The frame store -/

/-- The part with some slots in the states given and every other slot FREE. -/
def withSlots (l : List (Nat × SlotState)) : State :=
  { on with fst := { Fst.reset with slots := l.foldl (fun v p => v.setIfInBounds p.1 p.2) Fst.reset.slots } }

/-- The part with the first `n` slots FREE and every other one MERGED. -/
def freeSlots (n : Nat) : State :=
  { on with fst := { Fst.reset with
      slots := Vector.ofFn fun i => if i.val < n then .free else .merged ⟨2, i.val⟩ } }

theorem witness_SlotChanges : ∀ x, ∃ s : State, s.fst.wait = none ∧ s.cru.state ≠ .waiting ∧ s.fst.slot 47 = some x
    ∧ s.fst.slot 46 ≠ some (.exposing t0) :=
  fun x => ⟨withSlots [(47, x)], rfl, CruState.noConfusion, rfl, by
    rw [show (withSlots [(47, x)]).fst.slot 46 = some .free from rfl]; decide⟩

/-- The part with an admission for seven slots waiting, and a dark calibration that waits for its five. -/
def waiting (s : State) : State :=
  { s with
    fst := { s.fst with wait := some (⟨1, 1⟩, 6) }
    cru := { Cru.reset with state := .waiting, request := some .dark } }

/-- A slot that goes to FREE while an admission and CRU wait. -/
theorem witness_SlotChanges_waiting : ∃ s : State, s.fst.slot 47 = some .streaming ∧ s.fst.quiesce = false
    ∧ s.fst.wait = some (⟨1, 1⟩, 6) ∧ s.cru.state = .waiting ∧ ∃ t,
      exec (.slotChange 47 .streamingToFree t0) s.unwaited = .next t
      ∧ ∀ d ∈ s.fst.asksAgain ++ [.calworkGrant], d ∉ t.inFlight :=
  ⟨waiting (withSlots [(47, .streaming)]), rfl, rfl, rfl, rfl, _, rfl, by decide⟩

/-- Seven slots for a tile of six exposures, and one short of it. -/
theorem witness_AdmissionAndRelease :
    (let s := freeSlots 7
     s.cru.state ≠ .waiting ∧ s.fst.quiesce = false ∧ s.fst.wait = none ∧ 6 + 1 ≤ s.fst.freeCount)
    ∧ (freeSlots 6).fst.freeCount < 6 + 1
    ∧ (∃ s : State, s.cru.state ≠ .waiting ∧ s.fst.wait = some (t0, 6))
    ∧ (∃ s : State, s.cru.state ≠ .waiting ∧ s.fst.wait = some (⟨1, 1⟩, 6) ∧ (⟨1, 1⟩ : TileRef) ≠ t0
        ∧ s.fst.slot 0 = some (.raw t0)) :=
  ⟨by decide, by decide, ⟨{ on with fst := { Fst.reset with wait := some (t0, 6) } }, by decide⟩,
    ⟨{ on with fst := { (withSlots [(0, .raw t0)]).fst with wait := some (⟨1, 1⟩, 6) } }, by decide⟩⟩

theorem witness_CalibrationSlots :
    (∃ s : State, s.cru.state = .waiting ∧ s.cru.request = some .dark ∧ s.cru.work = [] ∧ s.bme.state = .idle
      ∧ s.bme.queue = [] ∧ s.bme.quiesce = false ∧ s.fst.quiesce = false ∧ 5 ≤ s.fst.freeCount)
    ∧ (∃ s : State, s.cru.state = .waiting ∧ s.cru.request = some (.flat 0) ∧ s.cru.work = [] ∧ s.fst.freeCount < 4)
    ∧ (let s := withSlots [(9, .calwork .biasResult)]
       s.fst.wait = none ∧ s.cru.state ≠ .waiting ∧ s.fst.slot 9 = some (.calwork .biasResult)) :=
  ⟨⟨{ freeSlots 5 with cru := { Cru.reset with state := .waiting, request := some .dark } }, by decide⟩,
    ⟨{ freeSlots 3 with cru := { Cru.reset with state := .waiting, request := some (.flat 0) } }, by decide⟩, by decide⟩

/-- A commit and a return while an admission and CRU wait. -/
theorem witness_CalibrationSlots_waiting : ∃ s : State, s.fst.slot 9 = some (.calwork .biasResult)
    ∧ s.fst.quiesce = false ∧ s.fst.wait = some (⟨1, 1⟩, 6) ∧ s.cru.state = .waiting
    ∧ ∀ c, c = .calCommit [(9, .bias)] ∨ c = .calworkReturn [9] → ∃ t, exec c s.unwaited = .next t
      ∧ ∀ d ∈ s.fst.asksAgain ++ [.calworkGrant], d ∉ t.inFlight := by
  refine ⟨waiting (withSlots [(9, .calwork .biasResult)]), rfl, rfl, rfl, rfl, ?_⟩
  rintro c (rfl | rfl) <;> exact ⟨_, rfl, by decide⟩

/-- A request of the tile, lit, for slot 0. -/
def lit : ExposureReq := { client := .prc t0, time := 80000, target := .slot 0 t0, lamp := .settled 4096, stage := true }

/-- A unit of each requester. -/
def unitOf (c : PortClient) (w : Bool) (slot : Nat) : PortUnit :=
  { client := c, write := w, slot := slot, row := 3839, codes := [(5120, 16383)] }

/-- Slots 0 to 2 as SFE, BME and SOU may use them, and the port as given. -/
def atPort (p : Port) : State :=
  { on with fst := { (withSlots [(0, .exposing t0), (1, .raw ⟨1, 1⟩), (2, .streaming)]).fst with port := p } }

theorem witness_PortUnits :
    (let s := atPort Port.reset
     s.fst.port.serving = none ∧ s.fst.port.waitSfe = none ∧ s.fst.port.waitBme = none ∧ s.fst.port.waitSou = none
     ∧ s.portAllows (unitOf .sfe true 0) = true ∧ s.portAllows (unitOf .bme false 1) = true
     ∧ s.portAllows (unitOf .sou false 2) = true ∧ s.portAllows (unitOf .sou false 1) = false
     ∧ (unitOf .sou false 1).client ≠ .sfe ∧ s.sfe.readout = none)
    ∧ (∃ s : State, s.fst.port.serving = some (unitOf .bme false 1) ∧ PortClient.bme ≠ .sou
        ∧ s.fst.port.waitSfe = none ∧ s.fst.port.waitBme = none ∧ s.fst.port.waitSou = none)
    ∧ (∃ s : State, s.fst.port.serving = some (unitOf .bme false 1) ∧ s.fst.port.waitSfe = some (unitOf .sfe true 0)
        ∧ s.fst.port.waitBme = none ∧ s.fst.port.waitSou = some (unitOf .sou false 2)
        ∧ s.portAllows (unitOf .sou false 2) = true ∧ s.portAllows (unitOf .sfe true 0) = true)
    ∧ (∃ s : State, s.fst.memoryLaw ∧ s.fst.port.serving = some (unitOf .sfe true 0)
        ∧ s.fst.slot 0 = some (.exposing t0) ∧ (unitOf .sfe true 0).row < 3840 ∧ s.sfe.asksFor (unitOf .sfe true 0)) :=
  ⟨by decide, ⟨atPort { Port.reset with serving := some (unitOf .bme false 1) }, by decide⟩,
    ⟨atPort { Port.reset with
        serving := some (unitOf .bme false 1), waitSfe := some (unitOf .sfe true 0)
        waitSou := some (unitOf .sou false 2) }, by decide⟩,
    ⟨{ atPort { Port.reset with serving := some (unitOf .sfe true 0) } with
        sfe := { Sfe.reset with state := .reading, readout := some { kind := .frame ⟨lit, 0, false⟩ (some 1) 0 } } },
      reset_memoryLaw, rfl, rfl, by decide, .inr ⟨_, _, _, _, rfl, rfl, rfl, rfl, .inr ⟨t0, rfl⟩⟩⟩⟩

/-- A row of SFE in service that lost its write mark at the end of its readout, while a new readout goes into the slot, and
one that a readout in progress does not ask for. -/
theorem witness_PortUnits_givenUp :
    (∃ s : State, s.fst.port.serving = some { unitOf .sfe true 0 with write := false }
      ∧ s.sfe.asksFor { unitOf .sfe true 0 with write := false })
    ∧ (∃ s : State, s.fst.port.serving = some (unitOf .sfe true 0) ∧ ¬ s.sfe.asksFor (unitOf .sfe true 0)) := by
  refine ⟨⟨{ atPort { Port.reset with serving := some { unitOf .sfe true 0 with write := false } } with
      sfe := { Sfe.reset with state := .reading, readout := some { kind := .frame ⟨lit, 0, false⟩ (some 1) 0 } } },
      rfl, .inr ⟨_, _, _, _, rfl, rfl, rfl, rfl, .inr ⟨t0, rfl⟩⟩⟩,
    ⟨atPort { Port.reset with serving := some (unitOf .sfe true 0) }, rfl, ?_⟩⟩
  rintro (h | ⟨q, e, m, temp, h, -⟩)
  · exact h rfl
  · cases h

/-- At the end of a unit of SFE both others wait, with each as the last that was served; at the end of one of BME or SOU
SFE and the other wait, the other alone, and none. -/
theorem witness_PortUnits_turns :
    (∀ last, ∃ s : State, s.fst.port.serving = some (unitOf .sfe true 0) ∧ s.fst.port.waitSfe = none
      ∧ s.fst.port.waitBme = some (unitOf .bme false 1) ∧ s.fst.port.waitSou = some (unitOf .sou false 2)
      ∧ s.fst.port.last = last ∧ s.portAllows (unitOf .bme false 1) = true ∧ s.portAllows (unitOf .sou false 2) = true)
    ∧ (∀ a c, a = none ∨ a = some (unitOf .sfe true 0) → c = none ∨ c = some (unitOf .sou false 2) →
      ∃ s : State, s.fst.port.serving = some (unitOf .bme false 1) ∧ s.fst.port.waitSfe = a ∧ s.fst.port.waitBme = none
        ∧ s.fst.port.waitSou = c ∧ (∀ w, a = some w → w.client = .sfe ∧ s.portAllows w = true)
        ∧ (∀ w, c = some w → w.client = .sou ∧ s.portAllows w = true))
    ∧ (∀ a b, a = none ∨ a = some (unitOf .sfe true 0) → b = none ∨ b = some (unitOf .bme false 1) →
      ∃ s : State, s.fst.port.serving = some (unitOf .sou false 2) ∧ s.fst.port.waitSfe = a ∧ s.fst.port.waitBme = b
        ∧ s.fst.port.waitSou = none ∧ (∀ w, a = some w → w.client = .sfe ∧ s.portAllows w = true)
        ∧ (∀ w, b = some w → w.client = .bme ∧ s.portAllows w = true)) := by
  refine ⟨fun last => ⟨atPort { Port.reset with
      serving := some (unitOf .sfe true 0), waitBme := some (unitOf .bme false 1)
      waitSou := some (unitOf .sou false 2), last := last }, rfl, rfl, rfl, rfl, rfl, rfl, rfl⟩,
    fun a c ha hc => ⟨atPort { Port.reset with serving := some (unitOf .bme false 1), waitSfe := a, waitSou := c },
      rfl, rfl, rfl, rfl, ?_, ?_⟩,
    fun a b ha hb => ⟨atPort { Port.reset with serving := some (unitOf .sou false 2), waitSfe := a, waitBme := b },
      rfl, rfl, rfl, rfl, ?_, ?_⟩⟩
  · rcases ha with rfl | rfl <;> intro w h <;> cases h <;> exact ⟨rfl, rfl⟩
  · rcases hc with rfl | rfl <;> intro w h <;> cases h <;> exact ⟨rfl, rfl⟩
  · rcases ha with rfl | rfl <;> intro w h <;> cases h <;> exact ⟨rfl, rfl⟩
  · rcases hb with rfl | rfl <;> intro w h <;> cases h <;> exact ⟨rfl, rfl⟩

/-! ## The sensor front end -/

/-- Slot 0 in a state, with SFE as given. -/
def withSfe (x : SlotState) (f : Sfe) : State := { withSlots [(0, x)] with sfe := f }

theorem witness_ExposureStarts :
    (on.sfe.quiesce = false ∧ on.sfe.held = none ∧ on.sfe.state = .idle)
    ∧ (∃ s : State, s.sfe.held = none ∧ s.sfe.state = .fault ∧ s.sfe.reinit = true)
    ∧ (∃ s : State, s.sfe.held = none ∧ s.sfe.state = .fault ∧ s.sfe.reinit = false ∧ lit.client = .prc t0)
    ∧ (∃ s : State, s.sfe.held = some ⟨lit, 0, false⟩ ∧ s.sfe.state = .armed ∧ s.sfe.phase = .lamp ∧ lit.stage = true
        ∧ s.sfe.mark = false ∧ s.blu.grant = none)
    ∧ (∃ s : State, s.sfe.held = some ⟨lit, 1, true⟩ ∧ s.sfe.state = .armed ∧ s.sfe.phase = .stage
        ∧ lit.target = .slot 0 t0 ∧ s.fst.slot 0 = some (.reserved t0) ∧ s.blu.grant = none ∧ s.blu.ask = none)
    ∧ (∃ s : State, s.sfe.held = some ⟨lit, 1, false⟩ ∧ s.sfe.state = .armed ∧ s.sfe.phase = .goAhead)
    ∧ (∃ s : State, s.sfe.held = some ⟨lit, 1, false⟩ ∧ s.sfe.state = .reading)
    ∧ (∃ (s : State) (q : Readout), s.sfe.held = none ∧ s.sfe.exposing = none ∧ s.sfe.readout = some q
        ∧ q.kind = .frame ⟨lit, 0, false⟩ (some 1) 0)
    ∧ (∃ s : State, s.sfe.state = .exposing) :=
  ⟨by decide, ⟨withSfe .free { Sfe.reset with state := .fault, reinit := true }, by decide⟩,
    ⟨withSfe .free { Sfe.reset with state := .fault }, by decide⟩,
    ⟨withSfe .free { Sfe.reset with state := .armed, phase := .lamp, held := some ⟨lit, 0, false⟩ }, by decide⟩,
    ⟨withSfe (.reserved t0) { Sfe.reset with state := .armed, phase := .stage, held := some ⟨lit, 1, true⟩ }, by decide⟩,
    ⟨withSfe .free { Sfe.reset with state := .armed, held := some ⟨lit, 1, false⟩ }, by decide⟩,
    ⟨withSfe .free { Sfe.reset with state := .reading, held := some ⟨lit, 1, false⟩ }, by decide⟩,
    ⟨withSfe .free { Sfe.reset with
      state := .reading, readout := some { kind := .frame ⟨lit, 0, false⟩ (some 1) 0 } }, _, rfl, rfl, rfl, rfl⟩,
    ⟨withSfe .free { Sfe.reset with state := .exposing }, rfl⟩⟩

/-- A frame of a calibration. -/
def dark : ExposureReq := { client := .cru, time := 1, target := .calwork 0, lamp := .dark, stage := false }

/-- SFE in ARMED with a request, BLU holding the grant of a settled lamp or none, TRS's interlock as given. -/
def armed (p : ArmPhase) (r : ExposureReq) (g : Option LampAsk) (i : Interlock) : State :=
  { withSfe (.reserved t0) { Sfe.reset with state := .armed, phase := p, held := some ⟨r, 0, false⟩ } with
    blu := { Blu.reset with state := .settled, requested := 4096, commanded := 4096, grant := g }
    trs := { Trs.reset true with state := .atRest, interlock := i }
    prc := { Prc.reset with expReq := some t0 } }

/-- An ARMED request by its phase, its grant and the interlock: what its start, its loss, its withdrawal and a fault ask. -/
theorem armed_holds (p r g i) : let s := armed p r g i
    s.sfe.quiesce = false ∧ s.sfe.held = some ⟨r, 0, false⟩ ∧ s.sfe.state = .armed ∧ s.sfe.phase = p
    ∧ s.sfe.exposing = none ∧ s.blu.grant = g ∧ s.trs.interlock = i ∧ s.trs.pendingMotion = none
    ∧ (∀ f, s.blu.state ≠ .fault f) ∧ s.prc.expReq = some t0 ∧ s.fst.slot 0 = some (.reserved t0) :=
  ⟨rfl, rfl, rfl, rfl, rfl, rfl, rfl, rfl, fun _ => LampState.noConfusion, rfl, rfl⟩

/-- BLU's grant for the lit request, and for the dark one. -/
def litGrant : LampAsk := { cond := .settled 4096, time := 80000 }
def darkGrant : LampAsk := { cond := .dark, time := 1 }

/-- The grants that a start finds: both held, FST's slot RESERVED or released, the interlock ended, the lamp ready ended
or for another time, and a dark frame's. -/
theorem witness_ExposureStarts_grants :
    (∀ x i, i = .granted ∨ i = .grantedAsked → ∃ s : State, s.sfe.held = some ⟨lit, 0, false⟩ ∧ s.sfe.state = .armed
      ∧ s.sfe.phase = .stage ∧ s.blu.grant = some { cond := lit.lamp, time := lit.time } ∧ s.trs.interlock = i
      ∧ (∀ f, s.blu.state ≠ .fault f) ∧ s.fst.slot 0 = some x ∧ lit.stage = true)
    ∧ (∀ i, ∃ s : State, s.sfe.held = some ⟨lit, 0, false⟩ ∧ s.sfe.state = .armed ∧ s.sfe.phase = .stage
        ∧ s.blu.grant = none ∧ s.trs.interlock = i)
    ∧ (∀ p g, ∃ s : State, s.sfe.held = some ⟨lit, 0, false⟩ ∧ s.sfe.state = .armed ∧ s.sfe.phase = p
        ∧ (∀ f, s.blu.state ≠ .fault f) ∧ s.blu.grant = some g)
    ∧ darkGrant ≠ { cond := lit.lamp, time := lit.time } ∧ litGrant = { cond := lit.lamp, time := lit.time }
    ∧ (∀ g, ∃ s : State, s.sfe.held = some ⟨dark, 0, false⟩ ∧ s.sfe.state = .armed ∧ s.sfe.phase = .lamp
        ∧ dark.stage = false ∧ dark.target = .calwork 0 ∧ s.blu.grant = g)
    ∧ darkGrant = { cond := dark.lamp, time := dark.time } :=
  ⟨fun x i _ => ⟨{ armed .stage lit (some litGrant) i with fst := (withSlots [(0, x)]).fst }, rfl, rfl, rfl, rfl, rfl,
      fun _ => LampState.noConfusion, rfl, rfl⟩,
    fun i => ⟨armed .stage lit none i, rfl, rfl, rfl, rfl, rfl⟩,
    fun p g => ⟨armed p lit (some g) .none, rfl, rfl, rfl, fun _ => LampState.noConfusion, rfl⟩, by decide, rfl,
    fun g => ⟨armed .lamp dark g .none, rfl, rfl, rfl, rfl, rfl, rfl⟩, rfl⟩

/-- A lamp lost with its grant still on its way, and without; and the grants that come when nothing is asked. -/
theorem witness_ExposureStarts_late :
    (∃ s : State, s.sfe.held = some ⟨lit, 0, false⟩ ∧ s.sfe.state = .armed ∧ s.sfe.phase = .lamp ∧ s.blu.grant = none
      ∧ .lampReadyGrant ∈ s.inFlight)
    ∧ .lampReadyGrant ∉ (armed .lamp lit none .none).inFlight
    ∧ (∃ s : State, s.sfe.quiesce = false ∧ s.sfe.state = .held ∧ s.trs.interlock = .granted
        ∧ s.trs.pendingMotion = some (.move .prc .aperture) ∧ s.blu.grant = some litGrant
        ∧ ∀ f, s.blu.state ≠ .fault f) :=
  ⟨⟨{ armed .lamp lit none .none with inFlight := [.lampLost, .lampReadyGrant] }, rfl, rfl, rfl, rfl, by decide⟩, by decide,
    ⟨{ armed .lamp lit (some litGrant) .granted with
      sfe := { Sfe.reset with state := .held }
      trs := { Trs.reset true with
        state := .atRest, interlock := .granted, pendingMotion := some (.move .prc .aperture) } },
      rfl, rfl, rfl, rfl, rfl, fun _ => LampState.noConfusion⟩⟩

/-- A lit exposure in progress, with either grant of the stage, and a dark frame. -/
theorem witness_ExposureStarts_exposing : ∀ r i g, ∃ s : State, s.sfe.quiesce = false ∧ s.sfe.state = .exposing
    ∧ s.sfe.exposing = some ⟨r, 0, false⟩ ∧ s.sfe.held = none ∧ s.trs.interlock = i ∧ s.blu.grant = g
    ∧ ∀ f, s.blu.state ≠ .fault f :=
  fun r i g => ⟨{ armed .stage r g i with sfe := { Sfe.reset with state := .exposing, exposing := some ⟨r, 0, false⟩ } },
    rfl, rfl, rfl, rfl, rfl, rfl, fun _ => LampState.noConfusion⟩

theorem witness_ExposureCutShort :
    (∃ s : State, s.sfe.state = .exposing ∧ s.sfe.exposing = some ⟨lit, 0, false⟩ ∧ s.fst.slot 0 = some (.exposing t0)
      ∧ s.prc.expReq = some t0 ∧ s.trs.interlock = .granted ∧ s.trs.pendingMotion = none ∧ s.blu.grant = none
      ∧ s.blu.ask = none)
    ∧ (∃ s : State, s.sfe.exposing = none ∧ s.sfe.state = .held ∧ s.sfe.held = some ⟨lit, 0, false⟩
        ∧ s.prc.expReq = some t0)
    ∧ (∃ s : State, s.sfe.exposing = none ∧ s.sfe.state ≠ .armed
        ∧ s.sfe.held = some ⟨{ lit with lamp := .dark, stage := false }, 0, false⟩)
    ∧ (on.sfe.state ≠ .exposing ∧ on.sfe.state ≠ .armed) :=
  ⟨⟨{ withSfe (.exposing t0) { Sfe.reset with state := .exposing, exposing := some ⟨lit, 0, false⟩ } with
      prc := { Prc.reset with expReq := some t0 }, trs := { Trs.reset true with interlock := .granted } }, by decide⟩,
    ⟨{ withSfe .free { Sfe.reset with state := .held, held := some ⟨lit, 0, false⟩ } with
      prc := { Prc.reset with expReq := some t0 } }, by decide⟩,
    ⟨withSfe .free { Sfe.reset with held := some ⟨{ lit with lamp := .dark, stage := false }, 0, false⟩ }, by decide⟩,
    by decide⟩

/-- The readout of a metering exposure. -/
def histRead : Readout :=
  { kind := .frame ⟨{ lit with client := .bpl (.prc t0), target := .histogram }, 0, false⟩ (some 1) 0 }

theorem witness_ExposureReadout :
    (∃ (s : State) (a : LampAsk), s.sfe.quiesce = false ∧ s.sfe.exposing = some ⟨lit, 0, false⟩
      ∧ s.trs.interlock = .granted ∧ s.trs.pendingMotion = none ∧ s.blu.grant = some a ∧ a.cond = .settled 4096
      ∧ s.blu.driveChanged = false ∧ s.blu.pendingDrive = none ∧ s.blu.deferred = false)
    ∧ (∃ (s : State) (q : Readout), s.sfe.readout = some q ∧ q.kind = .frame ⟨lit, 0, false⟩ (some 4096) 0
        ∧ q.dropped = false ∧ q.noFrame = false ∧ s.sfe.mark = false ∧ s.sfe.held = none
        ∧ s.fst.port.waitSfe = none ∧ s.fst.slot 0 = some (.exposing t0) ∧ s.fst.memoryLaw)
    ∧ (∃ (s : State) (q : Readout) (w : Metering), s.sfe.readout = some q
        ∧ q.kind = .frame ⟨{ lit with client := .bpl (.prc t0), target := .histogram }, 0, false⟩ (some 1) 0
        ∧ s.bpl.work = some w ∧ w.planner = .prc t0)
    ∧ (∃ (s : State) (q : Readout), s.sfe.readout = some q ∧ q.kind = .frame ⟨lit, 1, false⟩ (some 4096) 0
        ∧ s.fst.slot 0 = some (.exposing t0))
    ∧ (∃ (s : State) (q : Readout), s.sfe.quiesce = false ∧ s.sfe.readout = some q ∧ q.kind = .flush 1
        ∧ s.fst.port.waitSfe = none ∧ s.sfe.held = none ∧ s.sfe.mark = false) :=
  ⟨⟨{ withSfe (.exposing t0) { Sfe.reset with state := .exposing, exposing := some ⟨lit, 0, false⟩ } with
      trs := { Trs.reset true with interlock := .granted }
      blu := { Blu.reset with grant := some { cond := .settled 4096, time := 80000 } } }, _, rfl, rfl, rfl, rfl, rfl, rfl,
      rfl, rfl, rfl⟩,
    ⟨withSfe (.exposing t0) { Sfe.reset with
      state := .reading, readout := some { kind := .frame ⟨lit, 0, false⟩ (some 4096) 0 } }, _, rfl, rfl, rfl, rfl, rfl,
      rfl, rfl, rfl, reset_memoryLaw⟩,
    ⟨{ metering 1 10 4096 20 with sfe := { Sfe.reset with readout := some histRead } }, _, _, rfl, rfl, rfl, rfl⟩,
    ⟨withSfe (.exposing t0) { Sfe.reset with
      state := .reading, readout := some { kind := .frame ⟨lit, 1, false⟩ (some 4096) 0 } }, _, rfl, rfl, rfl⟩,
    ⟨withSfe .free { Sfe.reset with state := .reading, readout := some { kind := .flush 1 } }, _, rfl, rfl, rfl, rfl, rfl,
      rfl⟩⟩

/-- The limit of 800 itself and one past it, and the lower edge of 752 under the mark. -/
theorem witness_SensorConditions :
    (¬ (on.liu.params.sensorLimit : Int) < 800 ∧ (on.liu.params.sensorLimit : Int) < 801
      ∧ on.sfe.mark = false ∧ on.sfe.state ≠ .armed)
    ∧ (∃ s : State, s.sfe.mark = true ∧ (s.liu.params.sensorLimit : Int) - s.liu.params.sensorHyst ≤ 752
        ∧ ¬ (s.liu.params.sensorLimit : Int) - s.liu.params.sensorHyst ≤ 751 ∧ s.sfe.state = .held ∧ s.sfe.held = none)
    ∧ (∃ s : State, s.sfe.mark = true ∧ s.sfe.state = .reading)
    ∧ (∃ s : State, s.sfe.mark = true ∧ s.sfe.state = .held ∧ s.sfe.held = some ⟨lit, 0, false⟩)
    ∧ on.sfe.reinit = false
    ∧ (∃ s : State, s.sfe.reinit = true ∧ s.sfe.quiesce = false ∧ s.sfe.held = none) :=
  ⟨by decide, ⟨withSfe .free { Sfe.reset with mark := true, state := .held }, by decide⟩,
    ⟨withSfe .free { Sfe.reset with mark := true, state := .reading }, by decide⟩,
    ⟨withSfe .free { Sfe.reset with mark := true, state := .held, held := some ⟨lit, 0, false⟩ }, by decide⟩, rfl,
    ⟨withSfe .free { Sfe.reset with state := .fault, reinit := true }, by decide⟩⟩

/-- The mark is set in ARMED, in each phase and with the interlock as it may be. -/
theorem witness_SensorConditions_armed : ∀ p i, ∃ s : State, (s.liu.params.sensorLimit : Int) < 801 ∧ s.sfe.mark = false
    ∧ s.sfe.state = .armed ∧ s.blu.grant = none ∧ s.sfe.phase = p ∧ s.trs.interlock = i :=
  fun p i => ⟨armed p lit none i, show (on.liu.params.sensorLimit : Int) < 801 by decide, rfl, rfl, rfl, rfl, rfl⟩

/-- A refusal as busy with the requester served and not, and the withdrawn and the port-refused readout at the port. -/
theorem witness_ExposureStarts_busy :
    (∃ s : State, s.sfe.quiesce = false ∧ s.sfe.held = some ⟨lit, 0, false⟩ ∧ lit.client = .prc t0)
    ∧ (∃ s : State, s.sfe.state = .exposing ∧ s.sfe.held = none ∧ s.sfe.exposing = some ⟨lit, 0, false⟩
        ∧ s.sfe.readout = none ∧ s.prc.expReq = some ⟨1, 1⟩ ∧ ExposureClient.prc ⟨1, 1⟩ ≠ lit.client
        ∧ ExposureClient.cru ≠ lit.client) :=
  ⟨⟨withSfe .free { Sfe.reset with state := .armed, held := some ⟨lit, 0, false⟩ }, by decide⟩,
    ⟨{ withSfe .free { Sfe.reset with state := .exposing, exposing := some ⟨lit, 0, false⟩ } with
      prc := { Prc.reset with expReq := some ⟨1, 1⟩ } }, by decide⟩⟩

/-- A row of the readout into a slot that has been released. -/
theorem witness_PortUnits_refused : ∃ (s : State) (q : Readout), q.dropped = false ∧ q.noFrame = false
    ∧ s.fst.port.serving = none ∧ s.fst.port.waitSfe = none ∧ s.fst.port.waitBme = none ∧ s.fst.port.waitSou = none
    ∧ s.portAllows (unitOf .sfe true 0) = false ∧ s.sfe.readout = some q ∧ q.kind = .frame ⟨lit, 0, false⟩ (some 1) 0
    ∧ lit.target = .slot (unitOf .sfe true 0).slot t0 :=
  ⟨withSfe .free { Sfe.reset with
    state := .reading, readout := some { kind := .frame ⟨lit, 0, false⟩ (some 1) 0 } }, _, rfl, rfl, rfl, rfl, rfl, rfl,
    rfl, rfl, rfl, rfl⟩

theorem witness_PortUnits_stopped : ∃ (s : State) (q : Readout), s.sfe.readout = some q
    ∧ q.kind = .frame ⟨lit, 0, false⟩ (some 1) 0 ∧ lit.target = .slot (unitOf .sfe true 0).slot t0 ∧ q.dropped = true
    ∧ s.fst.port.serving = some (unitOf .sfe true 0) :=
  ⟨{ atPort { Port.reset with serving := some (unitOf .sfe true 0) } with
      sfe := { Sfe.reset with
        state := .reading, readout := some { kind := .frame ⟨lit, 0, false⟩ (some 1) 0, dropped := true } } },
    _, rfl, rfl, rfl, rfl, rfl⟩

/-- A lit request of PRC and a dark one of CRU held in ARMED, in each phase, at a fault of the lamp or of TRS. -/
theorem witness_ExposureCutShort_armed : ∀ p g i, (∃ s : State, s.sfe.exposing = none ∧ s.sfe.state = .armed
    ∧ s.sfe.held = some ⟨lit, 0, false⟩ ∧ lit.client ≠ .cru ∧ lit.lamp = .settled 4096 ∧ s.sfe.phase = p
    ∧ s.blu.grant = g ∧ s.trs.interlock = i ∧ (∀ f, s.blu.state ≠ .fault f)
    ∧ s.prc.expReq.map ExposureClient.prc = some lit.client)
    ∧ ∃ s : State, s.sfe.exposing = none ∧ s.sfe.state = .armed ∧ s.sfe.held = some ⟨dark, 0, false⟩
      ∧ dark.client = .cru ∧ s.cru.state ≠ .cancelling ∧ dark.lamp = .dark ∧ s.sfe.phase = p ∧ s.blu.grant = g
      ∧ (∀ f, s.blu.state ≠ .fault f) :=
  fun p g i => ⟨⟨armed p lit g i, rfl, rfl, rfl, by decide, rfl, rfl, rfl, rfl, fun _ => LampState.noConfusion, rfl⟩,
    ⟨armed p dark g i, rfl, rfl, rfl, rfl, CruState.noConfusion, rfl, rfl, rfl, fun _ => LampState.noConfusion⟩⟩

/-- A dark frame in progress at the release of the dark hold. -/
theorem witness_ExposureCutShort_dark : ∃ s : State, s.sfe.exposing = some ⟨dark, 0, false⟩ ∧ dark.client = .cru
    ∧ dark.lamp = .dark ∧ dark.target = .calwork 0 ∧ dark.stage = false ∧ s.cru.state ≠ .cancelling
    ∧ s.blu.state = .dark ∧ s.blu.remembered = none ∧ s.blu.pendingDrive = none :=
  ⟨{ withSfe .free { Sfe.reset with state := .exposing, exposing := some ⟨dark, 0, false⟩ } with
    blu := { Blu.reset with state := .dark, grant := some darkGrant } }, by decide⟩

/-- A lit exposure in progress at the 64th zero sample, at the settle timeout, and at the loss of the carrier. -/
theorem witness_ExposureCutShort_sameEvent :
    (∃ s : State, s.sfe.state = .exposing ∧ s.sfe.exposing = some ⟨lit, 0, false⟩ ∧ s.fst.slot 0 = some (.exposing t0)
      ∧ s.prc.expReq = some t0 ∧ s.trs.interlock = .granted ∧ s.trs.pendingMotion = none ∧ s.blu.state.lit = true
      ∧ s.blu.commanded ≠ 0 ∧ s.blu.zeroCount = 63 ∧ s.blu.settleTimer ≠ none)
    ∧ (∃ s : State, s.sfe.state = .exposing ∧ s.sfe.exposing = some ⟨lit, 0, false⟩ ∧ s.fst.slot 0 = some (.exposing t0)
      ∧ s.prc.expReq = some t0 ∧ s.trs.interlock = .granted ∧ s.trs.pendingMotion = none ∧ s.trs.state = .atRest
      ∧ s.trs.work = none ∧ s.trs.quiesce = false ∧ s.prc.active = some t0.job ∧ s.cru.state = .idle
      ∧ s.trs.heldLoad = none ∧ s.blu.ask = none ∧ s.blu.pendingDrive = none) :=
  ⟨⟨{ withSfe (.exposing t0) { Sfe.reset with state := .exposing, exposing := some ⟨lit, 0, false⟩ } with
      prc := { Prc.reset with expReq := some t0 }, trs := { Trs.reset true with interlock := .granted }
      blu := { Blu.reset with
        state := .settling, requested := 4096, commanded := 4096, zeroCount := 63, settleTimer := some 30000 } },
      by decide⟩,
    ⟨{ withSfe (.exposing t0) { Sfe.reset with state := .exposing, exposing := some ⟨lit, 0, false⟩ } with
      prc := { prcOf .running .capturing [] with expReq := some t0 }
      trs := { Trs.reset true with state := .atRest, interlock := .granted } }, by decide⟩⟩

/-- A lit exposure under the grants of its start, in which the dark hold comes. -/
theorem witness_ExposureCutShort_darkHold : ∃ s : State, s.sfe.state = .exposing ∧ s.sfe.exposing = some ⟨lit, 0, false⟩
    ∧ s.fst.slot 0 = some (.exposing t0) ∧ s.prc.expReq = some t0 ∧ s.trs.interlock = .granted
    ∧ s.trs.pendingMotion = none ∧ s.blu.state = .settled ∧ s.blu.grant = some litGrant ∧ s.blu.ask = none :=
  ⟨{ withSfe (.exposing t0) { Sfe.reset with state := .exposing, exposing := some ⟨lit, 0, false⟩ } with
      prc := { Prc.reset with expReq := some t0 }, trs := { Trs.reset true with state := .atRest, interlock := .granted }
      blu := { Blu.reset with state := .settled, requested := 4096, commanded := 4096, grant := some litGrant } }, by decide⟩

/-- A metering exposure whose readout runs, for each planner, at either count, with BPL at that attempt or not. -/
theorem witness_ExposureReadout_metering : ∀ p n work, ∃ (s : State) (q : Readout), s.sfe.quiesce = false
    ∧ s.sfe.readout = some q ∧ q.kind = .frame ⟨{ lit with client := .bpl p, target := .histogram }, n, false⟩ (some 1) 0
    ∧ q.dropped = false ∧ s.sfe.held = none ∧ s.sfe.mark = false ∧ s.liu.resetWork = none ∧ s.bpl.work = work :=
  fun p n work => ⟨{ withSfe .free { Sfe.reset with
      state := .reading
      readout := some { kind := .frame ⟨{ lit with client := .bpl p, target := .histogram }, n, false⟩ (some 1) 0 } } with
      bpl := { work := work } }, _, rfl, rfl, rfl, rfl, rfl, rfl, rfl, rfl⟩

/-- The end of a dark exposure, and a readout into a slot that is CALWORK and one that is not. -/
theorem witness_ExposureReadout_calibration :
    (∃ (s : State) (a : LampAsk), s.sfe.quiesce = false ∧ s.sfe.exposing = some ⟨dark, 0, false⟩ ∧ s.blu.grant = some a
      ∧ a.cond = .dark ∧ s.blu.deferred = false)
    ∧ (∃ (s : State) (q : Readout), s.sfe.readout = some q ∧ q.kind = .frame ⟨dark, 0, false⟩ none 0
        ∧ q.dropped = false ∧ q.noFrame = false ∧ s.sfe.mark = false ∧ s.sfe.held = none
        ∧ s.fst.port.waitSfe = none ∧ s.fst.slot 0 = some (.calwork .exposure) ∧ s.fst.memoryLaw)
    ∧ (∃ (s : State) (q : Readout), s.sfe.readout = some q ∧ q.kind = .frame ⟨dark, 0, false⟩ none 0
        ∧ s.fst.slot 0 = some .free)
    ∧ (∀ n, ∃ (s : State) (q : Readout), s.sfe.quiesce = false ∧ s.sfe.readout = some q
        ∧ q.kind = .frame ⟨dark, n, false⟩ none 0 ∧ q.dropped = false ∧ dark.target = .calwork 0 ∧ dark.client = .cru
        ∧ s.sfe.held = none ∧ s.sfe.mark = false ∧ s.fst.port.serving = some (unitOf .sfe true 0))
    ∧ (∀ r, ∃ (s : State) (q : Readout), s.sfe.quiesce = false ∧ s.sfe.readout = some q
        ∧ q.kind = .frame ⟨r, 0, false⟩ none 0 ∧ q.dropped = true ∧ s.sfe.held = none ∧ s.sfe.mark = false
        ∧ s.fst.port.serving = some (unitOf .sfe true 0)) :=
  ⟨⟨{ withSfe .free { Sfe.reset with state := .exposing, exposing := some ⟨dark, 0, false⟩ } with
      blu := { Blu.reset with state := .dark, grant := some { cond := .dark, time := 1 } } }, _, rfl, rfl, rfl, rfl, rfl⟩,
    ⟨withSfe (.calwork .exposure) { Sfe.reset with
      state := .reading, readout := some { kind := .frame ⟨dark, 0, false⟩ none 0 } }, _, rfl, rfl, rfl, rfl, rfl, rfl,
      rfl, rfl, reset_memoryLaw⟩,
    ⟨withSfe .free { Sfe.reset with
      state := .reading, readout := some { kind := .frame ⟨dark, 0, false⟩ none 0 } }, _, rfl, rfl, rfl⟩,
    fun n => ⟨{ atPort { Port.reset with serving := some (unitOf .sfe true 0) } with
      sfe := { Sfe.reset with state := .reading, readout := some { kind := .frame ⟨dark, n, false⟩ none 0 } } },
      _, rfl, rfl, rfl, rfl, rfl, rfl, rfl, rfl, rfl⟩,
    fun r => ⟨{ atPort { Port.reset with serving := some (unitOf .sfe true 0) } with
      sfe := { Sfe.reset with
        state := .reading, readout := some { kind := .frame ⟨r, 0, false⟩ none 0, dropped := true } } }, _, rfl, rfl, rfl, rfl, rfl, rfl, rfl⟩⟩

/-! ## The backlight unit -/

/-- The part with an active job and BLU as given. -/
def withBlu (b : Blu) : State := { withPrc (prcOf .running .capturing []) with blu := b }

/-- The lamp in a state at a requested drive. -/
def lampAt (st : LampState) (d : Nat) : Blu := { Blu.reset with state := st, requested := d, commanded := d }

theorem witness_LampDrive :
    (let s := withBlu Blu.reset
     s.blu.ask = none ∧ s.blu.quiesce = false ∧ s.prc.active ≠ none ∧ s.blu.deferred = false ∧ s.blu.state = .standby)
    ∧ (withBlu (lampAt .warming 1)).blu.requested ≠ 4096
    ∧ (withBlu (lampAt .settling 4096)).blu.requested = 4096
    ∧ (∃ s : State, s.blu.state = .settled ∧ s.blu.requested ≠ 1 ∧ s.blu.grant ≠ none)
    ∧ (let s := withBlu { lampAt .settled 4096 with commanded := 1024, throttle := true }
       s.blu.grant = none ∧ s.blu.capped 1024 = s.blu.commanded ∧ s.blu.capped 1023 ≠ s.blu.commanded)
    ∧ (withBlu (lampAt .dark 0)).blu.state = .dark ∧ (withBlu (lampAt (.fault .noLight) 0)).blu.state = .fault .noLight
    ∧ (∃ s : State, ∃ p, s.blu.state = .warming ∧ s.blu.history.head? = some p
        ∧ max 108 p.2 - min 108 p.2 ≤ s.liu.params.settleTolerance ∧ ¬ max 109 p.2 - min 109 p.2 ≤ s.liu.params.settleTolerance
        ∧ s.blu.settleCount + 1 < 64)
    ∧ (∃ s : State, s.blu.state = .settling ∧ 8 ≤ s.blu.settleCount + 1)
    ∧ (∃ s : State, s.blu.state.lit = true ∧ s.blu.commanded ≠ 0 ∧ s.blu.zeroCount = 63)
    ∧ (∃ s : State, s.blu.settleTimer ≠ none) ∧ (withBlu Blu.reset).blu.settleTimer = none
    ∧ (let s := withBlu (lampAt .settled 1025)
       ¬ (s.liu.params.lampLimit : Int) < 960 ∧ (s.liu.params.lampLimit : Int) < 961 ∧ s.blu.throttle = false
       ∧ s.blu.driveLaw ∧ 1024 < s.blu.requested ∧ s.blu.grant = none) :=
  ⟨by decide, by decide, by decide,
    ⟨withBlu { lampAt .settled 4096 with grant := some { cond := .settled 4096, time := 1 } }, by decide⟩,
    by decide, rfl, rfl, ⟨withBlu { lampAt .warming 4096 with history := [(10, 100)] }, (10, 100), by decide⟩,
    ⟨withBlu { lampAt .settling 4096 with settleCount := 7 }, by decide⟩,
    ⟨withBlu { lampAt .warming 1 with zeroCount := 63 }, by decide⟩,
    ⟨withBlu { lampAt .warming 1 with settleTimer := some 30000 }, by decide⟩, rfl,
    by decide, by decide, rfl, rfl, by decide, rfl⟩

/-- The throttle flag at a sample that sets it and at one that clears it, with the lamp in each state of Table 8.3. -/
theorem witness_LampDrive_throttle : ∀ st g flag, st = .warming ∨ st = .settling ∨ st = .settled → ∃ s : State,
    s.blu.ask = none ∧ s.blu.quiesce = false ∧ s.prc.active ≠ none ∧ s.blu.deferred = false ∧ s.blu.driveLaw
    ∧ s.blu.throttle = flag ∧ s.blu.state = st ∧ s.blu.grant = g ∧ 1024 < s.blu.requested
    ∧ ((s.liu.params.lampLimit : Int) < 961 ∧ ¬ (s.liu.params.lampLimit : Int) - s.liu.params.lampHyst ≤ 0) := by
  intro st g flag h
  refine ⟨withBlu { lampAt st 4096 with grant := g, throttle := flag, commanded := if flag then 1024 else 4096 }, rfl, rfl,
    Option.some_ne_none 1, rfl, ?_, rfl, rfl, rfl, (by decide : 1024 < 4096),
    show (on.liu.params.lampLimit : Int) < 961 ∧ ¬ (on.liu.params.lampLimit : Int) - on.liu.params.lampHyst ≤ 0 by decide⟩
  rcases h with rfl | rfl | rfl <;> cases flag <;> rfl

/-- A sample at each border: the 63rd zero, a SETTLED lamp whose lit time reaches 5 s, and the completing samples of a warm-up
and of a drive change, with an ask that they grant, one that they do not, and a standby put off. -/
theorem witness_LampDrive_samples :
    (let s := withBlu { lampAt .settled 4096 with zeroCount := 62 }
     s.blu.state.lit = true ∧ s.blu.commanded ≠ 0 ∧ s.blu.zeroCount < 63)
    ∧ (∀ l, ∃ s : State, s.blu.state = .settled ∧ s.blu.deferred = true ∧ s.blu.lit = l ∧ s.blu.grant = none
        ∧ s.blu.zeroCount < 63)
    ∧ 5000 ≤ 4999 + 1 ∧ ¬ 5000 ≤ 4998 + 1
    ∧ (∀ st n ask, ∃ (s : State) (p : Nat × Nat), s.blu.state = st ∧ s.blu.settleCount = n ∧ s.blu.history.head? = some p
        ∧ max 108 p.2 - min 108 p.2 ≤ s.liu.params.settleTolerance ∧ s.blu.zeroCount < 63 ∧ s.blu.ask = ask
        ∧ s.blu.requested = 4096 ∧ s.blu.deferred = true ∧ s.blu.lit = 4999 ∧ s.blu.grant = none)
    ∧ litGrant.cond = .settled 4096 ∧ darkGrant.cond ≠ .settled 4096 ∧ 64 ≤ 63 + 1 ∧ 62 + 1 < 64 ∧ 8 ≤ 7 + 1 :=
  ⟨by decide, fun l => ⟨withBlu { lampAt .settled 4096 with deferred := true, lit := l }, rfl, rfl, rfl, rfl, (by decide : 0 < 63)⟩,
    by decide, by decide,
    fun st n ask => ⟨withBlu { lampAt st 4096 with
      settleCount := n, history := [(10, 100)], ask := ask, deferred := true, lit := 4999 }, (10, 100), rfl, rfl, rfl,
      (by decide : max 108 100 - min 108 100 ≤ on.liu.params.settleTolerance), (by decide : 0 < 63), rfl, rfl, rfl, rfl, rfl⟩,
    by decide⟩

/-- A lit grant with a drive that waits behind it, of each kind that the end of the grant tells apart. -/
theorem witness_LampReady_pending :
    (∀ q x, ∃ (s : State) (a : LampAsk), s.blu.grant = some a ∧ a.cond = .settled 4096 ∧ s.blu.state = .settled
      ∧ s.blu.deferred = false ∧ s.blu.pendingDrive = some x ∧ s.blu.quiesce = q ∧ s.blu.requested = 4096
      ∧ s.blu.throttle = true ∧ s.blu.commanded = 1024)
    ∧ (let b : Blu := { lampAt .settled 4096 with commanded := 1024, throttle := true }
       b.capped 1025 = b.commanded ∧ b.capped 1023 ≠ b.commanded) :=
  ⟨fun q x => ⟨withBlu { lampAt .settled 4096 with
      commanded := 1024, throttle := true, grant := some litGrant, pendingDrive := some x, quiesce := q }, litGrant, rfl,
      rfl, rfl, rfl, rfl, rfl, rfl, rfl, rfl⟩, by decide⟩

theorem witness_LampReady :
    (let s := withBlu (lampAt .settled 4096); s.blu.grant = none ∧ s.blu.state = .settled ∧ s.blu.requested = 4096)
    ∧ (withBlu (lampAt .dark 0)).blu.state = .dark
    ∧ (let s := withBlu (lampAt .settled 4096); (∀ f, s.blu.state ≠ .fault f) ∧ s.blu.requested ≠ 4095)
    ∧ (withBlu (lampAt (.fault .unstable) 0)).blu.state = .fault .unstable
    ∧ (∃ (s : State) (a : LampAsk), s.blu.grant = some a ∧ a.cond = .settled 4096 ∧ s.blu.state = .settled
        ∧ s.blu.deferred = false ∧ s.blu.pendingDrive = none ∧ s.blu.driveChanged = true)
    ∧ (∃ h : List (Nat × Nat), (h.filter fun p => decide (20 < p.1 + 10 ∧ p.1 ≤ 20)).map (·.2) = [7])
    ∧ (∃ h : List (Nat × Nat), (h.filter fun p => decide (20 < p.1 + 10 ∧ p.1 ≤ 20)).map (·.2) = []
        ∧ h.find? (fun p => decide (p.1 + 10 ≤ 20)) = some (10, 7))
    ∧ (let s := withBlu Blu.reset
       s.blu.ask = none ∧ s.blu.grant = none ∧ s.blu.state ≠ .dark ∧ ∀ f, s.blu.state ≠ .fault f)
    ∧ (let s := withBlu (lampAt .dark 0); s.blu.remembered = none ∧ s.blu.pendingDrive = none)
    ∧ (∃ s : State, s.blu.state = .dark ∧ s.blu.remembered = none ∧ s.blu.pendingDrive = some 4096)
    ∧ (∃ s : State, s.blu.idleTimer = some 120 ∧ s.blu.state = .settled ∧ s.blu.lit = 5000 ∧ s.blu.grant = none)
    ∧ (∃ s : State, s.blu.deferred = true ∧ s.blu.idleTimer = none ∧ s.blu.state = .settled ∧ s.blu.lit = 4999) := by
  refine ⟨by decide, rfl, ⟨fun f => LampState.noConfusion, by decide⟩, rfl,
    ⟨withBlu { lampAt .settled 4096 with
      commanded := 1024, driveChanged := true, grant := some { cond := .settled 4096, time := 1 } }, _, rfl, rfl, rfl, rfl,
      rfl, rfl⟩, ⟨[(20, 7), (10, 5)], by decide⟩, ⟨[(10, 7)], by decide⟩,
    ⟨rfl, rfl, by decide, fun f => LampState.noConfusion⟩, by decide,
    ⟨withBlu { lampAt .dark 0 with pendingDrive := some 4096 }, by decide⟩,
    ⟨withBlu { lampAt .settled 4096 with lit := 5000 }, by decide⟩,
    ⟨withBlu { lampAt .settled 4096 with lit := 4999, idleTimer := none, deferred := true }, by decide⟩⟩

/-- The dark hold in FAULT, over a lit grant, with a lit and with a dark ask waiting, and taken a second time; and its
release with a remembered fault, and outside DARK. -/
theorem witness_LampReady_dark :
    (∃ s : State, s.blu.state = .fault .unstable ∧ s.blu.grant = none ∧ s.blu.ask = none)
    ∧ (∃ s : State, (∀ f, s.blu.state ≠ .fault f) ∧ s.blu.state ≠ .dark ∧ s.blu.grant ≠ none ∧ s.blu.ask = none)
    ∧ (∀ a, ∃ s : State, s.blu.state ≠ .dark ∧ (∀ f, s.blu.state ≠ .fault f) ∧ s.blu.grant = none ∧ s.blu.ask = some a)
    ∧ litGrant.cond ≠ .dark ∧ (withBlu (lampAt .dark 0)).blu.state = .dark
    ∧ (∃ s : State, s.blu.state = .dark ∧ s.blu.remembered = some .unstable ∧ s.blu.pendingDrive = some 1
        ∧ s.sfe.exposing = none)
    ∧ (withBlu (lampAt .settled 1)).blu.state ≠ .dark :=
  ⟨⟨withBlu (lampAt (.fault .unstable) 0), by decide⟩,
    ⟨withBlu { lampAt .settled 4096 with grant := some litGrant }, fun _ => LampState.noConfusion, by decide⟩,
    fun a => ⟨withBlu { lampAt .settling 4096 with ask := some a }, LampState.noConfusion, fun _ => LampState.noConfusion,
      rfl, rfl⟩, by decide, rfl,
    ⟨withBlu { lampAt .dark 0 with remembered := some .unstable, pendingDrive := some 1 }, by decide⟩, by decide⟩

/-! ## The transport -/

/-- The part with TRS as given. -/
def withTrs (t : Trs) : State := { on with trs := t }

/-- TRS with a carrier from position 19 on the stage. -/
def trsAt (st : TrsState) : Trs :=
  { Trs.reset true with
    state := st, homed := true, stage := .carrier 19, magazine := (Vector.replicate 20 .vacant).setIfInBounds 19 .out }

theorem witness_TransportMotions :
    (∃ s : State, s.trs.quiesce = false ∧ 19 < 20 ∧ s.trs.state = .empty ∧ s.trs.magazine[19]? = some .vacant)
    ∧ (∃ s : State, s.trs.state = .empty ∧ s.trs.magazine[19]? ≠ some .vacant)
    ∧ (∃ s : State, s.trs.state = .loading ∧ s.trs.work = some (.load .prc 19) ∧ s.trs.interlock = .none)
    ∧ (let s := withTrs (trsAt .atRest); s.trs.state = .atRest ∧ s.trs.pendingMotion = none ∧ s.trs.interlock = .none)
    ∧ (∃ s : State, s.trs.state = .atRest ∧ s.trs.pendingMotion = none ∧ s.trs.interlock = .granted)
    ∧ on.trs.state ≠ .atRest
    ∧ (∃ s : State, s.trs.state = .moving ∧ s.trs.work = some (.move .prc (.point 350 262))
        ∧ s.liu.params.settleMs ≠ 0)
    ∧ (∃ s : State, s.trs.state = .moving ∧ s.trs.work = some (.move .cru .aperture) ∧ s.liu.params.settleMs = 0
        ∧ s.trs.interlock = .none)
    ∧ (∃ s : State, s.trs.state = .settling ∧ s.trs.work = some (.move .prc .aperture) ∧ s.trs.pendingMotion = none
        ∧ s.trs.interlock = .none)
    ∧ (∃ s : State, s.trs.state = .settling ∧ s.trs.work = some (.move .prc .aperture) ∧ s.trs.pendingMotion = none
        ∧ s.trs.interlock = .asked)
    ∧ (let s := withTrs (trsAt (.fault .timeout)); s.trs.stage = .carrier 19 ∧ s.trs.state = .fault .timeout)
    ∧ (∃ s : State, s.trs.stage = .carrier 19 ∧ s.trs.state = .unloading ∧ s.trs.work = some (.unload .cru)
        ∧ s.trs.interlock = .none)
    ∧ (withTrs (trsAt .moving)).trs.state = .moving ∧ on.trs.state = .unhomed
    ∧ (∃ s : State, s.trs.interlock = .granted ∧ s.trs.pendingMotion = some (.move .prc .aperture)) :=
  ⟨⟨withTrs { trsAt .empty with magazine := Vector.replicate 20 .vacant }, by decide⟩,
    ⟨withTrs { trsAt .empty with magazine := Vector.replicate 20 .unknown }, by decide⟩,
    ⟨withTrs { trsAt .loading with work := some (.load .prc 19) }, by decide⟩, by decide,
    ⟨withTrs { trsAt .atRest with interlock := .granted }, by decide⟩, by decide,
    ⟨withTrs { trsAt .moving with work := some (.move .prc (.point 350 262)) }, by decide⟩,
    ⟨{ withTrs { trsAt .moving with work := some (.move .cru .aperture) } with
      liu := { on.liu with params := { settleMs := 0 } } }, by decide⟩,
    ⟨withTrs { trsAt .settling with work := some (.move .prc .aperture) }, by decide⟩,
    ⟨withTrs { trsAt .settling with work := some (.move .prc .aperture), interlock := .asked }, by decide⟩, by decide,
    ⟨withTrs { trsAt .unloading with work := some (.unload .cru) }, by decide⟩, rfl, rfl,
    ⟨withTrs { trsAt .atRest with interlock := .granted, pendingMotion := some (.move .prc .aperture) }, by decide⟩⟩

/-- TRS AT_REST with a motion pending, by the interlock and the motion. -/
theorem witness_TransportMotions_pending : ∀ i w, ∃ s : State, s.trs.quiesce = false ∧ s.trs.state = .atRest
    ∧ s.trs.pendingMotion = some w ∧ s.trs.interlock = i :=
  fun i w => ⟨withTrs { trsAt .atRest with interlock := i, pendingMotion := some w }, rfl, rfl, rfl, rfl⟩

/-- A load in progress for either sender, and a FAULT of TRS with no carrier on its record. -/
theorem witness_TransportMotions_noCarrier : ∀ c : TrsClient,
    (∃ s : State, s.trs.quiesce = false ∧ s.trs.state = .loading ∧ s.trs.work = some (.load c 19)
      ∧ s.trs.interlock = .none)
    ∧ (∃ s : State, s.trs.quiesce = false ∧ s.trs.state = .fault .lostCarrier ∧ ∀ p, s.trs.stage ≠ .carrier p) :=
  fun c => ⟨⟨withTrs { trsAt .loading with work := some (.load c 19) }, rfl, rfl, rfl, rfl⟩,
    ⟨withTrs { trsAt (.fault .lostCarrier) with stage := .none }, rfl, rfl, fun p h => by cases h⟩⟩

/-- HOME over an interlock ask or grant, and a leg of HOME whose timer runs, with a load of CRU held and without. -/
theorem witness_HomeAndFaults_legs :
    (∀ i, ∃ s : State, s.takes hdr ∧ s.cru.flatRunning = false ∧ s.trs.state = .atRest ∧ s.trs.stage = .carrier 19
      ∧ s.prc.run = .idle ∧ s.prc.active = none ∧ s.sfe.exposing = none ∧ s.trs.interlock = i)
    ∧ (∀ l held, ∃ s : State, s.trs.interlock = .none ∧ s.trs.quiesce = false ∧ s.trs.motionTimer = some 20000
        ∧ s.trs.work = none ∧ s.trs.state = .homing l ∧ s.cru.flatRunning = false ∧ s.trs.heldLoad = held)
    ∧ (let scanned := [(0, true), (1, false), (1, false)]
       (1, false) ∈ scanned ∧ (∀ b, (1, b) ∈ scanned → b = false) ∧ ∀ b, (19, b) ∉ scanned) :=
  ⟨fun i => ⟨withTrs { trsAt .atRest with interlock := i }, ⟨rfl, rfl, rfl⟩, rfl, rfl, rfl, rfl, rfl, rfl, rfl⟩,
    fun l held => ⟨withTrs { trsAt (.homing l) with motionTimer := some 20000, heldLoad := held }, rfl, rfl, rfl, rfl, rfl,
      rfl, rfl⟩, by decide⟩

theorem witness_HomeAndFaults :
    (on.takes hdr ∧ on.trs.interlock = .none ∧ on.trs.quiesce = false ∧ on.cru.flatRunning = false
      ∧ on.trs.state = .unhomed ∧ on.trs.stage = .none ∧ on.prc.run = .idle ∧ on.prc.active = none)
    ∧ (withTrs (trsAt .moving)).trs.state = .moving
    ∧ (let s := two .running .capturing .pending .pending; s.trs.state = .unhomed ∧ s.prc.run = .running)
    ∧ (withTrs (trsAt (.fault .timeout))).trs.stage = .carrier 19
    ∧ (let s := withTrs (trsAt (.homing .unload)); s.trs.state = .homing .unload ∧ s.trs.stage = .carrier 19)
    ∧ (withTrs (trsAt (.homing .axis))).trs.state = .homing .axis
    ∧ (∃ s : State, s.trs.state = .homing .scan ∧ s.trs.stage = .none ∧ s.trs.heldLoad = none)
    ∧ (∃ s : State, s.trs.state = .homing .scan ∧ s.trs.stage = .unknownCarrier ∧ s.trs.heldLoad = none
        ∧ s.cru.flatRunning = false)
    ∧ on.trs.motionTimer = none
    ∧ (∃ s : State, s.trs.motionTimer = some 20000 ∧ s.trs.work = some (.move .cru .aperture) ∧ s.trs.state = .moving)
    ∧ (∃ s : State, s.trs.motionTimer = some 20000 ∧ s.trs.work = some (.load .prc 0) ∧ s.trs.state = .loading) :=
  ⟨⟨on_takes, by decide⟩, rfl, by decide, rfl, by decide, rfl,
    ⟨withTrs { trsAt (.homing .scan) with stage := .none }, by decide⟩,
    ⟨withTrs { trsAt (.homing .scan) with stage := .unknownCarrier }, by decide⟩, rfl,
    ⟨withTrs { trsAt .moving with motionTimer := some 20000, work := some (.move .cru .aperture) }, by decide⟩,
    ⟨withTrs { trsAt .loading with motionTimer := some 20000, work := some (.load .prc 0), stage := .none }, by decide⟩⟩

/-- HOME with an active job, from a HELD run, with no tile EXPOSING and with one. -/
theorem witness_HomeAndFaults_active : ∀ a, ∃ (s : State) (j : Job), s.takes hdr ∧ s.trs.interlock = .none
    ∧ s.trs.quiesce = false ∧ s.cru.flatRunning = false ∧ s.trs.state = .fault .timeout ∧ s.prc.run = .held .transport
    ∧ s.prc.tableLaw ∧ s.prc.countLaw ∧ s.prc.activeJob? = some j ∧ j.state = .capturing
    ∧ j.tiles = [tileOf 0 a, tileOf 1 .pending] :=
  fun a => ⟨{ two (.held .transport) .capturing a .pending with trs := trsAt (.fault .timeout) },
    jobOf .capturing [tileOf 0 a, tileOf 1 .pending], ⟨rfl, rfl, rfl⟩, rfl, rfl, rfl, rfl, rfl,
    prcOf_table _ _ _, prcOf_count _ _ _ _, rfl, rfl, rfl⟩

/-- The same with the carrier known on the stage, and with none, and a request outstanding. -/
theorem witness_HomeAndFaults_activeStage : ∀ a g q, ∃ (s : State) (j : Job), s.takes hdr ∧ s.trs.interlock = .none
    ∧ s.trs.quiesce = false ∧ s.cru.flatRunning = false ∧ s.trs.state = .fault .timeout ∧ s.prc.run = .held .transport
    ∧ s.prc.tableLaw ∧ s.prc.countLaw ∧ s.prc.activeJob? = some j ∧ j.state = .capturing
    ∧ j.tiles = [tileOf 0 a, tileOf 1 .metering] ∧ s.trs.stage = g ∧ s.prc.planReq = q :=
  fun a g q => ⟨{ withPrc { prcOf (.held .transport) .capturing [tileOf 0 a, tileOf 1 .metering] with planReq := q } with
      trs := { trsAt (.fault .timeout) with stage := g } },
    jobOf .capturing [tileOf 0 a, tileOf 1 .metering], ⟨rfl, rfl, rfl⟩, rfl, rfl, rfl, rfl, rfl,
    prcOf_table (.held .transport) .capturing _, prcOf_count (.held .transport) .capturing _ _, rfl, rfl, rfl, rfl, rfl⟩

theorem witness_CarrierLostOrCleared :
    (let s := withTrs (trsAt .settling); s.trs.quiesce = false ∧ s.trs.state = .settling ∧ s.trs.stage = .carrier 19)
    ∧ (on.trs.state ≠ .atRest ∧ on.trs.state ≠ .moving ∧ on.trs.state ≠ .settling)
    ∧ (∃ s : State, s.takes hdr ∧ s.cru.flatRunning = true)
    ∧ (on.takes hdr ∧ on.cru.flatRunning = false ∧ ∀ f, on.trs.state ≠ .fault f)
    ∧ (let s := withTrs (trsAt (.fault .orphan))
       s.takes hdr ∧ s.cru.flatRunning = false ∧ s.trs.state = .fault .orphan) :=
  ⟨by decide, by decide, ⟨flatIn .flatMeter none flatWork 0 false, ⟨rfl, rfl, rfl⟩, rfl⟩,
    ⟨on_takes, rfl, fun f => TrsState.noConfusion⟩, ⟨rfl, rfl, rfl⟩, by decide⟩

/-! ## The merge -/

/-- The context of a tile of one exposure, with references in slots 40 to 42. -/
def ctx : MergeCtx :=
  { exposures := [⟨10, 4096, 0⟩], dest := some 1, bias := some 40, rate := some 41, flat := some 42, lClear := 423190
    encoding := .density16, view := .glassSide, satCode := 15800, rounding := .nearestUp, weights := defaultWeights }

/-- BME with the tile at a band. -/
def mergingAt (st : BmeState) (band : Nat) (dest : Option Nat) : State :=
  { withSlots [(0, .raw t0), (1, .dest t0), (40, .ref .bias), (41, .ref .rate), (42, .ref (.flat 0))] with
    prc := prcOf .running .capturing [tileOf 0 .merging, tileOf 1 .pending]
    bme := { Bme.reset with state := st, merge := some ⟨t0, { ctx with dest := dest }, band, {}⟩ } }

theorem witness_MergeRuns :
    (∃ s : State, ∃ j x, s.bme.quiesce = false ∧ s.prc.run ≠ .quiescing ∧ s.cru.state ≠ .waiting ∧ s.fst.wait = none
      ∧ s.bme.state = .idle ∧ s.bme.queue = [t0] ∧ s.fst.slot 1 = some (.reserved t0)
      ∧ (∀ i, s.fst.slot i = some (.reserved t0) → i = 1) ∧ s.prc.job? t0.job = some j ∧ s.prc.tile? t0 = some x
      ∧ x.state = .exposed)
    ∧ on.bme.queue = []
    ∧ (let s := mergingAt .merging 58 (some 1)
       s.bme.state = .merging ∧ s.fst.slot 1 = some (.dest t0) ∧ s.fst.memoryLaw ∧ 58 < 59)
    ∧ (let s := mergingAt .merging 59 (some 1)
       s.bme.queue = [] ∧ s.sou.credits = 0 ∧ s.prc.tile? t0 = some (tileOf 0 .merging))
    ∧ (let s := mergingAt .abandoning 0 none
       s.bme.state = .abandoning ∧ s.bme.merge.isSome = true ∧ s.bme.queue = [] ∧ t0 ∉ s.bme.queue)
    ∧ (∃ s : State, t0 ∈ s.bme.queue) := by
  refine ⟨⟨{ withSlots [(0, .raw t0), (1, .reserved t0)] with
      prc := prcOf .running .capturing [tileOf 0 .exposed], bme := { Bme.reset with queue := [t0] } }, _, _, rfl,
      by decide, by decide, rfl, rfl, rfl, rfl, ?_, rfl, rfl, rfl⟩, rfl, ⟨rfl, rfl, reset_memoryLaw, by decide⟩,
    by decide, by decide, ⟨{ on with bme := { Bme.reset with queue := [t0] } }, by decide⟩⟩
  have all : ∀ i, i < 48 → (withSlots [(0, .raw t0), (1, .reserved t0)]).fst.slot i = some (.reserved t0) → i = 1 := by
    decide
  intro i hi
  by_cases h : i < 48
  · exact all i h hi
  · rw [Fst.slot, Vector.getElem?_eq_none (by omega)] at hi; cases hi

/-- The port lets BME read every slot of the context, and not one whose exposure slot is FREE. -/
theorem witness_MergeRuns_readable :
    (∀ st band dest, let s := mergingAt st band dest
      (∀ i, ctx.bias = some i ∨ ctx.rate = some i ∨ ctx.flat = some i → ∃ n, s.fst.slot i = some (.ref n))
      ∧ (∀ e ∈ ctx.exposures, ∃ v, s.fst.slot e.slot = some (.raw v)) ∧ s.fst.slot 1 = some (.dest t0)
      ∧ s.fst.memoryLaw ∧ s.bme.queue = [] ∧ s.cru.state ≠ .waiting ∧ s.fst.wait = none)
    ∧ (let s := mergingAt .abandoning 59 (some 1); s.bme.state = .abandoning ∧ 59 < 60)
    ∧ (∃ s : State, s.bme.state = .merging ∧ s.fst.slot 1 = some (.dest t0) ∧ ∃ e ∈ ctx.exposures,
        s.fst.slot e.slot = some .free)
    ∧ (∃ s : State, ∃ j x, s.prc.job? t0.job = some j ∧ s.prc.tile? t0 = some x ∧ j.state = .failed
        ∧ x.state = .abandoned)
    ∧ (∃ s : State, s.prc.job? t0.job = none) := by
  refine ⟨fun st band dest => ⟨?_, ?_, rfl, reset_memoryLaw, rfl, CruState.noConfusion, rfl⟩, by decide,
    ⟨{ mergingAt .merging 0 (some 1) with fst := (withSlots [(1, .dest t0)]).fst }, rfl, rfl, _, List.mem_singleton.2 rfl,
      rfl⟩, ⟨two .running .failed .abandoned .sent, _, _, rfl, rfl, rfl, rfl⟩, ⟨on, rfl⟩⟩
  · intro i h
    simp only [ctx, Option.some.injEq] at h
    rcases h with rfl | rfl | rfl
    · exact ⟨_, rfl⟩
    · exact ⟨_, rfl⟩
    · exact ⟨_, rfl⟩
  · intro e he
    rw [List.mem_singleton.1 he]; exact ⟨_, rfl⟩

/-- The end of a merge and of an abandoned one, and the abandonment of a queued tile, while a tile waits in the merge
queue, an admission and CRU wait for slots, and credits are left. -/
theorem witness_MergeRuns_waiting :
    (∀ st, st = .merging ∨ st = .abandoning → ∃ (s : State) (w : MergeWork), s.bme.quiesce = false
      ∧ s.prc.run ≠ .quiescing ∧ s.bme.state = st ∧ s.bme.merge = some w ∧ w.tile = t0 ∧ w.ctx.dest = some 1
      ∧ s.fst.slot 1 = some (.dest t0) ∧ s.fst.memoryLaw ∧ w.band = 59 ∧ s.fst.quiesce = false
      ∧ s.fst.wait = some (⟨1, 1⟩, 6) ∧ s.cru.state = .waiting ∧ s.bme.queue = [⟨1, 1⟩] ∧ s.sou.credits = 2 ∧ ∃ t,
        exec .bandCompletion { s.unwaited with bme := { s.bme with queue := [] }, sou := { s.sou with credits := 0 } }
          = .next t ∧ t.inFlight = [])
    ∧ (∃ s : State, s.bme.quiesce = false ∧ t0 ∈ s.bme.queue ∧ s.fst.quiesce = false ∧ s.fst.wait = some (⟨1, 1⟩, 6)
      ∧ s.cru.state = .waiting ∧ ∃ t, exec (.bmeAbandon t0) s.unwaited = .next t ∧ t.inFlight = []) := by
  constructor
  · rintro st (rfl | rfl)
    · let s := { waiting (mergingAt .merging 59 (some 1)) with
        bme := { (mergingAt .merging 59 (some 1)).bme with queue := [⟨1, 1⟩] }, sou := { Sou.reset with credits := 2 } }
      exact ⟨s, _, rfl, by decide, rfl, rfl, rfl, rfl, rfl, reset_memoryLaw, rfl, rfl, rfl, rfl, rfl, rfl, _, rfl, by decide⟩
    · let s := { waiting (mergingAt .abandoning 59 (some 1)) with
        bme := { (mergingAt .abandoning 59 (some 1)).bme with queue := [⟨1, 1⟩] }, sou := { Sou.reset with credits := 2 } }
      exact ⟨s, _, rfl, by decide, rfl, rfl, rfl, rfl, rfl, reset_memoryLaw, rfl, rfl, rfl, rfl, rfl, rfl, _, rfl, by decide⟩
  · exact ⟨waiting { on with bme := { Bme.reset with queue := [t0] } }, rfl, by decide, rfl, rfl, rfl, _, rfl, by decide⟩

/-- REF slots of the dark references, sums that fit, the edges of a mean that fits, and a FREE slot. -/
theorem witness_BandsArePixelwise_ranges :
    (∃ (f : Fst) (d : DarkEntry), d.biasSlot = some 40 ∧ d.rateSlot = some 41 ∧ f.slot 40 = some (.ref .bias)
      ∧ f.slot 41 = some (.ref .rate))
    ∧ (4294950911 + 16383 < 4294967296) ∧ (1048567 + 8) / 16 < 65536 ∧ ¬ (1048568 + 8) / 16 < 65536
    ∧ Fst.reset.slot 47 = some .free :=
  ⟨⟨(withSlots [(40, .ref .bias), (41, .ref .rate)]).fst, { biasSlot := some 40, rateSlot := some 41 }, by decide⟩,
    by decide, by decide, by decide, by decide⟩

theorem witness_BandsArePixelwise :
    (State.reset.fst.memoryLaw ∧ ctx.bias = some 40 ∧ ctx.rate = some 41 ∧ ctx.flat = some 42
      ∧ ∀ e ∈ ctx.exposures, e.slot < 48)
    ∧ (let f := (darkIn .darkBias 0 false).fst
       f.memoryLaw ∧ [0, 1, 2, 4, 3].Nodup ∧ (∀ k ∈ [0, 1, 2, 4, 3], f.isCalwork k = true)
       ∧ ∃ d : DarkEntry, d.biasSlot = some 40 ∧ d.rateSlot = some 41) :=
  ⟨⟨reset_memoryLaw, by decide⟩, reset_memoryLaw, by decide, by decide, { biasSlot := some 40, rateSlot := some 41 },
    rfl, rfl⟩

/-- The four slots of a flat calibration, with its exposure slot and its result as the third that an operation uses, and the
dark references beside them in REF slots. -/
theorem witness_BandsArePixelwise_flat :
    (let f := (flatIn .flatFrames none flatWork 0 false).fst
     f.memoryLaw ∧ [0, 1, 2].Nodup ∧ (∀ k ∈ [0, 1, 2], f.isCalwork k = true) ∧ [0, 1, 3].Nodup
       ∧ (∀ k ∈ [0, 1, 3], f.isCalwork k = true))
    ∧ (let f := (withSlots [(0, .calwork .workLow), (1, .calwork .workHigh), (2, .calwork .exposure),
         (40, .ref .bias), (41, .ref .rate)]).fst
       f.memoryLaw ∧ (∀ k ∈ [0, 1, 2], f.isCalwork k = true) ∧ f.slot 40 = some (.ref .bias) ∧ f.slot 41 = some (.ref .rate)) :=
  ⟨⟨reset_memoryLaw, by decide⟩, reset_memoryLaw, by decide⟩

/-- The ends of the range of the linear value. -/
theorem witness_LogValueRises : (2 ^ 31 ≤ 4294967295 ∧ 4294967295 < 2 ^ 32) ∧ (1 ≤ 1 ∧ 1 ≤ 4294967295) := by decide

/-- A pixel with every code at the limit, one with none of weight, and one resolved. -/
theorem witness_PixelArithmetic : let r : PixelRef := { bias := 512, rate := 0, gain := 16384 }
    (mergePixel ctx r [15800]).clippedBright = true ∧ (mergePixel ctx r [255]).clippedDense = true
      ∧ (mergePixel ctx r [256]).resolved = true := by decide +kernel

theorem witness_CalibrationWork :
    (on.bme.state = .idle ∧ on.bme.queue = [] ∧ on.bme.quiesce = false)
    ∧ (mergingAt .merging 0 none).bme.state ≠ .idle
    ∧ (∃ s : State, s.bme.state = .calReady ∧ s.bme.cal = some { low := 0, high := 1 } ∧ s.bme.quiesce = false
        ∧ s.bme.queue = [] ∧ s.cru.state ≠ .waiting)
    ∧ (∃ (s : State) (w : CalWork), s.bme.state = .calBusy ∧ s.bme.merge = none ∧ s.bme.cal = some w
        ∧ w.op = some .clear ∧ w.released = false ∧ s.bme.quiesce = false ∧ w.band = 58)
    ∧ (∃ (s : State) (w : CalWork), s.bme.state = .calBusy ∧ s.bme.cal = some w ∧ w.op = some (.biasFinish 3)
        ∧ w.band = 59)
    ∧ (∃ (s : State) (w : CalWork), s.bme.state = .calBusy ∧ s.bme.cal = some w ∧ w.released = true
        ∧ s.bme.merge = none ∧ s.bme.queue = [] ∧ s.cru.state ≠ .waiting) :=
  ⟨by decide, by decide, ⟨{ on with bme := { Bme.reset with state := .calReady, cal := some { low := 0, high := 1 } } },
      by decide⟩,
    ⟨{ on with bme := { Bme.reset with
      state := .calBusy, cal := some { low := 0, high := 1, op := some .clear, band := 58 } } }, _, rfl, rfl, rfl, rfl,
      rfl, rfl, rfl⟩,
    ⟨{ on with bme := { Bme.reset with
      state := .calBusy, cal := some { low := 0, high := 1, op := some (.biasFinish 3), band := 59 } } }, _, rfl, rfl,
      rfl, rfl⟩,
    ⟨{ on with bme := { Bme.reset with state := .calBusy, cal := some { low := 0, high := 1, released := true } } }, _,
      rfl, rfl, rfl, rfl, rfl, by decide⟩⟩

/-- The release of calibration work with a tile in the merge queue and CRU WAITING. -/
theorem witness_CalibrationWork_waiting : ∀ c, c = .calRelease ∨ c = .bandCompletion → ∃ s : State,
    (c = .calRelease ∧ s.bme.state = .calReady ∨ c = .bandCompletion ∧ s.bme.quiesce = false
      ∧ s.bme.state = .calBusy ∧ ∃ w, s.bme.cal = some w ∧ w.released = true)
    ∧ s.bme.queue = [t0] ∧ s.cru.state = .waiting ∧ ∃ t, exec c
      { s with bme := { s.bme with queue := [] }, cru := { s.cru with state := .idle } } = .next t ∧ t.inFlight = [] := by
  rintro c (rfl | rfl)
  · exact ⟨waiting { on with bme := { Bme.reset with
      state := .calReady, queue := [t0], cal := some { low := 0, high := 1 } } }, .inl ⟨rfl, rfl⟩, rfl, rfl, _, rfl,
      by decide⟩
  · exact ⟨waiting { on with bme := { Bme.reset with
      state := .calBusy, queue := [t0], cal := some { low := 0, high := 1, released := true } } },
      .inr ⟨rfl, rfl, rfl, _, rfl, rfl⟩, rfl, rfl, _, rfl, by decide⟩

/-! ## Stripes, reset and link -/

/-- SOU with a tile at its head, slot 0 in a state. -/
def atOutput (x : SlotState) (st : TileState) (q : Sou) : State :=
  { withSlots [(0, x)] with prc := prcOf .running .capturing [tileOf 0 st, tileOf 1 .pending], sou := q }

/-- A header of a stripe. -/
def headerOf (index : Nat) : StripeHeader :=
  { job := 1, row := 0, outCol := 0, seq := 0, index := index, encoding := .density16, cols := 2, rows := 1
    last := decide (index = 59), restart := false, view := .glassSide, flags := {} }

theorem witness_StripesGoOut :
    (let s := atOutput (.merged t0) .merged { Sou.reset with queue := [⟨t0, 0⟩], credits := 1 }
     s.sou.quiesce = false ∧ s.prc.run ≠ .quiescing ∧ s.sou.transfer = none ∧ 0 < s.sou.credits
     ∧ s.liu.attached = true ∧ s.prc.job? t0.job = some (jobOf .capturing [tileOf 0 .merged, tileOf 1 .pending])
     ∧ s.prc.tile? t0 = some (tileOf 0 .merged) ∧ s.sou.started = false ∧ s.fst.slot 0 = some (.merged t0))
    ∧ (∃ s : State, s.sou.queue = [⟨t0, 0⟩] ∧ s.sou.started = true ∧ s.sou.index = 59 ∧ s.sou.transfer = none)
    ∧ on.sou.queue = []
    ∧ (∃ s : State, s.sou.queue = [⟨t0, 0⟩] ∧ s.sou.transfer = some (headerOf 58) ∧ s.sou.dropHead = false
        ∧ s.sou.credits = 0 ∧ (headerOf 58).index ≠ 59)
    ∧ (let s := atOutput .streaming .sending { Sou.reset with
         queue := [⟨t0, 0⟩], started := true, index := 59, transfer := some (headerOf 59) }
       let j := jobOf .capturing [tileOf 0 .sending, tileOf 1 .pending]
       (headerOf 59).index = 59 ∧ s.prc.tableLaw ∧ s.prc.job? t0.job = some j ∧ s.prc.tile? t0 = some (tileOf 0 .sending)
       ∧ j.countLaw ∧ j.state = .capturing ∧ s.fst.slot 0 = some .streaming ∧ s.fst.wait = none ∧ s.cru.state ≠ .waiting)
    ∧ (∃ s : State, ∃ h, s.sou.queue = [⟨t0, 0⟩, ⟨⟨1, 1⟩, 1⟩] ∧ t0 ≠ ⟨1, 1⟩ ∧ s.sou.started = true
        ∧ s.sou.transfer = some h ∧ s.fst.slot 1 = some (.merged ⟨1, 1⟩)) :=
  ⟨by decide, ⟨atOutput .streaming .sending { Sou.reset with queue := [⟨t0, 0⟩], started := true, index := 59 }, by decide⟩,
    rfl, ⟨atOutput .streaming .sending { Sou.reset with
      queue := [⟨t0, 0⟩], started := true, index := 58, transfer := some (headerOf 58) }, by decide⟩,
    ⟨rfl, prcOf_table .running .capturing _, rfl, rfl, jobOf_count .capturing .sending .pending, rfl, rfl, rfl,
      by decide⟩,
    ⟨{ withSlots [(0, .streaming), (1, .merged ⟨1, 1⟩)] with sou := { Sou.reset with
        queue := [⟨t0, 0⟩, ⟨⟨1, 1⟩, 1⟩], started := true, transfer := some (headerOf 0) } }, _, rfl, by decide, rfl, rfl,
      rfl⟩⟩

/-- The head of the output queue abandoned without a stripe in transfer, begun and not begun. -/
theorem witness_StripesGoOut_head :
    (∃ s : State, s.sou.queue = [⟨t0, 0⟩] ∧ s.sou.transfer = none ∧ s.sou.credits = 0 ∧ s.fst.wait = none
      ∧ s.cru.state ≠ .waiting ∧ s.sou.started = true ∧ s.fst.slot 0 = some .streaming)
    ∧ (∃ s : State, s.sou.queue = [⟨t0, 0⟩] ∧ s.sou.transfer = none ∧ s.fst.wait = none ∧ s.cru.state ≠ .waiting
      ∧ s.sou.started = false ∧ s.fst.slot 0 = some (.merged t0)) :=
  ⟨⟨atOutput .streaming .sending { Sou.reset with queue := [⟨t0, 0⟩], started := true, index := 7 }, by decide⟩,
    ⟨atOutput (.merged t0) .merged { Sou.reset with queue := [⟨t0, 0⟩] }, by decide⟩⟩

/-- A stripe in transfer of a tile abandoned while SENDING, alone in the queue and before another. -/
theorem witness_StripesGoOut_drop : ∀ rest, ∃ s : State, s.sou.quiesce = false ∧ s.prc.run ≠ .quiescing
    ∧ s.sou.queue = ⟨t0, 0⟩ :: rest ∧ s.sou.transfer = some (headerOf 7) ∧ s.sou.dropHead = true ∧ s.sou.credits = 0
    ∧ s.fst.slot 0 = some .streaming ∧ s.fst.wait = none ∧ s.cru.state ≠ .waiting :=
  fun rest => ⟨atOutput .streaming .abandoned { Sou.reset with
      queue := ⟨t0, 0⟩ :: rest, started := true, index := 7, transfer := some (headerOf 7), dropHead := true },
    rfl, RunState.noConfusion, rfl, rfl, rfl, rfl, rfl, rfl, CruState.noConfusion⟩

/-- The last stripe of the last tile of a DRAINING job, and a stripe of a slot that is not STREAMING. -/
theorem witness_StripesGoOut_draining :
    (∃ (s : State) (j : Job), s.sou.quiesce = false ∧ s.prc.run ≠ .quiescing ∧ s.sou.queue = [⟨t0, 0⟩]
      ∧ s.sou.transfer = some (headerOf 59) ∧ s.sou.dropHead = false ∧ s.sou.credits = 0 ∧ s.prc.tableLaw
      ∧ s.prc.job? t0.job = some j ∧ s.prc.tile? t0 = some (tileOf 0 .sending) ∧ j.countLaw ∧ j.state = .draining
      ∧ j.sent + 1 + j.abandoned + j.masked = j.cols * j.rows ∧ s.fst.slot 0 = some .streaming ∧ s.fst.wait = none
      ∧ s.cru.state ≠ .waiting)
    ∧ (∃ s : State, s.sou.queue = [⟨t0, 0⟩] ∧ s.sou.transfer = some (headerOf 58) ∧ s.fst.slot 0 = some .free) :=
  ⟨⟨{ atOutput .streaming .sending { Sou.reset with
        queue := [⟨t0, 0⟩], started := true, index := 59, transfer := some (headerOf 59) } with
      prc := prcOf .running .draining [tileOf 0 .sending, tileOf 1 .abandoned] },
      jobOf .draining [tileOf 0 .sending, tileOf 1 .abandoned], rfl, by decide, rfl, rfl, rfl, rfl, prcOf_table _ _ _, rfl,
      rfl, jobOf_count _ _ _, rfl, by decide, rfl, rfl, by decide⟩,
    ⟨atOutput .free .sending { Sou.reset with queue := [⟨t0, 0⟩], transfer := some (headerOf 58) }, by decide⟩⟩

/-- A stripe's end with one credit left, before the last stripe and at it; and what leaves no STRIPE_START on its way. -/
theorem witness_StripesGoOut_next : ∀ n, ∃ s : State, s.sou.quiesce = false ∧ s.prc.run ≠ .quiescing
    ∧ s.sou.queue = [⟨t0, 0⟩] ∧ s.sou.transfer = some (headerOf n) ∧ s.sou.dropHead = false ∧ 0 < s.sou.credits
    ∧ s.liu.attached = true ∧ s.sou.started = true
    ∧ s.prc.job? t0.job = some (jobOf .capturing [tileOf 0 .sending, tileOf 1 .pending])
    ∧ s.prc.tile? t0 = some (tileOf 0 .sending) ∧ (n ≠ 59 → ∃ u,
      exec .stripeEnd { s with sou := { s.sou with credits := 0 } } = .next u ∧ .stripeStart ∉ u.inFlight) :=
  fun n => ⟨atOutput .streaming .sending { Sou.reset with
      queue := [⟨t0, 0⟩], started := true, index := n, credits := 1, transfer := some (headerOf n) }, rfl,
    RunState.noConfusion, rfl, rfl, rfl, Nat.one_pos, rfl, rfl, rfl, rfl, fun h => ⟨_, rfl, by
      simp [State.stripeTaken, atOutput, withSlots, on, State.reset, Sou.reset, headerOf, h, State.tryStripe,
        State.stripeReady]⟩⟩

/-- What frees a slot at the output while an admission and CRU wait: the last stripe's end, that of a tile abandoned
meanwhile, and abandonments of the head and of a tile behind it. -/
theorem witness_StripesGoOut_waiting :
    (∀ d n, d = true ∨ n = 59 → ∃ (s : State) (h : StripeHeader), s.sou.quiesce = false ∧ s.prc.run ≠ .quiescing
      ∧ s.sou.queue = [⟨t0, 0⟩] ∧ s.fst.slot 0 = some .streaming ∧ s.sou.transfer = some h ∧ s.sou.dropHead = d
      ∧ h.index = n ∧ s.fst.quiesce = false ∧ s.fst.wait = some (⟨1, 1⟩, 6) ∧ s.cru.state = .waiting)
    ∧ (∀ b, ∃ s : State, s.sou.queue = [⟨t0, 0⟩] ∧ s.sou.started = b ∧ s.sou.transfer = none
      ∧ s.fst.slot 0 = some (if b then .streaming else .merged t0) ∧ s.fst.wait = some (⟨1, 1⟩, 6) ∧ ∃ t,
        exec (.souAbandon t0) { s.unwaited with sou := { s.sou with credits := 0 } } = .next t
        ∧ ∀ d ∈ s.fst.asksAgain ++ [.calworkGrant, .stripeStart], d ∉ t.inFlight)
    ∧ (∃ s : State, s.sou.queue = [⟨t0, 0⟩, ⟨⟨1, 1⟩, 1⟩] ∧ (⟨1, 1⟩ : TileRef) ≠ t0
      ∧ s.fst.slot 1 = some (.merged ⟨1, 1⟩) ∧ s.fst.quiesce = false ∧ s.fst.wait = some (⟨1, 1⟩, 6)) := by
  refine ⟨fun d n _ => ⟨waiting (atOutput .streaming .sending { Sou.reset with
      queue := [⟨t0, 0⟩], started := true, dropHead := d, transfer := some (headerOf n) }), _, rfl, RunState.noConfusion,
      rfl, rfl, rfl, rfl, rfl, rfl, rfl, rfl⟩, ?_,
    ⟨waiting { withSlots [(0, .streaming), (1, .merged ⟨1, 1⟩)] with sou := { Sou.reset with
        queue := [⟨t0, 0⟩, ⟨⟨1, 1⟩, 1⟩], started := true } }, rfl, by decide, rfl, rfl, rfl⟩⟩
  rintro (_ | _)
  · exact ⟨waiting (atOutput (.merged t0) .merged { Sou.reset with queue := [⟨t0, 0⟩] }), rfl, rfl, rfl, rfl, rfl, _, rfl,
      by decide⟩
  · exact ⟨waiting (atOutput .streaming .sending { Sou.reset with queue := [⟨t0, 0⟩], started := true }), rfl, rfl, rfl,
      rfl, rfl, _, rfl, by decide⟩

/-- None of the commands that follow a stripe's end, or a detach, in its event is on its way after it. -/
theorem witness_StripesGoOut_waitingEnd : ∀ d n, (d = false ∧ n = 59) ∨ (d = true ∧ n = 7) →
    let s := waiting (atOutput .streaming .sending { Sou.reset with
      queue := [⟨t0, 0⟩], started := true, dropHead := d, transfer := some (headerOf n) })
    (∃ t, exec .stripeEnd { s.unwaited with sou := { s.sou with credits := 0 } } = .next t ∧ t.inFlight = [])
    ∧ ∃ t, exec .detach s.unwaited = .next t ∧ t.inFlight = [] := by
  rintro d n (⟨rfl, rfl⟩ | ⟨rfl, rfl⟩) <;> exact ⟨⟨_, rfl, by decide⟩, _, rfl, by decide⟩

/-- The counter filled to 1024 exactly, and one past it. -/
theorem witness_GrantStripes :
    (∃ s : State, s.liu.attached = true ∧ hdr.fits = true ∧ s.sou.creditLaw ∧ s.liu.resetWork = none
      ∧ .stripeStart ∉ s.inFlight ∧ s.sou.credits + 1 ≤ 1024 ∧ 1024 < s.sou.credits + 2)
    ∧ (1 ≤ 1 ∧ 1024 ≤ 1024 ∧ 1024 < 1025) ∧ on.sou.queue = [] ∧ resetting.liu.resetWork.isSome = true :=
  ⟨⟨{ on with sou := { Sou.reset with credits := 1023 } }, rfl, rfl, by unfold Sou.creditLaw; decide, rfl, by decide,
    by decide⟩, by decide, rfl, rfl⟩

theorem witness_ResetHandshake : on.takes hdr ∧ on.liu.resetWork = none
    ∧ (∃ w, resetting.liu.resetWork = some w ∧ .sfe ∈ w.waiting ∧ ∃ a ∈ w.waiting, a ≠ .sfe) :=
  ⟨on_takes, rfl, _, rfl, by decide⟩

/-- The blocks at RESET, in each state that a clause names. -/
theorem witness_ResetHandshake_atReset :
    (∀ x, ∃ s : State, s.takes hdr ∧ s.sfe.state = x) ∧ (∃ s : State, s.takes hdr ∧ s.sfe.exposing = some ⟨lit, 0, false⟩)
    ∧ (∀ x, ∃ s : State, s.takes hdr ∧ s.trs.state = x) ∧ (∀ x, ∃ s : State, s.takes hdr ∧ s.bme.state = x)
    ∧ on.bpl.work = none ∧ on.sou.transfer = none :=
  ⟨fun x => ⟨{ on with sfe := { Sfe.reset with state := x } }, ⟨rfl, rfl, rfl⟩, rfl⟩,
    ⟨{ on with sfe := { Sfe.reset with state := .exposing, exposing := some ⟨lit, 0, false⟩ } }, ⟨rfl, rfl, rfl⟩, rfl⟩,
    fun x => ⟨{ on with trs := { Trs.reset true with state := x } }, ⟨rfl, rfl, rfl⟩, rfl⟩,
    fun x => ⟨{ on with bme := { Bme.reset with state := x } }, ⟨rfl, rfl, rfl⟩, rfl⟩, rfl, rfl⟩

theorem resetting_work : resetting.liu.resetWork ≠ none := by decide

/-- SFE under the quiesce mark, flushing and reading out. -/
theorem witness_ResetHandshake_sensor : ∀ k, k = .flush 0 ∨ k = .frame ⟨lit, 0, false⟩ (some 1) 0 → ∃ s : State,
    s.liu.resetWork ≠ none ∧ s.sfe.quiesce = true ∧ s.sfe.held = none ∧ s.sfe.readout = some { kind := k } :=
  fun k _ => ⟨{ resetting with sfe := { Sfe.reset with quiesce := true, state := .reading, readout := some { kind := k } } },
    resetting_work, rfl, rfl, rfl⟩

/-- TRS under the quiesce mark, in each leg. -/
theorem witness_ResetHandshake_transport : ∀ st w, ∃ s : State, s.liu.resetWork ≠ none ∧ s.trs.quiesce = true
    ∧ s.trs.state = st ∧ s.trs.work = w ∧ s.trs.interlock = .none ∧ s.trs.stage = .carrier 19
    ∧ s.trs.motionTimer = some 20000 :=
  fun st w => ⟨{ resetting with trs := { trsAt st with quiesce := true, work := w, motionTimer := some 20000 } },
    resetting_work, rfl, rfl, rfl, rfl, rfl, rfl⟩

/-- TRS under the quiesce mark in the leg of a move, with a settle time of 0 and another. -/
theorem witness_ResetHandshake_move : ∀ c g n, ∃ s : State, s.liu.resetWork ≠ none ∧ s.trs.quiesce = true
    ∧ s.trs.state = .moving ∧ s.trs.work = some (.move c g) ∧ s.trs.interlock = .none ∧ s.liu.params.settleMs = n :=
  fun c g n => ⟨{ resetting with
      liu := { resetting.liu with params := { resetting.liu.params with settleMs := n } }
      trs := { trsAt .moving with quiesce := true, work := some (.move c g) } }, resetting_work, rfl, rfl, rfl, rfl, rfl⟩

/-- TRS under the quiesce mark in the scan leg of HOME, and BME with a band of a merge that the port lets it read. -/
theorem witness_ResetHandshake_legs :
    (∃ s : State, s.liu.resetWork ≠ none ∧ s.trs.quiesce = true ∧ s.trs.state = .homing .scan ∧ s.trs.stage = .none
      ∧ s.trs.heldLoad = none)
    ∧ (∀ st, ∃ s : State, s.liu.resetWork ≠ none ∧ s.bme.quiesce = true ∧ s.bme.state = st
      ∧ s.bme.merge = some ⟨t0, { ctx with dest := some 1 }, 59, {}⟩ ∧ s.fst.slot 1 = some (.dest t0) ∧ s.fst.memoryLaw
      ∧ s.fst.mergeReadable ctx) :=
  ⟨⟨{ resetting with trs := { trsAt (.homing .scan) with quiesce := true, stage := .none } }, by decide⟩,
    fun st => ⟨{ mergingAt st 59 (some 1) with
        liu := resetting.liu, bme := { (mergingAt st 59 (some 1)).bme with quiesce := true } },
      resetting_work, rfl, rfl, rfl, rfl, reset_memoryLaw, (witness_MergeRuns_readable.1 st 59 (some 1)).1,
      (witness_MergeRuns_readable.1 st 59 (some 1)).2.1⟩⟩

/-- BME under the quiesce mark with a band in progress, BPL with a metering, and SOU with a stripe. -/
theorem witness_ResetHandshake_others :
    (∃ s : State, s.liu.resetWork ≠ none ∧ s.bme.quiesce = true ∧ s.bme.queue = [⟨1, 1⟩] ∧ s.bme.state = .merging
      ∧ s.bme.merge ≠ none)
    ∧ (∃ s : State, s.liu.resetWork ≠ none ∧ s.bme.quiesce = true ∧ s.bme.state = .calBusy ∧ s.bme.cal ≠ none)
    ∧ (∃ (s : State) (w : Metering), s.liu.resetWork ≠ none ∧ s.bpl.work = some w ∧ w.planner = .prc t0)
    ∧ (∃ s : State, s.liu.resetWork ≠ none ∧ s.sou.quiesce = true ∧ s.sou.queue = [⟨t0, 0⟩]
        ∧ s.sou.transfer = some (headerOf 0) ∧ s.sou.dropHead = false ∧ (headerOf 0).index ≠ 59) :=
  ⟨⟨{ resetting with bme := { Bme.reset with
        quiesce := true, state := .merging, queue := [⟨1, 1⟩], merge := some ⟨t0, ctx, 3, {}⟩ } }, by decide⟩,
    ⟨{ resetting with bme := { Bme.reset with quiesce := true, state := .calBusy, cal := some { low := 0, high := 1 } } },
      by decide⟩,
    ⟨{ resetting with bpl := (metering 1 10 4096 20).bpl }, _, by decide, rfl, rfl⟩,
    ⟨{ resetting with sou := { Sou.reset with
        quiesce := true, queue := [⟨t0, 0⟩], started := true, transfer := some (headerOf 0) } }, by decide⟩⟩

/-- The last acknowledgement of a full reset; the timer's expiry of a soft one that TRS has acknowledged, and of one
that it has not. -/
theorem witness_ResetApplied :
    (∃ (s : State) (w : ResetWork), s.liu.resetWork = some w ∧ w.waiting = [.sfe] ∧ w.kind = .full)
    ∧ (∃ (s : State) (w : ResetWork), s.liu.resetWork = some w ∧ w.kind = .soft ∧ Block.trs ∉ w.waiting)
    ∧ (∃ w : ResetWork, resetting.liu.resetWork = some w ∧ w.kind = .soft ∧ Block.trs ∈ w.waiting) :=
  ⟨⟨{ on with liu := { on.liu with resetWork := some { kind := .full, tag := 0, waiting := [.sfe] } } }, _, rfl, rfl, rfl⟩,
    ⟨{ on with liu := { on.liu with resetWork := some { kind := .soft, tag := 0, waiting := [.sfe] } } }, _, rfl, rfl,
      by decide⟩, _, rfl, rfl, by decide⟩

/-- A HOME that has stopped after a leg under a soft reset that TRS has acknowledged, and a TRS forced in a load. -/
theorem witness_ResetApplied_stage : ∀ l, (∃ (s : State) (w : ResetWork), s.liu.resetWork = some w ∧ w.waiting = [.sfe]
      ∧ w.kind = .soft ∧ Block.trs ∉ w.waiting ∧ s.trs.state = .homingStopped l)
    ∧ ∃ (s : State) (w : ResetWork), s.liu.resetWork = some w ∧ w.kind = .soft ∧ Block.trs ∈ w.waiting
      ∧ s.trs.stage = .none ∧ s.trs.work = some (.load .prc 19) :=
  fun l => ⟨⟨{ on with
      liu := { on.liu with resetWork := some { kind := .soft, tag := 0, waiting := [.sfe] } }
      trs := trsAt (.homingStopped l) }, _, rfl, rfl, rfl, by decide, rfl⟩,
    ⟨{ resetting with trs := { trsAt .loading with stage := .none, work := some (.load .prc 19) } }, _, rfl, rfl,
      by decide, rfl, rfl⟩⟩

theorem witness_PowerAndLink : on.sou.credits = 0 ∧ State.reset.liu.attached = false ∧ .stripeStart ∉ on.inFlight
    ∧ (on.liu.attached = true ∧ on.sou.transfer = none) := by decide

/-- A detach with a stripe in transfer, in a run of any state, of a tile that goes on and of one that waits only for the
stripe's end; in a reset and in none; and while an admission and CRU wait. -/
theorem witness_PowerAndLink_transfer : ∀ r d w, ∃ s : State, s.liu.attached = true ∧ s.prc.run = r
    ∧ s.sou.transfer ≠ none ∧ s.sou.dropHead = d ∧ s.sou.queue = [⟨t0, 0⟩] ∧ s.fst.slot 0 = some .streaming
    ∧ s.liu.resetWork = w ∧ s.sou.quiesce = w.isSome ∧ s.fst.wait = none ∧ s.cru.state ≠ .waiting
    ∧ (waiting s).fst.wait = some (⟨1, 1⟩, 6) ∧ (waiting s).fst.quiesce = false :=
  fun r d w =>
    let s := atOutput .streaming .sending { Sou.reset with
      queue := [⟨t0, 0⟩], started := true, index := 21, credits := 3, transfer := some (headerOf 21), dropHead := d
      quiesce := w.isSome }
    ⟨{ s with prc := { s.prc with run := r }, liu := { s.liu with resetWork := w } }, rfl, rfl, Option.some_ne_none _, rfl,
      rfl, rfl, rfl, rfl, rfl, CruState.noConfusion, rfl, rfl⟩

/-- The worked sequence of section 10.8 (Table 10.7): a detach in mid-stripe of a RUNNING run, with the credits gone, the
restart mark set and stripe 21 still the next; the RUN_STATE notices of the hold are the only ones queued. -/
theorem test_detachInStripe :
    let s := atOutput .streaming .sending { Sou.reset with
      queue := [⟨t0, 0⟩], started := true, index := 21, credits := 3, transfer := some (headerOf 21) }
    ∃ t, exec .detach { s with liu := { s.liu with notices := [.runState .running none none] } } = .next t
      ∧ (t.sou.credits, t.sou.index, t.sou.restart, t.sou.transfer) = (0, 21, true, none)
      ∧ t.liu.notices = [.runState .holding (some 1) none, .runState (.held .link) (some 1) none] := ⟨_, rfl, by decide⟩

/-! ## Well-formedness: one ill-formed command for each check, which the check refuses -/

theorem test_illFormed_refused : ([
    Instr.planCompletion t0 [] 0 {}, .planCompletion t0 [⟨0, 1⟩] 0 {}, .planCompletion t0 [⟨80001, 1⟩] 0 {},
    .planCompletion t0 [⟨1, 0⟩] 0 {}, .planCompletion t0 [⟨1, 4097⟩] 0 {}, .planCompletion t0 [⟨1, 1⟩] 5 {},
    .admissionGrant t0 [0], .admissionGrant t0 [0, 48], .exposureEnd t0 0, .exposureEnd t0 4097,
    .exposureCompletion ⟨t0, 1, 1, 1, 0, 48, false, true⟩, .planRequest (.cru 4 1), .planWithdraw (.cru 0 0),
    .attemptCompletion (.prc t0) 5 1, .admissionRequest t0 0, .admissionRequest t0 7,
    .slotChange 48 .rawToFree t0, .calworkRequest (.flat 4), .calCommit [(48, .bias)], .calCommit [(0, .flat 4)],
    .calworkReturn [48], .portUnitRequest ⟨.sfe, true, 48, 0, []⟩, .portUnitRequest ⟨.sfe, true, 0, 3840, []⟩,
    .portUnitRequest ⟨.sfe, true, 0, 0, [(1, 16384)]⟩].map wellFormed).all (fun b => !b) = true := by decide

theorem test_illFormed_refused_station : ([
    Instr.exposureRequest ⟨.cru, 0, .histogram, .dark, false⟩, .exposureRequest ⟨.cru, 1, .calwork 48, .dark, false⟩,
    .exposureRequest ⟨.cru, 1, .histogram, .settled 0, true⟩, .exposureRequest ⟨.cru, 1, .histogram, .dark, true⟩,
    .exposureWithdraw (.bpl (.cru 4 1)), .exposureTimerExpiry 10, .readoutCompletion [(19660799, 0)],
    .readoutCompletion [(19660800, 16384)], .lightRequest 0, .lightRequest 4097, .lampReadyAsk .dark 0,
    .lampReadyAsk (.settled 0) 1, .lampReadyRelease 10, .loadRequest .prc 20, .motionTimeout true [(20, true)],
    .calWorkRequest 0 0, .calWorkRequest 0 48, .accumulateRequest 48 .raw, .accumulateRequest 0 (.darkCorrected 0),
    .biasFinish 48, .rateFinish 0 0 0, .rateFinish 1 48 0, .flatMean 48, .flatGain 0 16384 0, .flatGain 0 0 4294967296,
    .calWorkAccepted true 0 48, .calFrameComplete 0 (some 0), .biasFinishComplete 16384, .flatPlanCompletion ⟨0, 1⟩ {},
    .flatMeanComplete 16384, .flatGainComplete 19660801 0].map wellFormed).all (fun b => !b) = true := by decide

theorem test_wellFormed_accepted : ([
    Instr.planCompletion t0 [⟨80000, 4096⟩] 4 {}, .admissionGrant t0 [46, 47], .slotChange 47 .rawToFree t0,
    .readoutCompletion [(19660800, 16383)], .exposureRequest lit, .loadRequest .prc 19, .calWorkRequest 0 47].map
      wellFormed).all id = true := by decide

/-! ## Worked examples of the spec -/

/-- Section 1.13: the submission of job 301. -/
def sub301 : Submission :=
  { jobId := 301, position := 4, view := 1, width := 1778, height := 1270, overlap := 40, profile := 1, policy := 0
    encoding := 0, shift := 0, rush := 0, dSpan := 12288, mask := 0xFFFFFFFFFFFFFFFB, plan := [], label := [66, 111, 120] }

/-- Table 10.4: the first 26 bytes of that submission, field by field. -/
theorem test_submission_bytes : (encodeSubmission sub301).take 26
    = [0x2D, 0x01, 4, 1, 0xF2, 0x06, 0xF6, 0x04, 40, 1, 0, 0, 0, 0, 0x00, 0x30,
       0xFB, 0xFF, 0xFF, 0xFF, 0xFF, 0xFF, 0xFF, 0xFF, 0, 3] := by decide

/-- Table 1.2: three grids. -/
theorem test_grids : (gridCols 1778 40, gridRows 1270 40, gridX0 1778 40 3, gridY0 1270 40 3) = (3, 3, -121, -113)
    ∧ (gridCols 826 40, gridRows 1080 40, gridX0 826 40 2, gridY0 1080 40 3) = (2, 3, -267, -208)
    ∧ (gridCols 4000 100, gridRows 4000 100, gridRows 4000 28) = (7, 10, 8) := by decide

/-- Table 1.7: column, mask index, centre and mask of the nine tiles. -/
theorem test_tileList : (newTiles sub301 3 3).map (fun t => (t.col, t.maskIndex, t.cx, t.cy, decide (t.state = .masked)))
    = [(0, 0, 229, 149, false), (1, 1, 889, 149, false), (2, 2, 1549, 149, true), (2, 10, 1549, 634, false),
       (1, 9, 889, 634, false), (0, 8, 229, 634, false), (0, 16, 229, 1119, false), (1, 17, 889, 1119, false),
       (2, 18, 1549, 1119, false)] := by decide

/-- Section 1.13: the submission is answered OK with cols 3, rows 3 and 8 unmasked tiles, and queued. -/
theorem test_submitJob : ∃ t, exec (.submitJob hdr (encodeSubmission sub301)) { on with prc := { Prc.reset with
      run := .holding } } = .next t ∧ t.prc.queue = [301]
    ∧ t.liu.replies = [{ tag := 7, status := .ok, kind := .submitJob, body := .accepted 3 3 8 }] :=
  ⟨_, rfl, by decide, by decide⟩

/-- Section 3.8: the copies of the worked planning case. -/
def copies301 : PlanCopies :=
  { meterTime := 10, topCode := 12000, hiPpm := 500, stepRatio := .r8, satCode := 15800, dSpan := 12288, b0 := 198 }

/-- Section 3.8.2: 1,200 pixels in bins 61 to 63, 9,104 from bin 39, 11,412 from bin 38. -/
theorem test_evaluate : evaluate copies301 ((((Vector.replicate 64 0).setIfInBounds 61 1200).setIfInBounds 39
    7904).setIfInBounds 38 2308) = .metered 9856 := by decide

/-- Tables 3.6 and 3.9: E1 and the plans, with no flags. -/
theorem test_plans : planValue copies301 (.metered 9856) 40880 = 49955
    ∧ bracketPlan (.prc t0) false copies301 49955
      = [⟨12, 4096⟩, ⟨98, 4096⟩, ⟨781, 4096⟩, ⟨6244, 4096⟩, ⟨49955, 4096⟩]
    ∧ planValue copies301 (.metered 14464) 4090 = 3383
    ∧ bracketPlan (.prc t0) false copies301 3383 = [⟨1, 3383⟩, ⟨7, 4096⟩, ⟨53, 4096⟩, ⟨423, 4096⟩, ⟨3383, 4096⟩]
    ∧ bracketFlags (.prc t0) false copies301 (.metered 14464) 3383 = {} := by decide

/-- Table 3.10 and section 8.11: entries realised under the throttle, and the deviation of exposures 3 and 4. -/
theorem test_realise : realise true ⟨53, 4096⟩ = ⟨212, 1024⟩ ∧ realise true ⟨423, 4096⟩ = ⟨1692, 1024⟩
    ∧ realise true ⟨3383, 4096⟩ = ⟨13532, 1024⟩ ∧ realise true ⟨49955, 4096⟩ = ⟨80000, 1024⟩
    ∧ realiseCapped true ⟨49955, 4096⟩ = true ∧ realise true ⟨1, 1000⟩ = ⟨1, 1000⟩
    ∧ lampDeviates 1021 1024 = false ∧ lampDeviates 2501 4096 = true := by decide

/-- Table 3.8: attempt 2 follows an overexposed attempt at 10 xu. -/
theorem test_nextAttempt : nextAttempt .overexposed ⟨10, 4096⟩ = ⟨1, 4096⟩
    ∧ nextAttempt .underexposed ⟨80000, 300⟩ = ⟨80000, 4096⟩ := by decide

/-- Section 4.3: the entries of the log table, L(Y) and L(Y_clear). -/
theorem test_logTable : logEntry 137 = 936 ∧ logEntry 1504 = 8902 ∧ logEntry 0 = 0 ∧ logEntry 4095 = 19725
    ∧ logValue 33865 = 296856 ∧ logValue 2867200 = 423190 := by decide +kernel

/-- The context of the worked pixel (section 4.3). -/
def ctx43 (enc : Encoding) : MergeCtx :=
  { ctx with exposures := [⟨20, 4096, 0⟩, ⟨160, 4080, 1⟩, ⟨1280, 4090, 2⟩], encoding := enc }

/-- Table 4.7 and section 4.3: the worked pixel, in both encodings. -/
theorem test_workedPixel :
    (mergePixel (ctx43 .density16) { bias := 200, rate := 40, gain := 16900 } [15950, 1340, 10480]).code = 7896
    ∧ (mergePixel (ctx43 (.linear16 0)) { bias := 200, rate := 40, gain := 16900 } [15950, 1340, 10480]).code = 33865
    ∧ (mergePixel (ctx43 (.linear16 4)) { bias := 200, rate := 40, gain := 16900 } [15950, 1340, 10480]).code = 2117 := by
  decide +kernel

/-- Table 4.8: the three neighbours. -/
theorem test_neighbours : let r : PixelRef := { bias := 200, rate := 40, gain := 16900 }
    let a := mergePixel (ctx43 .density16) r [16383, 16383, 16383]
    let b := mergePixel (ctx43 .density16) r [210, 230, 250]
    let c := mergePixel (ctx43 .density16) { r with bias := 260 } [15900, 215, 260]
    (a.code, a.clippedBright) = (0, true) ∧ (b.code, b.clippedDense) = (65535, true)
      ∧ (c.code, c.denseLimit, c.clippedBright) = (65534, true, false) := by decide +kernel

/-- Table 5.3: the sixteenth rate frame commits a reference temperature of 563 and B0 of 198, with slots 3 and 4. -/
theorem test_darkCommit : ∃ t, exec .rateFinishComplete { darkIn .darkRate 16 false with cru :=
      { (darkIn .darkRate 16 false).cru with tempSum := 18000, newB0 := 198 } } = .next t
    ∧ t.cru.dark = { biasSlot := some 3, rateSlot := some 4, b0 := 198, temp := 563, valid := true }
    ∧ t.fst.slot 2 = some .free ∧ t.fst.slot 3 = some (.ref .bias) := ⟨_, rfl, by decide, by decide, by decide⟩

/-- Section 5.8: the clear intensity from a mean of 11,025 and an intensity sum of 64,515 at 16 xu. -/
theorem test_clearIntensity : clearIntensity 11025 (16 * ((64515 + 8) / 16)) = 2867200 := by decide

/-- Section 8.11: the mean of 300 samples of a sum of 1,227,000 and 324 samples of a sum of 333,720. -/
theorem test_measuredIntensity : measuredIntensity ((List.range 624).map fun i =>
      (6240 - 10 * i, if i < 324 then 1030 else 4090)) 6244 6244 0 = 2501 := by decide +kernel

/-- Table 8.4: a panel sample of 961 during a grant caps the panel at once and marks the drive changed. -/
theorem test_throttle : ∃ t, exec (.panelTempSample 961) (withBlu { lampAt .settled 4096 with
      grant := some { cond := .settled 4096, time := 6244 } }) = .next t
    ∧ (t.blu.state, t.blu.requested, t.blu.commanded, t.blu.throttle, t.blu.driveChanged)
      = (.settled, 4096, 1024, true, true) := ⟨_, rfl, by decide⟩

/-- Table 4.4: q 12 and 13 at a tie, and q 12 beside it. -/
theorem test_ties : linearRounded .nearestUp 25 33554432 = 13 ∧ linearRounded .nearestEven 25 33554432 = 12
    ∧ linearRounded .nearestUp 27 33554432 = 14 ∧ linearRounded .nearestEven 27 33554432 = 14
    ∧ linearRounded .nearestEven 3 4026532 = 12 ∧ linearRounded .nearestEven 3 4026531 = 13 := by decide

/-- Table 10.5: the 32 bytes of a header: job 301, output column 2, the last stripe. -/
theorem test_stripeHeader : stripeHeaderBytes { headerOf 59 with job := 301, outCol := 2, cols := 3, rows := 3, view := .emulsionSide }
    = [0x2D, 0x01, 0, 2, 0, 59, 0xC0, 0x0E, 64, 0, 0, 0, 3, 3, 1, 1, 0, 0, 0x00, 0x00, 0x0A, 0x00]
      ++ List.replicate 10 0 := by decide

end Sys2Proof.Tests
end

section
/-! PROOFS. The operations that leave the job table: beside the `_frame` lemmas of Laws/, those that change other
fields of PRC. -/

namespace Sys2Proof.Machine

/-! ## The run and its requests -/

@[simp] theorem State.goHeld_jobs (s : State) (c : HoldCause) : (s.goHeld c).prc.jobs = s.prc.jobs := by
  unfold State.goHeld; (repeat' split) <;> simp

@[simp] theorem State.tryHoldPoint_jobs (s : State) : s.tryHoldPoint.prc.jobs = s.prc.jobs := by
  unfold State.tryHoldPoint; split <;> simp

@[simp] theorem State.idleCheck_jobs (s : State) : s.idleCheck.prc.jobs = s.prc.jobs := by
  unfold State.idleCheck; split <;> simp

@[simp] theorem State.issueUnload_jobs (s : State) (k : TrsRequest) : (s.issueUnload k).prc.jobs = s.prc.jobs := by
  simp [State.issueUnload]

@[simp] theorem State.askUnload_jobs (s : State) (k : TrsRequest) : (s.askUnload k).prc.jobs = s.prc.jobs := by
  unfold State.askUnload; split <;> simp

@[simp] theorem State.askRecovery_jobs (s : State) (id : Nat) : (s.askRecovery id).prc.jobs = s.prc.jobs := by
  simp [State.askRecovery]

@[simp] theorem State.askMove_jobs (s : State) (x : Tile) (k : TrsRequest) :
    (s.askMove x k).prc.jobs = s.prc.jobs := by simp [State.askMove]

@[simp] theorem State.bringBack_jobs (s : State) (t : TileRef) : (s.bringBack t).prc.jobs = s.prc.jobs := by
  unfold State.bringBack; split <;> simp

@[simp] theorem State.issuePlan_jobs (s : State) (t : TileRef) : (s.issuePlan t).prc.jobs = s.prc.jobs := by
  unfold State.issuePlan; split <;> simp

@[simp] theorem State.askAdmission_jobs (s : State) (t : TileRef) (n : Nat) :
    (s.askAdmission t n).prc.jobs = s.prc.jobs := by simp [State.askAdmission]

@[simp] theorem State.withdrawPlan_jobs (s : State) : s.withdrawPlan.prc.jobs = s.prc.jobs := by
  unfold State.withdrawPlan; split <;> simp

@[simp] theorem State.withdrawAdmissionReq_jobs (s : State) : s.withdrawAdmissionReq.prc.jobs = s.prc.jobs := by
  unfold State.withdrawAdmissionReq; split <;> simp

@[simp] theorem State.withdrawTile_jobs (s : State) (t : TileRef) (st : TileState) :
    (s.withdrawTile t st).prc.jobs = s.prc.jobs := by rw [State.withdrawTile_eq]

@[simp] theorem State.backlightFaulted_jobs (s : State) : s.backlightFaulted.prc.jobs = s.prc.jobs := by
  unfold State.backlightFaulted; (repeat' split) <;> simp

@[simp] theorem State.holdRun_jobs (s : State) : s.holdRun.state.prc.jobs = s.prc.jobs := by
  unfold State.holdRun; split <;> simp

@[simp] theorem State.prcDetach_jobs (s : State) : s.prcDetach.prc.jobs = s.prc.jobs := by
  unfold State.prcDetach; split <;> simp

@[simp] theorem State.prcQuiesce_jobs (s : State) : s.prcQuiesce.prc.jobs = s.prc.jobs := by
  simp [State.prcQuiesce]

/-! ## Refusals and reports of the helpers -/

@[simp] theorem State.planRefused_jobs (s : State) (r : Planner) : (s.planRefused r).prc.jobs = s.prc.jobs := by
  unfold State.planRefused; (repeat' split) <;> simp

@[simp] theorem State.askSlots_jobs (s : State) (t : TileRef) (n : Nat) : (s.askSlots t n).prc.jobs = s.prc.jobs := by
  unfold State.askSlots; (repeat' split) <;> simp [State.admissionRefused]

@[simp] theorem State.reportCut_jobs (s : State) (c : ExposureClient) : (s.reportCut c).prc.jobs = s.prc.jobs := by
  unfold State.reportCut; (repeat' split) <;> simp

@[simp] theorem State.refuseBusy_jobs (s : State) (c : ExposureClient) : (s.refuseBusy c).prc.jobs = s.prc.jobs := by
  unfold State.refuseBusy; (repeat' split) <;> simp

@[simp] theorem State.exposureRequested_jobs (s : State) (r : ExposureReq) :
    (s.exposureRequested r).prc.jobs = s.prc.jobs := by
  unfold State.exposureRequested; (repeat' split) <;> simp

/-! ## Exposures that a fault ends -/

@[simp] theorem State.faultCut_jobs (s : State) (e : Exposing) : (s.faultCut e).prc.jobs = s.prc.jobs := by
  unfold State.faultCut; dsimp only; split <;> simp

@[simp] theorem State.cutHeld_jobs (s : State) (h : HeldReq) : (s.cutHeld h).prc.jobs = s.prc.jobs := by
  simp [State.cutHeld]

@[simp] theorem State.lampFaulted_jobs (s : State) : s.lampFaulted.prc.jobs = s.prc.jobs := by
  unfold State.lampFaulted; (repeat' split) <;> simp

@[simp] theorem State.stageFaulted_jobs (s : State) : s.stageFaulted.prc.jobs = s.prc.jobs := by
  unfold State.stageFaulted; (repeat' split) <;> simp

@[simp] theorem State.reportLampFault_jobs (s : State) : s.reportLampFault.prc.jobs = s.prc.jobs := by
  unfold State.reportLampFault; split <;> simp

@[simp] theorem State.lampFault_jobs (s : State) (cause : LampFault) : (s.lampFault cause).prc.jobs = s.prc.jobs := by
  unfold State.lampFault; dsimp only; (repeat' split) <;> simp

@[simp] theorem State.sample_jobs (s : State) (v : Nat) : (s.sample v).prc.jobs = s.prc.jobs := by
  unfold State.sample; dsimp only; (repeat' split) <;> simp

@[simp] theorem State.cutLit_jobs (s : State) : s.cutLit.prc.jobs = s.prc.jobs := by
  unfold State.cutLit; (repeat' split) <;> simp

@[simp] theorem State.cutDark_jobs (s : State) : s.cutDark.prc.jobs = s.prc.jobs := by
  unfold State.cutDark; (repeat' split) <;> simp

@[simp] theorem State.darkHold_jobs (s : State) : s.darkHold.prc.jobs = s.prc.jobs := by
  unfold State.darkHold; split <;> simp

@[simp] theorem State.darkRelease_jobs (s : State) : s.darkRelease.prc.jobs = s.prc.jobs := by
  unfold State.darkRelease; split <;> simp

/-! ## Transport -/

@[simp] theorem State.trsRefuse_jobs (s : State) (c : TrsClient) : (s.trsRefuse c).prc.jobs = s.prc.jobs := by
  cases c <;> simp [State.trsRefuse]

@[simp] theorem State.motionAtRest_jobs (s : State) (w : TrsWork) : (s.motionAtRest w).prc.jobs = s.prc.jobs := by
  unfold State.motionAtRest; (repeat' split) <;> simp

@[simp] theorem State.takeLoad_jobs (s : State) (c : TrsClient) (p : Nat) : (s.takeLoad c p).prc.jobs = s.prc.jobs := by
  unfold State.takeLoad; (repeat' split) <;> simp

@[simp] theorem State.takeMove_jobs (s : State) (c : TrsClient) (g : StageTarget) :
    (s.takeMove c g).prc.jobs = s.prc.jobs := by
  unfold State.takeMove; (repeat' split) <;> simp

@[simp] theorem State.takeUnload_jobs (s : State) (c : TrsClient) (seen : Bool) :
    (s.takeUnload c seen).prc.jobs = s.prc.jobs := by
  unfold State.takeUnload; (repeat' split) <;> simp

@[simp] theorem State.endInterlock_jobs (s : State) : s.endInterlock.prc.jobs = s.prc.jobs := by
  unfold State.endInterlock; dsimp only; (repeat' split) <;> simp

@[simp] theorem State.trsFault_jobs (s : State) (cause : TrsFault) (seen : Bool) :
    (s.trsFault cause seen).prc.jobs = s.prc.jobs := by
  unfold State.trsFault; dsimp only; (repeat' split) <;> simp

@[simp] theorem State.loadLegDone_jobs (s : State) (seen : Bool) : (s.loadLegDone seen).prc.jobs = s.prc.jobs := by
  unfold State.loadLegDone; dsimp only; (repeat' split) <;> simp

@[simp] theorem State.unloadLegDone_jobs (s : State) : s.unloadLegDone.prc.jobs = s.prc.jobs := by
  unfold State.unloadLegDone; dsimp only; split <;> simp

@[simp] theorem State.startHome_jobs (s : State) : s.startHome.prc.jobs = s.prc.jobs := by
  unfold State.startHome; dsimp only; split <;> simp

@[simp] theorem State.motionExpired_jobs (s : State) (seen : Bool) (scanned : List (Nat × Bool)) :
    (s.motionExpired seen scanned).prc.jobs = s.prc.jobs := by
  unfold State.motionExpired; dsimp only; (repeat' split) <;> simp

@[simp] theorem State.homeScanDone_jobs (s : State) (present : BitVec 20) :
    (s.homeScanDone present).prc.jobs = s.prc.jobs := by
  unfold State.homeScanDone
  generalize s.trs.scanEntries (allPositions present) = u
  dsimp only
  (repeat' split) <;> simp

/-! ## The quiesce of a reset -/

@[simp] theorem State.quiesceAll_jobs (s : State) : s.quiesceAll.prc.jobs = s.prc.jobs := by
  simp [State.quiesceAll]

@[simp] theorem State.resetCommand_jobs (s : State) (h : Hdr) (kind : ResetKind) :
    (s.resetCommand h kind).prc.jobs = s.prc.jobs := by
  unfold State.resetCommand; (repeat' split) <;> simp [State.startReset]

end Sys2Proof.Machine
end

section
/-! PROOFS. The counts of the job records (R14): what a change of a record's tiles does to them, the invariant
`State.Counted`, and that each operation of the machine keeps it. -/

namespace Sys2Proof.Machine

/-! ## One record -/

/-- Section 1.9: a tile record is changed so that its end state, if it has one, stays: it keeps its number, and its
state too unless it is in no end state before and after. -/
def Tile.EndKept (x y : Tile) : Prop :=
  y.seq = x.seq ∧ (y.state = x.state ∨ (x.state.ended = false ∧ y.state.ended = false))

theorem Tile.EndKept.state_eq_iff {x y : Tile} (h : x.EndKept y) {e : TileState} (he : e.ended = true) :
    y.state = e ↔ x.state = e := by
  obtain ⟨-, hs | ⟨hx, hy⟩⟩ := h
  · rw [hs]
  · constructor <;> rintro rfl <;> simp_all

/-- Changes that keep the end states keep the counts. -/
theorem Job.countLaw.mapTiles {j : Job} (h : j.countLaw) {f : Tile → Tile} (hf : ∀ x ∈ j.tiles, x.EndKept (f x)) :
    ({ j with tiles := j.tiles.map f } : Job).countLaw := by
  obtain ⟨hseq, hmasked, hsent, habandoned⟩ := h
  have count : ∀ e : TileState, e.ended = true → (j.tiles.map f).countP (fun x => decide (x.state = e))
      = j.tiles.countP (fun x => decide (x.state = e)) := by
    intro e he
    rw [List.countP_map]
    exact List.countP_congr fun x hx => by simp [(hf x hx).state_eq_iff he]
  refine ⟨?_, ?_, ?_, ?_⟩
  · rw [← hseq, List.map_map]
    exact List.map_congr_left fun x hx => (hf x hx).1
  · rw [hmasked, count .masked rfl]
  · rw [hsent, count .sent rfl]
  · rw [habandoned, count .abandoned rfl]

/-- Giving the tile of one number an end state adds one to the number of tiles in that state and changes no other. -/
theorem countP_setState {l : List Tile} (hn : (l.map (·.seq)).Nodup) {x : Tile} (hx : x ∈ l) {e : TileState}
    (he : x.state ≠ e) (st : TileState) :
    (l.map fun y => if y.seq = x.seq then { y with state := st } else y).countP (fun y => decide (y.state = e))
      = l.countP (fun y => decide (y.state = e)) + if st = e then 1 else 0 := by
  induction l with
  | nil => cases hx
  | cons a l ih =>
    simp only [List.map_cons, List.nodup_cons, List.mem_map, not_exists, not_and] at hn
    rcases List.mem_cons.1 hx with rfl | hm
    · have hrest : (l.map fun y => if y.seq = x.seq then { y with state := st } else y) = l := by
        conv_rhs => rw [← List.map_id l]
        exact List.map_congr_left fun y hy => by simp [hn.1 y hy]
      simp only [List.map_cons, hrest, List.countP_cons]
      simp [he]
    · have ha : a.seq ≠ x.seq := fun e => hn.1 x hm e.symm
      simp only [List.map_cons, if_neg ha, List.countP_cons, ih hn.2 hm]
      omega

/-- R7: no two tiles of a record bear one number. -/
theorem Job.countLaw.nodup_seq {j : Job} (h : j.countLaw) : (j.tiles.map (·.seq)).Nodup := by
  obtain ⟨hseq, -⟩ := h
  exact hseq ▸ List.nodup_range

/-- R14: a tile that has not ended goes to SENT or ABANDONED, and its record counts it. -/
theorem Job.countLaw.endTile {j : Job} (h : j.countLaw) {x : Tile} (hx : x ∈ j.tiles) (hopen : x.state.ended = false)
    (sent : Bool) :
    let k : Job := { j with tiles := j.tiles.map fun y =>
      if y.seq = x.seq then { y with state := if sent then .sent else .abandoned } else y }
    (if sent then { k with sent := k.sent + 1 } else { k with abandoned := k.abandoned + 1 } : Job).countLaw := by
  have hn := h.nodup_seq
  obtain ⟨hseq, hmasked, hsent, habandoned⟩ := h
  have count := fun (e : TileState) (he : e.ended = true) =>
    (countP_setState hn hx (e := e) (by rintro rfl; simp_all) (if sent then .sent else .abandoned)).symm
  have hs : (j.tiles.map fun y => if y.seq = x.seq then
      { y with state := if sent then .sent else .abandoned } else y).map (·.seq) = List.range (j.cols * j.rows) := by
    rw [← hseq, List.map_map]
    exact List.map_congr_left fun y _ => by simp only [Function.comp]; split <;> rfl
  cases sent
  · exact ⟨hs, hmasked.trans (count .masked rfl), hsent.trans (count .sent rfl),
      (congrArg (· + 1) habandoned).trans (count .abandoned rfl)⟩
  · exact ⟨hs, hmasked.trans (count .masked rfl), (congrArg (· + 1) hsent).trans (count .sent rfl),
      habandoned.trans (count .abandoned rfl)⟩

/-- R14: the three counts add up to at most the number of tiles, and to it exactly when every tile is in an end
state. -/
theorem Job.countLaw.sum {j : Job} (h : j.countLaw) :
    j.sent + j.abandoned + j.masked ≤ j.cols * j.rows
      ∧ (j.sent + j.abandoned + j.masked = j.cols * j.rows ↔
          ∀ x ∈ j.tiles, x.state = .masked ∨ x.state = .sent ∨ x.state = .abandoned) := by
  obtain ⟨hseq, hmasked, hsent, habandoned⟩ := h
  have hlen : j.cols * j.rows = j.tiles.length := by simpa using (congrArg List.length hseq).symm
  rw [hlen, hsent, habandoned, hmasked]
  clear hlen hsent habandoned hmasked hseq
  induction j.tiles with
  | nil => simp
  | cons x l ih =>
    obtain ⟨hle, hiff⟩ := ih
    simp only [List.countP_cons, List.length_cons, List.forall_mem_cons, ← hiff]
    cases x.state <;> simp <;> omega

/-! ## The job table -/

/-- The job ids of the table with the masked counts of their records, in order, are those of a list; the ids are
distinct (R1) and the counts are right (R14). -/
def State.Counted (s : State) (l : List (Nat × Nat)) : Prop :=
  s.prc.jobs.map (fun j => (j.id, j.masked)) = l ∧ (s.prc.jobs.map (·.id)).Nodup ∧ s.prc.countLaw

namespace State.Counted

variable {s t : State} {l : List (Nat × Nat)}

theorem nodup_ids (h : s.Counted l) : (s.prc.jobs.map (·.id)).Nodup := by
  obtain ⟨-, hnodup, -⟩ := h
  exact hnodup

theorem countLaw (h : s.Counted l) {j : Job} (hj : j ∈ s.prc.jobs) : j.countLaw := by
  obtain ⟨-, -, hcount⟩ := h
  exact hcount j hj

theorem of_jobs (h : s.Counted l) (e : t.prc.jobs = s.prc.jobs) : t.Counted l := by
  unfold State.Counted Prc.countLaw at *
  rwa [e]

theorem goHeld (h : s.Counted l) (c : HoldCause) : (s.goHeld c).Counted l := h.of_jobs (by simp)

theorem tryHoldPoint (h : s.Counted l) : s.tryHoldPoint.Counted l := h.of_jobs (by simp)

theorem askUnload (h : s.Counted l) (k : TrsRequest) : (s.askUnload k).Counted l := h.of_jobs (by simp)

theorem askRecovery (h : s.Counted l) (id : Nat) : (s.askRecovery id).Counted l := h.of_jobs (by simp)

theorem bringBack (h : s.Counted l) (u : TileRef) : (s.bringBack u).Counted l := h.of_jobs (by simp)

theorem startIdle (h : s.Counted l) : s.startIdle.Counted l := h.of_jobs (by simp)

theorem cruTest (h : s.Counted l) : s.cruTest.Counted l := h.of_jobs (by simp)

theorem deliver (h : s.Counted l) (c : Instr) : (s.deliver c).Counted l := h

/-- A tile reference names at most one tile of the table. -/
theorem tile?_eq (h : s.Counted l) {u : TileRef} {j : Job} (hj : j ∈ s.prc.jobs) (hid : j.id = u.job) {x : Tile}
    (hx : x ∈ j.tiles) (hseq : x.seq = u.seq) : s.prc.tile? u = some x := by
  have hfind := find_seq (h.countLaw hj).nodup_seq hx id fun _ => rfl
  rw [List.map_id, hseq] at hfind
  unfold Prc.tile?
  rw [← hid, Prc.job?_of_mem h.nodup_ids hj]
  exact hfind

theorem mapJob (h : s.Counted l) {id : Nat} {f : Job → Job}
    (hf : ∀ j ∈ s.prc.jobs, j.id = id → (f j).id = j.id ∧ (f j).masked = j.masked ∧ (f j).countLaw) :
    ({ s with prc := s.prc.mapJob id f } : State).Counted l := by
  obtain ⟨hl, hnodup, hcount⟩ := h
  have hmap : ∀ {β : Type} (g : Job → β), (∀ j ∈ s.prc.jobs, j.id = id → g (f j) = g j) →
      (s.prc.mapJob id f).jobs.map g = s.prc.jobs.map g := by
    intro β g hg
    rw [(s.prc.mapJob_frame id f).1, List.map_map]
    refine List.map_congr_left fun j hj => ?_
    by_cases hid : j.id = id
    · simpa [hid] using hg j hj hid
    · simp [hid]
  refine ⟨?_, ?_, ?_⟩
  · rw [← hl]
    refine hmap _ fun j hj hid => ?_
    obtain ⟨hkeep, hmasked, -⟩ := hf j hj hid
    rw [hkeep, hmasked]
  · exact (hmap _ fun j hj hid => (hf j hj hid).1) ▸ hnodup
  · intro k hk
    obtain ⟨j, hj, rfl⟩ := List.mem_map.1 hk
    by_cases hid : j.id = id
    · obtain ⟨-, -, hlaw⟩ := hf j hj hid
      simpa [hid] using hlaw
    · simpa [hid] using hcount j hj

/-- A change of one tile that keeps its end state keeps the counts. -/
theorem mapTile (h : s.Counted l) (u : TileRef) {f : Tile → Tile}
    (hf : ∀ x, s.prc.tile? u = some x → x.EndKept (f x)) : (s.mapTile u f).Counted l := by
  by_cases hq : s.prc.run = .quiescing
  · rwa [State.mapTile_quiescing _ _ _ hq]
  · refine State.Counted.of_jobs (s := { s with prc := s.prc.mapTile u f })
      (h.mapJob fun j hj hid => ⟨rfl, rfl, (h.countLaw hj).mapTiles fun x hx => ?_⟩)
      (by rw [State.mapTile_prc _ _ _ hq])
    by_cases hseq : x.seq = u.seq
    · rw [if_pos hseq]
      exact hf x (h.tile?_eq hj hid hx hseq)
    · rw [if_neg hseq]
      exact ⟨rfl, .inl rfl⟩

/-- A change that leaves a tile's number and state keeps the counts. -/
theorem mapTile_of_state (h : s.Counted l) (u : TileRef) {f : Tile → Tile} (hseq : ∀ x, (f x).seq = x.seq)
    (hstate : ∀ x, (f x).state = x.state) : (s.mapTile u f).Counted l :=
  h.mapTile u fun x _ => ⟨hseq x, .inl (hstate x)⟩

theorem setJob (h : s.Counted l) (id : Nat) (st : JobState) (out : Option JobOutcome) :
    (s.setJob id st out).Counted l := by
  rcases State.setJob_cases s id st out with ⟨e, -⟩ | ⟨_, -, -, -, e⟩ <;> rw [e]
  · exact h
  · exact h.mapJob fun j hj _ => ⟨rfl, rfl, h.countLaw (j := j) hj⟩

theorem moveTile (h : s.Counted l) (u : TileRef) (st : TileState) (hst : st.ended = false) :
    (s.moveTile u st).Counted l := by
  refine h.mapTile u fun x _ => ?_
  cases hx : x.state.ended
  · exact ⟨rfl, .inr ⟨hx, hst⟩⟩
  · exact ⟨rfl, .inl rfl⟩

/-- R14: a tile that goes to SENT or ABANDONED is counted. -/
theorem endTile (h : s.Counted l) (u : TileRef) (sent : Bool) : (s.endTile u sent).Counted l := by
  unfold State.endTile
  cases hx : s.prc.tile? u with
  | none => exact h
  | some x =>
    by_cases hskip : (x.state.ended || decide (s.prc.run = .quiescing)) = true
    · simpa only [hskip, if_true] using h
    · simp only [hskip, Bool.false_eq_true, if_false]
      simp only [Bool.or_eq_true, decide_eq_true_eq, not_or, Bool.not_eq_true] at hskip
      obtain ⟨hopen, hq⟩ := hskip
      refine State.Counted.of_jobs (s := { s with prc := s.prc.mapJob u.job fun j =>
          let k : Job := { j with tiles := j.tiles.map fun y =>
            if y.seq = u.seq then { y with state := if sent then .sent else .abandoned } else y }
          if sent then { k with sent := k.sent + 1 } else { k with abandoned := k.abandoned + 1 } })
        (h.mapJob fun j hj hid => ?_) ?_
      · obtain ⟨hxj, hseq⟩ : x ∈ j.tiles ∧ x.seq = u.seq := by
          simp only [Prc.tile?, ← hid, Prc.job?_of_mem h.nodup_ids hj, Option.bind_some] at hx
          exact ⟨List.mem_of_find?_eq_some hx, by simpa using List.find?_some hx⟩
        refine ⟨by cases sent <;> rfl, by cases sent <;> rfl, ?_⟩
        rw [← hseq]
        exact (h.countLaw hj).endTile hxj hopen sent
      · simp only [State.notice_frame, State.mapTile_prc _ _ _ hq, Prc.mapTile, Prc.mapJob, List.map_map]
        refine List.map_congr_left fun j _ => ?_
        by_cases hid : j.id = u.job <;> simp [hid]

theorem drainJob (h : s.Counted l) (id : Nat) : (s.drainJob id).Counted l := by
  unfold State.drainJob
  split
  · exact h
  · split
    · split <;> exact h.setJob ..
    · exact h

/-! ## Merge and output -/

theorem startTile (h : s.Counted l) (e : OutEntry) : (s.startTile e).Counted l := by
  unfold State.startTile
  split
  · exact h
  · exact State.Counted.moveTile (s := s.changeSlot ..) (h.of_jobs (by simp)) e.tile .sending rfl

theorem tryStripe (h : s.Counted l) : s.tryStripe.Counted l := by
  unfold State.tryStripe
  split
  · split
    · exact h
    · split
      · exact h.startTile _
      · exact h
  · exact h

theorem stripeTaken (h : s.Counted l) : s.stripeTaken.Counted l := by
  unfold State.stripeTaken
  split
  · have hdone : ∀ {u : State}, u.Counted l → (if u.sou.quiesce then u.ack .sou else u.tryStripe).Counted l := by
      intro u hu
      split
      · exact hu.of_jobs (by simp)
      · exact hu.tryStripe
    refine hdone ?_
    split
    · exact h.of_jobs (by simp)
    · split
      · exact .drainJob (.endTile (h.of_jobs (by simp)) _ _) _
      · exact h
  · exact h

theorem souAbandoned (h : s.Counted l) (u : TileRef) : (s.souAbandoned u).Counted l := by
  unfold State.souAbandoned
  split
  · split
    · exact h
    · exact .tryStripe (h.of_jobs (by simp))
  · split
    · exact h
    · exact .tryStripe (h.of_jobs (by simp))

theorem grantStripes (h : s.Counted l) (n : Nat) : (s.grantStripes n).state.Counted l := by
  unfold State.grantStripes
  split
  · exact h
  · exact State.Counted.tryStripe h

theorem takeUp (h : s.Counted l) : s.takeUp.Counted l := by
  unfold State.takeUp
  split
  · exact h
  · split
    · dsimp only
      split
      · exact .moveTile (h.of_jobs (by simp)) _ .merging rfl
      · refine .moveTile ?_ _ .merging rfl
        exact h
    · exact h

theorem mergeAppend (h : s.Counted l) (u : TileRef) : (s.mergeAppend u).Counted l := State.Counted.takeUp h

theorem bmeIdle (h : s.Counted l) : s.bmeIdle.Counted l := by
  unfold State.bmeIdle
  exact .cruTest (.takeUp (h.of_jobs rfl))

theorem reportMerge (h : s.Counted l) (w : MergeWork) : (s.reportMerge w).Counted l := by
  unfold State.reportMerge
  split
  · refine .moveTile (.mapTile_of_state h w.tile ?_ ?_) _ .merged rfl <;> intro x <;> rfl
  · exact h

theorem outAppend (h : s.Counted l) (w : MergeWork) : (s.outAppend w).Counted l := by
  unfold State.outAppend
  split
  · exact State.Counted.tryStripe h
  · exact h

theorem mergeDone (h : s.Counted l) (w : MergeWork) : (s.mergeDone w).Counted l := by
  have hslots : ({ s with fst := s.fst.mergeDone w.tile } : State).Counted l := h
  exact .bmeIdle (((hslots.reportMerge w).outAppend w).of_jobs (by simp))

theorem mergeAbandoned (h : s.Counted l) (u : TileRef) : (s.mergeAbandoned u).Counted l := by
  unfold State.mergeAbandoned
  exact .cruTest (.takeUp (h.of_jobs (by simp)))

theorem mergingBandDone (h : s.Counted l) (w : MergeWork) : (s.mergingBandDone w).Counted l := by
  have hband : (s.mergeBandDone w).1.Counted l := h.of_jobs (by simp)
  unfold State.mergingBandDone
  dsimp only
  split
  · exact hband.of_jobs (by simp)
  · split
    · exact hband
    · exact hband.mergeDone _

theorem abandoningBandDone (h : s.Counted l) (w : MergeWork) : (s.abandoningBandDone w).Counted l := by
  have hband : (s.mergeBandDone w).1.Counted l := h.of_jobs (by simp)
  unfold State.abandoningBandDone
  dsimp only
  split
  · exact hband.of_jobs (by simp)
  · exact hband.mergeAbandoned _

theorem calBandDone (h : s.Counted l) (c : CalWork) : (s.calBandDone c).Counted l := by
  unfold State.calBandDone
  dsimp only
  split
  · exact h.of_jobs (by simp)
  · split
    · exact State.Counted.bmeIdle h
    · split
      · exact h
      · exact h.of_jobs (by simp)

theorem bandDone (h : s.Counted l) : s.bandDone.Counted l := by
  unfold State.bandDone
  split
  · exact h.mergingBandDone _
  · exact h.abandoningBandDone _
  · exact h.calBandDone _
  · exact h

theorem calReleased (h : s.Counted l) : s.calReleased.Counted l := by
  unfold State.calReleased
  split
  · exact h.bmeIdle
  · exact h
  · exact h

/-! ## Planning -/

theorem requestAttempt (h : s.Counted l) (r : Planner) (c : PlanCopies) (k : Nat) (e : PlanEntry)
    (last : Option AttemptResult) : (s.requestAttempt r c k e last).Counted l := by
  have hreport : ∀ {u : State}, u.Counted l → (u.reportAttempt r k).Counted l := by
    intro u hu
    unfold State.reportAttempt
    split
    · exact hu.mapTile_of_state _ (fun x => by split <;> rfl) fun x => by split <;> rfl
    · exact hu
  exact hreport (u := { s with bpl := _ }) h

theorem planRequested (h : s.Counted l) (r : Planner) : (s.planRequested r).Counted l := by
  unfold State.planRequested
  split
  · exact h.of_jobs (by simp)
  · split
    · split
      · exact h
      · split
        · exact h
        · exact h.requestAttempt ..
    · exact h.requestAttempt ..

theorem attemptDone (h : s.Counted l) (w : Metering) (m : Nat) : (s.attemptDone w m).Counted l := by
  unfold State.attemptDone
  dsimp only
  split
  · exact h.of_jobs (by simp)
  all_goals
    split
    · exact h.of_jobs (by simp)
    · exact h.requestAttempt ..

theorem attemptCompleted (h : s.Counted l) (r : Planner) (attempt m : Nat) :
    (s.attemptCompleted r attempt m).Counted l := by
  unfold State.attemptCompleted
  split
  · split
    · exact h.attemptDone ..
    · exact h
  · exact h

end State.Counted

end Sys2Proof.Machine
end

section
/-! PROOFS. That the events of the plate run, the commands of the host and the reset keep the counts of the job
records. -/

namespace Sys2Proof.Machine

namespace State.Counted

variable {s t : State} {l : List (Nat × Nat)}

/-! ## Tiles of the active job -/

theorem beginTile (h : s.Counted l) (u : TileRef) : (s.beginTile u).Counted l := by
  unfold State.beginTile
  split
  · exact State.Counted.of_jobs (h.moveTile u .positioning rfl) (by simp)
  · exact h

theorem beginNext (h : s.Counted l) : s.beginNext.Counted l := by
  unfold State.beginNext
  split
  · exact h.beginTile _
  · exact h

theorem requestExposure (h : s.Counted l) (u : TileRef) : (s.requestExposure u).Counted l := by
  unfold State.requestExposure
  split
  · split
    · dsimp only
      split
      · exact h
      · split
        · exact State.Counted.of_jobs
            (h.mapTile_of_state u (f := fun y => { y with flags := { y.flags with tCapped := true } })
              (fun _ => rfl) fun _ => rfl) (by simp)
        · exact h.of_jobs (by simp)
    · exact h
  · exact h

/-! ## Starting a plate -/

theorem startJob (h : s.Counted l) (j : Job) : (s.startJob j).Counted l := by
  unfold State.startJob
  have hactive : ({ s with prc := { s.prc with
      queue := s.prc.queue.drop 1, active := some j.id, abortMark := false, trsReq := some .load
      recoveryJob := none } } : State).Counted l := h
  exact (hactive.setJob j.id .loading none).of_jobs (by simp)

theorem considerStart (h : s.Counted l) : s.considerStart.Counted l := by
  unfold State.considerStart
  split
  · split
    · exact h
    · split
      · exact h
      · exact h.of_jobs (by simp)
      · exact h.startJob _
  · exact h

theorem afterJob (h : s.Counted l) : s.afterJob.Counted l := by
  exact .startIdle (.tryHoldPoint (.considerStart (h.of_jobs (by simp))))

/-! ## Capture -/

theorem captureCheck (h : s.Counted l) : s.captureCheck.Counted l := by
  unfold State.captureCheck
  split
  · split
    · exact (h.setJob ..).askUnload _
    · exact h
  · exact h

theorem kickExposure (h : s.Counted l) : s.kickExposure.Counted l := by
  unfold State.kickExposure
  split
  · exact h.requestExposure _
  · exact h.requestExposure _
  · exact h

/-- The tile that PRC plans next is METERING or PLANNED (R33). -/
theorem toPlan_open (h : s.Counted l) {u : TileRef} (hu : s.prc.toPlan = some u) {x : Tile}
    (hx : s.prc.tile? u = some x) : x.state.ended = false := by
  unfold Prc.toPlan at hu
  split at hu
  · cases hu
  · simp only [Option.bind_eq_some_iff, Option.map_eq_some_iff, Prc.activeJob?] at hu
    obtain ⟨j, ⟨id, -, hjob⟩, y, hy, rfl⟩ := hu
    have hyx := h.tile?_eq (Prc.job?_mem hjob) (u := j.ref y) rfl (List.mem_of_find?_eq_some hy) rfl
    obtain rfl : y = x := Option.some.inj (hyx.symm.trans hx)
    have hstate := List.find?_some hy
    simp only [Bool.or_eq_true, Bool.and_eq_true, decide_eq_true_eq] at hstate
    obtain hs | ⟨hs, -⟩ := hstate <;> rw [hs] <;> rfl

theorem kickPlan (h : s.Counted l) : s.kickPlan.Counted l := by
  unfold State.kickPlan
  split
  · rename_i u hu
    split
    · exact h
    · have hunplan : (s.mapTile u Tile.unplan).Counted l :=
        h.mapTile u fun x hx => ⟨rfl, .inr ⟨h.toPlan_open hu hx, rfl⟩⟩
      exact hunplan.of_jobs (by simp)
  · exact h

theorem kickNext (h : s.Counted l) : s.kickNext.Counted l := by
  unfold State.kickNext
  split
  · split
    · exact h.beginNext.captureCheck
    · exact h
  · exact h

theorem kick (h : s.Counted l) : s.kick.Counted l := by
  unfold State.kick
  dsimp only
  split
  · exact h.kickExposure.kickPlan.kickNext
  · exact h.kickExposure

/-! ## Abandonment and the end of a job by a fault -/

theorem abandonTile (h : s.Counted l) (u : TileRef) : (s.abandonTile u).Counted l := by
  unfold State.abandonTile
  split
  · exact .endTile (h.of_jobs (by simp)) u false
  · exact h

theorem abandonTiles (h : s.Counted l) (j : Job) (f : TileState → Bool) : (s.abandonTiles j f).Counted l := by
  unfold State.abandonTiles
  generalize (j.tiles.filter fun x => f x.state).map j.ref = refs
  induction refs generalizing s with
  | nil => exact h
  | cons u refs ih => exact ih (h.abandonTile u)

theorem endJob (h : s.Counted l) (j : Job) (c : FailCause) : (s.endJob j c).Counted l := by
  have hgone := h.abandonTiles j TileState.uncaptured
  unfold State.endJob
  refine .startIdle (.setJob ?_ _ _ _)
  exact hgone

/-! ## The events of the run -/

theorem prcEvent (h : s.Counted l) {f : State → State} (hf : ∀ u : State, u.Counted l → (f u).Counted l) :
    (s.prcEvent f).Counted l := by
  unfold State.prcEvent
  split
  · exact h
  · exact hf s h

theorem loadDone (h : s.Counted l) : s.loadDone.Counted l := by
  unfold State.loadDone
  split
  · have hanswered : s.trsAnswered.Counted l := h
    dsimp only
    split
    · exact hanswered.of_jobs (by simp)
    · split
      · exact (hanswered.setJob ..).beginNext
      · exact (hanswered.setJob ..).tryHoldPoint
  · exact h

theorem loadNoCarrier (h : s.Counted l) : s.loadNoCarrier.Counted l := by
  unfold State.loadNoCarrier
  split
  · have hgone := State.Counted.abandonTiles (s := s.trsAnswered) h
    refine .afterJob (.setJob ?_ _ _ _)
    exact hgone _ _
  · exact h

theorem tileSettled (h : s.Counted l) (u : TileRef) : (s.tileSettled u).Counted l := by
  have hsettled : (s.mapTile u fun x =>
      if x.state.ended then x else { x with state := .metering, attempts := 0 }).Counted l :=
    h.mapTile u fun x _ => by
      cases hx : x.state.ended
      · exact ⟨rfl, .inr ⟨hx, rfl⟩⟩
      · exact ⟨rfl, .inl rfl⟩
  unfold State.tileSettled
  dsimp only
  split
  · exact hsettled.of_jobs (by simp)
  · exact hsettled.tryHoldPoint

theorem broughtBack (h : s.Counted l) : s.broughtBack.Counted l := by
  unfold State.broughtBack
  split
  · dsimp only
    split
    · exact h
    · split
      · refine .requestExposure ?_ _
        exact h
      · exact h
  · exact h.tryHoldPoint

theorem settled (h : s.Counted l) : s.settled.Counted l := by
  have hanswered : s.trsAnswered.Counted l := h
  unfold State.settled
  split
  case h_3 => exact h
  all_goals
    dsimp only
    split
    · exact hanswered.of_jobs (by simp)
    · exact hanswered.tryHoldPoint
    · split
      · exact hanswered.broughtBack
      · split
        · exact (hanswered.moveTile _ .pending rfl).bringBack _
        · split
          · exact hanswered.tileSettled _
          · exact hanswered.tryHoldPoint

theorem staleCheck (h : s.Counted l) (u : TileRef) (n : Nat) : (s.staleCheck u n).Counted l := by
  unfold State.staleCheck
  split
  · split
    · exact h.goHeld _
    · exact (h.mapTile_of_state u (f := fun x => { x with flags := { x.flags with darkStale := true } })
        (fun _ => rfl) fun _ => rfl).of_jobs (by simp [State.askAdmission])
  · exact h.of_jobs (by simp)

theorem planned (h : s.Counted l) (u : TileRef) (plan : List PlanEntry) (attempts : Nat) (flags : PlanFlags) :
    (s.planned u plan attempts flags).Counted l := by
  unfold State.planned
  split
  · rename_i hmetering
    obtain ⟨-, hstate⟩ := hmetering
    have hplanned : (({ s with prc := { s.prc with planReq := none } } : State).mapTile u fun x =>
        { x with state := .planned, plan := some plan, attempts := attempts
                 flags := x.flags.addPlanning flags }).Counted l := by
      refine State.Counted.mapTile ?_ u ?_
      · exact h
      · intro x hx
        have hx : s.prc.tile? u = some x := hx
        have : x.state = .metering := by simpa [Prc.tileState?, hx] using hstate
        exact ⟨rfl, .inr ⟨by rw [this]; rfl, rfl⟩⟩
    dsimp only
    split
    · exact hplanned.staleCheck _ _
    · exact hplanned.tryHoldPoint
  · exact h

theorem admitted (h : s.Counted l) (u : TileRef) : (s.admitted u).Counted l := by
  unfold State.admitted
  split
  · have hexposing : (({ s with prc := { s.prc with admReq := none } } : State).moveTile u .exposing).Counted l := by
      refine .moveTile ?_ u .exposing rfl
      exact h
    dsimp only
    split
    · exact hexposing.requestExposure u
    · exact hexposing
  · exact h

theorem tileExposureEnd (h : s.Counted l) (u : TileRef) : (s.tileExposureEnd u).Counted l := by
  unfold State.tileExposureEnd
  split
  · split
    · exact h.beginNext
    · exact h
  · exact h

theorem tileExposed (h : s.Counted l) (u : TileRef) : (s.tileExposed u).Counted l := by
  have hexposed := (h.moveTile u .exposed rfl).mergeAppend u
  unfold State.tileExposed
  dsimp only
  refine .tryHoldPoint (.captureCheck ?_)
  split
  · refine .kickNext (.kickPlan ?_)
    exact hexposed
  · exact hexposed

theorem tileExposureDone (h : s.Counted l) (r : ExposureDone) : (s.tileExposureDone r).Counted l := by
  unfold State.tileExposureDone
  split
  · split
    · have hrecorded : (({ s with prc := { s.prc with expReq := none } } : State).mapTile r.tile fun y =>
          y.addExposure r.record).Counted l := by
        refine .mapTile_of_state ?_ r.tile (fun _ => rfl) fun _ => rfl
        exact h
      dsimp only
      split
      · exact hrecorded.tileExposed _
      · split
        · exact hrecorded.requestExposure _
        · exact hrecorded
    · exact h
  · exact h

theorem retried (h : s.Counted l) (u : TileRef) (metering : Bool) : (s.retried u metering).Counted l := by
  unfold State.retried
  split
  · exact h
  · split
    · exact h
    · have hflag : (s.mapTile u fun y => { y with flags := { y.flags with retried := true } }).Counted l :=
        h.mapTile_of_state u (fun _ => rfl) fun _ => rfl
      dsimp only
      split
      · exact hflag
      · split
        · exact hflag.of_jobs (by simp)
        · split
          · refine .bringBack (.moveTile ?_ _ .pending rfl) _
            exact hflag
          · exact hflag

/-! ## Faults and unloads -/

theorem tileSensorFailure (h : s.Counted l) (u : TileRef) : (s.tileSensorFailure u).Counted l := by
  unfold State.tileSensorFailure
  split
  · split
    · exact ((h.endJob _ _).goHeld _).askRecovery _
    · exact h
  · exact h

theorem drainTransport (h : s.Counted l) (id : Nat) : (s.drainTransport id).Counted l := by
  unfold State.drainTransport
  split
  · split
    · exact h.setJob ..
    · exact h
  · exact h

theorem recoveryFault (h : s.Counted l) (id : Nat) : (s.recoveryFault id).Counted l := by
  have hdrained : (({ s with prc := { s.prc with
      trsReq := none, unloadNext := none, recoveryJob := none } } : State).drainTransport id).Counted l := by
    refine .drainTransport ?_ id
    exact h
  unfold State.recoveryFault
  dsimp only
  split
  · exact hdrained.askRecovery _
  · exact hdrained

theorem idleTransportFault (h : s.Counted l) : s.idleTransportFault.Counted l := by
  unfold State.idleTransportFault
  dsimp only
  split
  on_goal 1 => refine .goHeld ?_ _
  on_goal 2 => refine .goHeld ?_ _
  all_goals
    split
    · exact h.recoveryFault _
    · exact h

theorem transportFaulted (h : s.Counted l) : s.transportFaulted.Counted l := by
  unfold State.transportFaulted
  split
  · rename_i j _
    have hended : (({ s with prc := { s.prc with trsReq := none, unloadNext := none } } : State).endJob j
        .transport).Counted l := by
      refine .endJob ?_ j .transport
      exact h
    dsimp only
    split
    · exact (hended.goHeld _).askRecovery _
    · exact hended.goHeld _
  · exact h.idleTransportFault

theorem jobUnloaded (h : s.Counted l) (j : Job) : (s.jobUnloaded j).Counted l := by
  have hdone : (({ s with prc := { s.prc with
      trsReq := none, active := none, abortMark := false, lampAfterUnload := false } } : State).setJob j.id
        (j.unloaded s.prc.abortMark).1 (some (j.unloaded s.prc.abortMark).2)).Counted l := by
    refine .setJob ?_ _ _ _
    exact h
  have hlamp : ∀ u : State, u.Counted l → (if s.prc.lampAfterUnload then u.goHeld .lamp else u).Counted l := by
    intro u hu
    split
    · exact hu.goHeld _
    · exact hu
  unfold State.jobUnloaded
  dsimp only
  split
  · exact (hlamp _ hdone).afterJob
  · exact ((hlamp _ hdone).goHeld _).startIdle

theorem unloaded (h : s.Counted l) : s.unloaded.Counted l := by
  unfold State.unloaded
  split
  · exact h.jobUnloaded _
  · refine .tryHoldPoint (.considerStart ?_)
    exact h
  · exact h

theorem cruIdle (h : s.Counted l) : s.cruIdle.Counted l := h.considerStart.kick

/-! ## The commands of the host -/

theorem abortQueued (h : s.Counted l) (j : Job) : (s.abortQueued j).Counted l := by
  have hgone := h.abandonTiles j fun st => !st.ended
  unfold State.abortQueued
  refine State.Counted.of_jobs (.setJob ?_ j.id .aborted (some .aborted)) (State.idleCheck_jobs _)
  exact hgone

theorem abortActive (h : s.Counted l) (j : Job) : (s.abortActive j).Counted l := by
  have hgone : (({ s with prc := { s.prc with abortMark := true } } : State).abandonTiles j
      fun st => !st.ended).Counted l := by
    refine .abandonTiles ?_ j _
    exact h
  unfold State.abortActive
  refine .askUnload ?_ _
  dsimp only
  split
  · exact hgone.setJob ..
  · exact hgone

theorem abortDraining (h : s.Counted l) (j : Job) : (s.abortDraining j).Counted l := (h.abandonTiles j _).setJob ..

theorem abortJob (h : s.Counted l) (id : Nat) : (s.abortJob id).state.Counted l := by
  unfold State.abortJob
  split
  · exact h
  · split
    · exact h.abortQueued _
    · exact h.abortActive _
    · exact h.abortActive _
    · exact h.abortActive _
    · exact h.abortDraining _
    all_goals exact h

theorem resume (h : s.Counted l) : s.resume.state.Counted l := by
  unfold State.resume
  split
  · split
    · exact h
    · exact .kick (.considerStart (h.of_jobs (by simp)))
  all_goals exact h

theorem home (h : s.Counted l) : s.home.state.Counted l := by
  have hends : s.homeEndsJob.Counted l := by
    unfold State.homeEndsJob
    cases s.prc.activeJob? with
    | none => exact h
    | some j => exact h.endJob j .command
  unfold State.home
  split
  · exact h
  · exact hends.of_jobs (by simp)

theorem attach (h : s.Counted l) : s.attach.Counted l := State.Counted.tryStripe h

theorem detach (h : s.Counted l) : s.detach.Counted l := by
  unfold State.detach
  split
  · exact h.of_jobs (by simp)
  · exact h

end State.Counted

end Sys2Proof.Machine
end

section
/-! PROOFS. The tile list of a submission (R5, R7) and the grid that covers the plate (R4). -/

namespace Sys2Proof.Machine

/-! ## The tile list -/

@[simp] theorem newTiles_length (sub : Submission) (cols rows : Nat) :
    (newTiles sub cols rows).length = cols * rows := by simp [newTiles]

theorem newTiles_getElem? (sub : Submission) {cols rows k : Nat} (hk : k < cols * rows) :
    (newTiles sub cols rows)[k]? = some (newTile sub cols rows k) := by simp [newTiles, hk]

theorem newTiles_getElem?_some (sub : Submission) {cols rows k : Nat} {x : Tile}
    (h : (newTiles sub cols rows)[k]? = some x) : x = newTile sub cols rows k := by
  obtain ⟨hk, -⟩ := List.getElem?_eq_some_iff.1 h
  rw [newTiles_length] at hk
  exact (Option.some.inj ((newTiles_getElem? sub hk).symm.trans h)).symm

/-- R7: the next place in serpentine order is beside this one in its row or, at the row's end, in its column of the
next row. -/
theorem serpentine_next {cols k : Nat} (hc : 0 < cols) :
    ((k + 1) / cols = k / cols ∧
      (serpentineCol cols ((k + 1) / cols) ((k + 1) % cols) = serpentineCol cols (k / cols) (k % cols) + 1
        ∨ serpentineCol cols (k / cols) (k % cols) = serpentineCol cols ((k + 1) / cols) ((k + 1) % cols) + 1))
    ∨ ((k + 1) / cols = k / cols + 1 ∧
      serpentineCol cols ((k + 1) / cols) ((k + 1) % cols) = serpentineCol cols (k / cols) (k % cols)) := by
  have hr : k % cols < cols := Nat.mod_lt k hc
  have hk : cols * (k / cols) + k % cols = k := Nat.div_add_mod k cols
  by_cases hrow : k % cols + 1 < cols
  · obtain ⟨hdiv, hmod⟩ : (k + 1) / cols = k / cols ∧ (k + 1) % cols = k % cols + 1 :=
      (Nat.div_mod_unique hc).2 ⟨by omega, hrow⟩
    left
    rw [hdiv, hmod]
    unfold serpentineCol
    split <;> omega
  · obtain ⟨hdiv, hmod⟩ : (k + 1) / cols = k / cols + 1 ∧ (k + 1) % cols = 0 :=
      (Nat.div_mod_unique hc).2 ⟨by rw [Nat.mul_add]; omega, hc⟩
    right
    rw [hdiv, hmod]
    unfold serpentineCol
    split <;> split <;> omega

/-! ## The grid -/

theorem ceilDiv_bounds (a : Nat) {b : Nat} (hb : 0 < b) : a ≤ b * ceilDiv a b ∧ b * ceilDiv a b < a + b := by
  unfold ceilDiv
  have hdiv := Nat.div_add_mod (a + b - 1) b
  have hmod := Nat.mod_lt (a + b - 1) hb
  omega

/-- The length that n tiles of a size span when neighbours overlap (R4 step 3). -/
def tileSpan (size overlap : Nat) (n : Int) : Int := size + (n - 1) * (size - overlap)

/-- The least number of tiles of a size that cover a length (R4 step 2). -/
def tileCount (size overlap length : Nat) : Nat :=
  if length ≤ size then 1 else 1 + ceilDiv (length - size) (size - overlap)

theorem gridCols_eq (width overlap : Nat) : gridCols width overlap = tileCount 700 overlap width := rfl

theorem gridRows_eq (height overlap : Nat) : gridRows height overlap = tileCount 525 overlap height := rfl

theorem gridX0_eq (width overlap cols : Nat) :
    gridX0 width overlap cols = ((width : Int) - tileSpan 700 overlap cols) / 2 := rfl

theorem gridY0_eq (height overlap rows : Nat) :
    gridY0 height overlap rows = ((height : Int) - tileSpan 525 overlap rows) / 2 := rfl

/-- R4: `tileCount` tiles span the length, one fewer would not, and one is enough exactly for a length up to the
size. -/
theorem tileCount_spec {size overlap : Nat} (length : Nat) (h : overlap < size) :
    (tileCount size overlap length = 1 ↔ length ≤ size)
    ∧ (length : Int) ≤ tileSpan size overlap (tileCount size overlap length)
    ∧ (1 < tileCount size overlap length →
        tileSpan size overlap ((tileCount size overlap length : Int) - 1) < length) := by
  unfold tileCount
  by_cases hl : length ≤ size
  · simp [hl, tileSpan]
  · obtain ⟨hcover, hleast⟩ := ceilDiv_bounds (length - size) (Nat.sub_pos_of_lt h)
    generalize ceilDiv (length - size) (size - overlap) = n at hcover hleast
    have hn : n ≠ 0 := by
      rintro rfl
      omega
    have hprod : ((size : Int) - overlap) * n = ((size - overlap) * n : Nat) := by
      rw [Nat.cast_mul, Nat.cast_sub h.le]
    refine ⟨by simp [hl, hn], ?_, fun _ => ?_⟩
    · have : tileSpan size overlap ((1 + n : Nat) : Int) = size + ((size : Int) - overlap) * n := by
        unfold tileSpan; push_cast; ring
      rw [if_neg hl, this, hprod]
      omega
    · have : tileSpan size overlap (((1 + n : Nat) : Int) - 1)
          = size + ((size : Int) - overlap) * n - (size - overlap) := by
        unfold tileSpan; push_cast; ring
      rw [if_neg hl, this, hprod]
      omega

/-- R4 step 4: a span that covers a length covers it from an origin at the floor of half of what it leaves over. -/
theorem centred_span_covers {length span : Int} (h : length ≤ span) :
    (length - span) / 2 ≤ 0 ∧ length ≤ (length - span) / 2 + span := by omega

/-- Settles O16: a place of the list is `newTile` at it, its next is `serpentine_next`; the cover and its minimality are
`tileCount_spec` for each axis. -/
theorem tileGrid : Obligations.TileGrid := by
  unfold Obligations.TileGrid
  constructor
  · intro sub cols rows k hk
    have hcols : 0 < cols := Nat.pos_of_ne_zero fun h => by simp [h] at hk
    refine ⟨_, newTiles_getElem? sub hk, rfl, rfl, rfl, rfl, rfl, rfl, rfl, rfl, rfl, rfl, rfl, rfl,
      newTiles_length sub cols rows, ?_⟩
    intro y hy
    obtain rfl := newTiles_getElem?_some sub hy
    exact serpentine_next hcols
  · intro width height overlap ho
    obtain ⟨hcols, hwidth, hfewerCols⟩ := tileCount_spec width (size := 700) (overlap := overlap) (by omega)
    obtain ⟨hrows, hheight, hfewerRows⟩ := tileCount_spec height (size := 525) (overlap := overlap) (by omega)
    obtain ⟨hx0, hright⟩ := centred_span_covers hwidth
    obtain ⟨hy0, hbottom⟩ := centred_span_covers hheight
    rw [gridCols_eq, gridRows_eq]
    refine ⟨rfl, rfl, hcols, hrows, hx0, ?_, fun h => ?_, hy0, ?_, fun h => ?_⟩
    · simpa only [gridX0_eq, tileSpan, add_assoc, Nat.cast_ofNat] using hright
    · simpa only [tileSpan, Nat.cast_ofNat, sub_sub, one_add_one_eq_two] using hfewerCols h
    · simpa only [gridY0_eq, tileSpan, add_assoc, Nat.cast_ofNat] using hbottom
    · simpa only [tileSpan, Nat.cast_ofNat, sub_sub, one_add_one_eq_two] using hfewerRows h

end Sys2Proof.Machine
end

section
/-! PROOFS. R14 for a whole step: the commands that edit the job table, and the counts after any command. -/

namespace Sys2Proof.Machine

/-! ## The commands that edit the job table -/

/-- A record as acceptance builds it counts its masked tiles, and no other tile of it is in an end state (R14). -/
theorem newJob_countLaw (sub : Submission) : (newJob sub).countLaw := by
  have hstate : ∀ x ∈ (newJob sub).tiles, x.state = .pending ∨ x.state = .masked := by
    intro x hx
    obtain ⟨k, -, rfl⟩ := List.mem_map.1 hx
    simp only [newTile]
    split <;> simp
  have hzero : ∀ e : TileState, e ≠ .pending → e ≠ .masked →
      0 = (newJob sub).tiles.countP (fun x => decide (x.state = e)) := by
    intro e hp hm
    refine (List.countP_eq_zero.2 fun x hx => ?_).symm
    obtain h | h := hstate x hx <;> simp [h, hp.symm, hm.symm]
  refine ⟨?_, rfl, hzero .sent (by decide) (by decide), hzero .abandoned (by decide) (by decide)⟩
  simp only [newJob, newTiles, List.map_map]
  exact (List.map_congr_left fun k _ => rfl).trans (List.map_id _)

/-- A submission that is accepted has a job id that no record bears (R2). -/
theorem Prc.checkSubmission_ok {p : Prc} {payload : List Byte} {sub : Submission}
    (h : p.checkSubmission payload = .ok sub) : p.job? sub.jobId = none := by
  unfold Prc.checkSubmission at h
  split at h
  · cases h
  · split_ifs at h with _ hdup
    cases h
    simpa using hdup

namespace State.Counted

variable {s t : State} {l m : List (Nat × Nat)}

theorem acceptJob (h : s.Counted l) {j : Job} (hid : s.prc.job? j.id = none) (hj : j.countLaw) :
    (s.acceptJob j).Counted (l ++ [(j.id, j.masked)]) := by
  have hadded : ({ s with prc := { s.prc with
      jobs := s.prc.jobs ++ [j], queue := s.prc.enqueue j } } : State).Counted (l ++ [(j.id, j.masked)]) := by
    obtain ⟨hl, hnodup, hcount⟩ := h
    refine ⟨by simp [hl], ?_, ?_⟩
    · have hnew : ∀ k ∈ s.prc.jobs, k.id ≠ j.id := by simpa [Prc.job?] using hid
      rw [List.map_append, List.nodup_append]
      exact ⟨hnodup, by simp, by simpa using hnew⟩
    · exact List.forall_mem_append.2 ⟨hcount, by simpa using hj⟩
  unfold State.acceptJob
  refine .considerStart ?_
  dsimp only
  split
  · exact hadded.of_jobs (by simp)
  · exact hadded

theorem removeJob (h : s.Counted l) (id : Nat) :
    ({ s with prc := { s.prc with jobs := s.prc.jobs.filter fun x => decide (x.id ≠ id) } } : State).Counted
      (l.filter fun p => decide (p.1 ≠ id)) := by
  obtain ⟨rfl, hnodup, hcount⟩ := h
  refine ⟨by rw [List.filter_map]; rfl, ?_, ?_⟩
  · exact hnodup.sublist (List.filter_sublist.map _)
  · exact fun j hj => hcount j (List.mem_filter.1 hj).1

/-- A table that no two records of one id stand in gives a job id one masked count. -/
theorem masked_unique (h : s.Counted l) {id a b : Nat} (ha : (id, a) ∈ l) (hb : (id, b) ∈ l) : a = b := by
  obtain ⟨rfl, hnodup, -⟩ := h
  obtain ⟨j, hj, ej⟩ := List.mem_map.1 ha
  obtain ⟨k, hk, ek⟩ := List.mem_map.1 hb
  obtain ⟨rfl, rfl⟩ := Prod.mk.inj ej
  obtain ⟨hid, rfl⟩ := Prod.mk.inj ek
  rw [List.inj_on_of_nodup_map hnodup hk hj hid]

end State.Counted

/-- The masked counts of a table of (id, masked count) pairs are those of another, for the ids that both hold (R14). -/
def MaskedKept (l m : List (Nat × Nat)) : Prop := ∀ id a b, (id, a) ∈ l → (id, b) ∈ m → b = a

/-- The counts of a state are right, and no masked count differs from that in a table. -/
def State.CountsFrom (s : State) (l : List (Nat × Nat)) : Prop := ∃ m, s.Counted m ∧ MaskedKept l m

theorem State.Counted.countsFrom {s : State} {l : List (Nat × Nat)} (h : s.Counted l) : s.CountsFrom l :=
  ⟨l, h, fun _ _ _ ha hb => h.masked_unique hb ha⟩

/-- An empty job table: power-on and the application of a reset (R161). -/
theorem State.countsFrom_of_empty {s : State} (l : List (Nat × Nat)) (h : s.prc.jobs = []) : s.CountsFrom l := by
  refine ⟨[], ⟨by simp [h], by simp [h], ?_⟩, fun _ _ _ _ hb => absurd hb List.not_mem_nil⟩
  simp [Prc.countLaw, h]

namespace State.CountsFrom

variable {s t : State} {l : List (Nat × Nat)}

/-- A command record leaves the table as it is, or its owner decides it (R149, R150). -/
theorem command (h : s.Counted l) (hdr : Hdr) (kind : CommandKind) {owner : State → Answer}
    (ho : (owner s).state.CountsFrom l) : (command hdr kind owner s).CountsFrom l := by
  obtain ⟨-, e⟩ | ⟨-, w, -, e⟩ | ⟨-, -, a, rfl, e⟩ := command_cases hdr kind owner s <;> rw [e]
  · exact h.countsFrom
  · exact h.countsFrom
  · cases hdr.fits
    · exact h.countsFrom
    · exact ho

theorem submit (h : s.Counted l) (payload : List Byte) : (s.submit payload).state.CountsFrom l := by
  unfold State.submit
  split
  · exact h.countsFrom
  · rename_i sub hsub
    have hnew : s.prc.job? (newJob sub).id = none := Prc.checkSubmission_ok hsub
    refine ⟨_, h.acceptJob hnew (newJob_countLaw sub), fun id a b ha hb => ?_⟩
    obtain hb | hb := List.mem_append.1 hb
    · exact h.masked_unique hb ha
    · obtain ⟨rfl, rfl⟩ := Prod.mk.inj (List.mem_singleton.1 hb)
      obtain ⟨rfl, -, -⟩ := h
      obtain ⟨j, hj, ej⟩ := List.mem_map.1 ha
      exact absurd (Prod.mk.inj ej).1 (by simpa using List.find?_eq_none.1 hnew j hj)

theorem releaseJob (h : s.Counted l) (id : Nat) : (s.releaseJob id).state.CountsFrom l := by
  unfold State.releaseJob
  split
  · exact h.countsFrom
  · split
    · exact ⟨_, h.removeJob id, fun _ _ _ ha hb => h.masked_unique (List.mem_filter.1 hb).1 ha⟩
    · exact h.countsFrom

theorem acknowledged (h : s.Counted l) (b : Block) (seen : Bool) : (s.acknowledged b seen).CountsFrom l := by
  unfold State.acknowledged
  split
  · exact h.countsFrom
  · split
    · dsimp only
      split
      · exact State.countsFrom_of_empty l rfl
      · exact State.Counted.countsFrom h
    · exact h.countsFrom

theorem resetExpired (h : s.Counted l) (seen : Bool) : (s.resetExpired seen).CountsFrom l := by
  unfold State.resetExpired
  split
  · exact h.countsFrom
  · exact State.countsFrom_of_empty l rfl

end State.CountsFrom

/-! ## A step -/

/-- R14: the counts after any command. -/
theorem exec_countsFrom (c : Instr) {s : State} {l : List (Nat × Nat)} (h : s.Counted l) :
    ∃ t, exec c s = .next t ∧ t.CountsFrom l := by
  have kept : ∀ t : State, exec c s = .next t → t.Counted l → ∃ t, exec c s = .next t ∧ t.CountsFrom l :=
    fun t e ht => ⟨t, e, ht.countsFrom⟩
  cases c with
  | powerOn seen => exact ⟨_, rfl, State.countsFrom_of_empty l rfl⟩
  | submitJob hdr payload => exact ⟨_, rfl, .command h hdr _ (.submit h payload)⟩
  | releaseJob hdr id => exact ⟨_, rfl, .command h hdr _ (.releaseJob h id)⟩
  | quiesceAck b seen => exact ⟨_, rfl, .acknowledged (h.deliver _) b seen⟩
  | resetTimeout seen => exact ⟨_, rfl, .resetExpired h seen⟩
  | attach => exact kept _ rfl h.attach
  | detach => exact kept _ rfl h.detach
  | home hdr => exact ⟨_, rfl, .command h hdr _ h.home.countsFrom⟩
  | abortJob hdr id => exact ⟨_, rfl, .command h hdr _ (h.abortJob id).countsFrom⟩
  | resume hdr => exact ⟨_, rfl, .command h hdr _ h.resume.countsFrom⟩
  | grantStripes hdr n => exact ⟨_, rfl, .command h hdr _ (h.grantStripes n).countsFrom⟩
  | identify hdr | setParam hdr | getParam hdr | loadTable hdr | queryMagazine hdr | calibrateDark hdr
  | calibrateFlat hdr | calibrateCancel hdr | queryJob hdr | hold hdr | queryStatus hdr | clearStage hdr =>
    exact ⟨_, rfl, .command h hdr _ (State.Counted.countsFrom (h.of_jobs (by simp)))⟩
  | startJob => exact kept _ rfl (h.deliver _).considerStart
  | loadComplete => exact kept _ rfl ((h.deliver _).prcEvent fun _ h => h.loadDone)
  | noCarrier => exact kept _ rfl ((h.deliver _).prcEvent fun _ h => h.loadNoCarrier)
  | settleCompletion => exact kept _ rfl ((h.deliver _).prcEvent fun _ h => h.settled)
  | planCompletion => exact kept _ rfl ((h.deliver _).prcEvent fun _ h => h.planned ..)
  | admissionGrant => exact kept _ rfl ((h.deliver _).prcEvent fun _ h => h.admitted _)
  | exposureEnd => exact kept _ rfl ((h.deliver _).prcEvent fun _ h => h.tileExposureEnd _)
  | exposureCompletion => exact kept _ rfl ((h.deliver _).prcEvent fun _ h => h.tileExposureDone _)
  | retryReport => exact kept _ rfl ((h.deliver _).prcEvent fun _ h => h.retried _ _)
  | secondReadoutFailure => exact kept _ rfl ((h.deliver _).prcEvent fun _ h => h.tileSensorFailure _)
  | transportFault => exact kept _ rfl ((h.deliver _).prcEvent fun _ h => h.transportFaulted)
  | backlightFault => exact kept _ rfl ((h.deliver _).prcEvent fun _ h => h.of_jobs (by simp))
  | unloadComplete => exact kept _ rfl ((h.deliver _).prcEvent fun _ h => h.unloaded)
  | trsEmptyReport | reinitEndReport => exact kept _ rfl ((h.deliver _).prcEvent fun _ h => h.considerStart)
  | cruIdleReport => exact kept _ rfl ((h.deliver _).prcEvent fun _ h => h.cruIdle)
  | planRequest r => exact kept _ rfl ((h.deliver _).planRequested r)
  | attemptCompletion r k m => exact kept _ rfl ((h.deliver _).attemptCompleted r k m)
  | mergeTakeUp => exact kept _ rfl (h.deliver _).takeUp
  | bandCompletion => exact kept _ rfl h.bandDone
  | calRelease => exact kept _ rfl (h.deliver _).calReleased
  | stripeStart => exact kept _ rfl (h.deliver _).tryStripe
  | stripeEnd => exact kept _ rfl h.stripeTaken
  | souAbandon u => exact kept _ rfl ((h.deliver _).souAbandoned u)
  | lightRequest | interlockAsk | lampSettleTimeout | lostCarrier =>
    refine kept _ rfl (h.of_jobs ?_)
    split <;> simp
  | idleTimerExpiry =>
    refine kept _ rfl (h.of_jobs ?_)
    dsimp only
    (repeat' split) <;> simp
  | _ => exact kept _ rfl (h.of_jobs (by simp))

/-- R14: the counts after any step. -/
theorem step_countsFrom {s t : State} {l : List (Nat × Nat)} (h : s.Counted l) (hstep : step s = .next t) :
    t.CountsFrom l := by
  unfold step at hstep
  cases hp : s.pending with
  | nil =>
    rw [hp] at hstep
    cases hstep
    exact h.countsFrom
  | cons c rest =>
    rw [hp] at hstep
    obtain ⟨u, hu, hcounts⟩ := exec_countsFrom c (s := { s with pending := rest }) h
    obtain rfl : u = t := Host.Outcome.next.inj (hu.symm.trans hstep)
    exact hcounts

/-- Settles O5: a step is the command at the front (`exec_countsFrom`), and the sum of the counts is that of one record
(`Job.countLaw.sum`). -/
theorem tileCountsKept : Obligations.TileCountsKept := by
  unfold Obligations.TileCountsKept
  refine ⟨fun s t htable hcount hstep => ?_, fun j hj => hj.sum⟩
  obtain ⟨-, hnodup, -⟩ := htable
  obtain ⟨m, ⟨hm, -, hcount'⟩, hkept⟩ :
      t.CountsFrom (s.prc.jobs.map fun j => (j.id, j.masked)) := step_countsFrom ⟨rfl, hnodup, hcount⟩ hstep
  refine ⟨hcount', fun id j k hj hk => hkept id j.masked k.masked ?_ ?_⟩
  · rw [← Prc.job?_id hj]
    exact List.mem_map_of_mem (Prc.job?_mem hj)
  · rw [← hm, ← Prc.job?_id hk]
    exact List.mem_map_of_mem (Prc.job?_mem hk)

end Sys2Proof.Machine
end

section
/-! PROOFS. How a hold cause meets the run state (R17, R18, Table 2.2). -/

namespace Sys2Proof.Machine

/-! ## A change of the run state and its notice -/

/-- R17: the run stays where it is, and nothing is notified. -/
theorem State.setRun_of_eq {s : State} {r : RunState} (h : s.prc.run = r) : s.setRun r = s := by
  obtain ⟨-, e⟩ | ⟨hne, -⟩ := s.setRun_cases r
  · exact e
  · exact absurd h hne

/-- R17: the run changes, and the notice carries the new state with the active job and the head of the queue. -/
theorem State.setRun_of_ne {s : State} {r : RunState} (h : s.prc.run ≠ r) :
    s.setRun r
      = { s with prc := { s.prc with run := r } }.notice (.runState r s.prc.active s.prc.queue.head?) := by
  obtain ⟨heq, -⟩ | ⟨-, e⟩ := s.setRun_cases r
  · exact absurd heq h
  · exact e

/-! ## A call for HELD, by the state it meets -/

/-- R18: a RUNNING, HOLDING or IDLE run goes to HELD with the cause. -/
theorem State.goHeld_of_unheld {s : State} (c : HoldCause)
    (h : s.prc.run = .running ∨ s.prc.run = .holding ∨ s.prc.run = .idle) : s.goHeld c = s.setRun (.held c) := by
  unfold State.goHeld
  obtain h | h | h := h <;> rw [h]

/-- R18: in a HELD run the ranks decide between the two causes. -/
theorem State.goHeld_of_held {s : State} {c0 : HoldCause} (c : HoldCause) (h : s.prc.run = .held c0) :
    s.goHeld c = if c0.rank ≤ c.rank then s.setRun (.held c) else s := by
  unfold State.goHeld
  rw [h]

/-- Settles O19: a call for HELD is a change of the run state (`State.goHeld_of_unheld`) or is decided by rank
(`State.goHeld_of_held`), and the run state is notified only when it changes (`State.setRun_of_ne`). -/
theorem holdCauseRanks : Obligations.HoldCauseRanks := by
  unfold Obligations.HoldCauseRanks
  refine ⟨rfl, rfl, rfl, rfl, rfl, rfl, rfl, rfl, fun c s => ⟨fun hrun => ?_, fun c0 hheld => ⟨?_, ?_⟩⟩⟩
  · have hne : s.prc.run ≠ .held c := by
      obtain h | h | h := hrun <;> simp [h]
    rw [State.goHeld_of_unheld c hrun, State.setRun_of_ne hne]
  · intro hcause hrank
    have hne : s.prc.run ≠ .held c := by simpa [hheld] using hcause
    rw [State.goHeld_of_held c hheld, if_pos hrank, State.setRun_of_ne hne]
  · rintro (rfl | hlower)
    · rw [State.goHeld_of_held c0 hheld, if_pos le_rfl, State.setRun_of_eq hheld]
    · rw [State.goHeld_of_held c hheld, if_neg (Nat.not_le.2 hlower)]

end Sys2Proof.Machine
end

section
/-! PROOFS. The bright code of a histogram (R49) and the bracket planned from an exposure value (R52, R53). -/

namespace Sys2Proof.Machine

/-! ## The bright bin of a histogram -/

/-- The search downward from `n`, with 0 where it finds nothing, is Mathlib's search for the greatest. -/
theorem find?_reverse_range_getD (p : Nat → Bool) (n : Nat) :
    ((List.range (n + 1)).reverse.find? p).getD 0 = Nat.findGreatest (fun b => p b = true) n := by
  induction n with
  | zero => cases h : p 0 <;> simp [h]
  | succ n ih =>
    rw [List.range_succ, List.reverse_append, List.reverse_singleton, List.singleton_append, List.find?_cons,
      Nat.findGreatest_succ, ← ih]
    cases p (n + 1) <;> simp

theorem brightBin_eq_findGreatest (hist : Vector Nat 64) (count : Nat) :
    brightBin hist count = Nat.findGreatest (fun b => count ≤ binsFrom hist b) 63 := by
  unfold brightBin
  rw [find?_reverse_range_getD]
  simp only [decide_eq_true_eq]

/-- R49 step 3: where the whole histogram holds the count, the bright bin is the highest from which the sum reaches
it. -/
theorem brightBin_spec {hist : Vector Nat 64} {count : Nat} (h : count ≤ binsFrom hist 0) :
    brightBin hist count < 64 ∧ count ≤ binsFrom hist (brightBin hist count)
    ∧ ∀ k, brightBin hist count < k → k < 64 → binsFrom hist k < count := by
  rw [brightBin_eq_findGreatest]
  refine ⟨Nat.lt_succ_of_le (Nat.findGreatest_le 63), ?_, fun k hlow hhigh => ?_⟩
  · exact Nat.findGreatest_spec (P := fun b => count ≤ binsFrom hist b) (Nat.zero_le 63) h
  · exact Nat.lt_of_not_le (Nat.findGreatest_is_greatest (P := fun b => count ≤ binsFrom hist b) hlow
      (Nat.le_of_lt_succ hhigh))

/-- R49 step 2: more than hi_count pixels at the saturated bins. -/
theorem evaluate_of_saturated {c : PlanCopies} {hist : Vector Nat 64}
    (h : hiCount c.hiPpm < binsFrom hist (c.satCode / 256)) : evaluate c hist = .overexposed := if_pos h

/-- R49 steps 3 to 5: otherwise the middle of the bright bin decides. -/
theorem evaluate_of_not_saturated {c : PlanCopies} {hist : Vector Nat 64}
    (h : binsFrom hist (c.satCode / 256) ≤ hiCount c.hiPpm) :
    evaluate c hist = if brightBin hist (hiCount c.hiPpm) * 256 + 128 < c.b0 + 64 then .underexposed
      else .metered (brightBin hist (hiCount c.hiPpm) * 256 + 128) := if_neg (Nat.not_lt.2 h)

/-! ## One exposure value realised -/

section
variable {drive e : Nat}

theorem one_le_maxTime : 1 ≤ maxTime := by decide

theorem planEntry_of_lt (h : e < drive) : planEntry drive e = { time := 1, drive := e } := by
  simp [planEntry, entryTime, h]

theorem planEntry_of_le (h : drive ≤ e) :
    planEntry drive e = { time := min maxTime ((e + drive / 2) / drive), drive := drive } := by
  simp [planEntry, entryTime, Nat.not_lt.2 h]

/-- R53: an exposure value at or above the drive takes at least 1 xu. -/
theorem one_le_roundedTime (hd : 1 ≤ drive) (h : drive ≤ e) : 1 ≤ (e + drive / 2) / drive :=
  (Nat.one_le_div_iff hd).2 (Nat.le_add_right_of_le h)

/-- R53: every entry is one that the lamp and the sensor can give. -/
theorem planEntry_bounds (hd : 1 ≤ drive) (he : 1 ≤ e) :
    1 ≤ (planEntry drive e).time ∧ (planEntry drive e).time ≤ maxTime
    ∧ 1 ≤ (planEntry drive e).drive ∧ (planEntry drive e).drive ≤ drive := by
  obtain h | h := Nat.lt_or_ge e drive
  · rw [planEntry_of_lt h]
    exact ⟨le_rfl, one_le_maxTime, he, h.le⟩
  · rw [planEntry_of_le h]
    exact ⟨le_min one_le_maxTime (one_le_roundedTime hd h), min_le_left _ _, hd, le_rfl⟩

/-- R53: the drive rises to the planning drive while the time stays 1, then the time rises. -/
theorem planEntry_exposure_mono (hd : 1 ≤ drive) {f : Nat} (hef : e ≤ f) :
    (planEntry drive e).time * (planEntry drive e).drive ≤ (planEntry drive f).time * (planEntry drive f).drive := by
  obtain he | he := Nat.lt_or_ge e drive
  · rw [planEntry_of_lt he]
    obtain hf | hf := Nat.lt_or_ge f drive
    · rw [planEntry_of_lt hf]
      exact Nat.mul_le_mul_left 1 hef
    · rw [planEntry_of_le hf]
      exact Nat.mul_le_mul (le_min one_le_maxTime (one_le_roundedTime hd hf)) he.le
  · rw [planEntry_of_le he, planEntry_of_le (he.trans hef)]
    exact Nat.mul_le_mul_right drive
      (min_le_min_left maxTime (Nat.div_le_div_right (Nat.add_le_add_right hef _)))

/-- R53: only a value realised at the planning drive can be cut to 80,000 xu. -/
theorem maxTime_lt_entryTime : maxTime < entryTime drive e ↔ maxTime < (e + drive / 2) / drive := by
  obtain h | h := Nat.lt_or_ge e drive
  · have hshort : (e + drive / 2) / drive < 2 := (Nat.div_lt_iff_lt_mul (by omega)).2 (by omega)
    simp only [entryTime, if_pos h, maxTime]
    omega
  · rw [entryTime, if_neg (Nat.not_lt.2 h)]

end

/-! ## The number of exposures and their values -/

theorem densityStep_pos (r : StepRatio) : 0 < densityStep r := by
  cases r <;> decide

theorem stepRatio_val_pos (r : StepRatio) : 0 < r.val := by
  cases r <;> decide

theorem planningDrive_pos {r : Planner} (throttle : Bool) (h : ∀ p f, r = .cru p f → 1 ≤ f) :
    1 ≤ planningDrive r throttle := by
  cases r with
  | prc t => cases throttle <;> simp [planningDrive]
  | cru p f =>
    have hf : 1 ≤ f := h p f rfl
    cases throttle <;> simp [planningDrive, hf]

/-- R53: the throttle lowers a CRU request's drive only from above 1024. -/
theorem planningDrive_cru {p f : Nat} {throttle : Bool} :
    planningDrive (.cru p f) throttle = if throttle = true ∧ throttleDrive < f then throttleDrive else f := by
  cases throttle with
  | false => rfl
  | true =>
    obtain h | h := Nat.lt_or_ge throttleDrive f
    · simp [planningDrive, h, h.le]
    · simp [planningDrive, Nat.not_lt.2 h, h]

/-- R52: as many exposures as it takes for the steps between them to cover the span, and no more. -/
theorem exposuresWanted_spec (c : PlanCopies) :
    1 ≤ exposuresWanted c ∧ c.dSpan ≤ (exposuresWanted c - 1) * densityStep c.stepRatio
    ∧ (1 < exposuresWanted c → (exposuresWanted c - 2) * densityStep c.stepRatio < c.dSpan) := by
  obtain ⟨hcover, hleast⟩ := ceilDiv_bounds c.dSpan (densityStep_pos c.stepRatio)
  have hn : exposuresWanted c = ceilDiv c.dSpan (densityStep c.stepRatio) + 1 := Nat.add_comm _ _
  rw [hn]
  refine ⟨Nat.le_add_left _ _, by rwa [Nat.add_sub_cancel, Nat.mul_comm], fun hmore => ?_⟩
  have hstep := Nat.le_mul_of_pos_right (densityStep c.stepRatio) (Nat.lt_of_succ_lt_succ hmore)
  rw [show ∀ m, m + 1 - 2 = m - 1 from fun _ => rfl, Nat.sub_one_mul, Nat.mul_comm]
  omega

@[simp] theorem exposureValues_length (c : PlanCopies) (e1 : Nat) :
    (exposureValues c e1).length = min 6 (exposuresWanted c) := by simp [exposureValues]

theorem exposureValues_getElem?_some {c : PlanCopies} {e1 k v : Nat} (h : (exposureValues c e1)[k]? = some v) :
    v = e1 * c.stepRatio.val ^ k := by
  obtain ⟨hk, rfl⟩ := List.getElem?_eq_some_iff.1 h
  simp [exposureValues]

/-! ## The plan -/

section
variable {r : Planner} {throttle : Bool} {c : PlanCopies} {e1 : Nat}

@[simp] theorem bracketPlan_length : (bracketPlan r throttle c e1).length = min 6 (exposuresWanted c) := by
  simp [bracketPlan]

theorem bracketPlan_getElem?_some {k : Nat} {e : PlanEntry} (h : (bracketPlan r throttle c e1)[k]? = some e) :
    e = planEntry (planningDrive r throttle) (e1 * c.stepRatio.val ^ k) := by
  rw [bracketPlan, List.getElem?_map] at h
  obtain ⟨v, hv, rfl⟩ := Option.map_eq_some_iff.1 h
  rw [exposureValues_getElem?_some hv]

/-- R52: the exposure values of a plan ascend. -/
theorem exposureValue_le_next (e1 : Nat) (ratio : StepRatio) (k : Nat) :
    e1 * ratio.val ^ k ≤ e1 * ratio.val ^ (k + 1) :=
  Nat.mul_le_mul_left e1 (Nat.pow_le_pow_right (stepRatio_val_pos ratio) k.le_succ)

theorem bracketFlags_tCapped_iff {a : AttemptResult} : (bracketFlags r throttle c a e1).tCapped = true ↔
    ∃ k, k < (bracketPlan r throttle c e1).length
      ∧ maxTime < (e1 * c.stepRatio.val ^ k + planningDrive r throttle / 2) / planningDrive r throttle := by
  simp only [bracketFlags, exposureValues, List.any_map, List.any_eq_true, List.mem_range, Function.comp_apply,
    decide_eq_true_eq, maxTime_lt_entryTime, bracketPlan_length]

end

/-- Settles O37: the histogram is `brightBin_spec`, the number of exposures `exposuresWanted_spec`; an entry is
`planEntry` at its exposure value, with `planEntry_bounds` and `planEntry_exposure_mono`. -/
theorem bracketArithmetic : Obligations.BracketArithmetic := by
  unfold Obligations.BracketArithmetic
  constructor
  · intro c hist count above
    refine ⟨evaluate_of_saturated, fun hsat hall => ?_⟩
    obtain ⟨hbin, hreach, hhighest⟩ := brightBin_spec hall
    rw [evaluate_of_not_saturated hsat]
    exact ⟨_, hbin, hreach, hhighest, fun h => if_pos h, fun h => if_neg (Nat.not_lt.2 h)⟩
  · intro c r throttle a e1 he1 hflat big step ratio plan flags
    have hbig : big = planningDrive r throttle := by
      cases r with
      | prc t => rfl
      | cru p f => exact planningDrive_cru.symm
    have hstep : step = densityStep c.stepRatio := rfl
    have hratio : ratio = c.stepRatio.val := rfl
    have hdrive := planningDrive_pos throttle hflat
    rw [hbig, hstep, hratio]
    refine ⟨?_, fun k e hk => ?_, bracketFlags_tCapped_iff, rfl, rfl⟩
    · obtain ⟨hone, hcover, hleast⟩ := exposuresWanted_spec c
      exact ⟨exposuresWanted c, hone, hcover, hleast, bracketPlan_length, rfl⟩
    · obtain rfl := bracketPlan_getElem?_some hk
      have hvalue : 1 ≤ e1 * c.stepRatio.val ^ k :=
        Nat.mul_pos he1 (Nat.pow_pos (stepRatio_val_pos c.stepRatio))
      obtain ⟨htime, hcap, hlow, hhigh⟩ := planEntry_bounds hdrive hvalue
      refine ⟨?_, htime, hcap, hlow, hhigh, fun g hg => ?_⟩
      · split
        next h => exact planEntry_of_lt h
        next h => exact planEntry_of_le (Nat.not_lt.1 h)
      · rw [bracketPlan_getElem?_some hg]
        exact planEntry_exposure_mono hdrive (exposureValue_le_next e1 c.stepRatio k)

end Sys2Proof.Machine
end

section
/-! PROOFS. The code of one pixel: the weighted sums (R67 to R69), the linear value and its rounding (R70, R71), the
pixels with no weight (R72) and the two encodings (R74, R75). -/

namespace Sys2Proof.Machine

/-! ## From raw code to weighted sums -/

/-- R67: the floored subtraction of naturals is the subtraction of integers with its negative values made 0. -/
theorem pixelSignal_eq_toNat (c bias rate t : Nat) : pixelSignal c bias rate t
    = ((c : Int) - bias - min 16383 ((rate * t + 2048) / 4096 : Nat)).toNat := by
  unfold pixelSignal darkSignal
  omega

/-- R69: both sums are taken over the exposures paired with their raw codes. -/
theorem pixelSums_eq (weights : Vector Nat 256) (satCode : Nat) (r : PixelRef) (es : List MergeExposure)
    (codes : List Nat) : pixelSums weights satCode r es codes =
      (((es.zip codes).map fun p => pixelWeight weights satCode p.2
          * flatSignal (pixelSignal p.2 r.bias r.rate p.1.time) r.gain).sum,
        ((es.zip codes).map fun p => pixelWeight weights satCode p.2 * (p.1.time * p.1.m)).sum) := by
  induction es generalizing codes with
  | nil => cases codes <;> rfl
  | cons e es ih =>
    cases codes with
    | nil => rfl
    | cons c codes => simp only [pixelSums, ih, List.zip_cons_cons, List.map_cons, List.sum_cons]

/-! ## The linear value -/

/-- A quotient raised where the remainder is half the divisor or more is the quotient rounded half up. -/
theorem roundHalfUp_eq {n b : Nat} (hb : 0 < b) :
    (if b ≤ 2 * (n % b) then n / b + 1 else n / b) = (2 * n + b) / (2 * b) := by
  have hlt : n % b < b := Nat.mod_lt n hb
  have hsplit : 2 * n + b = 2 * (n % b) + b + 2 * b * (n / b) := by
    conv_lhs => rw [← Nat.mod_add_div n b]
    ring
  rw [hsplit, Nat.add_mul_div_left _ _ (Nat.mul_pos two_pos hb)]
  split
  next h =>
    have hone : (2 * (n % b) + b) / (2 * b) = 1 := Nat.div_eq_of_lt_le (by omega) (by omega)
    rw [hone, Nat.add_comm]
  next h =>
    have hzero : (2 * (n % b) + b) / (2 * b) = 0 := Nat.div_eq_of_lt (by omega)
    rw [hzero, Nat.zero_add]

/-- R70: the linear value is A × 2^24 / B rounded by the mode. -/
theorem linearRounded_eq (mode : RoundingMode) (a : Nat) {b : Nat} (hb : 0 < b) : linearRounded mode a b =
    match mode with
    | .nearestUp => (2 * (a * 16777216) + b) / (2 * b)
    | .nearestEven =>
      if b < 2 * (a * 16777216 % b) ∨ (2 * (a * 16777216 % b) = b ∧ a * 16777216 / b % 2 = 1) then
        a * 16777216 / b + 1
      else a * 16777216 / b := by
  cases mode with
  | nearestUp => exact roundHalfUp_eq hb
  | nearestEven => rfl

/-! ## The code of a pixel with no weight -/

section
variable {satCode : Nat} {codes : List Nat}

theorem unresolvedOut_of_saturated (enc : Encoding) (h : ∃ c ∈ codes, satCode ≤ c) :
    unresolvedOut satCode enc codes = { code := (match enc with | .density16 => 0 | .linear16 _ => 65535)
                                        resolved := false, clippedBright := true } :=
  if_pos (by simpa using h)

theorem unresolvedOut_of_unsaturated (enc : Encoding) (h : ∀ c ∈ codes, c < satCode) :
    unresolvedOut satCode enc codes = { code := (match enc with | .density16 => 65535 | .linear16 _ => 0)
                                        resolved := false, clippedDense := true } :=
  if_neg (by simpa using h)

/-- R72: an unresolved pixel is clipped and carries none of the marks of R71, R74 and R75. -/
theorem unresolvedOut_marks (satCode : Nat) (enc : Encoding) (codes : List Nat) :
    (unresolvedOut satCode enc codes).resolved = false ∧ (unresolvedOut satCode enc codes).overClear = false
    ∧ (unresolvedOut satCode enc codes).denseLimit = false ∧ (unresolvedOut satCode enc codes).limit = false := by
  unfold unresolvedOut
  split <;> exact ⟨rfl, rfl, rfl, rfl⟩

end

/-! ## The two encodings of a resolved pixel -/

/-- R75: the code is limited to 16 bits, and the pixel is a limit pixel where that or the clamp of R71 changed it. -/
theorem linearOut_eq (shift y : Nat) (clamped : Bool) : linearOut shift y clamped =
    { code := min 65535 (linearRaw shift y), limit := decide (65535 < linearRaw shift y) || clamped } := by
  unfold linearOut
  split
  next h => simp [h, Nat.min_eq_left h.le]
  next h => simp [h, Nat.min_eq_right (Nat.not_lt.1 h)]

/-- R74 step 1: a linear value of 0. -/
theorem densityOut_zero (lClear : Nat) (clamped : Bool) :
    densityOut lClear 0 clamped = { code := 65534, denseLimit := true, limit := clamped } := rfl

/-- R74 steps 2 and 3: otherwise the code is the raw density limited to 0 and 65534, with a mark for each side. -/
theorem densityOut_of_ne_zero (lClear : Nat) {y : Nat} (clamped : Bool) (hy : y ≠ 0) :
    densityOut lClear y clamped =
      { code := (max 0 (min 65534 (densityRaw lClear y))).toNat
        overClear := decide (densityRaw lClear y < 0), denseLimit := decide (65534 < densityRaw lClear y)
        limit := clamped } := by
  unfold densityOut
  rw [if_neg hy]
  generalize densityRaw lClear y = d
  obtain hneg | hin | hhigh : d < 0 ∨ (0 ≤ d ∧ d ≤ 65534) ∨ 65534 < d := by omega
  · have hcode : (max 0 (min 65534 d)).toNat = 0 := by omega
    have hlow : ¬ 65534 < d := by omega
    simp [hneg, hlow, hcode]
  · have hcode : (max 0 (min 65534 d)).toNat = d.toNat := by omega
    simp [hin.1.not_gt, hin.2.not_gt, hcode]
  · have hcode : (max 0 (min 65534 d)).toNat = 65534 := by omega
    have hpos : ¬ d < 0 := by omega
    simp [hpos, hhigh, hcode]

/-- The marks of a resolved pixel that do not depend on the density. -/
theorem densityOut_marks (lClear y : Nat) (clamped : Bool) :
    (densityOut lClear y clamped).resolved = true ∧ (densityOut lClear y clamped).clippedBright = false
    ∧ (densityOut lClear y clamped).clippedDense = false ∧ (densityOut lClear y clamped).limit = clamped := by
  by_cases hy : y = 0
  · rw [hy, densityOut_zero]
    exact ⟨rfl, rfl, rfl, rfl⟩
  · rw [densityOut_of_ne_zero lClear clamped hy]
    exact ⟨rfl, rfl, rfl, rfl⟩

theorem densityOut_code_le (lClear y : Nat) (clamped : Bool) : (densityOut lClear y clamped).code ≤ 65534 := by
  by_cases hy : y = 0
  · rw [hy, densityOut_zero]
  · rw [densityOut_of_ne_zero lClear clamped hy]
    dsimp only
    omega

/-! ## One pixel -/

section
variable {ctx : MergeCtx} {r : PixelRef} {codes : List Nat} {a b : Nat}

theorem mergePixel_of_weightless (hlen : codes.length = ctx.exposures.length)
    (hsums : pixelSums ctx.weights ctx.satCode r ctx.exposures codes = (a, 0)) :
    mergePixel ctx r codes = unresolvedOut ctx.satCode ctx.encoding codes := by
  simp only [mergePixel, hsums, if_true, ← hlen, List.take_length]

theorem mergePixel_of_linear16 {shift : Nat} (henc : ctx.encoding = .linear16 shift) (hb : 0 < b)
    (hsums : pixelSums ctx.weights ctx.satCode r ctx.exposures codes = (a, b)) :
    mergePixel ctx r codes = linearOut shift (min 4294967295 (linearRounded ctx.rounding a b))
      (decide (4294967295 < linearRounded ctx.rounding a b)) := by
  simp only [mergePixel, hsums, hb.ne', if_false, henc, maxLinear, Nat.min_comm]

theorem mergePixel_of_density16 (henc : ctx.encoding = .density16) (hb : 0 < b)
    (hsums : pixelSums ctx.weights ctx.satCode r ctx.exposures codes = (a, b)) :
    mergePixel ctx r codes = densityOut ctx.lClear (min 4294967295 (linearRounded ctx.rounding a b))
      (decide (4294967295 < linearRounded ctx.rounding a b)) := by
  simp only [mergePixel, hsums, hb.ne', if_false, henc, maxLinear, Nat.min_comm]

end

/-- Settles O53: the sums are `pixelSums_eq`; without weight the pixel is `unresolvedOut`, and with weight its linear
value is `linearRounded`, encoded by `linearOut` or `densityOut`. -/
theorem pixelArithmetic : Obligations.PixelArithmetic := by
  unfold Obligations.PixelArithmetic
  intro ctx r codes hlen signal weight a b out
  have hsums : pixelSums ctx.weights ctx.satCode r ctx.exposures codes = (a, b) := by
    simp only [pixelSums_eq, pixelSignal_eq_toNat]
    rfl
  refine ⟨fun hb => ?_, fun hb => ?_⟩
  · have hout : out = unresolvedOut ctx.satCode ctx.encoding codes := mergePixel_of_weightless hlen (hb ▸ hsums)
    rw [hout]
    obtain ⟨hres, hover, hdense, hlimit⟩ := unresolvedOut_marks ctx.satCode ctx.encoding codes
    refine ⟨hres, hover, hdense, hlimit, fun hsat => ?_, fun hunsat => ?_⟩
    · rw [unresolvedOut_of_saturated _ hsat]
      exact ⟨rfl, rfl, rfl⟩
    · rw [unresolvedOut_of_unsaturated _ hunsat]
      exact ⟨rfl, rfl, rfl⟩
  · have hround := linearRounded_eq ctx.rounding a hb
    cases henc : ctx.encoding with
    | density16 =>
      have hout : out = _ := mergePixel_of_density16 henc hb hsums
      rw [hout]
      obtain ⟨hres, hbright, hdense, hlimit⟩ := densityOut_marks ctx.lClear
        (min 4294967295 (linearRounded ctx.rounding a b)) (decide (4294967295 < linearRounded ctx.rounding a b))
      refine ⟨hres, hbright, hdense, linearRounded ctx.rounding a b, hround, hlimit, densityOut_code_le _ _ _,
        fun hzero => ?_, fun hne => ?_⟩
      · rw [hzero, densityOut_zero]
        exact ⟨rfl, rfl, rfl⟩
      · rw [densityOut_of_ne_zero _ _ hne]
        exact ⟨Int.toNat_of_nonneg (le_max_left _ _), rfl, rfl⟩
    | linear16 shift =>
      have hout : out = _ := (mergePixel_of_linear16 henc hb hsums).trans (linearOut_eq _ _ _)
      rw [hout]
      exact ⟨rfl, rfl, rfl, linearRounded ctx.rounding a b, hround, rfl, (Bool.decide_or _ _).symm, rfl, rfl⟩

end Sys2Proof.Machine
end

section
/-! PROOFS. The log value (R73): the table rises, and so the value does, within an octave and from one to the next. -/

namespace Sys2Proof.Machine

/-- Whether a list of numbers rises, repetitions allowed. -/
def risesFrom : Nat → List Nat → Bool
  | _, [] => true
  | a, b :: l => decide (a ≤ b) && risesFrom b l

theorem risesFrom_iff (a : Nat) (l : List Nat) : risesFrom a l = true ↔ List.IsChain (· ≤ ·) (a :: l) := by
  induction l generalizing a with
  | nil => simp [risesFrom]
  | cons b l ih => simp [risesFrom, ih, List.isChain_cons_cons]

/-- R73: all 4096 entries of the log table, in order, rise from 0. -/
theorem logRows_rise : risesFrom 0 logRows.flatten = true := by decide +kernel

/-- The rows of the log table hold 64 entries each. -/
theorem logRows_length : logRows.length = 64 ∧ ∀ row ∈ logRows, row.length = 64 := by decide +kernel

/-- A place of rows of equal length, in the rows one after another. -/
theorem flatten_getD {n : Nat} (rows : List (List Nat)) (h : ∀ row ∈ rows, row.length = n) (i j : Nat) (hj : j < n) :
    rows.flatten.getD (n * i + j) 0 = (rows.getD i []).getD j 0 := by
  induction rows generalizing i with
  | nil => simp
  | cons row rows ih =>
    have hrow : row.length = n := h row (by simp)
    cases i with
    | zero => simp [List.getElem?_append_left, hrow, hj]
    | succ i =>
      rw [List.flatten_cons, List.getD_append_right _ _ _ _ (by rw [hrow, Nat.mul_succ]; omega), List.getD_cons_succ,
        ← ih (fun r hr => h r (by simp [hr])) i]
      congr 1
      rw [hrow, Nat.mul_succ]; omega

theorem logEntry_eq (k : Nat) : logEntry k = logRows.flatten.getD k 0 := by
  obtain ⟨-, hrows⟩ := logRows_length
  have h := flatten_getD logRows hrows (k / 64) (k % 64) (Nat.mod_lt _ (by omega))
  rw [Nat.div_add_mod] at h
  exact h.symm

/-- R73: the entries of the log table rise. -/
theorem logEntry_mono {a b : Nat} (hab : a ≤ b) (hb : b < 4096) : logEntry a ≤ logEntry b := by
  obtain ⟨hlen, hrows⟩ := logRows_length
  have hsize : logRows.flatten.length = 4096 := by decide +kernel
  have hchain : List.IsChain (· ≤ ·) (0 :: logRows.flatten) := (risesFrom_iff _ _).1 logRows_rise
  have hsorted : logRows.flatten.Pairwise (· ≤ ·) := (List.isChain_iff_pairwise.1 hchain).tail
  rw [logEntry_eq, logEntry_eq, List.getD_eq_getElem _ _ (by omega), List.getD_eq_getElem _ _ (by omega)]
  rcases Nat.lt_or_ge a b with h | h
  · exact List.pairwise_iff_getElem.1 hsorted a b _ _ h
  · simp [Nat.le_antisymm hab h]

theorem logEntry_le {k : Nat} (hk : k < 4096) : logEntry k ≤ 19725 :=
  (logEntry_mono (by omega) (by omega : (4095 : Nat) < 4096)).trans (by decide)

/-- The place in the log table of a number whose highest bit is `e` (R73). -/
theorem logPlace_lt {y e : Nat} (h : y < 2 ^ (e + 1)) : (y - 2 ^ e) * 4096 / 2 ^ e < 4096 := by
  rw [Nat.div_lt_iff_lt_mul (by positivity)]
  rw [pow_succ] at h
  omega

/-- R73: the log value by the place of the highest bit. -/
theorem logValue_eq {y e : Nat} (hlo : 2 ^ e ≤ y) (hhi : y < 2 ^ (e + 1)) :
    logValue y = e * 19728 + logEntry ((y - 2 ^ e) * 4096 / 2 ^ e) := by
  have hpos : y ≠ 0 := by have := Nat.two_pow_pos e; omega
  have hlog : Nat.log2 y = e := (Nat.log2_eq_iff hpos).2 ⟨hlo, hhi⟩
  simp [logValue, hpos, hlog]

/-- The octave of a number. -/
theorem exists_octave {y : Nat} (hy : 1 ≤ y) : ∃ e, 2 ^ e ≤ y ∧ y < 2 ^ (e + 1) :=
  ⟨Nat.log2 y, Nat.log2_self_le (by omega), Nat.lt_log2_self⟩

/-- R73: the log value rises. -/
theorem logValue_mono {a b : Nat} (ha : 1 ≤ a) (hab : a ≤ b) : logValue a ≤ logValue b := by
  obtain ⟨d, hda, had⟩ := exists_octave ha
  obtain ⟨e, heb, hbe⟩ := exists_octave (ha.trans hab)
  rw [logValue_eq hda had, logValue_eq heb hbe]
  have hde : d ≤ e := by
    by_contra h
    have : 2 ^ (e + 1) ≤ 2 ^ d := Nat.pow_le_pow_right (by omega) (by omega)
    omega
  rcases Nat.lt_or_ge d e with h | h
  · have := logEntry_le (logPlace_lt had)
    omega
  · obtain rfl : d = e := Nat.le_antisymm hde h
    have hplace : (a - 2 ^ d) * 4096 / 2 ^ d ≤ (b - 2 ^ d) * 4096 / 2 ^ d :=
      Nat.div_le_div_right (Nat.mul_le_mul_right _ (by omega))
    have := logEntry_mono hplace (logPlace_lt hbe)
    omega

/-- Settles O54: within an octave the table rises (`logEntry_mono`), and its last entry is below the step of an octave. -/
theorem logValueRises : Obligations.LogValueRises := by
  unfold Obligations.LogValueRises
  refine ⟨by decide, by decide, by decide, fun y e => logValue_eq, ?_, fun a b ha hab _ => logValue_mono ha hab, ?_⟩
  · exact (logValue_eq (e := 0) (by decide) (by decide)).trans (by decide)
  · intro y hy hy'
    obtain ⟨e, hlo, hhi⟩ := exists_octave hy
    have he : e < 32 := (Nat.pow_lt_pow_iff_right (by omega : 1 < 2)).1 (show 2 ^ e < 2 ^ 32 by omega)
    have := logEntry_le (logPlace_lt hhi)
    rw [logValue_eq hlo hhi]
    omega

end Sys2Proof.Machine
end

section
/-! PROOFS. A command of the host at the link (R149, R150): what becomes of it while the link is detached, during a
reset and with a payload that does not fit, and that it is answered by its owner otherwise. -/

namespace Sys2Proof.Machine

/-! ## The gate -/

variable {h : Hdr} {kind : CommandKind} {owner : State → Answer} {s : State}

theorem command_detached (ha : s.liu.attached = false) : command h kind owner s = s := by simp [command, ha]

theorem command_resetting {w : ResetWork} (ha : s.liu.attached = true) (hw : s.liu.resetWork = some w) :
    command h kind owner s = { s with liu := { s.liu with resetWork := some { w with
      busy := w.busy ++ [{ tag := h.tag, status := .busy, kind := kind, body := .none }] } } } := by
  simp [command, ha, hw]

theorem command_unfit (ha : s.liu.attached = true) (hw : s.liu.resetWork = none) (hf : h.fits = false) :
    command h kind owner s = s.replied h kind .badArg .none := by
  simp [command, ha, hw, hf, State.replied]

/-- R149: a command record that fits is answered as its owner decides. -/
theorem command_eq_replied (ht : s.takes h) :
    command h kind owner s = (owner s).state.replied h kind (owner s).status (owner s).body := by
  obtain ⟨ha, hw, hf⟩ := ht
  exact command_takes h kind owner s ha hw hf

theorem command_pending (ho : (owner s).state.pending = s.pending) : (command h kind owner s).pending = s.pending := by
  obtain ⟨-, e⟩ | ⟨-, w, -, e⟩ | ⟨-, -, a, rfl, e⟩ := command_cases h kind owner s <;> rw [e]
  cases h.fits
  · rfl
  · exact ho

theorem resetCommand_detached {k : ResetKind} (ha : s.liu.attached = false) : s.resetCommand h k = s := by
  simp [State.resetCommand, ha]

theorem resetCommand_resetting {k : ResetKind} {w : ResetWork} (ha : s.liu.attached = true)
    (hw : s.liu.resetWork = some w) :
    s.resetCommand h k = { s with liu := { s.liu with resetWork := some { w with
      busy := w.busy ++ [{ tag := h.tag, status := .busy, kind := .reset, body := .none }] } } } := by
  simp [State.resetCommand, State.answer, ha, hw]

theorem resetCommand_unfit {k : ResetKind} (ha : s.liu.attached = true) (hw : s.liu.resetWork = none)
    (hf : h.fits = false) : s.resetCommand h k = s.replied h .reset .badArg .none := by
  simp [State.resetCommand, State.answer, State.replied, ha, hw, hf]

/-- A command of the host is taken at the gate of `command`, and RESET at its own. -/
theorem exec_host {c : Instr} (hc : c.host? = some (h, kind)) :
    (∃ owner, ∀ s, exec c s = .next (command h kind owner s))
      ∨ (kind = .reset ∧ ∃ k, ∀ s, exec c s = .next (s.resetCommand h k)) := by
  cases c <;> cases hc
  case resetSoft => exact .inr ⟨rfl, .soft, fun _ => rfl⟩
  case resetFull => exact .inr ⟨rfl, .full, fun _ => rfl⟩
  all_goals exact .inl ⟨_, fun _ => rfl⟩

/-- Settles O9: every command of the host passes one of two gates (`exec_host`). -/
theorem hostCommandGate : Obligations.HostCommandGate := by
  unfold Obligations.HostCommandGate
  intro c h k s hc
  obtain ⟨owner, e⟩ | ⟨rfl, r, e⟩ := exec_host hc <;> rw [e]
  · exact ⟨fun ha => by rw [command_detached ha], fun w ha hw => by rw [command_resetting ha hw],
      fun ha hw hf => by rw [command_unfit ha hw hf]⟩
  · exact ⟨fun ha => by rw [resetCommand_detached ha], fun w ha hw => by rw [resetCommand_resetting ha hw],
      fun ha hw hf => by rw [resetCommand_unfit ha hw hf]⟩

/-! ## Every command -/

/-- Settles O1: `step` is that by definition. -/
theorem stepRunsFront : Obligations.StepRunsFront := by
  unfold Obligations.StepRunsFront
  exact fun c rest s => rfl

theorem homeScanDone_pending (s : State) (present : BitVec 20) : (s.homeScanDone present).pending = s.pending := by
  unfold State.homeScanDone
  generalize s.trs.scanEntries (allPositions present) = u
  dsimp only
  (repeat' split) <;> simp

/-- Settles O2: the meaning of every command is a next state, and each operation leaves `pending` (the frame lemmas). -/
theorem everyCommandCompletes : Obligations.EveryCommandCompletes := by
  unfold Obligations.EveryCommandCompletes
  intro c s
  cases c with
  | identify | setParam | getParam | loadTable | home | queryMagazine | calibrateDark | calibrateFlat | calibrateCancel
  | submitJob | queryJob | releaseJob | abortJob | hold | resume | grantStripes | queryStatus | clearStage =>
    refine ⟨_, rfl, command_pending ?_⟩
    simp
  | lightRequest | interlockAsk | lampSettleTimeout | lostCarrier =>
    refine ⟨_, rfl, ?_⟩
    split <;> simp
  | idleTimerExpiry =>
    refine ⟨_, rfl, ?_⟩
    dsimp only
    (repeat' split) <;> simp
  | loadComplete | noCarrier | settleCompletion | planCompletion | admissionGrant | exposureEnd | exposureCompletion
  | retryReport | secondReadoutFailure | transportFault | backlightFault | unloadComplete | trsEmptyReport
  | reinitEndReport | cruIdleReport =>
    refine ⟨_, rfl, ?_⟩
    unfold State.prcEvent
    split <;> simp
  | powerOn | homeScanLegDone => exact ⟨_, rfl, by simp [State.powerOn, homeScanDone_pending]⟩
  | _ => exact ⟨_, rfl, by simp⟩

end Sys2Proof.Machine
end

section
/-! PROOFS. LIU: the reports (R153), the parameters and the weight table (R151, R152), and the records that come and go
(R149, R150, R155). -/

namespace Sys2Proof.Machine

/-! ## What QUERY_STATUS counts -/

/-- The elements of a list that pass a test, counted by their places. -/
theorem length_filter_eq_range {α : Type} (p : α → Bool) (l : List α) :
    (l.filter p).length = ((List.range l.length).filter fun i => (l[i]?).any p).length := by
  induction l with
  | nil => rfl
  | cons a l ih =>
    rw [List.length_cons, List.range_succ_eq_map, List.filter_cons, List.filter_cons, List.filter_map, apply_ite List.length,
      apply_ite List.length, List.length_cons, List.length_cons, List.length_map, ih]
    rfl

/-- R99: the number of slots whose state satisfies a test. -/
theorem Fst.countSlots_eq (f : Fst) {p q : SlotState → Bool} (h : ∀ x, p x = q x) :
    f.countSlots p = ((List.range 48).filter fun i => (f.slot i).any q).length := by
  have hpq : p = q := funext h
  subst hpq
  unfold Fst.countSlots Fst.slot
  rw [length_filter_eq_range]
  simp

/-- R99: every slot is in one of the nine states. -/
theorem Fst.counts_sum (f : Fst) :
    f.counts.free + f.counts.reserved + f.counts.exposing + f.counts.raw + f.counts.dest + f.counts.merged
      + f.counts.streaming + f.counts.ref + f.counts.calwork = 48 := by
  have hlen : f.slots.toList.length = 48 := by simp
  rw [← hlen]
  simp only [Fst.counts, Fst.countSlots]
  clear hlen
  induction f.slots.toList with
  | nil => rfl
  | cons x l ih =>
    cases x <;> simp only [List.filter_cons, List.length_cons, if_true, Bool.false_eq_true, if_false] <;> omega

/-- R83: the marks of the profiles as QUERY_STATUS gives them. -/
theorem Cru.profiles_valid (c : Cru) {p : Nat} (hp : p < 4) :
    (c.profiles.map (·.valid))[p]? = some (c.profile p).valid := by
  simp [Cru.profile, hp]

/-- Settles O10: the replies carry `State.report` and the like, whose items are the fields themselves. -/
theorem reportsAreTrue : Obligations.ReportsAreTrue := by
  unfold Obligations.ReportsAreTrue
  refine ⟨fun h s ht => ?_, fun h clear s ht => ?_⟩
  · refine ⟨congrArg _ (command_eq_replied ht), congrArg _ (command_eq_replied ht),
      fun p => congrArg _ (command_eq_replied ht), congrArg _ (command_eq_replied ht), fun i hi => ?_, fun i hi => ?_⟩
    · refine congrArg _ ((command_eq_replied ht).trans ?_)
      simp [State.getParam, Nat.not_lt.2 hi]
    · refine congrArg _ ((command_eq_replied ht).trans ?_)
      simp [State.getParam, hi]
  · refine ⟨s.report, ?_, rfl, rfl, rfl, rfl, rfl, rfl, rfl, rfl, rfl, rfl, rfl, rfl, rfl, rfl, ?_, ?_, rfl, rfl, rfl, rfl,
      rfl, rfl, ?_, ?_, rfl, rfl, rfl, rfl, rfl, fun p hp => s.cru.profiles_valid hp, rfl, rfl, rfl, ?_, ?_, ?_, ?_, ?_, ?_,
      ?_, ?_, ?_, ?_, ?_, ?_, ?_, s.fst.counts_sum⟩
    · refine congrArg _ ((command_eq_replied ht).trans ?_)
      cases clear <;> rfl
    · intro e; simp [State.report, Sfe.report, e]
    · intro q e; simp [State.report, Sfe.report, e]
    · intro e; simp [State.report, e]
    · intro p ps e; simp [State.report, e]
    · intro e; simp [State.report, e]
    · intro x xs e; simp [State.report, e]
    · intro e; simp [State.report, Fst.waitReport, e]
    · intro t n e; simp [State.report, Fst.waitReport, e]
    all_goals exact s.fst.countSlots_eq fun x => by cases x <;> rfl

/-! ## Parameters -/

/-- R151, R152: run-locked values stand while a tile is EXPOSING, EXPOSED or MERGING. -/
theorem Prc.locked_iff (p : Prc) : p.locked = true
    ↔ ∃ j ∈ p.jobs, ∃ x ∈ j.tiles, x.state = .exposing ∨ x.state = .exposed ∨ x.state = .merging := by
  have hlocks : ∀ st : TileState, st.locks = true ↔ st = .exposing ∨ st = .exposed ∨ st = .merging := by
    intro st; cases st <;> simp [TileState.locks]
  simp [Prc.locked, hlocks]

theorem Param.runLocked_iff (p : Param) : p.runLocked = true ↔ p = .satCode ∨ p = .roundingMode := by
  cases p <;> simp [Param.runLocked]

theorem Param.kind_numeric {p : Param} {lo hi : Nat} (h : p.kind = .numeric lo hi) : lo ≤ hi := by
  cases p <;> simp only [Param.kind, ParamKind.numeric.injEq, reduceCtorEq] at h <;> omega

theorem Param.kind_named {p : Param} {n : Nat} (h : p.kind = .named n) : n = 2 := by
  cases p <;> simp only [Param.kind, ParamKind.named.injEq, reduceCtorEq] at h <;> omega

/-- The seven marks of notice_enable are the low bits of the value. -/
theorem NoticeMask.val_ofNat (v : Nat) : (NoticeMask.ofNat (v % 128)).val = v % 128 := by
  have h : ∀ k : Fin 128, (NoticeMask.ofNat k.val).val = k.val := by decide
  exact h ⟨v % 128, Nat.mod_lt _ (by decide)⟩

/-- R151: a value that SET_PARAM stores is the value then in force. -/
theorem Params.get_set_self (t : Params) {p : Param} {v w : Nat} (h : storedValue p v = some w) : (t.set p w).get p = w := by
  cases p
  case noticeEnable =>
    obtain rfl : v % 128 = w := by simpa [storedValue, Param.kind] using h
    exact NoticeMask.val_ofNat v
  case roundingMode | darkPolicy | runMode =>
    obtain ⟨hv, rfl⟩ : v < 2 ∧ v = w := by simpa [storedValue, Param.kind] using h
    obtain rfl | rfl : v = 0 ∨ v = 1 := by omega
    · rfl
    · rfl
  case stepRatio =>
    obtain ⟨hv, rfl⟩ : (v = 4 ∨ v = 8 ∨ v = 16) ∧ v = w := by simpa [storedValue, Param.kind] using h
    obtain rfl | rfl | rfl := hv <;> rfl
  all_goals rfl

/-- R151: SET_PARAM changes no other value. -/
theorem Params.get_set_ne (t : Params) {p q : Param} (w : Nat) (h : q ≠ p) : (t.set p w).get q = t.get q := by
  cases p <;> cases q <;> first | exact absurd rfl h | rfl

section
variable {h : Hdr} {s : State} {p : Param} {v w : Nat}

theorem exec_setParam (ht : s.takes h) : exec (.setParam h (some p) v) s
    = .next ((s.storeParam p v).state.replied h .setParam (s.storeParam p v).status (s.storeParam p v).body) :=
  congrArg _ (command_eq_replied ht)

/-- R151: SET_PARAM stores a value. -/
theorem exec_setParam_stored (ht : s.takes h) (hl : ¬ (p.runLocked = true ∧ s.prc.locked = true))
    (hv : storedValue p v = some w) :
    exec (.setParam h (some p) v) s
      = .next ({ s with liu := { s.liu with params := s.liu.params.set p w } }.replied h .setParam
          (if w = v then .ok else .clamped) (.param p ((s.liu.params.set p w).get p))) := by
  rw [exec_setParam ht]
  have hl' : (p.runLocked && s.prc.locked) = false := by simpa using hl
  simp [State.storeParam, hl', hv, State.paramBody]

/-- R151: SET_PARAM refuses a value of a named parameter. -/
theorem exec_setParam_refused (ht : s.takes h) (hl : ¬ (p.runLocked = true ∧ s.prc.locked = true))
    (hv : storedValue p v = none) :
    exec (.setParam h (some p) v) s = .next (s.replied h .setParam .badArg (.param p (s.liu.params.get p))) := by
  rw [exec_setParam ht]
  have hl' : (p.runLocked && s.prc.locked) = false := by simpa using hl
  simp [State.storeParam, hl', hv, State.paramBody]

end

/-- R152: the weights after a piece of the table has been written. -/
theorem writeWeights_getElem? (w : Vector Nat 256) (start : Nat) (l : List Nat) (hl : start + l.length ≤ 256) (k : Nat) :
    (writeWeights w start l)[k]? = if start ≤ k ∧ k < start + l.length then l[k - start]? else w[k]? := by
  induction l generalizing w start with
  | nil => simp [writeWeights]
  | cons e l ih =>
    rw [List.length_cons] at hl
    rw [writeWeights, ih _ _ (by omega), Vector.getElem?_setIfInBounds, List.length_cons]
    by_cases hk : k = start
    · subst hk
      simp [show k < 256 by omega]
    · by_cases hin : start ≤ k ∧ k < start + (l.length + 1)
      · obtain ⟨n, rfl⟩ : ∃ n, k = start + 1 + n := ⟨k - (start + 1), by omega⟩
        rw [if_pos (by omega), if_pos (by omega), Nat.add_sub_cancel_left, show start + 1 + n - start = n + 1 by omega]
        rfl
      · rw [if_neg (by omega), if_neg hin, if_neg (Ne.symm hk)]

theorem tablePieceOk_iff (start : Nat) (l : List Nat) : tablePieceOk start l = true
    ↔ start ≤ 255 ∧ l ≠ [] ∧ l.length ≤ 64 ∧ start + l.length ≤ 256 ∧ ∀ e ∈ l, e ≤ 255 := by
  simp [tablePieceOk, and_assoc]

/-- Settles O11: SET_PARAM by the kind of its parameter, and LOAD_TABLE by its checks. -/
theorem parametersStored : Obligations.ParametersStored := by
  unfold Obligations.ParametersStored
  refine ⟨fun h v s ht => congrArg _ (command_eq_replied ht), fun h p v s ht => ⟨fun hp hl => ?_, fun hl => ?_⟩,
    fun h start l s ht => ⟨fun hbad => ?_, fun h1 h2 h3 h4 h5 => ?_⟩⟩
  · rw [exec_setParam ht]
    simp [State.storeParam, State.paramBody, p.runLocked_iff.2 hp, s.prc.locked_iff.2 hl]
  · rw [← s.prc.locked_iff, ← p.runLocked_iff] at hl
    have stored : ∀ w, storedValue p v = some w → ∀ st : Status, (if w = v then Status.ok else .clamped) = st →
        ∃ params : Params, exec (.setParam h (some p) v) s
            = .next ({ s with liu := { s.liu with params := params } }.replied h .setParam st (.param p (params.get p)))
          ∧ params.get p = w ∧ ∀ q, q ≠ p → params.get q = s.liu.params.get q := by
      rintro w hw _ rfl
      exact ⟨_, exec_setParam_stored ht hl hw, Params.get_set_self _ hw, fun q hq => Params.get_set_ne _ _ hq⟩
    have kept : ∀ w, storedValue p v = some w → w = v → ∃ params : Params, exec (.setParam h (some p) v) s
            = .next ({ s with liu := { s.liu with params := params } }.replied h .setParam .ok (.param p v))
          ∧ params.get p = v ∧ ∀ q, q ≠ p → params.get q = s.liu.params.get q := by
      rintro w hw rfl
      obtain ⟨params, e, hself, hother⟩ := stored w hw .ok (if_pos rfl)
      exact ⟨params, by rw [e, hself], hself, hother⟩
    cases hk : p.kind with
    | numeric lo hi =>
      have hle := Param.kind_numeric hk
      have hw : storedValue p v = some (if v < lo then lo else if hi < v then hi else v) := by
        simp only [storedValue, hk, clampTo, Option.some.injEq]
        split_ifs <;> omega
      refine stored _ hw _ ?_
      have hiff : (if v < lo then lo else if hi < v then hi else v) = v ↔ lo ≤ v ∧ v ≤ hi := by split_ifs <;> omega
      simp only [hiff]
    | idle =>
      have hw : storedValue p v = some (if v = 0 then 0 else if v < 10 then 10 else if 3600 < v then 3600 else v) := by
        simp only [storedValue, hk, clampTo, Option.some.injEq]
        split_ifs <;> omega
      refine stored _ hw _ ?_
      have hiff : (if v = 0 then 0 else if v < 10 then 10 else if 3600 < v then 3600 else v) = v
          ↔ v = 0 ∨ (10 ≤ v ∧ v ≤ 3600) := by split_ifs <;> omega
      simp only [hiff]
    | named n =>
      by_cases hv : v < n
      · simp only [hv, if_true]
        exact kept v (by simp [storedValue, hk, hv]) rfl
      · simp only [hv, if_false]
        exact exec_setParam_refused ht hl (by simp [storedValue, hk, hv])
    | steps =>
      by_cases hv : v = 4 ∨ v = 8 ∨ v = 16
      · simp only [hv, if_true]
        exact kept v (by simp [storedValue, hk, hv]) rfl
      · simp only [hv, if_false]
        exact exec_setParam_refused ht hl (by simp [storedValue, hk, hv])
    | marks =>
      refine stored _ (by simp [storedValue, hk]) _ ?_
      by_cases hv : v < 128
      · rw [if_pos hv, if_pos (Nat.mod_eq_of_lt hv)]
      · rw [if_neg hv, if_neg]
        omega
  · refine congrArg _ ((command_eq_replied ht).trans ?_)
    have : tablePieceOk start l = false := by
      rw [← Bool.not_eq_true, tablePieceOk_iff]
      rintro ⟨h1, h2, h3, h4, h5⟩
      rcases hbad with hb | hb | hb | hb | ⟨e, he, hb⟩
      · omega
      · exact h2 hb
      · omega
      · omega
      · exact absurd (h5 e he) (by omega)
    simp [State.loadTable, this]
  · have hok : tablePieceOk start l = true := (tablePieceOk_iff _ _).2 ⟨h1, h2, h3, h4, h5⟩
    split
    · next hlock =>
      rw [← s.prc.locked_iff] at hlock
      refine congrArg _ ((command_eq_replied ht).trans ?_)
      simp [State.loadTable, hok, hlock]
    · next hlock =>
      rw [← s.prc.locked_iff] at hlock
      refine ⟨writeWeights s.liu.weights start l, congrArg _ ((command_eq_replied ht).trans ?_),
        fun k _ => writeWeights_getElem? _ _ _ h4 k⟩
      simp [State.loadTable, hok, hlock]

/-! ## Records -/

/-- R149: the length that a transfer's header gives it. -/
theorem field_two_two {l : List Byte} (hl : 4 ≤ l.length) :
    field l 2 2 = (l.getD 2 0).toNat + 256 * (l.getD 3 0).toNat := by
  match l, hl with
  | a :: b :: c :: d :: rest, _ => simp [field, leNat]

theorem badFraming_iff (l : List Byte) : badFraming l = true ↔ l.length < 4
    ∨ 1020 < (l.getD 2 0).toNat + 256 * (l.getD 3 0).toNat
    ∨ 4 + ((l.getD 2 0).toNat + 256 * (l.getD 3 0).toNat) ≠ l.length := by
  by_cases hl : l.length < 4
  · simp [badFraming, hl]
  · rw [← field_two_two (Nat.not_lt.1 hl)]
    simp [badFraming, or_assoc]

/-- R155: how a notice is raised, by the place in the queue. -/
theorem Liu.raise_eq (l : Liu) (n : Notice) :
    (n.enabled l.params.noticeEnable = false → l.raise n = l)
    ∧ (n.enabled l.params.noticeEnable = true → l.notices.length < 64 → l.overflow = 0 →
        l.raise n = { l with notices := l.notices ++ [n] })
    ∧ (n.enabled l.params.noticeEnable = true → 64 ≤ l.notices.length ∨ l.overflow ≠ 0 →
        l.raise n = { l with
          overflow := min 65535 (l.overflow + 1), sticky := { l.sticky with noticeOverflow := true } }) := by
  obtain ⟨he, e⟩ | ⟨he, hlen, hov, e⟩ | ⟨he, hfull, e⟩ := l.raise_cases n <;> simp only [noticeCapacity] at *
  · simp [he, e]
  · simp [he, e]
    omega
  · simp [he, e]
    omega

/-- Settles O12: LIU's record operations by what waits, and `Liu.raise_eq`. -/
theorem recordsComeAndGo : Obligations.RecordsComeAndGo := by
  unfold Obligations.RecordsComeAndGo
  intro s ha
  refine ⟨fun hw => ⟨fun l hl => ?_, fun kind tag => ?_⟩, fun r rs hr => ?_, fun n ns hr hn ho => ?_,
    fun n ns hr hn ho => ?_, fun hr hn => ?_, fun l n => l.raise_eq n⟩
  · refine congrArg Host.Outcome.next ?_
    simp [State.badFrame, ha, (badFraming_iff l).2 hl, State.answer, hw, byteAt]
  · refine congrArg Host.Outcome.next ?_
    simp [State.badKind, ha, State.answer, hw]
  · refine congrArg Host.Outcome.next ?_
    simp [Liu.sendNext, ha, hr]
  · refine congrArg Host.Outcome.next ?_
    simp [Liu.sendNext, ha, hr, hn, Liu.afterSent, ho]
  · refine congrArg Host.Outcome.next ?_
    simp [Liu.sendNext, ha, hr, hn, Liu.afterSent, ho]
  · refine congrArg Host.Outcome.next ?_
    simp [Liu.sendNext, ha, hr, hn]

end Sys2Proof.Machine
end

section
/-! PROOFS. SUBMIT_JOB: the layout of Table 10.4 read back, and the checks of R2. -/

namespace Sys2Proof.Machine

/-! ## Table 10.4 -/

@[simp] theorem leBytes_length (k n : Nat) : (leBytes k n).length = k := by
  induction k generalizing n with
  | zero => rfl
  | succ k ih => simp [leBytes, ih]

/-- The bytes of a number give it back as far as they reach. -/
theorem leNat_leBytes (k n : Nat) : leNat (leBytes k n) = n % 256 ^ k := by
  induction k generalizing n with
  | zero => simp [leBytes, leNat, Nat.mod_one]
  | succ k ih =>
    rw [leBytes, leNat, ih, BitVec.toNat_ofNat, pow_succ' 256 k, Nat.mod_mul (a := 256)]

@[simp] theorem drop_leBytes_append_of_le {j start : Nat} (h : j ≤ start) (n : Nat) (l : List Byte) :
    (leBytes j n ++ l).drop start = l.drop (start - j) := by
  rw [List.drop_append, leBytes_length, List.drop_of_length_le (by simpa using h), List.nil_append]

/-- A field that begins beyond the first bytes is read from the rest. -/
@[simp] theorem field_leBytes_append_of_le {j start : Nat} (h : j ≤ start) (n k : Nat) (l : List Byte) :
    field (leBytes j n ++ l) start k = field l (start - j) k := by
  rw [field, field, drop_leBytes_append_of_le h]

/-- The first field of some bytes. -/
@[simp] theorem field_leBytes_append (k n : Nat) (l : List Byte) : field (leBytes k n ++ l) 0 k = n % 256 ^ k := by
  rw [field, List.drop_zero, List.take_left' (leBytes_length k n), leNat_leBytes]

/-- Whether a plan entry fits its 6 bytes. -/
def PlanEntry.fits (e : PlanEntry) : Prop := e.time < 4294967296 ∧ e.drive < 65536

/-- Plan entries are read back. -/
theorem parsePlan_flatMap (plan : List PlanEntry) (h : ∀ e ∈ plan, e.fits) (l : List Byte) :
    parsePlan plan.length (plan.flatMap planEntryBytes ++ l) = plan := by
  induction plan with
  | nil => rfl
  | cons e plan ih =>
    obtain ⟨ht, hd⟩ := h e (by simp)
    have hrest := ih fun x hx => h x (by simp [hx])
    simp only [List.length_cons, List.flatMap_cons, planEntryBytes, List.append_assoc, parsePlan]
    simp [hrest, Nat.mod_eq_of_lt ht, Nat.mod_eq_of_lt hd]

theorem length_flatMap_planEntryBytes (plan : List PlanEntry) :
    (plan.flatMap planEntryBytes).length = 6 * plan.length := by
  induction plan with
  | nil => rfl
  | cons e plan ih => simp [planEntryBytes, ih]; omega

/-- Settles O13: each field is read from its own bytes (`field_leBytes_append`). -/
theorem submissionRoundTrip : Obligations.SubmissionRoundTrip := by
  unfold Obligations.SubmissionRoundTrip
  intro s hs
  simp only [Submission.fits, Bool.and_eq_true, decide_eq_true_eq, List.all_eq_true] at hs
  obtain ⟨⟨⟨⟨⟨⟨⟨⟨⟨⟨⟨⟨⟨⟨h1, h2⟩, h3⟩, h4⟩, h5⟩, h6⟩, h7⟩, h8⟩, h9⟩, h10⟩, h11⟩, h12⟩, h13⟩, h14⟩, hplan⟩ := hs
  have hlen : (encodeSubmission s).length = 26 + 6 * s.plan.length + s.label.length := by
    simp only [encodeSubmission, List.length_append, leBytes_length, length_flatMap_planEntryBytes]
  have hp : parsePlan s.plan.length (s.plan.flatMap planEntryBytes ++ s.label) = s.plan := parsePlan_flatMap _ hplan _
  have hd : (s.plan.flatMap planEntryBytes ++ s.label).drop (6 * s.plan.length) = s.label := by
    rw [← length_flatMap_planEntryBytes, List.drop_left]
  have hmask : BitVec.ofNat 64 (s.mask.toNat % 18446744073709551616) = s.mask := by
    rw [Nat.mod_eq_of_lt s.mask.isLt, BitVec.ofNat_toNat, BitVec.setWidth_eq]
  unfold parseSubmission
  rw [hlen, if_neg (by omega), ← List.drop_drop]
  simp only [encodeSubmission, List.append_assoc]
  simp [Nat.mod_eq_of_lt, *]

/-! ## The checks (R2) -/

/-- The place in the tile list of a tile of the grid: serpentine order gives each once (R7). -/
theorem newTiles_any_pending (sub : Submission) (cols rows : Nat) :
    ((newTiles sub cols rows).any fun t => decide (t.state = .pending)) = true
      ↔ ∃ r c, r < rows ∧ c < cols ∧ sub.mask.getLsbD (r * 8 + c) = true := by
  have hpending : ∀ k, (newTile sub cols rows k).state = .pending
      ↔ sub.mask.getLsbD (k / cols * 8 + serpentineCol cols (k / cols) (k % cols)) = true := by
    intro k
    simp only [newTile]
    split <;> simp [*]
  simp only [newTiles, List.any_map, List.any_eq_true, List.mem_range, Function.comp, decide_eq_true_eq, hpending]
  constructor
  · rintro ⟨k, hk, hm⟩
    have hc : 0 < cols := Nat.pos_of_ne_zero (by rintro rfl; simp at hk)
    have := Nat.mod_lt k hc
    exact ⟨k / cols, _, Nat.div_lt_of_lt_mul hk, by unfold serpentineCol; split <;> omega, hm⟩
  · rintro ⟨r, c, hr, hc, hm⟩
    have hplace : serpentineCol cols r c < cols := by unfold serpentineCol; split <;> omega
    obtain ⟨hdiv, hmod⟩ : (cols * r + serpentineCol cols r c) / cols = r
        ∧ (cols * r + serpentineCol cols r c) % cols = serpentineCol cols r c :=
      (Nat.div_mod_unique (by omega)).2 ⟨Nat.add_comm _ _, hplace⟩
    refine ⟨cols * r + serpentineCol cols r c, ?_, ?_⟩
    · calc cols * r + serpentineCol cols r c < cols * r + cols := by omega
        _ = cols * (r + 1) := by ring
        _ ≤ cols * rows := Nat.mul_le_mul_left _ hr
    · rw [hdiv, hmod]
      have hinv : serpentineCol cols r (serpentineCol cols r c) = c := by unfold serpentineCol; split <;> omega
      rwa [hinv]

/-- R2 stage 1, in the words of the statements. -/
theorem fieldCheck_iff (sub : Submission) : fieldCheck sub = true ↔ ¬ sub.outside := by
  have hany := newTiles_any_pending sub (gridCols sub.width sub.overlap) (gridRows sub.height sub.overlap)
  simp only [fieldCheck, Bool.and_eq_true, Bool.or_eq_true, decide_eq_true_eq, hany, Submission.outside]
  have hmask : (∃ r c, r < gridRows sub.height sub.overlap ∧ c < gridCols sub.width sub.overlap
        ∧ sub.mask.getLsbD (r * 8 + c) = true)
      ↔ ¬ ∀ r c, r < gridRows sub.height sub.overlap → c < gridCols sub.width sub.overlap →
        sub.mask.getLsbD (r * 8 + c) = false := by simp
  have hplan : sub.plan = [] ↔ sub.plan.length = 0 := List.length_eq_zero_iff.symm
  rw [hmask, hplan]
  generalize (∀ r c, r < gridRows sub.height sub.overlap → c < gridCols sub.width sub.overlap →
    sub.mask.getLsbD (r * 8 + c) = false) = none
  by_cases h : none
  · simp only [h, not_true_eq_false, and_false, or_true]
  · simp only [h, not_false_eq_true, and_true, or_false]
    omega

/-- R1: whether an unfinished record claims a position, in the words of the statements. -/
theorem Prc.claimed_iff (p : Prc) (position : Nat) : p.claimed position = true ↔ p.claims? position := by
  have hopen : ∀ st : JobState, st.finished = false ↔ st ≠ .done ∧ st ≠ .failed ∧ st ≠ .aborted := by
    intro st; cases st <;> simp [JobState.finished]
  simp only [Prc.claimed, Prc.claims?, List.any_eq_true, Bool.and_eq_true, Bool.not_eq_true', decide_eq_true_eq, hopen]
  exact exists_congr fun j => and_congr_right fun _ => and_comm

theorem Prc.job?_isSome_iff (p : Prc) (id : Nat) : (p.job? id).isSome = true ↔ ∃ j ∈ p.jobs, j.id = id := by
  simp [Prc.job?]

theorem Prc.job?_eq_none_iff (p : Prc) (id : Nat) : p.job? id = none ↔ ∀ j ∈ p.jobs, j.id ≠ id := by
  simp [Prc.job?]

section
variable {h : Hdr} {sub : Submission} {s : State}

theorem Prc.checkSubmission_encode (p : Prc) (hf : sub.fits = true) : p.checkSubmission (encodeSubmission sub)
    = if fieldCheck sub = false then .error .badArg
      else if (p.job? sub.jobId).isSome then .error .dupId
      else if p.claimed sub.position then .error .slotClaimed
      else if jobCapacity ≤ p.jobs.length then .error .tableFull
      else .ok sub := by
  unfold Prc.checkSubmission
  rw [submissionRoundTrip sub hf]

theorem exec_submitJob_refused {payload : List Byte} {e : Status} (ht : s.takes h)
    (he : s.prc.checkSubmission payload = .error e) :
    exec (.submitJob h payload) s = .next (s.replied h .submitJob e .none) := by
  refine congrArg Host.Outcome.next ((command_eq_replied ht).trans ?_)
  simp [State.submit, he]

/-- Settles O14: the first stage of `Prc.checkSubmission` that fails gives the reply. -/
theorem submitJobRefusals : Obligations.SubmitJobRefusals := by
  unfold Obligations.SubmitJobRefusals
  intro h sub s ht hf
  rw [← fieldCheck_iff, ← Prc.claimed_iff, ← Prc.job?_isSome_iff, ← Prc.job?_eq_none_iff]
  refine ⟨fun ho => ?_, fun ho hd => ?_, fun ho hd hc => ?_, fun ho hd hc hl => ?_⟩ <;>
    refine exec_submitJob_refused ht ?_ <;> rw [Prc.checkSubmission_encode _ hf]
  · have : fieldCheck sub = false := by rwa [← Bool.not_eq_true, fieldCheck_iff, not_not]
    simp [this]
  · simp [ho, hd]
  · simp [ho, hd, hc]
  · simp [ho, hd, hc, jobCapacity, hl]

end

end Sys2Proof.Machine
end

section
/-! PROOFS. What PRC does when it considers a job start (R20), by the verdict of its examination, and a change of a
job's state (R16). -/

namespace Sys2Proof.Machine

variable {s : State}

/-! ## Messages and events -/

/-- A command whose message is not on its way is taken all the same. -/
theorem State.deliver_eq_self {c : Instr} (h : c.asMessage ∉ s.inFlight) : s.deliver c = s := by
  simp [State.deliver, List.erase_of_not_mem h]

/-- R43: an event reaches PRC unless the run is QUIESCING. -/
theorem State.prcEvent_eq {f : State → State} (h : s.prc.run ≠ .quiescing) : s.prcEvent f = f s := by
  simp [State.prcEvent, h]


/-! ## The examination of R20 -/

theorem State.considerStart_eq_self (h : ¬ (s.prc.run = .running ∧ s.prc.active = none)) : s.considerStart = s := by
  simp [State.considerStart, h]

/-- The head job is examined. -/
theorem State.considerStart_eq {id : Nat} {rest : List Nat} {j : Job} (hr : s.prc.run = .running)
    (ha : s.prc.active = none) (hq : s.prc.queue = id :: rest) (hj : s.prc.job? id = some j) :
    s.considerStart = match s.startVerdict j with
      | .wait => s
      | .hold c => s.goHeld c
      | .go => s.startJob j := by
  have hhead : s.prc.queue.head?.bind s.prc.job? = some j := by simp [hq, hj]
  refine (if_pos ⟨hr, ha⟩).trans ?_
  cases hv : s.startVerdict j <;> simp [hhead, hv]

/-- R20 step 1: TRS is where a job cannot start from. -/
theorem State.startVerdict_transport {j : Job} (h : s.trs.state = .unhomed ∨ (∃ f, s.trs.state = .fault f)
    ∨ (s.trs.state = .atRest ∧ s.cru.flatRunning = false ∧ s.prc.trsReq = none)) :
    s.startVerdict j = .hold .transport := by
  obtain h | ⟨f, h⟩ | ⟨h, hf, hr⟩ := h <;> simp [State.startVerdict, State.startTrs, *]

/-- R20 step 1: a start waits in HOME, and for the report that PRC awaits from TRS. -/
theorem State.startVerdict_wait {j : Job} (h : (∃ l, s.trs.state = .homing l)
    ∨ ((s.trs.state = .empty ∨ s.trs.state = .loading ∨ s.trs.state = .atRest ∨ s.trs.state = .moving
        ∨ s.trs.state = .settling ∨ s.trs.state = .unloading) ∧ s.prc.trsReq ≠ none)) :
    s.startVerdict j = .wait := by
  obtain ⟨l, h⟩ | ⟨h, hr⟩ := h
  · simp [State.startVerdict, State.startTrs, h]
  · obtain ⟨r, hr⟩ := Option.ne_none_iff_exists'.1 hr
    obtain h | h | h | h | h | h := h <;> simp [State.startVerdict, State.startTrs, h, hr]

/-- R20, log entry 9: where TRS stops nothing at step 1. -/
def State.TrsPasses (s : State) : Prop :=
  s.prc.trsReq = none ∧ (s.trs.state = .empty ∨ s.trs.state = .loading ∨ s.trs.state = .moving
    ∨ s.trs.state = .settling ∨ s.trs.state = .unloading ∨ (s.trs.state = .atRest ∧ s.cru.flatRunning = true))

theorem State.TrsPasses.startTrs (h : s.TrsPasses) : s.startTrs = none := by
  obtain ⟨hr, h | h | h | h | h | ⟨h, hf⟩⟩ := h <;> simp [State.startTrs, *]

/-- R20 step 2: SFE in FAULT. -/
theorem State.startVerdict_sensor {j : Job} (h : s.TrsPasses) (hf : s.sfe.state = .fault) :
    s.startVerdict j = if s.sfe.reinit then .wait else .hold .sensor := by
  simp [State.startVerdict, h.startTrs, hf]

/-- R20 step 3: BLU in FAULT. -/
theorem State.startVerdict_lamp {j : Job} (h : s.TrsPasses) (hf : s.sfe.state ≠ .fault)
    (hb : ∃ f, s.blu.state = .fault f) : s.startVerdict j = .hold .lamp := by
  obtain ⟨f, hb⟩ := hb
  simp [State.startVerdict, h.startTrs, hf, hb]

/-- R20 steps 4 and 5, and the start itself. -/
theorem State.startVerdict_last {j : Job} (h : s.TrsPasses) (hf : s.sfe.state ≠ .fault)
    (hb : ∀ f, s.blu.state ≠ .fault f) :
    s.startVerdict j = if s.cru.state ≠ .idle then .wait
      else if s.cru.dark.valid = false ∨ (s.cru.profile j.profile).valid = false then .hold .notCalibrated
      else if s.trs.state = .empty then .go else .wait := by
  have hrefs : (s.referencesValid j = false)
      = (s.cru.dark.valid = false ∨ (s.cru.profile j.profile).valid = false) := by
    simp only [State.referencesValid, Bool.and_eq_false_iff]
  simp only [State.startVerdict, h.startTrs, if_neg hf, State.calibrating, hrefs, decide_eq_true_eq]
  cases hs : s.blu.state <;> simp_all

/-! ## The start -/

/-- R16: a state and an outcome are set in the record that has them to come. -/
theorem State.setJob_notice {s : State} {id : Nat} {st : JobState} {out : Option JobOutcome} {j : Job}
    (hj : s.prc.job? id = some j) (hf : j.state.finished = false) (hr : s.prc.run ≠ .quiescing) :
    s.setJob id st out = ({ s with prc := s.prc.mapJob id fun x => { x with state := st, outcome := out } }).notice
      { j with state := st, outcome := out }.notice := by
  simp [State.setJob, hj, hf, hr]

theorem State.setJob_job?_self {s : State} {id : Nat} {st : JobState} {out : Option JobOutcome} {j : Job}
    (hj : s.prc.job? id = some j) (hf : j.state.finished = false) (hr : s.prc.run ≠ .quiescing) :
    (s.setJob id st out).prc.job? id = some { j with state := st, outcome := out } := by
  rw [State.setJob_notice hj hf hr]
  show (s.prc.mapJob id _).job? id = _
  refine (Prc.job?_mapJob_self (hf := by intro _; rfl) ..).trans ?_
  rw [hj]
  rfl

theorem State.setJob_job?_ne (s : State) {id k : Nat} (st : JobState) (out : Option JobOutcome) (hk : k ≠ id) :
    (s.setJob id st out).prc.job? k = s.prc.job? k := by
  obtain ⟨e, -⟩ | ⟨j, -, -, -, e⟩ := s.setJob_cases id st out <;> rw [e]
  exact Prc.job?_mapJob_ne _ _ _ _ (fun _ => rfl) hk

/-- A change of a job's state changes nothing else of PRC. -/
theorem State.setJob_prc (s : State) (id : Nat) (st : JobState) (out : Option JobOutcome) :
    (s.setJob id st out).prc = { s.prc with jobs := (s.setJob id st out).prc.jobs } := by
  obtain ⟨e, -⟩ | ⟨j, -, -, -, e⟩ := s.setJob_cases id st out
  · rw [e]
  · rw [e]; rfl

end Sys2Proof.Machine
end

section
/-! PROOFS. The laws of the blocks (Safety) under the writes that the operations make to each block: the notice queue,
the parameters, the lamp's drive, the slots of the frame store, the magazine. -/

namespace Sys2Proof.Machine

/-! ## Notices and parameters -/

/-- R155: a notice is queued while there is room and counted otherwise. -/
theorem Liu.noticeLaw.raise {l : Liu} (h : l.noticeLaw) (n : Notice) : (l.raise n).noticeLaw := by
  obtain ⟨hlen, hover, hseq⟩ := h
  obtain ⟨-, e⟩ | ⟨-, hroom, -, e⟩ | ⟨-, -, e⟩ := l.raise_cases n <;> rw [e]
  · exact ⟨hlen, hover, hseq⟩
  · refine ⟨?_, hover, hseq⟩
    rw [List.length_append]
    exact hroom
  · exact ⟨hlen, Nat.min_le_left .., hseq⟩

/-- R150: sending takes a notice off the queue before an OVERFLOW notice is put there. -/
theorem Liu.noticeLaw.sendNext {l : Liu} (h : l.noticeLaw) : l.sendNext.noticeLaw := by
  obtain ⟨hlen, hover, hseq⟩ := h
  unfold Liu.sendNext
  split
  · exact ⟨hlen, hover, hseq⟩
  · split
    case h_1 => exact ⟨hlen, hover, hseq⟩
    case h_2 n ns _ hn =>
      rw [hn, List.length_cons] at hlen
      unfold Liu.afterSent
      split
      · exact ⟨by simp; omega, hover, Nat.mod_lt _ (by decide)⟩
      · exact ⟨by simp; omega, Nat.zero_le _, Nat.mod_lt _ (by decide)⟩
    case h_3 => exact ⟨hlen, hover, hseq⟩

/-- R151: a value that SET_PARAM stores is one of its parameter's range. -/
theorem Params.inRange_set {t : Params} (h : t.inRange = true) {p : Param} {v w : Nat} (hw : storedValue p v = some w) :
    (t.set p w).inRange = true := by
  unfold Params.inRange at *
  simp only [Bool.and_eq_true, Bool.or_eq_true, decide_eq_true_eq] at *
  cases p <;> simp only [storedValue, Param.kind, Option.some.injEq] at hw
  case lampIdleS =>
    subst hw
    simp only [Params.set, clampTo]
    split <;> omega
  case roundingMode | stepRatio | darkPolicy | runMode | noticeEnable => simpa only [Params.set] using h
  all_goals
    subst hw
    simp only [Params.set, clampTo]
    omega

/-! ## The lamp's drive -/

@[simp] theorem Blu.driveLaw_recommand (b : Blu) : b.recommand.driveLaw := rfl

@[simp] theorem Blu.driveLaw_startSettling (b : Blu) : b.startSettling.driveLaw := rfl

/-- R126: where the lamp is not lit its drive is 0. -/
theorem Blu.driveLaw_of_unlit {b : Blu} (hs : b.state.lit = false) (hc : b.commanded = 0) : b.driveLaw := by
  simp [Blu.driveLaw, hs, hc]

/-! ## The slots of the frame store -/

/-- R99 slot by slot. -/
theorem Fst.refLaw_iff {f : Fst} : f.refLaw ↔
    (∀ i k n, f.slot i = some (.ref n) → f.slot k = some (.ref n) → i = k)
      ∧ ∀ i n, f.slot i = some (.ref n) → n.valid = true := by
  have hname : ∀ (x : SlotState) (n : RefName),
      (match x with | .ref m => some m | _ => none) = some n ↔ x = .ref n := by
    intro x n; cases x <;> simp
  have hget : ∀ i (hi : i < 48), f.slot i = some (f.slots.toList[i]'(by simpa using hi)) := by
    intro i hi; simp [Fst.slot, hi]
  have hlt : ∀ {i x}, f.slot i = some x → ∃ hi : i < 48, f.slots.toList[i]'(by simpa using hi) = x := by
    intro i x h
    obtain ⟨hi, h⟩ := Vector.getElem?_eq_some_iff.1 h
    exact ⟨hi, by simpa using h⟩
  unfold Fst.refLaw Fst.refNames
  rw [List.Nodup, List.pairwise_filterMap, List.pairwise_iff_getElem, List.all_eq_true]
  constructor
  · rintro ⟨hdist, hvalid⟩
    have hne : ∀ i k n, i < k → f.slot i = some (.ref n) → f.slot k = some (.ref n) → False := by
      intro i k n hik h1 h2
      obtain ⟨hi, h1⟩ := hlt h1
      obtain ⟨hk, h2⟩ := hlt h2
      exact hdist i k (by simpa using hi) (by simpa using hk) hik n ((hname _ n).2 h1) n ((hname _ n).2 h2) rfl
    refine ⟨fun i k n h1 h2 => ?_, fun i n h => ?_⟩
    · rcases Nat.lt_trichotomy i k with hik | hik | hik
      · exact (hne i k n hik h1 h2).elim
      · exact hik
      · exact (hne k i n hik h2 h1).elim
    · obtain ⟨hi, h⟩ := hlt h
      refine hvalid n (List.mem_filterMap.2 ⟨_, List.getElem_mem (by simpa using hi), (hname _ n).2 h⟩)
  · rintro ⟨hdist, hvalid⟩
    refine ⟨fun i k hi hk hik n h1 m h2 e => ?_, fun n hn => ?_⟩
    · subst e
      have := hdist i k n (by rw [hget i (by simpa using hi), (hname _ n).1 h1])
        (by rw [hget k (by simpa using hk), (hname _ n).1 h2])
      omega
    · obtain ⟨x, hx, hxn⟩ := List.mem_filterMap.1 hn
      obtain ⟨i, hi, hxi⟩ := List.getElem_of_mem hx
      exact hvalid i n (by rw [hget i (by simpa using hi), hxi, (hname _ n).1 hxn])

/-- Slots that take other states than REF leave the references distinct. -/
theorem Fst.refLaw.of_slots {f g : Fst} (h : f.refLaw)
    (e : ∀ i n, g.slot i = some (.ref n) → f.slot i = some (.ref n)) : g.refLaw := by
  rw [Fst.refLaw_iff] at *
  exact ⟨fun i k n h1 h2 => h.1 i k n (e i n h1) (e k n h2), fun i n hi => h.2 i n (e i n hi)⟩

theorem Fst.refLaw.setSlot {f : Fst} (h : f.refLaw) (i : Nat) {x : SlotState} (hx : ∀ n, x ≠ .ref n) :
    (f.setSlot i x).refLaw := by
  refine h.of_slots fun k n hk => ?_
  rw [Fst.slot_setSlot] at hk
  split at hk
  · exact (hx n (Option.some.inj hk)).elim
  · exact hk

theorem Fst.refLaw.setSlots {f : Fst} (h : f.refLaw) (l : List Nat) {x : SlotState} (hx : ∀ n, x ≠ .ref n) :
    (f.setSlots l x).refLaw := by
  unfold Fst.setSlots
  induction l generalizing f with
  | nil => exact h
  | cons i l ih => exact ih (h.setSlot i hx)

theorem Fst.refLaw.takeCalwork {f : Fst} (h : f.refLaw) (l : List (Nat × CalRole)) : (f.takeCalwork l).refLaw := by
  unfold Fst.takeCalwork
  induction l generalizing f with
  | nil => exact h
  | cons p l ih => exact ih (h.setSlot p.1 nofun)

/-- R108: a commit frees the slot that had the name. -/
theorem Fst.refLaw.commitRef {f : Fst} (h : f.refLaw) (i : Nat) (name : RefName) : (f.commitRef i name).refLaw := by
  unfold Fst.commitRef
  split
  case isFalse => exact h
  case isTrue hc =>
    simp only [Bool.and_eq_true] at hc
    have hf : (f.setSlots (f.slotsWhere fun x => decide (x = .ref name)) .free).refLaw := h.setSlots _ nofun
    have hno : ∀ k, (f.setSlots (f.slotsWhere fun x => decide (x = .ref name)) .free).slot k ≠ some (.ref name) := by
      intro k hk
      rw [Fst.slot_setSlots] at hk
      split at hk
      · cases hk
      case isFalse hnot =>
        have hlt : k < 48 := (Vector.getElem?_eq_some_iff.1 hk).1
        exact hnot ⟨(Fst.mem_slotsWhere ..).2 ⟨hlt, _, hk, by simp⟩, hlt⟩
    rw [Fst.refLaw_iff] at hf ⊢
    obtain ⟨hdist, hvalid⟩ := hf
    simp only [Fst.slot_setSlot]
    refine ⟨fun a b n ha hb => ?_, fun a n ha => ?_⟩
    · split at ha <;> split at hb
      · omega
      · cases ha; exact (hno b hb).elim
      · cases hb; exact (hno a ha).elim
      · exact hdist a b n ha hb
    · split at ha
      · cases ha; exact hc.2
      · exact hvalid a n ha

theorem Fst.refLaw.commit {f : Fst} (h : f.refLaw) (l : List (Nat × RefName)) : (f.commit l).refLaw := by
  unfold Fst.commit
  induction l generalizing f with
  | nil => exact h
  | cons e l ih => exact ih (h.commitRef e.1 e.2)

/-- A change of slots leaves the planes. -/
@[simp] theorem Fst.setSlots_planes (f : Fst) (l : List Nat) (x : SlotState) : (f.setSlots l x).planes = f.planes := by
  unfold Fst.setSlots
  induction l generalizing f with
  | nil => rfl
  | cons i l ih => exact ih _

@[simp] theorem Fst.takeCalwork_planes (f : Fst) (l : List (Nat × CalRole)) : (f.takeCalwork l).planes = f.planes := by
  unfold Fst.takeCalwork
  induction l generalizing f with
  | nil => rfl
  | cons p l ih => exact ih _

@[simp] theorem Fst.commit_planes (f : Fst) (l : List (Nat × RefName)) : (f.commit l).planes = f.planes := by
  unfold Fst.commit
  induction l generalizing f with
  | nil => rfl
  | cons e l ih =>
    rw [List.foldl_cons, ih]
    unfold Fst.commitRef
    split
    · show (Fst.setSlots _ _ _).planes = _
      simp
    · rfl

/-- The laws of the frame store under a change that leaves the planes. -/
theorem Fst.memoryLaw.of_planes {f g : Fst} (h : f.memoryLaw) (e : g.planes = f.planes) : g.memoryLaw := by
  unfold Fst.memoryLaw at *; rwa [e]

/-- A reset keeps the REF slots, or none. -/
theorem Fst.refLaw.applied {f : Fst} (h : f.refLaw) (kind : ResetKind) : (f.applied kind).refLaw := by
  refine h.of_slots fun i n hi => ?_
  cases kind with
  | full =>
    have hlt : i < 48 := (Vector.getElem?_eq_some_iff.1 hi).1
    simp [Fst.slot, Fst.applied, hlt] at hi
  | soft =>
    simp only [Fst.slot, Fst.applied, Vector.getElem?_map, Option.map_eq_some_iff] at hi
    obtain ⟨x, hx, e⟩ := hi
    cases x <;> simp_all [Fst.slot]

/-! ## The magazine -/

theorem filter_eq_singleton : ∀ p : Fin 20, ((List.range 20).filter fun q => decide (q = p.val)) = [p.val] := by decide

/-- R138 position by position. -/
theorem Trs.outLaw_iff {t : Trs} : t.outLaw ↔ ∀ p, t.magazine[p]? = some .out ↔ t.stage = .carrier p := by
  have hmem : ∀ p, p ∈ t.outs ↔ t.magazine[p]? = some .out := by
    intro p
    simp only [Trs.outs, List.mem_filter, List.mem_range, decide_eq_true_eq, and_iff_right_iff_imp]
    exact fun h => (Vector.getElem?_eq_some_iff.1 h).1
  have hstage : ∀ p, p ∈ t.stage.outs ↔ t.stage = .carrier p := by
    intro p; cases t.stage <;> simp [StageRecord.outs, eq_comm]
  constructor
  · intro h p
    rw [← hmem, ← hstage, show t.outs = t.stage.outs from h]
  · intro h
    show t.outs = t.stage.outs
    have houts : t.outs = (List.range 20).filter fun p => decide (t.stage = .carrier p) := by
      simp only [Trs.outs, h]
    rw [houts]
    cases hs : t.stage with
    | carrier p =>
      have hp : p < 20 := (Vector.getElem?_eq_some_iff.1 ((h p).2 hs)).1
      have := filter_eq_singleton ⟨p, hp⟩
      simpa [StageRecord.outs, eq_comm] using this
    | none => simp [StageRecord.outs]
    | unknownCarrier => simp [StageRecord.outs]

theorem Trs.magazine_setEntry (t : Trs) (p q : Nat) (e : MagEntry) :
    (t.setEntry p e).magazine[q]? = if q = p ∧ p < 20 then some e else t.magazine[q]? := by
  simp only [Trs.setEntry, Vector.getElem?_setIfInBounds]
  by_cases h : p = q
  · subst h
    by_cases hp : p < 20 <;> simp [hp]
  · simp [h, Ne.symm h]

/-- A carrier that leaves the stage takes its OUT entry along. -/
theorem Trs.outLaw.leave {t : Trs} (h : t.outLaw) {e : MagEntry} (he : e ≠ .out) {p : Nat} (hs : t.stage = .carrier p)
    {u : Trs} (hm : u.magazine = (t.setEntry p e).magazine) (hu : u.stage = .none) : u.outLaw := by
  rw [Trs.outLaw_iff] at *
  intro q
  have hp : p < 20 := (Vector.getElem?_eq_some_iff.1 ((h p).2 hs)).1
  rw [hm, Trs.magazine_setEntry, hu]
  have := h q
  rw [hs] at this
  by_cases hq : q = p
  · simp [hq, hp, he]
  · simp only [hq, false_and, if_false, reduceCtorEq, iff_false, this, StageRecord.carrier.injEq]
    exact Ne.symm hq

/-- With no carrier of known origin on the stage no entry is OUT. -/
theorem Trs.outLaw.of_unknown {t : Trs} (h : t.outLaw) (hs : ∀ p, t.stage ≠ .carrier p) {u : Trs}
    (hm : u.magazine = t.magazine) (hu : ∀ p, u.stage ≠ .carrier p) : u.outLaw := by
  rw [Trs.outLaw_iff] at *
  intro p
  rw [hm, h p]
  simp [hs, hu]

/-- R140: a carrier that comes onto the empty stage has its entry OUT. -/
theorem Trs.outLaw.arrive {t : Trs} (h : t.outLaw) (hs : t.stage = .none) {p : Nat} (hp : p < 20) {u : Trs}
    (hm : u.magazine = (t.setEntry p .out).magazine) (hu : u.stage = .carrier p) : u.outLaw := by
  rw [Trs.outLaw_iff] at *
  intro q
  have := h q
  rw [hm, Trs.magazine_setEntry, hu, StageRecord.carrier.injEq, eq_comm (a := p)]
  by_cases hq : q = p <;> simp_all

/-- An entry that becomes another than OUT, with no carrier on the stage. -/
theorem Trs.outLaw.entry {t : Trs} (h : t.outLaw) (hs : t.stage = .none) {p : Nat} {e : MagEntry} (he : e ≠ .out)
    {u : Trs} (hm : u.magazine = (t.setEntry p e).magazine) (hu : u.stage = .none) : u.outLaw := by
  rw [Trs.outLaw_iff] at *
  intro q
  have := h q
  rw [hm, Trs.magazine_setEntry, hu]
  split <;> simp_all

theorem Trs.scanEntries_frame (t : Trs) (l : List (Nat × Bool)) :
    (∀ q : Nat, (t.scanEntries l).magazine[q]? = some MagEntry.out ↔ t.magazine[q]? = some MagEntry.out)
      ∧ (t.scanEntries l) = { t with magazine := (t.scanEntries l).magazine } := by
  unfold Trs.scanEntries
  induction l generalizing t with
  | nil => exact ⟨fun _ => Iff.rfl, rfl⟩
  | cons p l ih =>
    rw [List.foldl_cons]
    obtain ⟨hout, he⟩ := ih (t.scanEntry p.1 p.2)
    have hstep : (∀ q : Nat, (t.scanEntry p.1 p.2).magazine[q]? = some MagEntry.out ↔ t.magazine[q]? = some MagEntry.out)
        ∧ (t.scanEntry p.1 p.2) = { t with magazine := (t.scanEntry p.1 p.2).magazine } := by
      unfold Trs.scanEntry
      split
      · exact ⟨fun _ => Iff.rfl, rfl⟩
      · exact ⟨fun _ => Iff.rfl, rfl⟩
      · next e hne hm =>
        refine ⟨fun q => ?_, rfl⟩
        rw [Trs.magazine_setEntry]
        split
        · next hq =>
          rw [hq.1, hm]
          have : e ≠ .out := hne
          cases p.2 <;> simp [this]
        · rfl
    refine ⟨fun q => (hout q).trans (hstep.1 q), ?_⟩
    rw [he, hstep.2]

/-- A scan never finds an OUT entry vacant or present. -/
theorem Trs.outLaw.scan {t : Trs} (h : t.outLaw) (l : List (Nat × Bool)) : (t.scanEntries l).outLaw := by
  obtain ⟨hout, he⟩ := t.scanEntries_frame l
  rw [Trs.outLaw_iff] at *
  intro p
  rw [hout p, h p, he]

end Sys2Proof.Machine
end

section
/-! PROOFS. Every operation of the machine keeps the laws of the blocks: `State.Lawful`, and for each operation that
changes a block with a law, that it keeps it. -/

namespace Sys2Proof.Machine

/-- The two laws of TRS, of which each step needs both (R138, R139). -/
def Trs.laws (t : Trs) : Prop := t.outLaw ∧ t.stageLaw

/-- Each law of a block that one state satisfies, the other satisfies too. -/
def State.BlocksLawful (s t : State) : Prop :=
  (s.blu.driveLaw → t.blu.driveLaw) ∧ (s.sou.creditLaw → t.sou.creditLaw) ∧ (s.liu.noticeLaw → t.liu.noticeLaw)
    ∧ (s.liu.paramLaw → t.liu.paramLaw) ∧ (s.fst.refLaw → t.fst.refLaw) ∧ (s.fst.memoryLaw → t.fst.memoryLaw)
    ∧ (s.trs.laws → t.trs.laws)

/-- The laws of the blocks are kept, and a reset in progress goes on. -/
def State.Lawful (s t : State) : Prop :=
  s.BlocksLawful t ∧ (s.liu.resetWork.isSome = true → t.liu.resetWork.isSome = true)

namespace State.Lawful

variable {s t u : State}

theorem refl (s : State) : s.Lawful s := ⟨⟨id, id, id, id, id, id, id⟩, id⟩

/-! ## Writes to one block -/

theorem of_same (h : s.Lawful t) (e : u.liu = t.liu ∧ u.fst = t.fst ∧ u.blu = t.blu ∧ u.trs = t.trs ∧ u.sou = t.sou) :
    s.Lawful u := by
  obtain ⟨hl, hf, hb, ht, hq⟩ := e
  unfold State.Lawful State.BlocksLawful at *
  rwa [hl, hf, hb, ht, hq]

theorem ite {p : Prop} [Decidable p] (ht : s.Lawful t) (hu : s.Lawful u) : s.Lawful (if p then t else u) := by
  split <;> assumption

theorem setLiu {l : Liu} (h : s.Lawful t) (hn : t.liu.noticeLaw → l.noticeLaw) (hp : t.liu.paramLaw → l.paramLaw)
    (hw : t.liu.resetWork.isSome = true → l.resetWork.isSome = true) : s.Lawful { t with liu := l } := by
  obtain ⟨⟨kb, kq, kn, kp, kr, km, kx⟩, kw⟩ := h
  exact ⟨⟨kb, kq, hn ∘ kn, hp ∘ kp, kr, km, kx⟩, hw ∘ kw⟩

theorem setFst {f : Fst} (h : s.Lawful t) (hr : t.fst.refLaw → f.refLaw) (hm : t.fst.memoryLaw → f.memoryLaw) :
    s.Lawful { t with fst := f } := by
  obtain ⟨⟨kb, kq, kn, kp, kr, km, kx⟩, kw⟩ := h
  exact ⟨⟨kb, kq, kn, kp, hr ∘ kr, hm ∘ km, kx⟩, kw⟩

theorem setBlu {b : Blu} (h : s.Lawful t) (hb : t.blu.driveLaw → b.driveLaw) : s.Lawful { t with blu := b } := by
  obtain ⟨⟨kb, k⟩, kw⟩ := h
  exact ⟨⟨hb ∘ kb, k⟩, kw⟩

theorem setTrs {x : Trs} (h : s.Lawful t) (hx : t.trs.laws → x.laws) : s.Lawful { t with trs := x } := by
  obtain ⟨⟨kb, kq, kn, kp, kr, km, kx⟩, kw⟩ := h
  exact ⟨⟨kb, kq, kn, kp, kr, km, hx ∘ kx⟩, kw⟩

theorem setSou {q : Sou} (h : s.Lawful t) (hq : t.sou.creditLaw → q.creditLaw) : s.Lawful { t with sou := q } := by
  obtain ⟨⟨kb, kq, k⟩, kw⟩ := h
  exact ⟨⟨kb, hq ∘ kq, k⟩, kw⟩

/-! ## Messages, notices and host commands -/

theorem deliver {c : Instr} (h : s.Lawful t) : s.Lawful (t.deliver c) := h

theorem emit {c : Instr} (h : s.Lawful t) : s.Lawful (t.emit c) := h

theorem recalled {p : Instr → Bool} (h : s.Lawful t) : s.Lawful (t.recall p) := h

theorem ack {b : Block} (h : s.Lawful t) : s.Lawful (t.ack b) := h.of_same (by simp)

theorem notice {n : Notice} (h : s.Lawful t) : s.Lawful (t.notice n) := by
  refine h.setLiu (·.raise n) (fun hp => ?_) (fun hw => by simpa using hw)
  obtain ⟨-, e⟩ | ⟨-, -, -, e⟩ | ⟨-, -, e⟩ := t.liu.raise_cases n <;> rw [e] <;> exact hp

theorem command {hdr : Hdr} {k : CommandKind} {owner : State → Answer}
    (ho : ∀ u, s.Lawful u → s.Lawful (owner u).state) (h : s.Lawful t) :
    s.Lawful (Machine.command hdr k owner t) := by
  obtain ⟨-, e⟩ | ⟨-, w, -, e⟩ | ⟨-, -, a, ha, e⟩ := command_cases hdr k owner t <;> rw [e]
  · exact h
  · exact h.setLiu id id fun _ => rfl
  · have hstate : s.Lawful a.state := by
      rw [ha]
      split
      · exact ho t h
      · exact h
    exact hstate

/-! ## Records of PRC, and notices of it -/

theorem setJob {id : Nat} {st : JobState} {out : Option JobOutcome} (h : s.Lawful t) :
    s.Lawful (t.setJob id st out) := by
  unfold State.setJob
  split
  · exact h
  · exact .ite h (.notice h)

theorem mapTile {r : TileRef} {f : Tile → Tile} (h : s.Lawful t) : s.Lawful (t.mapTile r f) := .ite h h

theorem moveTile {r : TileRef} {st : TileState} (h : s.Lawful t) : s.Lawful (t.moveTile r st) := .mapTile h

theorem endTile {r : TileRef} {b : Bool} (h : s.Lawful t) : s.Lawful (t.endTile r b) := by
  unfold State.endTile
  split
  · exact h
  · exact .ite h (.notice (.mapTile h))

theorem drainJob {id : Nat} (h : s.Lawful t) : s.Lawful (t.drainJob id) := by
  unfold State.drainJob
  split
  · exact h
  · refine .ite ?_ h
    split <;> exact .setJob h

theorem setRun {r : RunState} (h : s.Lawful t) : s.Lawful (t.setRun r) := .ite h (.notice h)

theorem goHeld {c : HoldCause} (h : s.Lawful t) : s.Lawful (t.goHeld c) := by
  unfold State.goHeld
  split
  case h_4 => exact .ite (.setRun h) h
  case h_5 => exact h
  all_goals exact .setRun h

/-! ## Slots of the frame store -/

theorem setSlot {i : Nat} {x : SlotState} (hx : ∀ n, x ≠ .ref n) (h : s.Lawful t) : s.Lawful (t.setSlot i x) :=
  h.setFst (·.setSlot i hx) id

theorem setSlots {l : List Nat} {x : SlotState} (hx : ∀ n, x ≠ .ref n) (h : s.Lawful t) :
    s.Lawful { t with fst := t.fst.setSlots l x } :=
  h.setFst (·.setSlots l hx) (·.of_planes (by simp))

theorem takeCalwork {l : List (Nat × CalRole)} (h : s.Lawful t) : s.Lawful { t with fst := t.fst.takeCalwork l } :=
  h.setFst (·.takeCalwork l) (·.of_planes (by simp))

theorem commit {l : List (Nat × RefName)} (h : s.Lawful t) : s.Lawful { t with fst := t.fst.commit l } :=
  h.setFst (·.commit l) (·.of_planes (by simp))

theorem write {i start : Nat} {l : Runs Nat} (h : s.Lawful t) : s.Lawful { t with fst := t.fst.write i start l } :=
  h.setFst id (t.fst.write_keeps i start l)

theorem grantSlots {r : TileRef} {n : Nat} (h : s.Lawful t) : s.Lawful (t.grantSlots r n) := .emit (.setSlots nofun h)

theorem grantWait (h : s.Lawful t) : s.Lawful t.grantWait := by
  unfold State.grantWait
  split
  · exact h
  · exact .ite (.grantSlots h) h

theorem cruTest (h : s.Lawful t) : s.Lawful t.cruTest := by
  unfold State.cruTest
  split
  · refine .ite ?_ h
    split
    · exact .emit (.takeCalwork h)
    · exact h
  · exact h

theorem afterFree (h : s.Lawful t) : s.Lawful t.afterFree := .cruTest (.grantWait h)

theorem freeSlots {l : List Nat} (h : s.Lawful t) : s.Lawful (t.freeSlots l) := .afterFree (.setSlots nofun h)

end State.Lawful

/-- No change of Table 6.2 makes a slot REF. -/
theorem SlotChange.after_ne_ref (c : SlotChange) (r : TileRef) (n : RefName) : c.after r ≠ .ref n := by
  cases c <;> nofun

namespace State.Lawful

variable {s t u : State}

theorem changeSlot {i : Nat} {c : SlotChange} {r : TileRef} (h : s.Lawful t) : s.Lawful (t.changeSlot i c r) := by
  refine .ite ?_ h
  split
  · exact .freeSlots h
  · exact .setSlot (c.after_ne_ref r) h

theorem askSlots {r : TileRef} {n : Nat} (h : s.Lawful t) : s.Lawful (t.askSlots r n) :=
  .ite h (.ite (.grantSlots h) h)

theorem withdrawAdmission {r : TileRef} (h : s.Lawful t) : s.Lawful (t.withdrawAdmission r) := by
  unfold State.withdrawAdmission
  split
  · exact .ite h (.freeSlots h)
  · exact .freeSlots h

theorem commitRefs {l : List (Nat × RefName)} (h : s.Lawful t) : s.Lawful (t.commitRefs l) := .afterFree (.commit h)

theorem returnCalwork {l : List Nat} (h : s.Lawful t) : s.Lawful (t.returnCalwork l) := .freeSlots h

theorem requestCalwork {k : CalKind} (h : s.Lawful t) : s.Lawful (t.requestCalwork k) := by
  refine .ite ?_ h
  dsimp only
  split
  · exact .ite (.emit (.takeCalwork h)) (.takeCalwork h)
  · exact .takeCalwork h

/-! ## The memory port -/

theorem readoutRefused {p : PortUnit} (h : s.Lawful t) : s.Lawful (t.readoutRefused p) := .ite h h

theorem servePort (k : Nat) (h : s.Lawful t) : s.Lawful (State.servePort k t) := by
  induction k generalizing t with
  | zero => exact h
  | succ k ih =>
    unfold State.servePort
    split
    · exact h
    · exact .ite h (ih (.readoutRefused h))

theorem requestUnit {p : PortUnit} (h : s.Lawful t) : s.Lawful (t.requestUnit p) := .ite h (.ite (.servePort 3 h) h)

theorem finishUnit {p : PortUnit} (h : s.Lawful t) : s.Lawful (t.finishUnit p) := by
  unfold State.finishUnit
  split
  · exact .ite h (.ite (.ite (.write h) h) (.readoutRefused h))
  · exact h

theorem unitDone (h : s.Lawful t) : s.Lawful t.unitDone := by
  unfold State.unitDone
  split
  · exact h
  · exact .servePort 3 (.finishUnit h)

/-! ## The lamp -/

theorem startIdle (h : s.Lawful t) : s.Lawful t.startIdle := .ite h h

theorem stopIdle (h : s.Lawful t) : s.Lawful t.stopIdle := h

theorem enterStandby (h : s.Lawful t) : s.Lawful t.enterStandby := .notice (h.setBlu fun _ => rfl)

theorem enterWarming {d : Nat} (h : s.Lawful t) : s.Lawful (t.enterWarming d) := .notice (h.setBlu fun _ => rfl)

theorem tryStandby (h : s.Lawful t) : s.Lawful t.tryStandby := .ite (.enterStandby h) h

theorem tryLampGrant (h : s.Lawful t) : s.Lawful t.tryLampGrant := by
  unfold State.tryLampGrant
  split
  · exact .ite h h
  · exact h

theorem applyLight {d : Nat} (h : s.Lawful t) : s.Lawful (t.applyLight d) := by
  unfold State.applyLight
  split
  case h_1 => exact .enterWarming h
  case h_2 => exact .ite h (h.setBlu fun _ => rfl)
  case h_3 => exact .ite h (h.setBlu fun _ => rfl)
  case h_4 hs =>
    refine .ite h (.ite h ?_)
    split
    case isTrue hc => exact h.setBlu fun _ => by simp [Blu.driveLaw, hs, hc, LampState.lit]
    case isFalse => exact h.setBlu fun _ => rfl
  case h_5 => exact h
  case h_6 => exact h

theorem afterGrant (h : s.Lawful t) : s.Lawful t.afterGrant := by
  refine .tryStandby ?_
  dsimp only
  split
  · exact .ite h (.applyLight h)
  · exact .ite (h.setBlu fun _ => rfl) h

theorem endGrant {a : LampAsk} (h : s.Lawful t) : s.Lawful (t.endGrant a) := by
  unfold State.endGrant
  dsimp only
  split
  · exact .afterGrant h
  · exact .tryStandby h

theorem lampRelease {since : Nat} (h : s.Lawful t) : s.Lawful (t.lampRelease since).1 := by
  unfold State.lampRelease
  split
  · dsimp only
    split <;> exact .endGrant h
  · exact h

theorem lampAsk {a : LampAsk} (h : s.Lawful t) : s.Lawful (t.lampAsk a) := by
  have hended : s.Lawful (match t.blu.grant with | some g => t.endGrant g | none => t) := by
    split
    · exact .endGrant h
    · exact h
  unfold State.lampAsk
  dsimp only
  split
  · exact hended
  · exact .tryLampGrant hended

/-- The lamp settles from a lit state, so that its drive stays what R126 says. -/
theorem settleComplete (hl : t.blu.state.lit = true) (h : s.Lawful t) : s.Lawful t.settleComplete :=
  .tryStandby (.tryLampGrant (h.setBlu fun hb => by
    simp only [Blu.driveLaw, hl, if_true] at hb
    simpa [Blu.driveLaw, LampState.lit] using hb))

/-- The throttle flag changes and the drive is commanded anew, in whatever state the lamp is. -/
theorem throttleChanged {b : Blu} (h : s.Lawful t) : s.Lawful ({ t with blu := b } : State).throttleChanged := by
  have hb : ∀ c : Blu, c.driveLaw → s.Lawful { t with blu := c } := fun c hc => h.setBlu fun _ => hc
  unfold State.throttleChanged
  dsimp only
  split
  · exact hb _ rfl
  · split
    case h_3 => exact .ite (.ite (hb _ rfl) (hb _ rfl)) (hb _ rfl)
    all_goals exact hb _ rfl

theorem panelSample {x : Int} (h : s.Lawful t) : s.Lawful (t.panelSample x) := by
  unfold State.panelSample
  dsimp only
  split
  case isTrue e => rw [e]; exact h
  case isFalse => exact .notice (.ite (.throttleChanged h) (.throttleChanged h))

theorem enterDark (h : s.Lawful t) : s.Lawful t.enterDark := by
  have hdark : ∀ b : Blu, b.state = .dark → b.commanded = 0 → s.Lawful { t with blu := b } :=
    fun b hs hc => h.setBlu fun _ => Blu.driveLaw_of_unlit (by rw [hs]; rfl) hc
  exact .tryLampGrant (.ite (.notice (.ite (hdark _ rfl rfl) (hdark _ rfl rfl))) (.ite (hdark _ rfl rfl) (hdark _ rfl rfl)))

theorem leaveFault (h : s.Lawful t) : s.Lawful t.leaveFault := by
  unfold State.leaveFault
  split
  · exact .notice (h.setBlu fun _ => rfl)
  · exact h

/-! ## Calibration -/

theorem calEnd {r : CalResult} (h : s.Lawful t) : s.Lawful (t.calEnd r) := by
  unfold State.calEnd
  split
  · exact .startIdle (.emit (.notice h))
  · exact h

theorem calGiveUp {r : CalResult} (h : s.Lawful t) : s.Lawful (t.calGiveUp r) := by
  unfold State.calGiveUp
  dsimp only
  split
  · exact .calEnd h
  · exact h
  · exact h

theorem calStop {r : CalResult} (h : s.Lawful t) : s.Lawful (t.calStop r) := .calEnd h

theorem calFrame (h : s.Lawful t) : s.Lawful t.calFrame := h.of_same (by simp)

theorem calWithdrawFrame (h : s.Lawful t) : s.Lawful t.calWithdrawFrame := .ite h h

theorem calWithdrawPlan (h : s.Lawful t) : s.Lawful t.calWithdrawPlan := h.of_same (by simp)

theorem calFrameCut (h : s.Lawful t) : s.Lawful t.calFrameCut := .ite (.calGiveUp h) h

theorem calAccept {k : CalKind} (h : s.Lawful t) : s.Lawful (t.calAccept k) := .cruTest (.stopIdle h)

theorem refusedIf {p : Prop} [Decidable p] {e : Status} {a : Answer} (h : s.Lawful t) (ha : s.Lawful a.state) :
    s.Lawful (if p then Answer.refuse t e else a).state := by
  split
  · exact h
  · exact ha

theorem calibrateDark (h : s.Lawful t) : s.Lawful t.calibrateDark.state :=
  .refusedIf h (.refusedIf h (.refusedIf h (.calAccept h)))

theorem calibrateFlat {p : Nat} (h : s.Lawful t) : s.Lawful (t.calibrateFlat p).state :=
  .refusedIf h (.refusedIf h (.refusedIf h (.refusedIf h (.refusedIf h (.refusedIf h (.calAccept h))))))

theorem calFrameDone {temp : Int} {m : Option Nat} (h : s.Lawful t) : s.Lawful (t.calFrameDone temp m) := by
  refine .ite h (.ite h ?_)
  dsimp only
  split
  case h_4 => exact .calGiveUp h
  all_goals exact h

theorem calRateDone (h : s.Lawful t) : s.Lawful t.calRateDone := by
  unfold State.calRateDone
  split
  · exact .calEnd (.afterFree (.emit (.emit (h.setFst (fun hr => (hr.commit _).setSlots _ (by simp))
      (·.of_planes (by simp))))))
  · exact h

theorem calMeanDone {m : Nat} (h : s.Lawful t) : s.Lawful (t.calMeanDone m) := by
  unfold State.calMeanDone
  split
  · exact .ite (.calGiveUp h) h
  · exact h

theorem calLoaded (h : s.Lawful t) : s.Lawful t.calLoaded := by
  refine .ite h ?_
  split
  · exact h
  · exact .calGiveUp h
  · exact h

theorem calSettled (h : s.Lawful t) : s.Lawful t.calSettled := by
  refine .ite h ?_
  split
  · exact h
  · exact .calGiveUp h
  · exact h

theorem calPlanned {e : PlanEntry} {f : PlanFlags} (h : s.Lawful t) : s.Lawful (t.calPlanned e f) := .ite (.calFrame h) h

theorem calCommitFlat {p f : Nat} (h : s.Lawful t) : s.Lawful (t.calCommitFlat p f) :=
  .calEnd (.afterFree (State.Lawful.commit h))

theorem calFinish {r : CalResult} (h : s.Lawful t) : s.Lawful (t.calFinish r) := .calEnd (.ite h h)

theorem calUnloaded (h : s.Lawful t) : s.Lawful t.calUnloaded := by
  refine .ite ?_ h
  split
  · exact .calFinish h
  · exact .calCommitFlat h
  · exact .calFinish h

theorem calCancelSeries (h : s.Lawful t) : s.Lawful t.calCancelSeries := .ite h (.calGiveUp (.calWithdrawFrame h))

theorem calCancel (h : s.Lawful t) : s.Lawful t.calCancel.state := by
  unfold State.calCancel
  split
  case h_2 => exact .calFinish h
  case h_3 | h_4 | h_5 => exact .calCancelSeries h
  case h_7 => exact .calGiveUp (.calWithdrawPlan h)
  case h_8 => split <;> exact h
  all_goals exact h

theorem calSensorFailed (h : s.Lawful t) : s.Lawful t.calSensorFailed := by
  refine .ite h ?_
  split
  case h_1 | h_2 | h_3 | h_4 => exact .calGiveUp h
  case h_5 => exact .ite (.calGiveUp h) h
  all_goals exact h

theorem calLampFailed (h : s.Lawful t) : s.Lawful t.calLampFailed := by
  refine .ite h ?_
  split
  case h_1 => exact .calGiveUp (.calWithdrawPlan h)
  case h_2 => exact .calGiveUp (.calWithdrawFrame h)
  all_goals exact h

theorem calTransportFailed {r : CalTrsReport} (h : s.Lawful t) : s.Lawful (t.calTransportFailed r) := by
  refine .ite h ?_
  split
  case h_1 | h_3 | h_4 => exact .calStop h
  case h_2 => exact .calGiveUp h
  case h_5 | h_7 => exact .calGiveUp (.calWithdrawFrame h)
  case h_6 => exact .calGiveUp (.calWithdrawPlan h)
  case h_8 => exact .calFinish h
  all_goals exact h

end State.Lawful

end Sys2Proof.Machine
end

section
/-! PROOFS. `State.Lawful` of the stage, of the sensor, and of what cuts an exposure short. -/

namespace Sys2Proof.Machine

/-! ## The laws of TRS under its writes -/

theorem Trs.laws.begin {x : Trs} (h : x.laws) {w : TrsWork} (hw : ∀ c p, w = .load c p → p < 20 ∧ x.stage = .none)
    (timeout : Nat) : (x.begin w timeout).laws := by
  obtain ⟨hout, -⟩ := h
  refine ⟨hout, ?_, ?_, trivial⟩
  · cases w with
    | load c p => exact fun _ => (hw c p rfl).2
    | move c g => rintro (h | h | h) <;> cases h
    | unload c => rintro (h | h | h) <;> cases h
  · cases w with
    | load c p => exact (hw c p rfl).1
    | move c g => trivial
    | unload c => trivial

/-- A TRS that has no motion in progress and none pending, in a state that says nothing of the stage. -/
theorem Trs.laws.of_idle {x : Trs} (hout : x.outLaw) (hw : x.work = none) (hp : x.pendingMotion = none)
    (hs : x.state = .empty ∨ x.state = .loading ∨ x.state = .homingStopped .unload → x.stage = .none) : x.laws :=
  ⟨hout, hs, by rw [hw]; trivial, by rw [hp]; trivial⟩

/-- A change of the state of TRS that leaves what is in progress. -/
theorem Trs.laws.of_state {x y : Trs} (h : x.laws) (hm : y.magazine = x.magazine) (hg : y.stage = x.stage)
    (hw : y.work = x.work) (hp : y.pendingMotion = x.pendingMotion)
    (hs : y.state = .empty ∨ y.state = .loading ∨ y.state = .homingStopped .unload → x.stage = .none) : y.laws := by
  obtain ⟨hout, -, hwork, hpend⟩ := h
  refine ⟨?_, by rwa [hg], by rw [hw]; exact hwork, by rw [hp]; exact hpend⟩
  unfold Trs.outLaw Trs.outs at *
  rw [hm, hg, hout]

theorem Trs.laws.position_lt {x : Trs} (h : x.laws) {c : TrsClient} {p : Nat} (hw : x.work = some (.load c p)) :
    p < 20 := by
  obtain ⟨-, -, hwork, -⟩ := h
  rw [hw] at hwork
  exact hwork

/-- R143: a fault settles the stage record of a load. -/
theorem Trs.laws.settleRecord {x : Trs} (h : x.laws) (cause : TrsFault) (seen : Bool) :
    (x.settleRecord cause seen).outLaw := by
  have hload : (match x.state, x.work with
      | .loading, some (.load _ p) =>
        if seen then { x.setEntry p .out with stage := .carrier p } else { x.setEntry p .unknown with stage := .none }
      | _, _ => x).outLaw := by
    split
    case h_1 p hs hw =>
      have hstage : x.stage = .none := h.2.1 (.inr (.inl hs))
      split
      · exact h.1.arrive hstage (h.position_lt hw) rfl rfl
      · exact h.1.entry (e := .unknown) hstage nofun rfl rfl
    case h_2 => exact h.1
  cases cause with
  | lostCarrier =>
    unfold Trs.settleRecord
    dsimp only
    cases hs : x.stage with
    | carrier p => exact h.1.leave (e := .unknown) nofun hs rfl rfl
    | unknownCarrier => exact h.1.of_unknown (by simp [hs]) rfl (by simp)
    | none => exact h.1.of_unknown (by simp [hs]) rfl (by simp)
  | timeout => exact hload
  | noCarrierSeen => exact hload
  | orphan => exact hload

theorem Trs.outLaw.returnCarrier {x : Trs} (h : x.outLaw) : x.returnCarrier.outLaw ∧ x.returnCarrier.stage = .none := by
  unfold Trs.returnCarrier
  cases hs : x.stage with
  | carrier p => exact ⟨h.leave (e := .present) nofun hs rfl rfl, rfl⟩
  | unknownCarrier => exact ⟨h.of_unknown (by simp [hs]) rfl (by simp), rfl⟩
  | none => exact ⟨h.of_unknown (by simp [hs]) rfl (by simp), rfl⟩

/-- R146: CLEAR_STAGE empties the stage record. -/
theorem Trs.outLaw.cleared {x : Trs} (h : x.outLaw) : x.cleared.outLaw := by
  unfold Trs.cleared
  cases hs : x.stage with
  | carrier p => exact h.leave (e := .vacant) nofun hs rfl rfl
  | unknownCarrier => exact h.of_unknown (by simp [hs]) rfl (by simp)
  | none => exact h.of_unknown (by simp [hs]) rfl (by simp)

theorem Trs.magazine_returnCarrier_work (x : Trs) :
    x.returnCarrier.work = x.work ∧ x.returnCarrier.pendingMotion = x.pendingMotion := by
  unfold Trs.returnCarrier
  split <;> exact ⟨rfl, rfl⟩

/-- A scan changes no entry that is OUT, and makes none. -/
theorem Trs.laws.of_scan {x y : Trs} (h : x.laws) (l : List (Nat × Bool))
    (hm : y.magazine = (x.scanEntries l).magazine) (hg : y.stage = x.stage) (hw : y.work = x.work)
    (hp : y.pendingMotion = x.pendingMotion)
    (hs : y.state = .empty ∨ y.state = .loading ∨ y.state = .homingStopped .unload → x.stage = .none) : y.laws := by
  have hout := h.1.scan l
  rw [Trs.outLaw_iff, (x.scanEntries_frame l).2] at hout
  refine ⟨?_, by rwa [hg], by rw [hw]; exact h.2.2.1, by rw [hp]; exact h.2.2.2⟩
  rw [Trs.outLaw_iff]
  intro p
  rw [hm, hg]
  exact hout p

namespace State.Lawful

variable {s t u : State}

/-! ## The stage interlock and motions -/

theorem tryInterlock (h : s.Lawful t) : s.Lawful t.tryInterlock := .ite h h

theorem beginMotion {w : TrsWork} (hw : t.trs.laws → ∀ c p, w = .load c p → p < 20 ∧ t.trs.stage = .none)
    (h : s.Lawful t) : s.Lawful (t.beginMotion w) :=
  h.setTrs fun hx => hx.begin (hw hx) _

theorem interlockRelease (h : s.Lawful t) : s.Lawful t.interlockRelease := by
  refine .ite ?_ h
  dsimp only
  split
  case h_1 w hw =>
    refine .beginMotion (fun hx c p e => ?_) h
    obtain ⟨-, -, -, hpend⟩ := hx
    subst e
    rw [hw] at hpend
    exact hpend.elim
  case h_2 => exact .tryInterlock h

theorem interlockAsked (h : s.Lawful t) : s.Lawful t.interlockAsked := .tryInterlock h

theorem interlockWithdraw (h : s.Lawful t) : s.Lawful t.interlockWithdraw := h

theorem trsRefuse {c : TrsClient} (h : s.Lawful t) : s.Lawful (t.trsRefuse c) := by cases c <;> exact h

theorem motionAtRest {w : TrsWork} (hw : ∀ c p, w ≠ .load c p) (h : s.Lawful t) : s.Lawful (t.motionAtRest w) := by
  refine .ite (.trsRefuse h) (.ite (h.setTrs fun hx => ?_) (.beginMotion (fun _ c p e => (hw c p e).elim) h))
  obtain ⟨hout, hs, hwork, -⟩ := hx
  refine ⟨hout, hs, hwork, ?_⟩
  cases w with
  | load c p => exact (hw c p rfl).elim
  | move c g => trivial
  | unload c => trivial

theorem takeLoad {c : TrsClient} {p : Nat} (h : s.Lawful t) : s.Lawful (t.takeLoad c p) := by
  refine .ite (.trsRefuse h) ?_
  split
  case h_1 hs =>
    split
    case isTrue => cases c <;> exact h
    case isFalse hp =>
      refine .beginMotion (fun hx c' q e => ?_) h
      obtain ⟨-, hstage, -, -⟩ := hx
      cases e
      refine ⟨?_, hstage (.inl hs)⟩
      by_contra hlt
      exact hp (by simp [Vector.getElem?_eq_none (Nat.le_of_not_lt hlt)])
  case h_2 => cases c <;> exact h
  all_goals exact .trsRefuse h

theorem takeMove {c : TrsClient} {g : StageTarget} (h : s.Lawful t) : s.Lawful (t.takeMove c g) :=
  .ite (.trsRefuse h) (.ite (.motionAtRest nofun h) (.trsRefuse h))

theorem transportNotice {b : Bool} (h : s.Lawful t) : s.Lawful (t.transportNotice b) := .notice h

theorem takeUnload {c : TrsClient} {seen : Bool} (h : s.Lawful t) : s.Lawful (t.takeUnload c seen) := by
  refine .ite (.trsRefuse h) ?_
  split
  case h_1 => exact .ite (.motionAtRest nofun h) (.trsRefuse h)
  case h_2 => exact .ite (.notice (.beginMotion (fun _ _ _ e => nomatch e) h)) (.trsRefuse h)
  all_goals exact .trsRefuse h

theorem trsSettled (h : s.Lawful t) : s.Lawful t.trsSettled := .ite (.ack h) h

theorem settleDone {c : TrsClient} (h : s.Lawful t) : s.Lawful (t.settleDone c) := by
  refine .trsSettled (.tryInterlock ?_)
  have hset : s.Lawful { t with trs := { t.trs.endLeg with state := .atRest, settleTimer := none } } :=
    h.setTrs fun hx => ⟨hx.1, nofun, trivial, hx.2.2.2⟩
  cases c <;> exact hset

theorem moveLegDone (h : s.Lawful t) : s.Lawful t.moveLegDone := by
  have hset : ∀ (pos : StagePos) (ms : Nat), s.Lawful { t with trs := { t.trs with
      state := .settling, pos := pos, motionTimer := none, settleTimer := some ms } } :=
    fun pos ms => h.setTrs fun hx => hx.of_state rfl rfl rfl rfl nofun
  unfold State.moveLegDone
  split
  · exact .ite (.settleDone (hset _ _)) (hset _ _)
  · exact h

theorem settleExpired (h : s.Lawful t) : s.Lawful t.settleExpired := by
  unfold State.settleExpired
  split
  · exact .settleDone h
  · exact h

/-! ## HOME -/

theorem startAxis (h : s.Lawful t) : s.Lawful t.startAxis :=
  h.setTrs fun hx => hx.of_state rfl rfl rfl rfl nofun

theorem stopHome {l : HomeLeg} (hs : l = .unload → t.trs.stage = .none) (h : s.Lawful t) : s.Lawful (t.stopHome l) :=
  .ack (h.setTrs fun hx => hx.of_state rfl rfl rfl rfl fun e => hs (by simpa using e))

theorem homeUnloadDone (h : s.Lawful t) : s.Lawful t.homeUnloadDone := by
  unfold State.homeUnloadDone
  split
  case isFalse => exact h
  case isTrue hstate =>
    have hstage : t.trs.returnCarrier.stage = .none ∧ t.trs.returnCarrier.state = t.trs.state := by
      unfold Trs.returnCarrier; split <;> exact ⟨rfl, rfl⟩
    have hback : s.Lawful { t with trs := { t.trs.returnCarrier with pos := .transfer } } := by
      refine h.setTrs fun hx => ?_
      obtain ⟨hw, hp⟩ := t.trs.magazine_returnCarrier_work
      refine ⟨hx.1.returnCarrier.1, fun _ => hstage.1, ?_, ?_⟩
      · show match t.trs.returnCarrier.work with | some (.load _ p) => p < 20 | _ => True
        rw [hw]
        exact hx.2.2.1
      · show match t.trs.returnCarrier.pendingMotion with | some (.load _ _) => False | _ => True
        rw [hp]
        exact hx.2.2.2
    exact .ite (.stopHome (fun _ => hstage.1) hback) (.startAxis hback)

theorem homeAxisDone (h : s.Lawful t) : s.Lawful t.homeAxisDone :=
  .ite (.ite (.stopHome nofun h) (h.setTrs fun hx => hx.of_state rfl rfl rfl rfl nofun)) h

theorem homeScanDone {b : BitVec 20} (h : s.Lawful t) : s.Lawful (t.homeScanDone b) := by
  refine .ite ?_ h
  obtain ⟨-, he⟩ := t.trs.scanEntries_frame (allPositions b)
  have hscan : ∀ x : Trs, x = { t.trs.scanEntries (allPositions b) with
        state := x.state, homed := x.homed, pos := x.pos, motionTimer := x.motionTimer, heldLoad := x.heldLoad } →
      (x.state = .empty ∧ t.trs.stage = .none ∨ x.state = .fault .orphan) → s.Lawful { t with trs := x } := by
    intro x hx hst
    refine h.setTrs fun ht => ht.of_scan (allPositions b) ?_ ?_ ?_ ?_ fun e => ?_
    · rw [hx]
    · rw [hx, he]
    · rw [hx, he]
    · rw [hx, he]
    · obtain ⟨-, hs⟩ | hs := hst
      · exact hs
      · simp [hs] at e
  generalize t.trs.scanEntries (allPositions b) = y at he hscan
  dsimp only
  split
  case h_1 hs =>
    have hempty := hscan { y with state := .empty, homed := true, motionTimer := none, heldLoad := none } rfl
      (.inl ⟨rfl, by rw [he] at hs; exact hs⟩)
    split
    · exact .takeLoad (.trsSettled (.emit (.notice hempty)))
    · exact .trsSettled (.emit (.notice hempty))
  all_goals
    have horphan := hscan { y with
      state := .fault .orphan, homed := true, pos := .unknown, motionTimer := none, heldLoad := none } rfl (.inr rfl)
    exact .trsSettled (.ite (.emit (.emit (.notice horphan))) (.emit (.notice horphan)))

/-! ## Requests of the sensor -/

theorem reportFailure {c : ExposureClient} (h : s.Lawful t) : s.Lawful (t.reportFailure c) := h.of_same (by simp)

theorem reportCut {c : ExposureClient} (h : s.Lawful t) : s.Lawful (t.reportCut c) := by
  cases c with
  | prc r => exact .ite h h
  | cru => exact .calFrameCut h
  | bpl r => exact h

theorem pursue {x : HeldReq} (h : s.Lawful t) : s.Lawful (t.pursue x) := .ite h h

theorem chooseNext (h : s.Lawful t) : s.Lawful t.chooseNext := by
  refine .ite h ?_
  split
  · exact .pursue h
  · exact h

theorem releaseLamp {n : Nat} (h : s.Lawful t) : s.Lawful (t.releaseLamp n) := .recalled (.lampRelease h)

theorem dropStage (h : s.Lawful t) : s.Lawful t.dropStage := .recalled (.interlockRelease (.interlockWithdraw h))

theorem withdrawAsks (h : s.Lawful t) : s.Lawful t.withdrawAsks := by
  unfold State.withdrawAsks
  split
  · exact h
  · exact .releaseLamp h
  · exact .dropStage (.releaseLamp h)

theorem askAgain {x : HeldReq} (h : s.Lawful t) : s.Lawful (t.askAgain x) := .pursue (.withdrawAsks h)

theorem forgetHeld (h : s.Lawful t) : s.Lawful t.forgetHeld := h

theorem endHeld (h : s.Lawful t) : s.Lawful t.endHeld := .ite (.chooseNext (.forgetHeld (.withdrawAsks h))) (.forgetHeld h)

theorem releaseAll {r : ExposureReq} (h : s.Lawful t) : s.Lawful (t.releaseAll r) :=
  .releaseLamp (.ite (.interlockRelease h) h)

theorem startExposure {x : HeldReq} (h : s.Lawful t) : s.Lawful (t.startExposure x) := by
  unfold State.startExposure
  split
  · exact .ite (State.Lawful.setSlot (x := .exposing _) nofun h) (.chooseNext (.forgetHeld (.releaseAll h)))
  · exact h
  · exact h

theorem lampGranted (h : s.Lawful t) : s.Lawful t.lampGranted := by
  unfold State.lampGranted
  split
  · exact .ite (.askAgain h) (.ite h (.ite (.startExposure h) h))
  · exact h
  · exact h
  · exact .lampRelease h

theorem stageGranted (h : s.Lawful t) : s.Lawful t.stageGranted := by
  unfold State.stageGranted
  split
  · exact .ite (.startExposure h) (.ite (.askAgain h) (.interlockRelease h))
  · exact h
  · exact .interlockRelease h

theorem lampLost (h : s.Lawful t) : s.Lawful t.lampLost := by
  unfold State.lampLost
  split
  · exact .askAgain h
  · exact .ite (.askAgain h) h
  · exact h

theorem cutShort {e : Exposing} (h : s.Lawful t) : s.Lawful (t.cutShort e) := State.Lawful.releaseAll h

theorem faultCut {e : Exposing} (h : s.Lawful t) : s.Lawful (t.faultCut e) := by
  refine .reportCut (.cutShort ?_)
  split
  · exact .changeSlot h
  · exact h
  · exact h

theorem cutHeld {x : HeldReq} (h : s.Lawful t) : s.Lawful (t.cutHeld x) := .reportCut (.endHeld h)

theorem lampFaulted (h : s.Lawful t) : s.Lawful t.lampFaulted := by
  unfold State.lampFaulted
  split
  · exact .faultCut h
  · exact .ite (.cutHeld h) h
  · exact h

theorem stageFaulted (h : s.Lawful t) : s.Lawful t.stageFaulted := by
  unfold State.stageFaulted
  split
  · exact .ite (.faultCut h) h
  · exact .ite (.cutHeld h) h
  · exact h

theorem exposureWithdrawn {c : ExposureClient} (h : s.Lawful t) : s.Lawful (t.exposureWithdrawn c) := by
  refine .ite (.endHeld h) ?_
  split
  · exact .ite (.cutShort h) h
  · exact .ite h h
  · exact h

theorem reportEnd {c : ExposureClient} {m : Option Nat} (h : s.Lawful t) : s.Lawful (t.reportEnd c m) :=
  h.of_same (by simp)

theorem exposureEnded {n : Nat} (h : s.Lawful t) : s.Lawful (t.exposureEnded n) := by
  unfold State.exposureEnded
  split
  · exact h
  · exact .reportEnd (State.Lawful.releaseLamp (.ite (.interlockRelease h) h))

/-! ## The readout -/

theorem endReadout (h : s.Lawful t) : s.Lawful t.endReadout := h

theorem writeFrame {i r : Nat} {f : Runs Nat} (h : s.Lawful t) : s.Lawful (t.writeFrame i r f) := .write h

theorem handOver {r : Readout} {e : Exposing} {m : Option Nat} {temp : Int} {f : Runs Nat} (h : s.Lawful t) :
    s.Lawful (t.handOver r e m temp f) := by
  unfold State.handOver
  split
  · exact .ite (.emit (.setSlot nofun (.writeFrame h))) h
  · dsimp only
    split
    · exact .ite h h
    · exact h
  · exact .emit (.ite (.writeFrame h) h)

theorem clearHistogram {e : Exposing} (h : s.Lawful t) : s.Lawful (t.clearHistogram e) := h.of_same (by simp)

theorem sfeSettled (h : s.Lawful t) : s.Lawful t.sfeSettled := .ite (.ack h) h

theorem readoutDone {f : Runs Nat} (h : s.Lawful t) : s.Lawful (t.readoutDone f) := by
  unfold State.readoutDone
  split
  · exact h
  · split
    · exact h
    · exact .sfeSettled (.chooseNext (.endReadout (.ite (.clearHistogram h) (.handOver h))))

theorem flushDone (h : s.Lawful t) : s.Lawful t.flushDone := by
  unfold State.flushDone
  split
  · exact h
  · split
    · exact .sfeSettled (.chooseNext (.endReadout h))
    · exact h

theorem sensorFault {c : SensorFault} (h : s.Lawful t) : s.Lawful (t.sensorFault c) := by
  unfold State.sensorFault State.refuseHeld
  split
  · exact .reportFailure (.forgetHeld (.notice h))
  · exact .notice h

theorem abandonReadout {e : Exposing} (h : s.Lawful t) : s.Lawful (t.abandonReadout e) := by
  refine .endReadout (.clearHistogram ?_)
  split
  · exact .changeSlot h
  · exact h
  · exact h

theorem armRepeat {e : Exposing} (h : s.Lawful t) : s.Lawful (t.armRepeat e) := by
  have hnext : s.Lawful (t.armRepeat e) ↔ s.Lawful (State.chooseNext { t.abandonReadout e with
      sfe := { (t.abandonReadout e).sfe with held := some { req := e.req, retry := 1, cleared := false } } }) := by
    unfold State.armRepeat State.reportRetry
    split <;> exact Iff.rfl
  exact hnext.2 (.chooseNext (State.Lawful.abandonReadout h))

theorem readoutExpired (h : s.Lawful t) : s.Lawful t.readoutExpired := by
  unfold State.readoutExpired
  split
  · exact h
  · refine .ite (.sfeSettled (.sensorFault (.endReadout h))) ?_
    split
    · exact .ite h (.sensorFault (.endReadout h))
    · exact .ite (State.Lawful.clearHistogram h)
        (.ite (.armRepeat h) (.sensorFault (.reportFailure (.abandonReadout h))))

theorem holdHot (h : s.Lawful t) : s.Lawful t.holdHot := by
  unfold State.holdHot
  split
  case h_2 => exact State.Lawful.withdrawAsks h
  all_goals exact h

theorem releaseHot (h : s.Lawful t) : s.Lawful t.releaseHot := by
  unfold State.releaseHot
  split
  · exact .chooseNext h
  all_goals exact h

theorem sensorSample {x : Int} (h : s.Lawful t) : s.Lawful (t.sensorSample x) :=
  .ite h (.ite (.notice (.holdHot h)) (.notice (.releaseHot h)))

theorem startReinit (h : s.Lawful t) : s.Lawful t.startReinit := .ite h h

theorem reinitDone (h : s.Lawful t) : s.Lawful t.reinitDone := .ite (.sfeSettled (.emit (.notice (.chooseNext h)))) h

theorem reinitFailed (h : s.Lawful t) : s.Lawful t.reinitFailed := .ite (.sfeSettled (.emit (.sensorFault h))) h

theorem sfeQuiesce (h : s.Lawful t) : s.Lawful t.sfeQuiesce := by
  unfold State.sfeQuiesce
  dsimp only
  split
  case h_1 => exact .cutShort h
  case h_6 => exact .forgetHeld h
  case h_7 => exact .ite (.forgetHeld h) (.ack (.forgetHeld h))
  all_goals exact .ack (.endHeld h)

/-! ## Faults, the dark hold, and the samples of the lamp -/

theorem reportLampFault (h : s.Lawful t) : s.Lawful t.reportLampFault := .ite (.lampFaulted h) h

theorem lampFault {c : LampFault} (h : s.Lawful t) : s.Lawful (t.lampFault c) := by
  have hset : ∀ b : Blu, b.state = .fault c → b.commanded = 0 → s.Lawful { t with blu := b } :=
    fun b hs hc => h.setBlu fun _ => Blu.driveLaw_of_unlit (by rw [hs]; rfl) hc
  have hnoted : s.Lawful (((((if t.blu.grant.isSome || t.blu.ask.isSome || t.sfe.wantsLight || t.sfe.exposesLit then
      State.reportLampFault { t with blu := { t.blu with
        state := .fault c, requested := 0, commanded := 0, settleCount := 0, settleTimer := none, zeroCount := 0
        lit := 0, pendingDrive := none, ask := none, grant := none, driveChanged := false } }
      else { t with blu := { t.blu with
        state := .fault c, requested := 0, commanded := 0, settleCount := 0, settleTimer := none, zeroCount := 0
        lit := 0, pendingDrive := none, ask := none, grant := none, driveChanged := false } }).emit
          (.backlightFault c)).emit .calLampFault).lampNotice)) :=
    .notice (.emit (.emit (.ite (.reportLampFault (hset _ rfl rfl)) (hset _ rfl rfl))))
  cases c <;> exact hnoted

theorem sample {v : Nat} (h : s.Lawful t) : s.Lawful (t.sample v) := by
  refine .ite (State.Lawful.lampFault h) ?_
  dsimp only
  split
  case h_1 goal hg =>
    refine .ite (.settleComplete ?_ h) h
    revert hg
    show settleGoal t.blu.state = some goal → t.blu.state.lit = true
    cases t.blu.state <;> simp [settleGoal, LampState.lit]
  case h_2 => exact .tryStandby h

theorem cutLit (h : s.Lawful t) : s.Lawful t.cutLit := by
  unfold State.cutLit
  split
  · exact .ite h (.faultCut h)
  · exact h

theorem darkHold (h : s.Lawful t) : s.Lawful t.darkHold := .ite h (.cutLit (.enterDark h))

theorem leaveDark (h : s.Lawful t) : s.Lawful t.leaveDark := by
  unfold State.leaveDark
  split
  · exact .notice (h.setBlu fun _ => rfl)
  · exact .enterWarming h
  · exact .enterStandby h

theorem cutDark (h : s.Lawful t) : s.Lawful t.cutDark := by
  unfold State.cutDark
  split
  · exact .ite (.faultCut h) h
  · exact h

theorem darkRelease (h : s.Lawful t) : s.Lawful t.darkRelease := .ite h (.cutDark (.leaveDark h))

theorem endInterlock (h : s.Lawful t) : s.Lawful t.endInterlock := by
  unfold State.endInterlock
  split
  · exact h
  · exact h
  all_goals exact .ite (.stageFaulted h) h

/-- R143: whatever was in progress, a fault ends it and settles the stage record. -/
theorem trsFault {c : TrsFault} {seen : Bool} (h : s.Lawful t) : s.Lawful (t.trsFault c seen) := by
  have hset : s.Lawful { t with trs := { t.trs.settleRecord c seen with
      state := .fault c, pos := .unknown, motionTimer := none, settleTimer := none, work := none
      pendingMotion := none, heldLoad := none } } :=
    h.setTrs fun hx => .of_idle (hx.settleRecord c seen) rfl rfl nofun
  have hend := hset.endInterlock
  have hnoted : ∀ {v : State}, s.Lawful v → s.Lawful (State.transportNotice (if t.faultToCru then
      (if t.faultToPrc then v.emit .transportFault else v).emit (.calTransportFault .fault)
      else if t.faultToPrc then v.emit .transportFault else v) false) :=
    fun hv => .notice (.ite (.emit (.ite hv hv)) (.ite hv hv))
  exact .ite (.ack (hnoted hend)) (hnoted hend)

theorem loadLegDone {seen : Bool} (h : s.Lawful t) : s.Lawful (t.loadLegDone seen) := by
  unfold State.loadLegDone
  split
  case h_2 => exact h
  case h_1 c p hs hw =>
    refine .ite (.trsSettled (.tryInterlock ?_)) (.trsFault h)
    have hset : s.Lawful { t with trs := { (t.trs.setEntry p .out).endLeg with
        state := .atRest, stage := .carrier p, pos := .transfer } } :=
      h.setTrs fun hx => ⟨hx.1.arrive (hx.2.1 (.inr (.inl hs))) (hx.position_lt hw) rfl rfl, nofun, trivial, hx.2.2.2⟩
    cases c <;> exact hset

theorem unloadLegDone (h : s.Lawful t) : s.Lawful t.unloadLegDone := by
  unfold State.unloadLegDone
  split
  case h_2 => exact h
  case h_1 c hs hw =>
    have hset : s.Lawful { t with trs := { t.trs.returnCarrier.endLeg with state := .empty, pos := .transfer } } := by
      refine h.setTrs fun hx => ⟨hx.1.returnCarrier.1, fun _ => hx.1.returnCarrier.2, trivial, ?_⟩
      show match t.trs.returnCarrier.pendingMotion with | some (.load _ _) => False | _ => True
      rw [t.trs.magazine_returnCarrier_work.2]
      exact hx.2.2.2
    have hend : s.Lawful (State.transportNotice (State.endInterlock _) false) := .notice hset.endInterlock
    refine .trsSettled ?_
    cases c <;> exact hend

theorem startHome (h : s.Lawful t) : s.Lawful t.startHome := by
  have hset : s.Lawful { t with trs := { t.trs with pendingMotion := none, work := none, settleTimer := none } } :=
    h.setTrs fun hx => ⟨hx.1, hx.2.1, trivial, trivial⟩
  have hend := hset.endInterlock
  exact .ite (.notice (hend.setTrs fun hx => hx.of_state rfl rfl rfl rfl nofun)) (.notice (.startAxis hend))

theorem motionExpired {seen : Bool} {l : List (Nat × Bool)} (h : s.Lawful t) : s.Lawful (t.motionExpired seen l) := by
  unfold State.motionExpired
  split
  · exact h
  · refine .trsFault ?_
    split
    · obtain ⟨-, he⟩ := t.trs.scanEntries_frame l
      refine h.setTrs fun hx => ⟨hx.1.scan l, ?_⟩
      rw [he]
      exact hx.2
    · exact h

end State.Lawful

end Sys2Proof.Machine
end

section
/-! PROOFS. `State.Lawful` of the output, of the merge engine, of PRC, and of resets; each command keeps the laws of the
blocks (R99, R126, R138, R151, R155, R157). -/

namespace Sys2Proof.Machine

/-! ## The frame store under a band -/

theorem Fst.writeCal_slots (f : Fst) (i start : Nat) (l : Runs Nat) : (f.writeCal i start l).slots = f.slots := by
  unfold Fst.writeCal; split <;> rfl

theorem Fst.writeSums_keeps (f : Fst) (c : CalWork) (l : Runs Nat) :
    (f.memoryLaw → (f.writeSums c l).memoryLaw) ∧ (f.writeSums c l).slots = f.slots :=
  ⟨fun h => Fst.writeCal_keeps _ _ _ _ (Fst.writeCal_keeps _ _ _ _ h),
    (Fst.writeCal_slots ..).trans (Fst.writeCal_slots ..)⟩

theorem Fst.calBand_keeps (f : Fst) (dark : DarkEntry) (c : CalWork) :
    (f.memoryLaw → (f.calBand dark c).1.memoryLaw) ∧ (f.calBand dark c).1.slots = f.slots := by
  unfold Fst.calBand
  split
  case isFalse => exact ⟨id, rfl⟩
  case isTrue =>
    unfold Fst.calBandRead
    dsimp only
    split
    case h_1 => exact ⟨id, rfl⟩
    case h_2 | h_3 => exact f.writeSums_keeps _ _
    all_goals exact ⟨f.writeCal_keeps _ _ _, f.writeCal_slots _ _ _⟩

theorem Fst.refLaw.of_slots_eq {f g : Fst} (h : f.refLaw) (e : g.slots = f.slots) : g.refLaw :=
  h.of_slots fun i n hi => by rwa [Fst.slot, e] at hi

theorem Fst.refLaw.mergeDone {f : Fst} (h : f.refLaw) (r : TileRef) : (f.mergeDone r).refLaw :=
  (h.setSlots _ (x := .free) nofun).setSlots _ (x := .merged r) nofun

namespace State.Lawful

variable {s t u : State}

/-! ## The stripe output -/

theorem startTile {e : OutEntry} (h : s.Lawful t) : s.Lawful (t.startTile e) :=
  .ite h (State.Lawful.moveTile (.changeSlot h))

theorem startStripe {e : OutEntry} {j : Job} {x : Tile} (h : s.Lawful t) : s.Lawful (t.startStripe e j x) :=
  (startTile h).setSou fun hq => Nat.le_trans (Nat.sub_le ..) hq

theorem tryStripe (h : s.Lawful t) : s.Lawful t.tryStripe := by
  refine .ite ?_ h
  split
  · exact h
  · split
    · exact .startStripe h
    · exact h

theorem removeHead (h : s.Lawful t) : s.Lawful t.removeHead := by
  unfold State.removeHead
  split
  · exact h
  · exact .changeSlot h

theorem stripeTaken (h : s.Lawful t) : s.Lawful t.stripeTaken := by
  unfold State.stripeTaken
  split
  · refine .ite (.ack ?x) (.tryStripe ?x)
    exact .ite (.removeHead h) (.ite (.drainJob (.endTile (.removeHead h))) h)
  · exact h

theorem souAbandoned {r : TileRef} (h : s.Lawful t) : s.Lawful (t.souAbandoned r) := by
  refine .ite (.ite h (.tryStripe (.removeHead h))) ?_
  split
  · exact h
  · exact .tryStripe (.changeSlot h)

theorem grantStripes {n : Nat} (h : s.Lawful t) : s.Lawful (t.grantStripes n).state :=
  .refusedIf h (.tryStripe (h.setSou fun _ => Nat.min_le_left ..))

theorem souDetach (h : s.Lawful t) : s.Lawful t.souDetach := by
  unfold State.souDetach
  split
  · exact h.setSou fun _ => Nat.zero_le _
  · have hset : ∀ q : Sou, q.credits = 0 → s.Lawful { t with sou := q } :=
      fun q hq => h.setSou fun _ => by rw [Sou.creditLaw, hq]; exact Nat.zero_le _
    exact .ite (.ack (.ite (.removeHead (hset _ rfl)) (hset _ rfl))) (.ite (.removeHead (hset _ rfl)) (hset _ rfl))

theorem souQuiesce (h : s.Lawful t) : s.Lawful t.souQuiesce := .ite (.ack h) h

/-! ## The merge engine -/

theorem takeUp (h : s.Lawful t) : s.Lawful t.takeUp := by
  unfold State.takeUp
  split
  · exact h
  · refine .ite (.moveTile ?_) h
    split
    · exact .changeSlot h
    · exact h

theorem mergeAppend {r : TileRef} (h : s.Lawful t) : s.Lawful (t.mergeAppend r) := .takeUp h

theorem bmeIdle (h : s.Lawful t) : s.Lawful t.bmeIdle := .cruTest (.takeUp h)

theorem mergeBandDone {w : MergeWork} (h : s.Lawful t) : s.Lawful (t.mergeBandDone w).1 := by
  unfold State.mergeBandDone
  dsimp only
  split
  · dsimp only
    split
    · exact .ite (.write h) h
    · exact h
  · exact h

theorem reportMerge {w : MergeWork} (h : s.Lawful t) : s.Lawful (t.reportMerge w) := .ite (.moveTile (.mapTile h)) h

theorem outAppend {w : MergeWork} (h : s.Lawful t) : s.Lawful (t.outAppend w) := by
  unfold State.outAppend
  split
  · exact .tryStripe h
  · exact h

theorem mergeDone {w : MergeWork} (h : s.Lawful t) : s.Lawful (t.mergeDone w) :=
  .bmeIdle (.grantWait (.outAppend (.reportMerge (h.setFst (·.mergeDone _)
    (·.of_planes (by simp [Fst.mergeDone]))))))

theorem mergeAbandoned {r : TileRef} (h : s.Lawful t) : s.Lawful (t.mergeAbandoned r) :=
  .cruTest (.takeUp (State.Lawful.freeSlots h))

theorem bmeDiscard (h : s.Lawful t) : s.Lawful t.bmeDiscard := .ack h

theorem mergingBandDone {w : MergeWork} (h : s.Lawful t) : s.Lawful (t.mergingBandDone w) :=
  .ite (.bmeDiscard (.mergeBandDone h)) (.ite (State.Lawful.mergeBandDone h) (.mergeDone (.mergeBandDone h)))

theorem abandoningBandDone {w : MergeWork} (h : s.Lawful t) : s.Lawful (t.abandoningBandDone w) :=
  .ite (.bmeDiscard (.mergeBandDone h)) (.mergeAbandoned (.mergeBandDone h))

theorem calOpDone {c : CalWork} (h : s.Lawful t) : s.Lawful (t.calOpDone c) := by
  unfold State.calOpDone
  dsimp only
  split
  · exact h
  · exact h

theorem calBandDone {c : CalWork} (h : s.Lawful t) : s.Lawful (t.calBandDone c) := by
  obtain ⟨hmem, hslots⟩ := t.fst.calBand_keeps t.cru.dark c
  have hset : s.Lawful { t with fst := (t.fst.calBand t.cru.dark c).1 } := h.setFst (·.of_slots_eq hslots) hmem
  exact .ite (.bmeDiscard hset) (.ite (.bmeIdle hset) (.ite hset (.calOpDone hset)))

theorem bandDone (h : s.Lawful t) : s.Lawful t.bandDone := by
  unfold State.bandDone
  split
  · exact .mergingBandDone h
  · exact .abandoningBandDone h
  · exact .calBandDone h
  · exact h

theorem bmeAbandoned {r : TileRef} (h : s.Lawful t) : s.Lawful (t.bmeAbandoned r) := by
  refine .ite (.ite h (.freeSlots h)) ?_
  split
  · exact .ite h h
  · exact h

theorem calWorkAsked {lo hi : Nat} (h : s.Lawful t) : s.Lawful (t.calWorkAsked lo hi) := by
  have hslots : ∀ (f : Fst) i, (f.blank i).slots = f.slots := by intro f i; unfold Fst.blank; split <;> rfl
  have hset : s.Lawful { t with fst := (t.fst.blank lo).blank hi } :=
    h.setFst (·.of_slots_eq (by rw [hslots, hslots])) fun hm => Fst.blank_keeps _ _ (Fst.blank_keeps _ _ hm)
  exact .ite hset h

theorem calReleased (h : s.Lawful t) : s.Lawful t.calReleased := by
  unfold State.calReleased
  split
  · exact .bmeIdle h
  · exact h
  · exact h

theorem bmeQuiesce (h : s.Lawful t) : s.Lawful t.bmeQuiesce := by
  unfold State.bmeQuiesce
  dsimp only
  split
  case h_1 | h_2 => exact .ack h
  all_goals exact h

/-! ## Requests and motions of PRC -/

theorem issueUnload {k : TrsRequest} (h : s.Lawful t) : s.Lawful (t.issueUnload k) := h

theorem askUnload {k : TrsRequest} (h : s.Lawful t) : s.Lawful (t.askUnload k) := h.of_same (by simp)

theorem askRecovery {id : Nat} (h : s.Lawful t) : s.Lawful (t.askRecovery id) := .askUnload h

theorem bringBack {r : TileRef} (h : s.Lawful t) : s.Lawful (t.bringBack r) := h.of_same (by simp)

theorem beginTile {r : TileRef} (h : s.Lawful t) : s.Lawful (t.beginTile r) := h.of_same (by simp)

theorem beginNext (h : s.Lawful t) : s.Lawful t.beginNext := h.of_same (by simp)

theorem issuePlan {r : TileRef} (h : s.Lawful t) : s.Lawful (t.issuePlan r) := .ite h h

theorem requestExposure {r : TileRef} (h : s.Lawful t) : s.Lawful (t.requestExposure r) := h.of_same (by simp)

theorem tryHoldPoint (h : s.Lawful t) : s.Lawful t.tryHoldPoint := .ite (.goHeld h) h

theorem startJob {j : Job} (h : s.Lawful t) : s.Lawful (t.startJob j) := .emit (.stopIdle (State.Lawful.setJob h))

theorem considerStart (h : s.Lawful t) : s.Lawful t.considerStart := by
  refine .ite ?_ h
  split
  · exact h
  · split
    · exact h
    · exact .goHeld h
    · exact .startJob h

theorem idleCheck (h : s.Lawful t) : s.Lawful t.idleCheck := .ite (.setRun h) h

theorem afterJob (h : s.Lawful t) : s.Lawful t.afterJob := .startIdle (.tryHoldPoint (.considerStart (.idleCheck h)))

theorem captureCheck (h : s.Lawful t) : s.Lawful t.captureCheck := by
  unfold State.captureCheck
  split
  · exact .ite (.askUnload (.setJob h)) h
  · exact h

theorem kickExposure (h : s.Lawful t) : s.Lawful t.kickExposure := by
  unfold State.kickExposure
  split
  · exact .requestExposure h
  · exact .requestExposure h
  · exact h

theorem kickPlan (h : s.Lawful t) : s.Lawful t.kickPlan := by
  unfold State.kickPlan
  split
  · exact .ite h (.issuePlan (.mapTile h))
  · exact h

theorem kickNext (h : s.Lawful t) : s.Lawful t.kickNext := by
  unfold State.kickNext
  split
  · exact .ite (.captureCheck (.beginNext h)) h
  · exact h

theorem kick (h : s.Lawful t) : s.Lawful t.kick := .ite (.kickNext (.kickPlan (.kickExposure h))) (.kickExposure h)

theorem abandonTile {r : TileRef} (h : s.Lawful t) : s.Lawful (t.abandonTile r) := by
  unfold State.abandonTile
  split
  · exact .endTile (h.of_same (by simp))
  · exact h

theorem abandonTiles {j : Job} {f : TileState → Bool} (h : s.Lawful t) : s.Lawful (t.abandonTiles j f) := by
  unfold State.abandonTiles
  generalize ((j.tiles.filter fun x => f x.state).map j.ref) = l
  induction l generalizing t with
  | nil => exact h
  | cons r l ih => exact ih (.abandonTile h)

theorem endJob {j : Job} {c : FailCause} (h : s.Lawful t) : s.Lawful (t.endJob j c) :=
  .startIdle (State.Lawful.setJob (State.Lawful.abandonTiles h))

/-! ## Reports to PRC -/

theorem prcEvent {f : State → State} (hf : ∀ {v : State}, s.Lawful v → s.Lawful (f v)) (h : s.Lawful t) :
    s.Lawful (t.prcEvent f) := .ite h (hf h)

theorem trsAnswered (h : s.Lawful t) : s.Lawful t.trsAnswered := h

theorem loadDone (h : s.Lawful t) : s.Lawful t.loadDone := by
  unfold State.loadDone
  split
  · exact .ite h (.ite (.beginNext (.setJob h)) (.tryHoldPoint (.setJob h)))
  · exact h

theorem loadNoCarrier (h : s.Lawful t) : s.Lawful t.loadNoCarrier := by
  unfold State.loadNoCarrier
  split
  · exact .afterJob (State.Lawful.setJob (State.Lawful.abandonTiles (State.Lawful.trsAnswered h)))
  · exact h

theorem tileSettled {r : TileRef} (h : s.Lawful t) : s.Lawful (t.tileSettled r) :=
  .ite (.issuePlan (.mapTile h)) (.tryHoldPoint (.mapTile h))

theorem broughtBack (h : s.Lawful t) : s.Lawful t.broughtBack := by
  unfold State.broughtBack
  split
  · exact .ite h (.ite (State.Lawful.requestExposure h) h)
  · exact .tryHoldPoint h

/-- The settle completion of a move of PRC. -/
theorem settledMove {back : Bool} {r : TileRef} (h : s.Lawful t) : s.Lawful
    (if back then t.broughtBack
      else match t.prc.retryBack with
        | some b => (t.moveTile r .pending).bringBack b
        | none => if t.prc.tileState? r = some .positioning then t.tileSettled r else t.tryHoldPoint) := by
  refine .ite (.broughtBack h) ?_
  split
  · exact .bringBack (.moveTile h)
  · exact .ite (.tileSettled h) (.tryHoldPoint h)

theorem settled (h : s.Lawful t) : s.Lawful t.settled := by
  unfold State.settled
  split
  case h_3 => exact h
  all_goals
    dsimp only
    split
    · exact h
    · exact .tryHoldPoint h
    · exact State.Lawful.settledMove (State.Lawful.trsAnswered h)

theorem staleCheck {r : TileRef} {n : Nat} (h : s.Lawful t) : s.Lawful (t.staleCheck r n) := by
  refine .ite ?_ h
  split
  · exact .goHeld h
  · exact State.Lawful.mapTile h

theorem planned {r : TileRef} {l : List PlanEntry} {n : Nat} {f : PlanFlags} (h : s.Lawful t) :
    s.Lawful (t.planned r l n f) :=
  .ite (.ite (.staleCheck (State.Lawful.mapTile h)) (.tryHoldPoint (State.Lawful.mapTile h))) h

theorem admitted {r : TileRef} (h : s.Lawful t) : s.Lawful (t.admitted r) :=
  .ite (.ite (.requestExposure (State.Lawful.moveTile h)) (State.Lawful.moveTile h)) h

theorem tileExposureEnd {r : TileRef} (h : s.Lawful t) : s.Lawful (t.tileExposureEnd r) := by
  unfold State.tileExposureEnd
  split
  · exact .ite (.beginNext h) h
  · exact h

theorem tileExposed {r : TileRef} (h : s.Lawful t) : s.Lawful (t.tileExposed r) :=
  have hjoined : s.Lawful ((t.moveTile r .exposed).mergeAppend r) := .mergeAppend (.moveTile h)
  .tryHoldPoint (.captureCheck (.ite (.kickNext (.kickPlan hjoined)) hjoined))

theorem tileExposureDone {r : ExposureDone} (h : s.Lawful t) : s.Lawful (t.tileExposureDone r) := by
  unfold State.tileExposureDone
  split
  · exact .ite (.ite (.tileExposed (State.Lawful.mapTile h))
      (.ite (.requestExposure (State.Lawful.mapTile h)) (State.Lawful.mapTile h))) h
  · exact h

theorem retried {r : TileRef} {b : Bool} (h : s.Lawful t) : s.Lawful (t.retried r b) := by
  unfold State.retried
  split
  · exact h
  · refine .ite h (.ite (.mapTile h) ?_)
    split
    · exact .emit (.mapTile h)
    · exact .ite (.bringBack (State.Lawful.moveTile (State.Lawful.mapTile h))) (State.Lawful.mapTile h)

theorem tileSensorFailure {r : TileRef} (h : s.Lawful t) : s.Lawful (t.tileSensorFailure r) := by
  unfold State.tileSensorFailure
  split
  · exact .ite (.askRecovery (.goHeld (.endJob h))) h
  · exact h

theorem drainTransport {id : Nat} (h : s.Lawful t) : s.Lawful (t.drainTransport id) := by
  unfold State.drainTransport
  split
  · exact .ite (.setJob h) h
  · exact h

theorem recoveryFault {id : Nat} (h : s.Lawful t) : s.Lawful (t.recoveryFault id) :=
  .ite (.askRecovery (State.Lawful.drainTransport h)) (State.Lawful.drainTransport h)

theorem idleTransportFault (h : s.Lawful t) : s.Lawful t.idleTransportFault := by
  have hrec : s.Lawful (match t.prc.recoveryJob with
      | some id => t.recoveryFault id
      | none => { t with prc := { t.prc with trsReq := none, unloadNext := none } }) := by
    split
    · exact .recoveryFault h
    · exact h
  unfold State.idleTransportFault
  dsimp only
  split
  case h_1 | h_2 => exact .goHeld hrec
  all_goals exact hrec

theorem transportFaulted (h : s.Lawful t) : s.Lawful t.transportFaulted := by
  unfold State.transportFaulted
  split
  · exact .ite (.askRecovery (.goHeld (State.Lawful.endJob h))) (.goHeld (State.Lawful.endJob h))
  · exact .idleTransportFault h

theorem withdrawPlan (h : s.Lawful t) : s.Lawful t.withdrawPlan := h.of_same (by simp)

theorem backlightFaulted (h : s.Lawful t) : s.Lawful t.backlightFaulted := by
  unfold State.backlightFaulted
  split
  · split
    case h_1 | h_2 => exact .goHeld (.withdrawPlan h)
    all_goals exact h
  · exact h

theorem jobUnloaded {j : Job} (h : s.Lawful t) : s.Lawful (t.jobUnloaded j) := by
  unfold State.jobUnloaded
  dsimp only
  split
  · exact .afterJob (.ite (.goHeld (State.Lawful.setJob h)) (State.Lawful.setJob h))
  · exact .startIdle (.goHeld (.ite (.goHeld (State.Lawful.setJob h)) (State.Lawful.setJob h)))

theorem unloaded (h : s.Lawful t) : s.Lawful t.unloaded := by
  unfold State.unloaded
  split
  · exact .jobUnloaded h
  · exact .tryHoldPoint (State.Lawful.considerStart h)
  · exact h

theorem cruIdle (h : s.Lawful t) : s.Lawful t.cruIdle := .kick (.considerStart h)

/-! ## Host commands -/

theorem acceptJob {j : Job} (h : s.Lawful t) : s.Lawful (t.acceptJob j) :=
  .considerStart (.ite (.setRun (State.Lawful.notice h)) (State.Lawful.notice h))

theorem submit {l : List Byte} (h : s.Lawful t) : s.Lawful (t.submit l).state := by
  unfold State.submit
  split
  · exact h
  · exact .acceptJob h

theorem queryJob {id start : Nat} (h : s.Lawful t) : s.Lawful (t.queryJob id start).state := by
  unfold State.queryJob
  split <;> exact h

theorem releaseJob {id : Nat} (h : s.Lawful t) : s.Lawful (t.releaseJob id).state := by
  unfold State.releaseJob
  split
  · exact h
  · split <;> exact h

theorem abortQueued {j : Job} (h : s.Lawful t) : s.Lawful (t.abortQueued j) :=
  .idleCheck (State.Lawful.setJob (State.Lawful.abandonTiles h))

theorem abortActive {j : Job} (h : s.Lawful t) : s.Lawful (t.abortActive j) :=
  .askUnload (.ite (.setJob (State.Lawful.abandonTiles h)) (State.Lawful.abandonTiles h))

theorem abortDraining {j : Job} (h : s.Lawful t) : s.Lawful (t.abortDraining j) := .setJob (.abandonTiles h)

theorem abortJob {id : Nat} (h : s.Lawful t) : s.Lawful (t.abortJob id).state := by
  unfold State.abortJob
  split
  · exact h
  · split
    case h_1 => exact .abortQueued h
    case h_2 | h_3 | h_4 => exact .abortActive h
    case h_5 => exact .abortDraining h
    all_goals exact h

theorem holdRun (h : s.Lawful t) : s.Lawful t.holdRun.state := by
  unfold State.holdRun
  split
  · exact .tryHoldPoint (State.Lawful.setRun h)
  · exact h

theorem resumeRun (h : s.Lawful t) : s.Lawful t.resumeRun :=
  .kick (.considerStart (.leaveFault (.startReinit (State.Lawful.setRun h))))

theorem resume (h : s.Lawful t) : s.Lawful t.resume.state := by
  unfold State.resume
  split
  · split
    · exact h
    · exact .resumeRun h
  all_goals exact h

theorem homeEndsJob (h : s.Lawful t) : s.Lawful t.homeEndsJob := by
  have hjob : s.Lawful (match t.prc.activeJob? with | some j => t.endJob j .command | none => t) := by
    split
    · exact .endJob h
    · exact h
  exact hjob

theorem prcDetach (h : s.Lawful t) : s.Lawful t.prcDetach := by
  unfold State.prcDetach
  split
  · exact .tryHoldPoint (State.Lawful.setRun h)
  · exact h
  · exact .goHeld h
  · exact .goHeld h
  · exact h

theorem home (h : s.Lawful t) : s.Lawful t.home.state := by
  unfold State.home
  split
  · exact h
  · exact .startHome (.homeEndsJob h)

theorem clearStage {seen : Bool} (h : s.Lawful t) : s.Lawful (t.clearStage seen).state := by
  unfold State.clearStage
  refine .refusedIf h (.refusedIf h ?_)
  have hset : s.Lawful { t with trs := t.trs.cleared } := by
    refine h.setTrs fun hx => ⟨hx.1.cleared, fun _ => rfl, ?_, ?_⟩
    · show match t.trs.cleared.work with | some (.load _ p) => p < 20 | _ => True
      rw [show t.trs.cleared.work = t.trs.work by unfold Trs.cleared; cases t.trs.stage <;> rfl]
      exact hx.2.2.1
    · show match t.trs.cleared.pendingMotion with | some (.load _ _) => False | _ => True
      rw [show t.trs.cleared.pendingMotion = t.trs.pendingMotion by unfold Trs.cleared; cases t.trs.stage <;> rfl]
      exact hx.2.2.2
  exact .ite (.emit (.notice hset)) (.notice hset)

theorem answer {r : Reply} (h : s.Lawful t) : s.Lawful (t.answer r) := by
  unfold State.answer
  split
  · exact h.setLiu id id fun _ => rfl
  · exact h

theorem storeParam {p : Param} {v : Nat} (h : s.Lawful t) : s.Lawful (t.storeParam p v).state := by
  unfold State.storeParam
  split
  · exact h
  · split
    · exact h
    · next w hw => exact h.setLiu id (fun hp => Params.inRange_set hp hw) id

theorem setParam {p : Option Param} {v : Nat} (h : s.Lawful t) : s.Lawful (t.setParam p v).state := by
  cases p with
  | none => exact h
  | some p => exact .storeParam h

theorem getParam {w : GetWhat} (h : s.Lawful t) : s.Lawful (t.getParam w).state := by
  unfold State.getParam
  split
  · exact h
  · exact h
  · exact .refusedIf h h

theorem loadTable {n : Nat} {l : List Nat} (h : s.Lawful t) : s.Lawful (t.loadTable n l).state :=
  .refusedIf h (.refusedIf h h)

theorem queryStatus {b : Bool} (h : s.Lawful t) : s.Lawful (t.queryStatus b).state := .ite h h

/-! ## The reset handshake -/

theorem trsQuiesce (h : s.Lawful t) : s.Lawful t.trsQuiesce := by
  have hset : s.Lawful { t with trs := { t.trs with quiesce := true, pendingMotion := none } } :=
    h.setTrs fun hx => ⟨hx.1, hx.2.1, hx.2.2.1, trivial⟩
  exact .ite (.tryInterlock hset) (.ack (.tryInterlock hset))

theorem bplQuiesce (h : s.Lawful t) : s.Lawful t.bplQuiesce := by
  unfold State.bplQuiesce
  split
  · exact .ack h
  · exact h

theorem calQuiesce (h : s.Lawful t) : s.Lawful t.calQuiesce := h.of_same (by simp)

theorem prcQuiesce (h : s.Lawful t) : s.Lawful t.prcQuiesce := h.of_same (by simp)

theorem quiesceAll (h : s.Lawful t) : s.Lawful t.quiesceAll :=
  .souQuiesce (.bmeQuiesce (.sfeQuiesce (.ack (.stopIdle (.trsQuiesce (.ack
    (.bplQuiesce (.calQuiesce (.prcQuiesce h)))))))))

theorem resetCommand {hdr : Hdr} {k : ResetKind} (h : s.Lawful t) : s.Lawful (t.resetCommand hdr k) := by
  refine .ite h ?_
  split
  · exact .answer h
  · exact .ite (.quiesceAll (h.setLiu id id fun _ => rfl)) (.answer h)

end State.Lawful

/-! ## The application of a reset -/

/-- The magazine of a TRS that knows no entry, but for that of a carrier seen on the stage. -/
theorem Trs.outLaw_reset (seen : Bool) : (Trs.reset seen).outLaw := by
  rw [Trs.outLaw_iff]
  intro p
  have hm : (Trs.reset seen).magazine[p]? ≠ some .out := by
    by_cases hp : p < 20 <;> simp [Trs.reset, hp]
  cases seen <;> simp [hm] <;> simp [Trs.reset]

theorem Trs.laws_reset (seen : Bool) : (Trs.reset seen).laws := .of_idle (Trs.outLaw_reset seen) rfl rfl (by simp [Trs.reset])

theorem Trs.laws.softened {x : Trs} (h : x.laws) : x.softened.laws := by
  obtain ⟨hout, hs, -, -⟩ := h
  unfold Trs.softened
  dsimp only
  split
  all_goals refine .of_idle hout rfl rfl ?_
  case h_1 hx => exact fun _ => hs (.inr (.inr hx))
  case h_2 | h_3 | h_4 => simp
  all_goals exact hs

theorem Trs.laws.sensedStage_lt {x : Trs} (h : x.laws) {seen : Bool} {p : Nat} (hs : x.sensedStage seen = .carrier p) :
    p < 20 := by
  unfold Trs.sensedStage at hs
  split at hs
  · split at hs
    · next q hq =>
      cases hs
      exact (Vector.getElem?_eq_some_iff.1 ((Trs.outLaw_iff.1 h.1 p).2 hq)).1
    · cases hs
    · next hw => cases hs; exact h.position_lt hw
    · cases hs
  · cases hs

/-- Log entry 24: a forced TRS has the OUT entry of the carrier seen on its stage, and no other. -/
theorem Trs.laws.forced {x : Trs} (h : x.laws) (seen : Bool) : (x.forced seen).laws := by
  have hblank : ∀ p : Nat, (Trs.reset seen).magazine[p]? ≠ some .out := by
    intro p
    by_cases hp : p < 20 <;> simp [Trs.reset, hp]
  unfold Trs.forced
  dsimp only
  cases hs : x.sensedStage seen with
  | carrier p =>
    refine .of_idle ?_ rfl rfl nofun
    rw [Trs.outLaw_iff]
    intro q
    rw [Trs.magazine_setEntry, show (Trs.setEntry _ p .out).stage = .carrier p from rfl, StageRecord.carrier.injEq,
      eq_comm (a := p)]
    by_cases hq : q = p
    · simp [hq, h.sensedStage_lt hs]
    · simp [hq, hblank q]
  | unknownCarrier =>
    refine .of_idle ?_ rfl rfl nofun
    rw [Trs.outLaw_iff]
    exact fun q => iff_of_false (hblank q) nofun
  | none =>
    refine .of_idle ?_ rfl rfl nofun
    rw [Trs.outLaw_iff]
    exact fun q => iff_of_false (hblank q) nofun

theorem Params.inRange_default : ({} : Params).inRange = true := by decide

theorem Fst.refLaw_of_free {f : Fst} (h : ∀ i x, f.slot i = some x → x = .free) : f.refLaw := by
  rw [Fst.refLaw_iff]
  have hno : ∀ i n, f.slot i ≠ some (.ref n) := fun i n hi => by cases h i _ hi
  exact ⟨fun i _ n hi => (hno i n hi).elim, fun i n hi => (hno i n hi).elim⟩

theorem Fst.refLaw_reset : Fst.reset.refLaw := Fst.refLaw_of_free fun i x hi => by
  have hlt : i < 48 := (Vector.getElem?_eq_some_iff.1 hi).1
  simpa [Fst.slot, Fst.reset, hlt, eq_comm] using hi

namespace State.Lawful

variable {s t : State}

theorem applyReset {w : ResetWork} {l : List Block} {seen : Bool} (h : s.Lawful t) :
    s.BlocksLawful (t.applyReset w l seen) := by
  obtain ⟨⟨hb, hq, hn, hp, hr, hm, hx⟩, -⟩ := h
  refine ⟨fun _ => ?_, fun _ => Nat.zero_le _, fun k => ?_, fun k => ?_, fun k => (hr k).applied _,
    fun k => Fst.applied_keeps _ _ (hm k), fun k => ?_⟩
  · show (Blu.applied _ _ _).driveLaw
    cases w.kind <;> rfl
  · obtain ⟨-, -, hseq⟩ := hn k
    show (Liu.applied _ _ _).noticeLaw
    unfold Liu.applied
    dsimp only
    split
    · exact ⟨Nat.zero_le _, Nat.zero_le _, hseq⟩
    · exact ⟨Nat.zero_le _, Nat.zero_le _, Nat.succ_pos _⟩
  · show (Liu.applied _ _ _).paramLaw
    unfold Liu.applied
    dsimp only
    split
    · exact hp k
    · exact Params.inRange_default
  · show (Trs.applied _ _ _ _).laws
    unfold Trs.applied
    split
    · exact Trs.laws_reset seen
    · split
      · exact (hx k).forced seen
      · exact (hx k).softened

theorem acknowledged {b : Block} {seen : Bool} (h : s.Lawful t) : s.BlocksLawful (t.acknowledged b seen) := by
  unfold State.acknowledged
  split
  · exact h.1
  · split
    · dsimp only
      split
      · exact h.applyReset
      · exact h.1
    · exact h.1

theorem resetExpired {seen : Bool} (h : s.Lawful t) : s.BlocksLawful (t.resetExpired seen) := by
  unfold State.resetExpired
  split
  · exact h.1
  · exact h.applyReset

/-- The values after power-on meet the laws, whatever came before. -/
theorem powerOn {seen : Bool} : s.BlocksLawful (t.powerOn seen) := by
  have hnoted : ({ State.reset with
      trs := Trs.reset seen, freeCount := t.freeCount, pending := t.pending } : State).Lawful (t.powerOn seen) :=
    .notice (.refl _)
  obtain ⟨⟨kb, kq, kn, kp, kr, km, kx⟩, -⟩ := hnoted
  exact ⟨fun _ => kb rfl, fun _ => kq (Nat.zero_le _), fun _ => kn ⟨Nat.zero_le _, Nat.zero_le _, Nat.succ_pos _⟩,
    fun _ => kp Params.inRange_default, fun _ => kr Fst.refLaw_reset, fun _ => km reset_memoryLaw,
    fun _ => kx (Trs.laws_reset seen)⟩

theorem attach (h : s.Lawful t) : s.Lawful t.attach := State.Lawful.tryStripe h

theorem detach (h : s.Lawful t) : s.Lawful t.detach :=
  .ite (.prcDetach (.souDetach (h.setLiu (fun hn => ⟨Nat.zero_le _, Nat.zero_le _, hn.2.2⟩) id (by simp [Liu.detach])))) h

end State.Lawful

/-! ## Every command -/

/-- The commands in whose event a reset in progress may end. -/
def Instr.endsReset : Instr → Bool
  | .powerOn _ | .quiesceAck _ _ | .resetTimeout _ => true
  | _ => false

open State.Lawful in
/-- Every command but those that may end a reset keeps the laws of the blocks and a reset in progress, by the lemma of
what it does. -/
theorem exec_lawful (c : Instr) {s t : State} (hc : Instr.endsReset c = false) (h : exec c s = .next t) :
    s.Lawful t := by
  have h0 := State.Lawful.refl s
  have key : ∀ {f : State}, exec c s = .next f → s.Lawful f → s.Lawful t := by
    intro f hf hl
    rw [h] at hf
    cases hf
    exact hl
  cases c
  case powerOn | quiesceAck | resetTimeout => cases hc
  case attach => exact key rfl h0.attach
  case detach => exact key rfl h0.detach
  case badFrame l => exact key rfl (.ite (State.Lawful.answer h0) h0)
  case badKind k b => exact key rfl (.ite (.answer h0) h0)
  case recordSent =>
    obtain ⟨hp, hw⟩ : s.liu.sendNext.params = s.liu.params ∧ s.liu.sendNext.resetWork = s.liu.resetWork := by
      unfold Liu.sendNext Liu.afterSent
      (repeat' split) <;> exact ⟨rfl, rfl⟩
    exact key rfl (h0.setLiu (·.sendNext) (fun k => by rwa [Liu.paramLaw, hp]) (fun k => by rwa [hw]))
  case identify | queryMagazine => exact key rfl (.command (fun _ hu => hu) h0)
  case setParam => exact key rfl (.command (fun _ hu => hu.setParam) h0)
  case getParam => exact key rfl (.command (fun _ hu => hu.getParam) h0)
  case loadTable => exact key rfl (.command (fun _ hu => hu.loadTable) h0)
  case home => exact key rfl (.command (fun _ hu => hu.home) h0)
  case calibrateDark => exact key rfl (.command (fun _ hu => hu.calibrateDark) h0)
  case calibrateFlat => exact key rfl (.command (fun _ hu => hu.calibrateFlat) h0)
  case calibrateCancel => exact key rfl (.command (fun _ hu => hu.calCancel) h0)
  case submitJob => exact key rfl (.command (fun _ hu => hu.submit) h0)
  case queryJob => exact key rfl (.command (fun _ hu => hu.queryJob) h0)
  case releaseJob => exact key rfl (.command (fun _ hu => hu.releaseJob) h0)
  case abortJob => exact key rfl (.command (fun _ hu => hu.abortJob) h0)
  case hold => exact key rfl (.command (fun _ hu => hu.holdRun) h0)
  case resume => exact key rfl (.command (fun _ hu => hu.resume) h0)
  case grantStripes => exact key rfl (.command (fun _ hu => hu.grantStripes) h0)
  case queryStatus => exact key rfl (.command (fun _ hu => hu.queryStatus) h0)
  case clearStage => exact key rfl (.command (fun _ hu => hu.clearStage) h0)
  case resetSoft | resetFull => exact key rfl h0.resetCommand
  case startJob => exact key rfl h0.deliver.considerStart
  case holdPoint => exact key rfl h0.deliver.tryHoldPoint
  case loadComplete => exact key rfl (.prcEvent loadDone h0.deliver)
  case noCarrier => exact key rfl (.prcEvent loadNoCarrier h0.deliver)
  case settleCompletion => exact key rfl (.prcEvent settled h0.deliver)
  case planCompletion => exact key rfl (.prcEvent planned h0.deliver)
  case admissionGrant => exact key rfl (.prcEvent admitted h0.deliver)
  case exposureEnd => exact key rfl (.prcEvent tileExposureEnd h0.deliver)
  case exposureCompletion => exact key rfl (.prcEvent tileExposureDone h0.deliver)
  case retryReport => exact key rfl (.prcEvent retried h0.deliver)
  case secondReadoutFailure => exact key rfl (.prcEvent tileSensorFailure h0.deliver)
  case transportFault => exact key rfl (.prcEvent transportFaulted h0.deliver)
  case backlightFault => exact key rfl (.prcEvent backlightFaulted h0.deliver)
  case unloadComplete => exact key rfl (.prcEvent unloaded h0.deliver)
  case trsEmptyReport | reinitEndReport => exact key rfl (.prcEvent considerStart h0.deliver)
  case cruIdleReport => exact key rfl (.prcEvent cruIdle h0.deliver)
  case planRequest | planWithdraw | attemptCompletion => exact key rfl (h0.of_same (by simp))
  case admissionRequest => exact key rfl h0.deliver.askSlots
  case admissionWithdraw => exact key rfl h0.deliver.withdrawAdmission
  case slotChange => exact key rfl h0.deliver.changeSlot
  case tileRelease => exact key rfl h0.deliver.freeSlots
  case calworkRequest => exact key rfl h0.deliver.requestCalwork
  case calCommit => exact key rfl h0.deliver.commitRefs
  case calworkReturn => exact key rfl h0.deliver.returnCalwork
  case portUnitRequest => exact key rfl h0.deliver.requestUnit
  case portUnitDone => exact key rfl h0.deliver.unitDone
  case exposureRequest | goAhead | reinitRequest => exact key rfl (h0.of_same (by simp))
  case lampReadyGrant => exact key rfl h0.deliver.lampGranted
  case interlockGrant => exact key rfl h0.deliver.stageGranted
  case lampLost => exact key rfl (State.Lawful.lampLost h0.deliver)
  case lampFaultReport => exact key rfl h0.deliver.lampFaulted
  case stageFaultReport => exact key rfl h0.deliver.stageFaulted
  case exposureWithdraw => exact key rfl h0.deliver.exposureWithdrawn
  case exposureTimerExpiry => exact key rfl h0.exposureEnded
  case readoutCompletion => exact key rfl h0.readoutDone
  case readoutTimeout => exact key rfl h0.readoutExpired
  case flushCompletion => exact key rfl h0.flushDone
  case sensorTempSample => exact key rfl h0.sensorSample
  case reinitComplete => exact key rfl h0.reinitDone
  case reinitTimeout => exact key rfl h0.reinitFailed
  case lightRequest => exact key rfl (.ite h0.deliver (.tryLampGrant (.applyLight (.startIdle h0.deliver))))
  case monitorSample => exact key rfl h0.sample
  case lampSettleTimeout => exact key rfl (.ite h0.lampFault h0)
  case panelTempSample => exact key rfl h0.panelSample
  case lampReadyAsk => exact key rfl h0.deliver.lampAsk
  case lampReadyRelease => exact key rfl h0.deliver.lampRelease
  case darkHold => exact key rfl (State.Lawful.darkHold h0.deliver)
  case darkHoldRelease => exact key rfl h0.deliver.darkRelease
  case leaveFault => exact key rfl (State.Lawful.leaveFault h0.deliver)
  case idleTimerExpiry =>
    refine key rfl ?_
    split
    · exact .ite (State.Lawful.tryStandby h0) h0
    · exact h0
  case deferredStandby => exact key rfl h0.tryStandby
  case loadRequest => exact key rfl h0.deliver.takeLoad
  case moveRequest => exact key rfl h0.deliver.takeMove
  case unloadRequest => exact key rfl h0.deliver.takeUnload
  case interlockAsk =>
    refine key rfl ?_
    dsimp only
    split
    case h_1 | h_2 | h_3 | h_4 | h_5 => exact h0
    all_goals exact .interlockAsked h0.deliver
  case interlockRelease => exact key rfl (State.Lawful.interlockRelease h0.deliver)
  case interlockAskWithdraw => exact key rfl h0.deliver.interlockWithdraw
  case loadLegCompletion => exact key rfl h0.loadLegDone
  case moveLegCompletion => exact key rfl h0.moveLegDone
  case settleTimerExpiry => exact key rfl h0.settleExpired
  case unloadLegCompletion => exact key rfl h0.unloadLegDone
  case homeUnloadLegDone => exact key rfl h0.homeUnloadDone
  case homeAxisLegDone => exact key rfl h0.homeAxisDone
  case homeScanLegDone => exact key rfl h0.homeScanDone
  case motionTimeout => exact key rfl h0.motionExpired
  case lostCarrier =>
    refine key rfl ?_
    split
    case h_1 | h_2 | h_3 => exact .trsFault h0
    all_goals exact h0
  case mergeTakeUp => exact key rfl h0.deliver.takeUp
  case bandCompletion => exact key rfl h0.bandDone
  case bmeAbandon => exact key rfl h0.deliver.bmeAbandoned
  case calWorkRequest => exact key rfl h0.deliver.calWorkAsked
  case accumulateRequest | biasFinish | rateFinish | workClear | flatMean | flatGain =>
    exact key rfl (h0.of_same (by simp))
  case calRelease => exact key rfl h0.deliver.calReleased
  case calworkGrant => exact key rfl h0.deliver.cruTest
  case calWorkAccepted | accumulationComplete | biasFinishComplete | clearComplete | flatGainComplete =>
    exact key rfl (h0.of_same (by simp))
  case calFrameComplete => exact key rfl h0.deliver.calFrameDone
  case rateFinishComplete => exact key rfl h0.deliver.calRateDone
  case flatLoadComplete => exact key rfl h0.deliver.calLoaded
  case flatSettleComplete => exact key rfl h0.deliver.calSettled
  case flatPlanCompletion => exact key rfl h0.deliver.calPlanned
  case flatMeanComplete => exact key rfl h0.deliver.calMeanDone
  case flatUnloadComplete => exact key rfl h0.deliver.calUnloaded
  case calSensorFailure => exact key rfl h0.deliver.calSensorFailed
  case calLampFault => exact key rfl h0.deliver.calLampFailed
  case calTransportFault => exact key rfl h0.deliver.calTransportFailed
  case stripeStart => exact key rfl h0.deliver.tryStripe
  case stripeEnd => exact key rfl h0.stripeTaken
  case souAbandon => exact key rfl h0.deliver.souAbandoned

/-- Every command keeps the laws of the blocks. -/
theorem exec_blocksLawful (c : Instr) {s t : State} (h : exec c s = .next t) : s.BlocksLawful t := by
  have h0 := State.Lawful.refl s
  cases hc : Instr.endsReset c with
  | false => exact (exec_lawful c hc h).1
  | true =>
    cases c <;> simp only [Instr.endsReset, Bool.false_eq_true] at hc
    case powerOn => cases h; exact State.Lawful.powerOn
    case quiesceAck => cases h; exact h0.deliver.acknowledged
    case resetTimeout => cases h; exact h0.resetExpired

theorem step_blocksLawful {s t : State} (h : step s = .next t) : s.BlocksLawful t := by
  unfold step at h
  split at h
  · cases h
    exact (State.Lawful.refl s).1
  · next c rest _ => exact exec_blocksLawful (s := { s with pending := rest }) c h

/-! ## The obligations -/

/-- Settles O3: each range is a law of one block, and every command keeps it. -/
theorem rangesKept : Obligations.RangesKept := by
  refine ⟨fun s t hb hstep => ?_, fun s t hq hn hp hstep => ?_⟩
  · obtain ⟨hdrive, -⟩ := step_blocksLawful hstep
    exact hdrive hb
  · obtain ⟨-, hcredit, hnotice, hparam, -⟩ := step_blocksLawful hstep
    exact ⟨hcredit hq, hnotice hn, hparam hp⟩

/-- Settles O6: the references change by commits and by slots that go to other states, the planes by writes. -/
theorem frameStoreLawsKept : Obligations.FrameStoreLawsKept := by
  refine ⟨fun s t hr hstep => ?_, fun s t hm hstep => ?_⟩
  · obtain ⟨-, -, -, -, href, -⟩ := step_blocksLawful hstep
    exact href hr
  · obtain ⟨-, -, -, -, -, hmem, -⟩ := step_blocksLawful hstep
    exact hmem hm

/-- Settles O7: the two laws of TRS, kept together by every command. -/
theorem magazineRecordKept : Obligations.MagazineRecordKept := by
  intro s t hout hstage hstep
  obtain ⟨-, -, -, -, -, -, htrs⟩ := step_blocksLawful hstep
  exact htrs ⟨hout, hstage⟩

/-- Settles O8, law by law. -/
theorem resetStateIsSafe : Obligations.ResetStateIsSafe := by
  have htable : State.reset.prc.tableLaw := ⟨Nat.zero_le _, List.nodup_nil, List.nodup_nil⟩
  have hqueue : State.reset.queueLaw :=
    ⟨List.nodup_nil, fun _ => iff_of_false (List.not_mem_nil) (by rintro ⟨j, hj, -⟩; cases hj), nofun, nofun⟩
  exact ⟨rfl, Nat.zero_le _, ⟨Nat.zero_le _, Nat.zero_le _, Nat.succ_pos _⟩, Params.inRange_default, htable, hqueue,
    fun j hj => absurd hj List.not_mem_nil, Fst.refLaw_reset, reset_memoryLaw, Trs.outLaw_reset false, (Trs.laws_reset false).2⟩

end Sys2Proof.Machine
end

section
/-! PROOFS. The laws of the job table and the queue (R1) under the writes that PRC makes: to the data of records, to a
job's state, to the queue and the active job. -/

namespace Sys2Proof.Machine

/-- R1: the laws of the job table and the queue, those of a run apart. -/
def Prc.laws (p : Prc) : Prop :=
  p.tableLaw ∧ p.queue.Nodup
    ∧ (∀ id, id ∈ p.queue ↔ ∃ j ∈ p.jobs, j.id = id ∧ j.state = .queued)
    ∧ (∀ id, p.active = some id → ∃ j ∈ p.jobs, j.id = id ∧ j.state.isActive = true)

theorem JobState.finished_of_isActive {st : JobState} (h : st.isActive = true) : st.finished = false := by
  cases st <;> simp_all [JobState.isActive, JobState.finished]

namespace Prc.laws

variable {p q : Prc}

/-- A record of the table is known by its id. -/
theorem eq_of_id (h : p.laws) {j k : Job} (hj : j ∈ p.jobs) (hk : k ∈ p.jobs) (e : j.id = k.id) : j = k := by
  have h1 := Prc.job?_of_mem h.1.2.1 hj
  rw [e, Prc.job?_of_mem h.1.2.1 hk] at h1
  exact (Option.some.inj h1).symm

theorem mem_queue_iff (h : p.laws) {id : Nat} {j : Job} (hj : p.job? id = some j) : id ∈ p.queue ↔ j.state = .queued := by
  have hm := Prc.job?_mem hj
  have hid := Prc.job?_id hj
  rw [h.2.2.1 id]
  constructor
  · rintro ⟨k, hk, hkid, hst⟩
    rwa [h.eq_of_id hm hk (hid.trans hkid.symm)]
  · exact fun hst => ⟨j, hm, hid, hst⟩

/-- The head of the queue has a QUEUED record. -/
theorem head_queued (h : p.laws) {j : Job} (hj : p.queue.head?.bind p.job? = some j) :
    ∃ rest, p.queue = j.id :: rest ∧ p.job? j.id = some j ∧ j.state = .queued := by
  cases hq : p.queue with
  | nil => simp [hq] at hj
  | cons id rest =>
    rw [hq, List.head?_cons, Option.bind_some] at hj
    have hid := Prc.job?_id hj
    subst hid
    exact ⟨rest, rfl, hj, (h.mem_queue_iff hj).1 (by simp [hq])⟩

theorem isActive_of_active (h : p.laws) {id : Nat} {j : Job} (ha : p.active = some id) (hj : p.job? id = some j) :
    j.state.isActive = true := by
  obtain ⟨k, hk, hid, hst⟩ := h.2.2.2 id ha
  rwa [h.eq_of_id (Prc.job?_mem hj) hk ((Prc.job?_id hj).trans hid.symm)]

/-- The active job is not in the queue. -/
theorem active_not_mem_queue (h : p.laws) {j : Job} (hj : p.activeJob? = some j) : j.id ∉ p.queue := by
  obtain ⟨id, ha, hid⟩ := Option.bind_eq_some_iff.1 hj
  have e := Prc.job?_id hid
  subst e
  rw [h.mem_queue_iff hid]
  intro hst
  have := h.isActive_of_active ha hid
  rw [hst] at this
  cases this

/-- A job in no active state is not active. -/
theorem not_active (h : p.laws) {id : Nat} {j : Job} (hj : p.job? id = some j) (hst : j.state.isActive = false) :
    p.active ≠ some id := by
  intro ha
  rw [h.isActive_of_active ha hj] at hst
  cases hst

/-- The laws speak of the ids, states and positions of the records, the queue and the active job. -/
theorem of_shape (h : p.laws) (hs : q.jobs.map (fun j => (j.id, j.state, j.position))
      = p.jobs.map (fun j => (j.id, j.state, j.position))) (hq : q.queue = p.queue) (ha : q.active = p.active) :
    q.laws := by
  have hids : q.jobs.map (·.id) = p.jobs.map (·.id) := by
    simpa [Function.comp_def] using congrArg (List.map (·.1)) hs
  have hclaims : q.claims = p.claims := by
    have hc : ∀ l : List Job, (l.filter fun j => !j.state.finished).map (·.position)
        = ((l.map fun j => (j.id, j.state, j.position)).filter fun x => !x.2.1.finished).map (·.2.2) := by
      intro l
      rw [List.filter_map, List.map_map]
      rfl
    unfold Prc.claims
    rw [hc, hc, hs]
  have hex : ∀ (P : Nat → JobState → Prop), (∃ j ∈ q.jobs, P j.id j.state) ↔ ∃ j ∈ p.jobs, P j.id j.state := by
    intro P
    have hm : ∀ l : List Job, (∃ j ∈ l, P j.id j.state)
        ↔ ∃ x ∈ l.map fun j => (j.id, j.state, j.position), P x.1 x.2.1 := by intro l; simp
    rw [hm, hm, hs]
  obtain ⟨⟨hlen, hnd, hcl⟩, hqd, hqm, hact⟩ := h
  refine ⟨⟨?_, by rwa [hids], by rwa [hclaims]⟩, by rwa [hq], fun id => ?_, fun id hid => ?_⟩
  · have := congrArg List.length hs
    simp only [List.length_map] at this
    rwa [this]
  · rw [hq, hqm id]
    exact (hex fun k st => k = id ∧ st = .queued).symm
  · exact (hex fun k st => k = id ∧ st.isActive = true).2 (hact id (ha ▸ hid))

/-- Changes of what the laws do not speak of. -/
theorem mapJob_data (h : p.laws) (id : Nat) {f : Job → Job}
    (hf : ∀ j, (f j).id = j.id ∧ (f j).state = j.state ∧ (f j).position = j.position) : (p.mapJob id f).laws := by
  refine h.of_shape ?_ rfl rfl
  simp only [Prc.mapJob, List.map_map]
  refine List.map_congr_left fun j _ => ?_
  obtain ⟨h1, h2, h3⟩ := hf j
  by_cases hj : j.id = id <;> simp [hj, h1, h2, h3]

theorem dropActive (h : p.laws) (hj : q.jobs = p.jobs) (hq : q.queue = p.queue) (ha : q.active = none) : q.laws := by
  obtain ⟨ht, hqd, hqm, -⟩ := h
  exact ⟨by unfold Prc.tableLaw Prc.claims at *; rwa [hj], by rwa [hq], fun id => by rw [hq, hj]; exact hqm id,
    fun id hid => by rw [ha] at hid; cases hid⟩

/-- The positions claimed when a job takes a state: no more than before. -/
theorem claims_sublist (id : Nat) (f : Job → Job) (l : List Job)
    (hf : ∀ j ∈ l, j.id = id → j.state.finished = false ∧ (f j).position = j.position) :
    (((l.map fun j => if j.id = id then f j else j).filter fun j => !j.state.finished).map (·.position)).Sublist
      ((l.filter fun j => !j.state.finished).map (·.position)) := by
  induction l with
  | nil => exact List.Sublist.refl _
  | cons j l ih =>
    have ih := ih fun k hk => hf k (List.mem_cons_of_mem j hk)
    rw [List.map_cons]
    by_cases hj : j.id = id
    · obtain ⟨hopen, hpos⟩ := hf j List.mem_cons_self hj
      simp only [hj, if_true, List.filter_cons, hopen, Bool.not_false]
      split
      · simpa [hpos] using ih
      · exact ih.cons _
    · simp only [hj, if_false, List.filter_cons]
      split
      · simpa using ih
      · exact ih

/-- A job takes a state that is not QUEUED, and leaves the queue where it is there; it may become the active one. -/
theorem mapJob_state (h : p.laws) {id : Nat} {j : Job} (hj : p.job? id = some j) (hopen : j.state.finished = false)
    {st : JobState} (hst : st ≠ .queued) {out : Option JobOutcome}
    (hjobs : q.jobs = (p.mapJob id fun x => { x with state := st, outcome := out }).jobs)
    (hq : q.queue = p.queue.filter fun x => decide (x ≠ id))
    (ha : (q.active = p.active ∧ (st.isActive = true ∨ p.active ≠ some id)) ∨ (q.active = some id ∧ st.isActive = true)) :
    q.laws := by
  have hown : ∀ x ∈ p.jobs, x.id = id → x = j := fun x hx hid =>
    h.eq_of_id hx (Prc.job?_mem hj) (hid.trans (Prc.job?_id hj).symm)
  have hmem : ∀ (P : Job → Prop), (∃ x ∈ q.jobs, P x)
      ↔ ∃ x ∈ p.jobs, P (if x.id = id then { x with state := st, outcome := out } else x) := by
    intro P; rw [hjobs]; simp [Prc.mapJob]
  have hne : ∀ k ≠ id, ∀ P : JobState → Prop, (∃ x ∈ q.jobs, x.id = k ∧ P x.state) ↔ ∃ x ∈ p.jobs, x.id = k ∧ P x.state := by
    intro k hk P
    rw [hmem]
    refine exists_congr fun x => and_congr_right fun hx => ?_
    by_cases hid : x.id = id
    · simp [hid, Ne.symm hk]
    · simp [hid]
  have hself : ∀ P : JobState → Prop, (∃ x ∈ q.jobs, x.id = id ∧ P x.state) ↔ P st := by
    intro P
    rw [hmem]
    constructor
    · rintro ⟨x, hx, hid, hP⟩
      by_cases hxid : x.id = id
      · simpa [hxid] using hP
      · simp [hxid] at hid
    · exact fun hP => ⟨j, Prc.job?_mem hj, by simp [Prc.job?_id hj], by simpa [Prc.job?_id hj] using hP⟩
  obtain ⟨⟨hlen, hnd, hcl⟩, hqd, hqm, hact⟩ := h
  refine ⟨⟨?_, ?_, ?_⟩, ?_, fun k => ?_, fun k hk => ?_⟩
  · rw [hjobs]; simpa [Prc.mapJob] using hlen
  · rw [hjobs]
    have : ((p.mapJob id fun x => { x with state := st, outcome := out }).jobs.map (·.id)) = p.jobs.map (·.id) := by
      simp only [Prc.mapJob, List.map_map]
      refine List.map_congr_left fun x _ => ?_
      by_cases hx : x.id = id <;> simp [hx]
    rwa [this]
  · unfold Prc.claims
    rw [hjobs]
    exact List.Nodup.sublist (claims_sublist id _ p.jobs fun x hx hid => ⟨by rw [hown x hx hid]; exact hopen, rfl⟩) hcl
  · rw [hq]; exact hqd.filter _
  · rw [hq, List.mem_filter]
    by_cases hk : k = id
    · subst hk
      rw [hself (fun st => st = .queued)]
      simp [hst]
    · rw [hne k hk (fun st => st = .queued), ← hqm k]
      simp [hk]
  · by_cases hkid : k = id
    · subst hkid
      rw [hself (fun st => st.isActive = true)]
      obtain ⟨e, hs | hs⟩ | ⟨-, hs⟩ := ha
      · exact hs
      · exact (hs (e ▸ hk)).elim
      · exact hs
    · rw [hne k hkid (fun st => st.isActive = true)]
      obtain ⟨e, -⟩ | ⟨e, -⟩ := ha
      · exact hact k (e ▸ hk)
      · rw [e] at hk
        exact (hkid (Option.some.inj hk).symm).elim

theorem filter_of_not_mem {l : List Nat} {id : Nat} (h : id ∉ l) : l.filter (fun x => decide (x ≠ id)) = l :=
  List.filter_eq_self.2 fun x hx => by simpa using fun e : x = id => h (e ▸ hx)

/-- R2, R3: a new record with an unclaimed position joins the table and the queue. -/
theorem addJob (h : p.laws) {j : Job} (hst : j.state = .queued) (hid : p.job? j.id = none)
    (hpos : p.claimed j.position = false) (hlen : p.jobs.length < jobCapacity) (hjobs : q.jobs = p.jobs ++ [j])
    (hq : q.queue.Perm (j.id :: p.queue)) (ha : q.active = p.active) : q.laws := by
  have hnew : ∀ x ∈ p.jobs, x.id ≠ j.id := by
    intro x hx e
    simpa [e] using List.find?_eq_none.1 hid x hx
  have hfree : j.position ∉ p.claims := by
    intro hm
    obtain ⟨x, hx, e⟩ := List.mem_map.1 hm
    rw [List.mem_filter] at hx
    simp only [Prc.claimed, List.any_eq_false, Bool.and_eq_true, decide_eq_true_eq, not_and] at hpos
    exact hpos x hx.1 hx.2 e
  obtain ⟨⟨-, hnd, hcl⟩, hqd, hqm, hact⟩ := h
  have hnot : j.id ∉ p.queue := by
    rw [hqm]
    rintro ⟨x, hx, e, -⟩
    exact hnew x hx e
  refine ⟨⟨?_, ?_, ?_⟩, ?_, fun k => ?_, fun k hk => ?_⟩
  · rw [hjobs, List.length_append]
    exact hlen
  · rw [hjobs, List.map_append, List.nodup_append]
    refine ⟨hnd, by simp, fun a ha b hb e => ?_⟩
    obtain ⟨x, hx, rfl⟩ := List.mem_map.1 ha
    simp only [List.map_cons, List.map_nil, List.mem_singleton] at hb
    exact hnew x hx (e.trans hb)
  · unfold Prc.claims
    rw [hjobs, List.filter_append, List.map_append, List.nodup_append]
    refine ⟨hcl, by simp [hst, JobState.finished], fun a ha b hb e => ?_⟩
    simp only [hst, JobState.finished, List.filter_cons, List.filter_nil, Bool.not_false, if_true, List.map_cons,
      List.map_nil, List.mem_singleton] at hb
    exact hfree (hb ▸ e ▸ ha)
  · rw [hq.nodup_iff, List.nodup_cons]
    exact ⟨hnot, hqd⟩
  · rw [hq.mem_iff, List.mem_cons, hqm, hjobs]
    simp only [List.mem_append, List.mem_singleton, or_and_right, exists_or, exists_eq_left, hst, and_true]
    rw [or_comm, eq_comm (a := k)]
  · obtain ⟨x, hx, e⟩ := hact k (ha ▸ hk)
    exact ⟨x, by rw [hjobs]; exact List.mem_append_left _ hx, e⟩

/-- R10: a finished record leaves the table. -/
theorem removeJob (h : p.laws) {id : Nat} {j : Job} (hj : p.job? id = some j) (hst : j.state.finished = true)
    (hjobs : q.jobs = p.jobs.filter fun x => decide (x.id ≠ id)) (hq : q.queue = p.queue) (ha : q.active = p.active) :
    q.laws := by
  have hsub : q.jobs.Sublist p.jobs := hjobs ▸ List.filter_sublist
  have hkeep : ∀ x ∈ p.jobs, x.state.finished = false → x ∈ q.jobs := by
    intro x hx hopen
    rw [hjobs, List.mem_filter]
    refine ⟨hx, decide_eq_true fun e => ?_⟩
    rw [h.eq_of_id hx (Prc.job?_mem hj) (e.trans (Prc.job?_id hj).symm), hst] at hopen
    cases hopen
  obtain ⟨⟨hlen, hnd, hcl⟩, hqd, hqm, hact⟩ := h
  refine ⟨⟨hsub.length_le.trans hlen, hnd.sublist (hsub.map _), hcl.sublist ((hsub.filter _).map _)⟩, by rwa [hq],
    fun k => ?_, fun k hk => ?_⟩
  · rw [hq, hqm]
    constructor
    · rintro ⟨x, hx, hk, hs⟩
      exact ⟨x, hkeep x hx (by rw [hs]; rfl), hk, hs⟩
    · rintro ⟨x, hx, hk, hs⟩
      exact ⟨x, hsub.subset hx, hk, hs⟩
  · obtain ⟨x, hx, hk, hs⟩ := hact k (ha ▸ hk)
    exact ⟨x, hkeep x hx (JobState.finished_of_isActive hs), hk, hs⟩

end Prc.laws

/-- A job takes its place in the queue (R6). -/
theorem Prc.enqueue_perm (p : Prc) (j : Job) : (p.enqueue j).Perm (j.id :: p.queue) := by
  unfold Prc.enqueue
  split
  · refine List.perm_middle.trans ?_
    rw [List.takeWhile_append_dropWhile]
  · exact List.perm_append_singleton _ _

end Sys2Proof.Machine
end

section
/-! PROOFS. Every operation of the machine keeps the laws of the job table and the queue (R1): `State.Tabled`, and for
each operation that changes PRC, that it keeps it; from which the table laws of every step. -/

namespace Sys2Proof.Machine

/-- The laws of the job table and the queue hold, and the run is QUIESCING only if the proposition holds. -/
def State.Tabled (q : Prop) (s : State) : Prop := s.prc.laws ∧ (s.prc.run = .quiescing → q)

/-- Abandoning tiles leaves the queue, the active job and the run. -/
theorem State.abandonTiles_run (s : State) (j : Job) (f : TileState → Bool) :
    (s.abandonTiles j f).prc.queue = s.prc.queue ∧ (s.abandonTiles j f).prc.active = s.prc.active
      ∧ (s.abandonTiles j f).prc.run = s.prc.run := by
  have hmap : ∀ (u : State) (r : TileRef) (g : Tile → Tile), (u.mapTile r g).prc.queue = u.prc.queue
      ∧ (u.mapTile r g).prc.active = u.prc.active ∧ (u.mapTile r g).prc.run = u.prc.run := by
    intro u r g; unfold State.mapTile; split <;> exact ⟨rfl, rfl, rfl⟩
  have hend : ∀ (u : State) (r : TileRef), (u.endTile r false).prc.queue = u.prc.queue
      ∧ (u.endTile r false).prc.active = u.prc.active ∧ (u.endTile r false).prc.run = u.prc.run := by
    intro u r
    unfold State.endTile
    split
    · exact ⟨rfl, rfl, rfl⟩
    · split
      · exact ⟨rfl, rfl, rfl⟩
      · exact hmap u r _
  have hone : ∀ (u : State) (r : TileRef), (u.abandonTile r).prc.queue = u.prc.queue
      ∧ (u.abandonTile r).prc.active = u.prc.active ∧ (u.abandonTile r).prc.run = u.prc.run := by
    intro u r
    unfold State.abandonTile
    split
    · next st _ =>
      obtain ⟨h1, h2, h3⟩ := hend (u.withdrawTile r st) r
      rw [h1, h2, h3]
      unfold State.withdrawTile
      (repeat' split) <;> exact ⟨rfl, rfl, rfl⟩
    · exact ⟨rfl, rfl, rfl⟩
  unfold State.abandonTiles
  generalize ((j.tiles.filter fun x => f x.state).map j.ref) = l
  induction l generalizing s with
  | nil => exact ⟨rfl, rfl, rfl⟩
  | cons r l ih =>
    obtain ⟨h1, h2, h3⟩ := ih (s.abandonTile r)
    obtain ⟨k1, k2, k3⟩ := hone s r
    exact ⟨h1.trans k1, h2.trans k2, h3.trans k3⟩

namespace State.Tabled

variable {q : Prop} {s t : State}

theorem of_prc (h : s.Tabled q) (e : t.prc = s.prc) : t.Tabled q := by
  unfold State.Tabled at *
  rwa [e]

theorem ite {p : Prop} [Decidable p] (hs : s.Tabled q) (ht : t.Tabled q) : (if p then s else t : State).Tabled q := by
  split <;> assumption

theorem emit {c : Instr} (h : s.Tabled q) : (s.emit c).Tabled q := h

theorem notice {n : Notice} (h : s.Tabled q) : (s.notice n).Tabled q := h

theorem deliver {c : Instr} (h : s.Tabled q) : (s.deliver c).Tabled q := h

theorem ack {b : Block} (h : s.Tabled q) : (s.ack b).Tabled q := h.of_prc (by simp)

theorem cruTest (h : s.Tabled q) : s.cruTest.Tabled q := h.of_prc (by simp)

theorem trsSettled (h : s.Tabled q) : s.trsSettled.Tabled q := h.of_prc (by simp)

theorem command {hdr : Hdr} {k : CommandKind} {owner : State → Answer}
    (ho : s.prc.run ≠ .quiescing → (owner s).state.Tabled q) (hr : s.liu.resetWork = none → s.prc.run ≠ .quiescing)
    (h : s.Tabled q) : (Machine.command hdr k owner s).Tabled q := by
  obtain ⟨-, e⟩ | ⟨-, w, -, e⟩ | ⟨-, hnone, a, ha, e⟩ := command_cases hdr k owner s <;> rw [e]
  · exact h
  · exact h
  · have hstate : a.state.Tabled q := by
      rw [ha]
      split
      · exact ho (hr hnone)
      · exact h
    exact hstate

/-! ## Records -/

theorem mapJob (h : s.Tabled q) {id : Nat} {f : Job → Job}
    (hf : ∀ j, (f j).id = j.id ∧ (f j).state = j.state ∧ (f j).position = j.position) :
    ({ s with prc := s.prc.mapJob id f } : State).Tabled q :=
  ⟨h.1.mapJob_data id hf, h.2⟩

theorem mapTile {r : TileRef} {f : Tile → Tile} (h : s.Tabled q) : (s.mapTile r f).Tabled q :=
  .ite h (h.mapJob fun _ => ⟨rfl, rfl, rfl⟩)

theorem moveTile {r : TileRef} {st : TileState} (h : s.Tabled q) : (s.moveTile r st).Tabled q := .mapTile h

theorem endTile {r : TileRef} {b : Bool} (h : s.Tabled q) : (s.endTile r b).Tabled q := by
  unfold State.endTile
  split
  · exact h
  · exact .ite h (.notice ((mapTile h).mapJob fun j => by cases b <;> exact ⟨rfl, rfl, rfl⟩))

theorem setJob {id : Nat} {st : JobState} {out : Option JobOutcome} (hq : id ∉ s.prc.queue) (hst : st ≠ .queued)
    (ha : st.isActive = true ∨ s.prc.active ≠ some id) (h : s.Tabled q) : (s.setJob id st out).Tabled q := by
  obtain ⟨e, -⟩ | ⟨j, hj, hopen, -, e⟩ := s.setJob_cases id st out <;> rw [e]
  · exact h
  · exact ⟨h.1.mapJob_state hj hopen hst rfl (Prc.laws.filter_of_not_mem hq).symm (.inl ⟨rfl, ha⟩), h.2⟩

/-- A job that has been drained is neither queued nor active. -/
theorem setJob_draining {id : Nat} {st : JobState} {out : Option JobOutcome} {j : Job} (hj : s.prc.job? id = some j)
    (hd : j.state = .draining) (hst : st ≠ .queued) (h : s.Tabled q) : (s.setJob id st out).Tabled q :=
  .setJob (by rw [h.1.mem_queue_iff hj, hd]; nofun) hst (.inr (h.1.not_active hj (by rw [hd]; rfl))) h

theorem drainJob {id : Nat} (h : s.Tabled q) : (s.drainJob id).Tabled q := by
  unfold State.drainJob
  split
  · exact h
  · next j hj =>
    split
    case isFalse => exact h
    case isTrue hd => split <;> exact .setJob_draining hj hd.1 nofun h

theorem setRun {r : RunState} (hr : r ≠ .quiescing) (h : s.Tabled q) : (s.setRun r).Tabled q :=
  .ite h (.notice ⟨h.1, fun e => (hr e).elim⟩)

theorem goHeld {c : HoldCause} (h : s.Tabled q) : (s.goHeld c).Tabled q := by
  unfold State.goHeld
  split
  case h_4 => exact .ite (.setRun nofun h) h
  case h_5 => exact h
  all_goals exact .setRun nofun h

/-- The active job is active no more. -/
theorem drop {p : Prc} (hjobs : p.jobs = s.prc.jobs) (hq : p.queue = s.prc.queue) (ha : p.active = none)
    (hr : p.run = s.prc.run) (h : s.Tabled q) : ({ s with prc := p } : State).Tabled q :=
  ⟨h.1.dropActive hjobs hq ha, fun e => h.2 (hr ▸ e)⟩

/-! ## Plans, admission and the output -/

theorem reportAttempt {r : Planner} {k : Nat} (h : s.Tabled q) : (s.reportAttempt r k).Tabled q := by
  cases r with
  | prc r => exact .mapTile h
  | cru _ _ => exact h

theorem requestAttempt {r : Planner} {c : PlanCopies} {k : Nat} {e : PlanEntry} {l : Option AttemptResult}
    (h : s.Tabled q) : (s.requestAttempt r c k e l).Tabled q := .emit (.emit (State.Tabled.reportAttempt h))

theorem startMetering {r : Planner} {d : Nat} (h : s.Tabled q) : (s.startMetering r d).Tabled q := .requestAttempt h

theorem planRefused {r : Planner} (h : s.Tabled q) : (s.planRefused r).Tabled q := by
  cases r with
  | prc r => exact .ite h h
  | cru _ _ => exact h

theorem planRequested {r : Planner} (h : s.Tabled q) : (s.planRequested r).Tabled q := by
  unfold State.planRequested
  split
  · exact .planRefused h
  · split
    · split
      · exact h
      · split
        · exact h
        · exact .startMetering h
    · exact .startMetering h

theorem attemptCompleted {r : Planner} {k m : Nat} (h : s.Tabled q) : (s.attemptCompleted r k m).Tabled q := by
  unfold State.attemptCompleted
  split
  · refine .ite ?_ h
    unfold State.attemptDone
    dsimp only
    split
    · exact h.of_prc (by simp)
    all_goals exact .ite (h.of_prc (by simp)) (.requestAttempt h)
  · exact h

theorem askSlots {r : TileRef} {n : Nat} (h : s.Tabled q) : (s.askSlots r n).Tabled q :=
  .ite h (.ite (h.of_prc (by simp)) h)

theorem startTile {e : OutEntry} (h : s.Tabled q) : (s.startTile e).Tabled q :=
  .ite h (State.Tabled.moveTile (h.of_prc (by simp)))

theorem tryStripe (h : s.Tabled q) : s.tryStripe.Tabled q := by
  refine .ite ?_ h
  split
  · exact h
  · split
    · exact State.Tabled.startTile h
    · exact h

theorem removeHead (h : s.Tabled q) : s.removeHead.Tabled q := h.of_prc (by simp)

theorem stripeTaken (h : s.Tabled q) : s.stripeTaken.Tabled q := by
  unfold State.stripeTaken
  split
  · refine .ite (State.Tabled.of_prc ?x (by simp)) (.tryStripe ?x)
    exact .ite (.removeHead h) (.ite (.drainJob (.endTile (.removeHead h))) h)
  · exact h

theorem souAbandoned {r : TileRef} (h : s.Tabled q) : (s.souAbandoned r).Tabled q := by
  refine .ite (.ite h (.tryStripe (.removeHead h))) ?_
  split
  · exact h
  · exact .tryStripe (h.of_prc (by simp))

theorem grantStripes {n : Nat} (h : s.Tabled q) : (s.grantStripes n).state.Tabled q := by
  unfold State.grantStripes
  split
  · exact h
  · exact State.Tabled.tryStripe h

/-! ## Requests refused or cut short -/

theorem trsRefuse {c : TrsClient} (h : s.Tabled q) : (s.trsRefuse c).Tabled q := by cases c <;> exact h

theorem motionAtRest {w : TrsWork} (h : s.Tabled q) : (s.motionAtRest w).Tabled q := .ite (.trsRefuse h) (.ite h h)

theorem takeLoad {c : TrsClient} {p : Nat} (h : s.Tabled q) : (s.takeLoad c p).Tabled q := by
  refine .ite (.trsRefuse h) ?_
  split
  case h_1 =>
    split
    · cases c <;> exact h
    · exact h
  case h_2 => cases c <;> exact h
  all_goals exact .trsRefuse h

theorem takeMove {c : TrsClient} {g : StageTarget} (h : s.Tabled q) : (s.takeMove c g).Tabled q :=
  .ite (.trsRefuse h) (.ite (.motionAtRest h) (.trsRefuse h))

theorem takeUnload {c : TrsClient} {seen : Bool} (h : s.Tabled q) : (s.takeUnload c seen).Tabled q := by
  refine .ite (.trsRefuse h) ?_
  split
  case h_1 => exact .ite (.motionAtRest h) (.trsRefuse h)
  case h_2 => exact .ite h (.trsRefuse h)
  all_goals exact .trsRefuse h

theorem homeScanDone {b : BitVec 20} (h : s.Tabled q) : (s.homeScanDone b).Tabled q := by
  refine .ite ?_ h
  dsimp only
  split
  · split
    · exact .takeLoad (h.of_prc (by simp))
    · exact h.of_prc (by simp)
  all_goals exact h.of_prc (by split <;> simp)

theorem reportCut {c : ExposureClient} (h : s.Tabled q) : (s.reportCut c).Tabled q := by
  cases c with
  | prc r => exact .ite h h
  | cru => exact h.of_prc (by simp [State.reportCut])
  | bpl r => exact h

theorem refuseBusy {c : ExposureClient} (h : s.Tabled q) : (s.refuseBusy c).Tabled q := by
  refine .ite h ?_
  split
  · exact .ite h h
  · exact h
  · exact h

theorem exposureRequested {r : ExposureReq} (h : s.Tabled q) : (s.exposureRequested r).Tabled q := by
  refine .ite (.refuseBusy h) ?_
  split
  case h_1 | h_2 => exact h.of_prc (by simp)
  case h_3 | h_4 => exact h
  case h_5 => exact .ite h (h.of_prc (by simp))
  case h_6 => exact .refuseBusy h

theorem faultCut {e : Exposing} (h : s.Tabled q) : (s.faultCut e).Tabled q :=
  .reportCut (h.of_prc (by simp only [State.cutShort_frame]; split <;> simp))

theorem cutHeld {x : HeldReq} (h : s.Tabled q) : (s.cutHeld x).Tabled q := .reportCut (h.of_prc (by simp))

theorem lampFaulted (h : s.Tabled q) : s.lampFaulted.Tabled q := by
  unfold State.lampFaulted
  split
  · exact .faultCut h
  · exact .ite (.cutHeld h) h
  · exact h

theorem stageFaulted (h : s.Tabled q) : s.stageFaulted.Tabled q := by
  unfold State.stageFaulted
  split
  · exact .ite (.faultCut h) h
  · exact .ite (.cutHeld h) h
  · exact h

theorem reportLampFault (h : s.Tabled q) : s.reportLampFault.Tabled q := .ite (.lampFaulted h) h

theorem lampFault {c : LampFault} (h : s.Tabled q) : (s.lampFault c).Tabled q := by
  have hcut : ∀ b : Blu, State.Tabled q (if s.blu.grant.isSome || s.blu.ask.isSome || s.sfe.wantsLight || s.sfe.exposesLit
      then State.reportLampFault { s with blu := b } else { s with blu := b }) := fun b => .ite (.reportLampFault h) h
  cases c <;> exact hcut _

theorem sample {v : Nat} (h : s.Tabled q) : (s.sample v).Tabled q := by
  refine .ite (State.Tabled.lampFault h) ?_
  dsimp only
  split
  · exact .ite (h.of_prc (by simp)) h
  · exact h.of_prc (by simp)

theorem cutLit (h : s.Tabled q) : s.cutLit.Tabled q := by
  unfold State.cutLit
  split
  · exact .ite h (.faultCut h)
  · exact h

theorem darkHold (h : s.Tabled q) : s.darkHold.Tabled q := .ite h (.cutLit (h.of_prc (by simp)))

theorem cutDark (h : s.Tabled q) : s.cutDark.Tabled q := by
  unfold State.cutDark
  split
  · exact .ite (.faultCut h) h
  · exact h

theorem darkRelease (h : s.Tabled q) : s.darkRelease.Tabled q := .ite h (.cutDark (h.of_prc (by simp)))

theorem endInterlock (h : s.Tabled q) : s.endInterlock.Tabled q := by
  unfold State.endInterlock
  split
  · exact h
  · exact h
  all_goals exact .ite (.stageFaulted h) h

theorem trsFault {c : TrsFault} {seen : Bool} (h : s.Tabled q) : (s.trsFault c seen).Tabled q := by
  have hend : ∀ x : Trs, State.Tabled q (State.endInterlock { s with trs := x }) := fun x => .endInterlock h
  have hnoted : ∀ {v : State}, v.Tabled q → State.Tabled q (State.transportNotice (if s.faultToCru then
      (if s.faultToPrc then v.emit .transportFault else v).emit (.calTransportFault .fault)
      else if s.faultToPrc then v.emit .transportFault else v) false) :=
    fun hv => .notice (.ite (.emit (.ite hv hv)) (.ite hv hv))
  exact .ite (.ack (hnoted (hend _))) (hnoted (hend _))

theorem loadLegDone {seen : Bool} (h : s.Tabled q) : (s.loadLegDone seen).Tabled q := by
  unfold State.loadLegDone
  split
  · exact .ite (h.of_prc (by simp)) (.trsFault h)
  · exact h

theorem unloadLegDone (h : s.Tabled q) : s.unloadLegDone.Tabled q := by
  unfold State.unloadLegDone
  split
  · next c _ _ =>
    have hend : ∀ x : Trs, State.Tabled q (State.endInterlock { s with trs := x }) := fun x => .endInterlock h
    refine .trsSettled ?_
    cases c <;> exact hend _
  · exact h

theorem startHome (h : s.Tabled q) : s.startHome.Tabled q := by
  have hend : State.Tabled q (State.endInterlock { s with
      trs := { s.trs with pendingMotion := none, work := none, settleTimer := none } }) := .endInterlock h
  exact .ite hend (.notice (hend.of_prc (by simp)))

theorem motionExpired {seen : Bool} {l : List (Nat × Bool)} (h : s.Tabled q) : (s.motionExpired seen l).Tabled q := by
  unfold State.motionExpired
  split
  · exact h
  · refine .trsFault ?_
    split <;> exact h

/-! ## The merge engine -/

theorem takeUp (h : s.Tabled q) : s.takeUp.Tabled q := by
  unfold State.takeUp
  split
  · exact h
  · exact .ite (.moveTile (h.of_prc (by split <;> simp))) h

theorem bmeIdle (h : s.Tabled q) : s.bmeIdle.Tabled q := .cruTest (State.Tabled.takeUp h)

theorem reportMerge {w : MergeWork} (h : s.Tabled q) : (s.reportMerge w).Tabled q := .ite (.moveTile (.mapTile h)) h

theorem outAppend {w : MergeWork} (h : s.Tabled q) : (s.outAppend w).Tabled q := by
  unfold State.outAppend
  split
  · exact .tryStripe h
  · exact h

theorem mergeDone {w : MergeWork} (h : s.Tabled q) : (s.mergeDone w).Tabled q :=
  .bmeIdle (State.Tabled.of_prc (State.Tabled.outAppend (w := w) (State.Tabled.reportMerge (w := w)
    (s := { s with fst := s.fst.mergeDone w.tile }) h)) (by simp))

theorem mergeAbandoned {r : TileRef} (h : s.Tabled q) : (s.mergeAbandoned r).Tabled q := by
  refine State.Tabled.of_prc (s := State.takeUp (State.freeSlots { s with
    bme := { s.bme with state := .idle, merge := none } } (s.fst.mergeSlots r))) ?_ (by simp [State.mergeAbandoned])
  exact .takeUp (h.of_prc (by simp))

theorem bandDone (h : s.Tabled q) : s.bandDone.Tabled q := by
  have hband : ∀ w, (s.mergeBandDone w).1.Tabled q := fun w => h.of_prc (by simp)
  have hdone : ∀ {u : State}, u.Tabled q → u.bmeDiscard.Tabled q := fun hu => hu.of_prc (by simp)
  unfold State.bandDone
  split
  · exact .ite (hdone (hband _)) (.ite (hband _) (.mergeDone (hband _)))
  · exact .ite (hdone (hband _)) (.mergeAbandoned (hband _))
  · exact .ite (hdone h) (.ite (.bmeIdle h) (.ite h (h.of_prc (by simp))))
  · exact h

theorem calReleased (h : s.Tabled q) : s.calReleased.Tabled q := by
  unfold State.calReleased
  split
  · exact .bmeIdle h
  · exact h
  · exact h

/-! ## Requests and motions of PRC -/

theorem issueUnload {k : TrsRequest} (h : s.Tabled q) : (s.issueUnload k).Tabled q := h

theorem askUnload {k : TrsRequest} (h : s.Tabled q) : (s.askUnload k).Tabled q := by
  unfold State.askUnload
  split <;> exact h

theorem askRecovery {id : Nat} (h : s.Tabled q) : (s.askRecovery id).Tabled q := .askUnload h

theorem askMove {x : Tile} {k : TrsRequest} (h : s.Tabled q) : (s.askMove x k).Tabled q := h

theorem bringBack {r : TileRef} (h : s.Tabled q) : (s.bringBack r).Tabled q := by
  unfold State.bringBack
  split
  · exact .askMove h
  · exact h

theorem beginTile {r : TileRef} (h : s.Tabled q) : (s.beginTile r).Tabled q := by
  unfold State.beginTile
  split
  · exact .askMove (.moveTile h)
  · exact h

theorem beginNext (h : s.Tabled q) : s.beginNext.Tabled q := by
  unfold State.beginNext
  split
  · exact .beginTile h
  · exact h

theorem issuePlan {r : TileRef} (h : s.Tabled q) : (s.issuePlan r).Tabled q := .ite h h

theorem requestExposure {r : TileRef} (h : s.Tabled q) : (s.requestExposure r).Tabled q := by
  unfold State.requestExposure
  split
  · split
    · exact .ite h (State.Tabled.ite (.mapTile h) h)
    · exact h
  · exact h

theorem tryHoldPoint (h : s.Tabled q) : s.tryHoldPoint.Tabled q := .ite (.goHeld h) h

theorem startIdle (h : s.Tabled q) : s.startIdle.Tabled q := h.of_prc (by simp)

/-- R20: the head of the queue leaves it and is the active job. -/
theorem startJob {j : Job} {rest : List Nat} (hr : s.prc.run = .running) (hqueue : s.prc.queue = j.id :: rest)
    (hj : s.prc.job? j.id = some j) (hst : j.state = .queued) (h : s.Tabled q) : (s.startJob j).Tabled q := by
  have hnot : j.id ∉ rest := by
    have hnd := h.1.2.1
    rw [hqueue, List.nodup_cons] at hnd
    exact hnd.1
  have hfilter : rest = s.prc.queue.filter fun x => decide (x ≠ j.id) := by
    rw [hqueue]
    simpa using (Prc.laws.filter_of_not_mem hnot).symm
  have hopen : j.state.finished = false := by rw [hst]; rfl
  have hrun : s.prc.run ≠ .quiescing := by rw [hr]; nofun
  unfold State.startJob
  dsimp only
  rw [State.setJob_notice (s := { s with prc := { s.prc with
    queue := s.prc.queue.drop 1, active := some j.id, abortMark := false, trsReq := some .load
    recoveryJob := none } }) hj hopen hrun]
  exact ⟨h.1.mapJob_state hj hopen (st := .loading) nofun rfl (by rw [← hfilter, hqueue]; rfl) (.inr ⟨rfl, rfl⟩),
    fun e => (hrun e).elim⟩

end State.Tabled

end Sys2Proof.Machine
end

section
/-! PROOFS. `State.Tabled` of the starts and ends of jobs, of the reports to PRC and of the host commands; every step
keeps the laws of the job table and the queue (R1). -/

namespace Sys2Proof.Machine

/-- R2: a submission that passes the check names a new job with an unclaimed position, and the table has room. -/
theorem Prc.checkSubmission_accepts {p : Prc} {payload : List Byte} {sub : Submission}
    (h : p.checkSubmission payload = .ok sub) :
    p.job? sub.jobId = none ∧ p.claimed sub.position = false ∧ p.jobs.length < jobCapacity := by
  have hid := Prc.checkSubmission_ok h
  unfold Prc.checkSubmission at h
  split at h
  · cases h
  · split_ifs at h with _ _ hpos hlen
    cases h
    exact ⟨hid, by simpa using hpos, by simpa using hlen⟩

namespace State.Tabled

variable {q : Prop} {s t : State}

/-! ## Starts and ends of jobs -/

theorem considerStart (h : s.Tabled q) : s.considerStart.Tabled q := by
  unfold State.considerStart
  split
  case isFalse => exact h
  case isTrue hr =>
    split
    · exact h
    · next j hj =>
      split
      · exact h
      · exact .goHeld h
      · obtain ⟨rest, hqueue, hid, hst⟩ := h.1.head_queued hj
        exact .startJob hr.1 hqueue hid hst h

theorem idleCheck (h : s.Tabled q) : s.idleCheck.Tabled q := .ite (.setRun nofun h) h

theorem afterJob (h : s.Tabled q) : s.afterJob.Tabled q := .startIdle (.tryHoldPoint (.considerStart (.idleCheck h)))

theorem captureCheck (h : s.Tabled q) : s.captureCheck.Tabled q := by
  unfold State.captureCheck
  split
  · next j hj => exact .ite (.askUnload (.setJob (h.1.active_not_mem_queue hj) nofun (.inl rfl) h)) h
  · exact h

theorem kickExposure (h : s.Tabled q) : s.kickExposure.Tabled q := by
  unfold State.kickExposure
  split
  · exact .requestExposure h
  · exact .requestExposure h
  · exact h

theorem kickPlan (h : s.Tabled q) : s.kickPlan.Tabled q := by
  unfold State.kickPlan
  split
  · exact .ite h (.issuePlan (.mapTile h))
  · exact h

theorem kickNext (h : s.Tabled q) : s.kickNext.Tabled q := by
  unfold State.kickNext
  split
  · exact .ite (.captureCheck (.beginNext h)) h
  · exact h

theorem kick (h : s.Tabled q) : s.kick.Tabled q := .ite (.kickNext (.kickPlan (.kickExposure h))) (.kickExposure h)

theorem withdrawTile {r : TileRef} {st : TileState} (h : s.Tabled q) : (s.withdrawTile r st).Tabled q := by
  unfold State.withdrawTile
  split
  case h_1 | h_2 => exact .ite h h
  case h_3 => exact State.Tabled.ite h h
  all_goals exact h

theorem abandonTile {r : TileRef} (h : s.Tabled q) : (s.abandonTile r).Tabled q := by
  unfold State.abandonTile
  split
  · exact .endTile (.withdrawTile h)
  · exact h

theorem abandonTiles {j : Job} {f : TileState → Bool} (h : s.Tabled q) : (s.abandonTiles j f).Tabled q := by
  unfold State.abandonTiles
  generalize ((j.tiles.filter fun x => f x.state).map j.ref) = l
  induction l generalizing s with
  | nil => exact h
  | cons r l ih => exact ih (.abandonTile h)

/-- A job that leaves the active place takes another state. -/
theorem setJob_dropped {id : Nat} {st : JobState} {out : Option JobOutcome} {p : Prc} (hn : id ∉ s.prc.queue)
    (hst : st ≠ .queued) (hjobs : p.jobs = s.prc.jobs) (hq : p.queue = s.prc.queue) (ha : p.active = none)
    (hr : p.run = s.prc.run) (h : s.Tabled q) : (State.setJob { s with prc := p } id st out).Tabled q :=
  .setJob (by show id ∉ p.queue; rwa [hq]) hst (.inr (by show p.active ≠ _; rw [ha]; nofun)) (h.drop hjobs hq ha hr)

theorem endJob {j : Job} {c : FailCause} (hn : j.id ∉ s.prc.queue) (h : s.Tabled q) : (s.endJob j c).Tabled q := by
  obtain ⟨hqueue, -, -⟩ := s.abandonTiles_run j TileState.uncaptured
  refine .startIdle (.setJob_dropped (by rwa [hqueue]) (by split <;> nofun) rfl rfl rfl rfl (.abandonTiles h))

/-! ## Reports to PRC -/

theorem prcEvent {f : State → State} (hf : s.prc.run ≠ .quiescing → (f s).Tabled q) (h : s.Tabled q) :
    (s.prcEvent f).Tabled q := by
  unfold State.prcEvent
  split
  · exact h
  · next hr => exact hf hr

theorem loadDone (h : s.Tabled q) : s.loadDone.Tabled q := by
  unfold State.loadDone
  split
  · next j _ hj =>
    have hset : (s.trsAnswered.setJob j.id .capturing none).Tabled q :=
      .setJob (h.1.active_not_mem_queue hj) nofun (.inl rfl) h
    exact .ite h (.ite (.beginNext hset) (.tryHoldPoint hset))
  · exact h

theorem loadNoCarrier (h : s.Tabled q) : s.loadNoCarrier.Tabled q := by
  unfold State.loadNoCarrier
  split
  · next j _ hj =>
    have hn : j.id ∉ (s.trsAnswered.abandonTiles j fun st => !st.ended).prc.queue := by
      rw [(s.trsAnswered.abandonTiles_run j _).1]
      exact h.1.active_not_mem_queue hj
    exact .afterJob (.setJob_dropped hn nofun rfl rfl rfl rfl (State.Tabled.abandonTiles (s := s.trsAnswered) h))
  · exact h

theorem tileSettled {r : TileRef} (h : s.Tabled q) : (s.tileSettled r).Tabled q :=
  .ite (.issuePlan (.mapTile h)) (.tryHoldPoint (.mapTile h))

theorem broughtBack (h : s.Tabled q) : s.broughtBack.Tabled q := by
  unfold State.broughtBack
  split
  · exact .ite h (.ite (State.Tabled.requestExposure h) h)
  · exact .tryHoldPoint h

/-- The settle completion of a move of PRC. -/
theorem settledMove {back : Bool} {r : TileRef} (h : s.Tabled q) :
    (if back then s.broughtBack
      else match s.prc.retryBack with
        | some b => (s.moveTile r .pending).bringBack b
        | none => if s.prc.tileState? r = some .positioning then s.tileSettled r else s.tryHoldPoint : State).Tabled q := by
  refine .ite (.broughtBack h) ?_
  split
  · exact .bringBack (.moveTile h)
  · exact .ite (.tileSettled h) (.tryHoldPoint h)

theorem settled (h : s.Tabled q) : s.settled.Tabled q := by
  have ha : s.trsAnswered.Tabled q := h
  unfold State.settled
  split
  case h_3 => exact h
  all_goals
    dsimp only
    split
    · exact h
    · exact .tryHoldPoint h
    · exact ha.settledMove

theorem staleCheck {r : TileRef} {n : Nat} (h : s.Tabled q) : (s.staleCheck r n).Tabled q := by
  refine .ite ?_ h
  split
  · exact .goHeld h
  · exact State.Tabled.mapTile h

theorem planned {r : TileRef} {l : List PlanEntry} {n : Nat} {f : PlanFlags} (h : s.Tabled q) :
    (s.planned r l n f).Tabled q :=
  .ite (.ite (.staleCheck (State.Tabled.mapTile h)) (.tryHoldPoint (State.Tabled.mapTile h))) h

theorem admitted {r : TileRef} (h : s.Tabled q) : (s.admitted r).Tabled q :=
  .ite (.ite (.requestExposure (State.Tabled.moveTile h)) (State.Tabled.moveTile h)) h

theorem tileExposureEnd {r : TileRef} (h : s.Tabled q) : (s.tileExposureEnd r).Tabled q := by
  unfold State.tileExposureEnd
  split
  · exact .ite (.beginNext h) h
  · exact h

theorem tileExposed {r : TileRef} (h : s.Tabled q) : (s.tileExposed r).Tabled q :=
  have hjoined : ((s.moveTile r .exposed).mergeAppend r).Tabled q := .takeUp (State.Tabled.moveTile h)
  .tryHoldPoint (.captureCheck (.ite (.kickNext (.kickPlan hjoined)) hjoined))

theorem tileExposureDone {r : ExposureDone} (h : s.Tabled q) : (s.tileExposureDone r).Tabled q := by
  unfold State.tileExposureDone
  split
  · exact .ite (.ite (.tileExposed (State.Tabled.mapTile h))
      (.ite (.requestExposure (State.Tabled.mapTile h)) (State.Tabled.mapTile h))) h
  · exact h

theorem retried {r : TileRef} {b : Bool} (h : s.Tabled q) : (s.retried r b).Tabled q := by
  unfold State.retried
  split
  · exact h
  · refine .ite h (.ite (.mapTile h) ?_)
    split
    · exact .emit (.mapTile h)
    · exact .ite (.bringBack (State.Tabled.moveTile (State.Tabled.mapTile h))) (State.Tabled.mapTile h)

theorem tileSensorFailure {r : TileRef} (h : s.Tabled q) : (s.tileSensorFailure r).Tabled q := by
  unfold State.tileSensorFailure
  split
  · next j _ hj _ => exact .ite (.askRecovery (.goHeld (.endJob (h.1.active_not_mem_queue hj) h))) h
  · exact h

theorem drainTransport {id : Nat} (h : s.Tabled q) : (s.drainTransport id).Tabled q := by
  unfold State.drainTransport
  split
  · next j hj =>
    split
    · next hd => exact .setJob_draining hj hd nofun h
    · exact h
  · exact h

theorem recoveryFault {id : Nat} (h : s.Tabled q) : (s.recoveryFault id).Tabled q :=
  .ite (.askRecovery (State.Tabled.drainTransport h)) (State.Tabled.drainTransport h)

theorem idleTransportFault (h : s.Tabled q) : s.idleTransportFault.Tabled q := by
  have hrec : (match s.prc.recoveryJob with
      | some id => s.recoveryFault id
      | none => { s with prc := { s.prc with trsReq := none, unloadNext := none } } : State).Tabled q := by
    split
    · exact .recoveryFault h
    · exact h
  unfold State.idleTransportFault
  dsimp only
  split
  case h_1 | h_2 => exact .goHeld hrec
  all_goals exact hrec

theorem transportFaulted (h : s.Tabled q) : s.transportFaulted.Tabled q := by
  unfold State.transportFaulted
  split
  · next j hj =>
    have hend : State.Tabled q (State.endJob { s with prc := { s.prc with trsReq := none, unloadNext := none } } j
        .transport) := .endJob (h.1.active_not_mem_queue hj) h
    exact .ite (.askRecovery (.goHeld hend)) (.goHeld hend)
  · exact .idleTransportFault h

theorem withdrawPlan (h : s.Tabled q) : s.withdrawPlan.Tabled q := by
  unfold State.withdrawPlan
  split <;> exact h

theorem backlightFaulted (h : s.Tabled q) : s.backlightFaulted.Tabled q := by
  unfold State.backlightFaulted
  split
  · split
    case h_1 | h_2 => exact .goHeld (.withdrawPlan h)
    all_goals exact h
  · exact h

theorem jobUnloaded {j : Job} (hj : s.prc.activeJob? = some j) (h : s.Tabled q) : (s.jobUnloaded j).Tabled q := by
  have hst : (j.unloaded s.prc.abortMark).1 ≠ .queued := by
    unfold Job.unloaded; (repeat' split) <;> nofun
  have hset : State.Tabled q (State.setJob { s with prc := { s.prc with
      trsReq := none, active := none, abortMark := false, lampAfterUnload := false } } j.id
      (j.unloaded s.prc.abortMark).1 (some (j.unloaded s.prc.abortMark).2)) :=
    .setJob_dropped (h.1.active_not_mem_queue hj) hst rfl rfl rfl rfl h
  unfold State.jobUnloaded
  dsimp only
  split
  · exact .afterJob (.ite (.goHeld hset) hset)
  · exact .startIdle (.goHeld (.ite (.goHeld hset) hset))

theorem unloaded (h : s.Tabled q) : s.unloaded.Tabled q := by
  unfold State.unloaded
  split
  · next j _ hj => exact .jobUnloaded hj h
  · exact .tryHoldPoint (State.Tabled.considerStart h)
  · exact h

theorem cruIdle (h : s.Tabled q) : s.cruIdle.Tabled q := .kick (.considerStart h)

/-! ## Host commands -/

theorem submit {l : List Byte} (h : s.Tabled q) : (s.submit l).state.Tabled q := by
  unfold State.submit
  split
  · exact h
  · next sub hsub =>
    obtain ⟨hid, hpos, hlen⟩ := Prc.checkSubmission_accepts hsub
    have hadd : State.Tabled q ({ s with prc := { s.prc with
        jobs := s.prc.jobs ++ [newJob sub], queue := s.prc.enqueue (newJob sub) } } : State) :=
      ⟨h.1.addJob (j := newJob sub) rfl hid hpos hlen rfl (s.prc.enqueue_perm _) rfl, h.2⟩
    exact .considerStart (.ite (.setRun nofun (.notice hadd)) (.notice hadd))

theorem releaseJob {id : Nat} (h : s.Tabled q) : (s.releaseJob id).state.Tabled q := by
  unfold State.releaseJob
  split
  · exact h
  · next j hj =>
    split
    · next hf => exact ⟨h.1.removeJob hj hf rfl rfl rfl, h.2⟩
    · exact h

/-- R35: a QUEUED job leaves the queue as it is ABORTED. -/
theorem abortQueued {j : Job} (hr : s.prc.run ≠ .quiescing) (hj : s.prc.job? j.id = some j) (hst : j.state = .queued)
    (h : s.Tabled q) : (s.abortQueued j).Tabled q := by
  obtain ⟨hqueue, -, hrun⟩ := s.abandonTiles_run j fun st => !st.ended
  have ha : (s.abandonTiles j fun st => !st.ended).Tabled q := .abandonTiles h
  have hmem : j.id ∈ s.prc.queue := (h.1.mem_queue_iff hj).2 hst
  obtain ⟨k, hk, hkid, hkst⟩ := (ha.1.2.2.1 j.id).1 (by rwa [hqueue])
  have hjob : (s.abandonTiles j fun st => !st.ended).prc.job? j.id = some k := by
    rw [← hkid]; exact Prc.job?_of_mem ha.1.1.2.1 hk
  have hopen : k.state.finished = false := by rw [hkst]; rfl
  unfold State.abortQueued
  dsimp only
  refine .idleCheck ?_
  rw [State.setJob_notice (s := { (s.abandonTiles j fun st => !st.ended) with
    prc := { (s.abandonTiles j fun st => !st.ended).prc with
      queue := (s.abandonTiles j fun st => !st.ended).prc.queue.filter fun x => decide (x ≠ j.id) } })
    hjob hopen (by show (s.abandonTiles j _).prc.run ≠ _; rwa [hrun])]
  have hact := ha.1.not_active hjob (by rw [hkst]; rfl)
  exact ⟨ha.1.mapJob_state hjob hopen (st := .aborted) nofun rfl rfl (.inl ⟨rfl, .inr hact⟩),
    fun e => (hr (hrun ▸ e)).elim⟩

theorem abortActive {j : Job} (hj : s.prc.job? j.id = some j) (hst : j.state ≠ .queued) (h : s.Tabled q) :
    (s.abortActive j).Tabled q := by
  have ha : State.Tabled q (State.abandonTiles { s with prc := { s.prc with abortMark := true } } j
      fun st => !st.ended) := .abandonTiles h
  have hn : j.id ∉ (State.abandonTiles { s with prc := { s.prc with abortMark := true } } j
      fun st => !st.ended).prc.queue := by
    rw [(State.abandonTiles_run _ j _).1]
    exact fun hm => hst ((h.1.mem_queue_iff hj).1 hm)
  exact .askUnload (.ite (.setJob hn nofun (.inl rfl) ha) ha)

theorem abortDraining {j : Job} (hj : s.prc.job? j.id = some j) (hst : j.state = .draining) (h : s.Tabled q) :
    (s.abortDraining j).Tabled q := by
  obtain ⟨hqueue, hactive, -⟩ := s.abandonTiles_run j fun st => !st.ended
  refine .setJob ?_ nofun (.inr ?_) (.abandonTiles h)
  · rw [hqueue, h.1.mem_queue_iff hj, hst]; nofun
  · rw [hactive]; exact h.1.not_active hj (by rw [hst]; rfl)

theorem abortJob {id : Nat} (hr : s.prc.run ≠ .quiescing) (h : s.Tabled q) : (s.abortJob id).state.Tabled q := by
  unfold State.abortJob
  split
  · exact h
  · next j hj =>
    have hid := Prc.job?_id hj
    subst hid
    split
    case h_1 hst => exact .abortQueued hr hj hst h
    case h_2 hst | h_3 hst | h_4 hst => exact .abortActive hj (by rw [hst]; nofun) h
    case h_5 hst => exact .abortDraining hj hst h
    all_goals exact h

theorem holdRun (h : s.Tabled q) : s.holdRun.state.Tabled q := by
  unfold State.holdRun
  split
  · exact .tryHoldPoint (State.Tabled.setRun (s := { s with prc := { s.prc with holdByLink := false } }) nofun h)
  · exact h

theorem resumeRun (h : s.Tabled q) : s.resumeRun.Tabled q := by
  have hset : State.Tabled q (State.setRun { s with prc := { s.prc with holdByLink := false } }
      (if s.prc.active.isSome || !s.prc.queue.isEmpty then .running else .idle)) :=
    .setRun (by split <;> nofun) h
  exact .kick (.considerStart (hset.of_prc (by simp)))

theorem resume (h : s.Tabled q) : s.resume.state.Tabled q := by
  unfold State.resume
  split
  · split
    · exact h
    · exact .resumeRun h
  all_goals exact h

theorem homeEndsJob (h : s.Tabled q) : s.homeEndsJob.Tabled q := by
  have hjob : (match s.prc.activeJob? with | some j => s.endJob j .command | none => s : State).Tabled q := by
    split
    · next j hj => exact .endJob (h.1.active_not_mem_queue hj) h
    · exact h
  exact hjob

theorem home (h : s.Tabled q) : s.home.state.Tabled q := by
  unfold State.home
  split
  · exact h
  · exact .startHome (.homeEndsJob h)

theorem prcDetach (h : s.Tabled q) : s.prcDetach.Tabled q := by
  unfold State.prcDetach
  split
  · exact .tryHoldPoint (State.Tabled.setRun (s := { s with prc := { s.prc with holdByLink := true } }) nofun h)
  · exact h
  · exact .goHeld h
  · exact .goHeld h
  · exact h

theorem detach (h : s.Tabled q) : s.detach.Tabled q := .ite (.prcDetach (h.of_prc (by simp))) h

/-! ## Resets -/

theorem reset : State.reset.Tabled q :=
  ⟨⟨⟨Nat.zero_le _, List.nodup_nil, List.nodup_nil⟩, List.nodup_nil,
    fun _ => iff_of_false List.not_mem_nil (by rintro ⟨j, hj, -⟩; cases hj), nofun⟩, nofun⟩

theorem prcQuiesce (h : s.Tabled q) : s.prcQuiesce.Tabled True := by
  have hw : s.withdrawPlan.withdrawAdmissionReq.Tabled q := by
    unfold State.withdrawAdmissionReq
    split <;> exact .withdrawPlan h
  exact State.Tabled.ack ⟨hw.1, fun _ => trivial⟩

theorem quiesceAll (h : s.Tabled q) : s.quiesceAll.Tabled True := by
  unfold State.quiesceAll
  have hprc := h.prcQuiesce
  exact hprc.of_prc (by simp)

end State.Tabled

/-! ## Every command -/

open State.Tabled in
/-- Every command but those of a reset keeps the table laws, by the lemma of what it does. -/
theorem exec_tabled (c : Instr) {q : Prop} {s t : State} (hc : Instr.endsReset c = false)
    (hreset : ∀ h, c ≠ .resetSoft h ∧ c ≠ .resetFull h) (hrun : s.prc.run = .quiescing → s.liu.resetWork.isSome = true)
    (h : exec c s = .next t) (h0 : s.Tabled q) : t.Tabled q := by
  have key : ∀ {f : State}, exec c s = .next f → f.Tabled q → t.Tabled q := by
    intro f hf hl
    rw [h] at hf
    cases hf
    exact hl
  have hr : s.liu.resetWork = none → s.prc.run ≠ .quiescing := by
    intro hnone hq
    rw [hnone] at hrun
    cases hrun hq
  cases c
  case powerOn | quiesceAck | resetTimeout => cases hc
  case resetSoft hdr => exact absurd rfl (hreset hdr).1
  case resetFull hdr => exact absurd rfl (hreset hdr).2
  case attach => exact key rfl (State.Tabled.tryStripe h0)
  case detach => exact key rfl h0.detach
  case submitJob => exact key rfl (.command (fun _ => h0.submit) hr h0)
  case releaseJob => exact key rfl (.command (fun _ => h0.releaseJob) hr h0)
  case abortJob => exact key rfl (.command (fun hn => h0.abortJob hn) hr h0)
  case hold => exact key rfl (.command (fun _ => h0.holdRun) hr h0)
  case resume => exact key rfl (.command (fun _ => h0.resume) hr h0)
  case home => exact key rfl (.command (fun _ => h0.home) hr h0)
  case grantStripes => exact key rfl (.command (fun _ => h0.grantStripes) hr h0)
  case setParam | getParam | loadTable | queryMagazine | calibrateDark | calibrateFlat | calibrateCancel | queryJob
      | queryStatus | clearStage | identify =>
    exact key rfl (.command (fun _ => h0.of_prc (by simp)) hr h0)
  case startJob => exact key rfl h0.deliver.considerStart
  case holdPoint => exact key rfl h0.deliver.tryHoldPoint
  case loadComplete => exact key rfl (.prcEvent (fun _ => h0.deliver.loadDone) h0.deliver)
  case noCarrier => exact key rfl (.prcEvent (fun _ => h0.deliver.loadNoCarrier) h0.deliver)
  case settleCompletion => exact key rfl (.prcEvent (fun _ => h0.deliver.settled) h0.deliver)
  case planCompletion => exact key rfl (.prcEvent (fun _ => h0.deliver.planned) h0.deliver)
  case admissionGrant => exact key rfl (.prcEvent (fun _ => h0.deliver.admitted) h0.deliver)
  case exposureEnd => exact key rfl (.prcEvent (fun _ => h0.deliver.tileExposureEnd) h0.deliver)
  case exposureCompletion => exact key rfl (.prcEvent (fun _ => h0.deliver.tileExposureDone) h0.deliver)
  case retryReport => exact key rfl (.prcEvent (fun _ => h0.deliver.retried) h0.deliver)
  case secondReadoutFailure => exact key rfl (.prcEvent (fun _ => h0.deliver.tileSensorFailure) h0.deliver)
  case transportFault => exact key rfl (.prcEvent (fun _ => h0.deliver.transportFaulted) h0.deliver)
  case backlightFault => exact key rfl (.prcEvent (fun _ => h0.deliver.backlightFaulted) h0.deliver)
  case unloadComplete => exact key rfl (.prcEvent (fun _ => h0.deliver.unloaded) h0.deliver)
  case trsEmptyReport | reinitEndReport => exact key rfl (.prcEvent (fun _ => h0.deliver.considerStart) h0.deliver)
  case cruIdleReport => exact key rfl (.prcEvent (fun _ => h0.deliver.cruIdle) h0.deliver)
  case planRequest => exact key rfl h0.deliver.planRequested
  case attemptCompletion => exact key rfl h0.deliver.attemptCompleted
  case admissionRequest => exact key rfl h0.deliver.askSlots
  case exposureRequest => exact key rfl h0.deliver.exposureRequested
  case lampFaultReport => exact key rfl h0.deliver.lampFaulted
  case stageFaultReport => exact key rfl h0.deliver.stageFaulted
  case monitorSample => exact key rfl h0.sample
  case lampSettleTimeout => exact key rfl (.ite h0.lampFault h0)
  case darkHold => exact key rfl (State.Tabled.darkHold h0.deliver)
  case darkHoldRelease => exact key rfl h0.deliver.darkRelease
  case loadRequest => exact key rfl h0.deliver.takeLoad
  case moveRequest => exact key rfl h0.deliver.takeMove
  case unloadRequest => exact key rfl h0.deliver.takeUnload
  case loadLegCompletion => exact key rfl h0.loadLegDone
  case unloadLegCompletion => exact key rfl h0.unloadLegDone
  case homeScanLegDone => exact key rfl h0.homeScanDone
  case motionTimeout => exact key rfl h0.motionExpired
  case lostCarrier =>
    refine key rfl ?_
    split
    case h_1 | h_2 | h_3 => exact .trsFault h0
    all_goals exact h0
  case mergeTakeUp => exact key rfl h0.deliver.takeUp
  case bandCompletion => exact key rfl h0.bandDone
  case calRelease => exact key rfl h0.deliver.calReleased
  case stripeStart => exact key rfl h0.deliver.tryStripe
  case stripeEnd => exact key rfl h0.stripeTaken
  case souAbandon => exact key rfl h0.deliver.souAbandoned
  case badFrame | badKind | recordSent => exact key rfl (h0.of_prc (by simp))
  case idleTimerExpiry =>
    refine key rfl ?_
    split
    · exact .ite (State.Tabled.of_prc h0 (by simp)) h0
    · exact h0
  case interlockAsk => exact key rfl (h0.of_prc (by split <;> simp))
  case lightRequest => exact key rfl (.ite h0 (h0.of_prc (by simp)))
  all_goals exact key rfl (h0.of_prc (by simp))

/-- RESET takes the run to QUIESCING with the reset in progress. -/
theorem State.resetCommand_tabled {s : State} {hdr : Hdr} {k : ResetKind} (hl : s.prc.laws)
    (hrun : s.prc.run = .quiescing → s.liu.resetWork.isSome = true) :
    (s.resetCommand hdr k).Tabled ((s.resetCommand hdr k).liu.resetWork.isSome = true) := by
  have hanswer : ∀ r, (s.answer r).Tabled ((s.answer r).liu.resetWork.isSome = true) := by
    intro r
    have hprc : (s.answer r).prc = s.prc := by simp
    refine ⟨hprc ▸ hl, fun e => ?_⟩
    have := hrun (hprc ▸ e)
    unfold State.answer
    split
    · rfl
    · exact this
  unfold State.resetCommand
  split
  · exact ⟨hl, hrun⟩
  · split
    · exact hanswer _
    · split
      · have hq : (s.startReset k hdr.tag).Tabled True :=
          State.Tabled.quiesceAll (q := True) (s := { s with liu := { s.liu with
            resetWork := some { kind := k, tag := hdr.tag, waiting := quiescedBlocks } } }) ⟨hl, fun _ => trivial⟩
        refine ⟨hq.1, fun _ => ?_⟩
        have hkept := State.Lawful.quiesceAll (.refl { s with liu := { s.liu with
          resetWork := some { kind := k, tag := hdr.tag, waiting := quiescedBlocks } } })
        exact hkept.2 rfl
      · exact hanswer _

/-- A reset that is applied empties the table; one that goes on leaves it. -/
theorem State.acknowledged_tabled {s : State} {b : Block} {seen : Bool} (hl : s.prc.laws)
    (hrun : s.prc.run = .quiescing → s.liu.resetWork.isSome = true) :
    (s.acknowledged b seen).Tabled ((s.acknowledged b seen).liu.resetWork.isSome = true) := by
  unfold State.acknowledged
  split
  · exact ⟨hl, hrun⟩
  · split
    · dsimp only
      split
      · exact .reset
      · exact ⟨hl, fun _ => rfl⟩
    · exact ⟨hl, hrun⟩

theorem exec_tableLaws (c : Instr) {s t : State} (h : exec c s = .next t) (hl : s.prc.laws)
    (hrun : s.prc.run = .quiescing → s.liu.resetWork.isSome = true) :
    t.Tabled (t.liu.resetWork.isSome = true) := by
  by_cases hc : Instr.endsReset c = true
  · cases c <;> simp only [Instr.endsReset, Bool.false_eq_true] at hc
    case powerOn => cases h; exact State.Tabled.reset
    case quiesceAck => cases h; exact State.acknowledged_tabled hl hrun
    case resetTimeout =>
      cases h
      unfold State.resetExpired
      split
      · exact ⟨hl, hrun⟩
      · exact State.Tabled.reset
  · by_cases hreset : ∀ hdr, c ≠ .resetSoft hdr ∧ c ≠ .resetFull hdr
    · have hc : Instr.endsReset c = false := by simpa using hc
      obtain ⟨hlaws, hq⟩ := exec_tabled c hc hreset hrun h (q := s.prc.run = .quiescing) ⟨hl, id⟩
      exact ⟨hlaws, fun e => (exec_lawful c hc h).2 (hrun (hq e))⟩
    · simp only [not_forall, Classical.not_and_iff_not_or_not, not_not] at hreset
      obtain ⟨hdr, rfl | rfl⟩ := hreset
      · cases h; exact State.resetCommand_tabled hl hrun
      · cases h; exact State.resetCommand_tabled hl hrun

/-- Settles O4: the four clauses of `queueLaw` and the table law are `State.Tabled`, which every command keeps. -/
theorem jobTableKept : Obligations.JobTableKept := by
  intro s t htable ⟨hnd, hqm, hact, hrun⟩ hstep
  have hl : s.prc.laws := ⟨htable, hnd, hqm, hact⟩
  have ht : t.Tabled (t.liu.resetWork.isSome = true) := by
    unfold step at hstep
    split at hstep
    · cases hstep
      exact ⟨hl, hrun⟩
    · next c rest _ => exact exec_tableLaws (s := { s with pending := rest }) c hstep hl hrun
  obtain ⟨⟨htable, hnd, hqm, hact⟩, hrun⟩ := ht
  exact ⟨htable, hnd, hqm, hact, hrun⟩

end Sys2Proof.Machine
end

section
/-! PROOFS. QUERY_JOB and RELEASE_JOB (R10, R15), HOLD and the hold point (R30, R31), GRANT_STRIPES (R157). -/

namespace Sys2Proof.Machine

variable {s : State} {h : Hdr}

/-- R149: a host command that fits is answered as its owner decides. -/
theorem exec_command {c : Instr} {k : CommandKind} {owner : State → Answer}
    (hc : exec c s = .next (command h k owner s)) (ht : s.takes h) :
    exec c s = .next ((owner s).state.replied h k (owner s).status (owner s).body) := by
  rw [hc, command_eq_replied ht]

/-! ## Records shown and released -/

theorem Job.countLaw.tiles_length {j : Job} (hj : j.countLaw) : j.tiles.length = j.cols * j.rows := by
  simpa using congrArg List.length hj.1

theorem Prc.job?_of_unknown {p : Prc} {id : Nat} (hno : ∀ j ∈ p.jobs, j.id ≠ id) : p.job? id = none :=
  (p.job?_eq_none_iff id).2 hno

theorem JobState.finished_iff (st : JobState) : st.finished = true ↔ st = .done ∨ st = .failed ∨ st = .aborted := by
  cases st <;> simp [JobState.finished]

/-- Distinct ids: one record bears an id that is in the table. -/
theorem length_filter_id {l : List Job} (hn : (l.map (·.id)).Nodup) {j : Job} (hj : j ∈ l) :
    (l.filter fun x => decide (x.id ≠ j.id)).length + 1 = l.length := by
  have hone : l.countP (fun x => decide (x.id = j.id)) = 1 := by
    have := List.count_eq_one_of_mem hn (List.mem_map_of_mem hj)
    rw [List.count, List.countP_map] at this
    rw [← this]
    exact List.countP_congr fun x _ => by simp
  have hsum := List.length_eq_countP_add_countP (fun x => decide (x.id = j.id)) (l := l)
  rw [hone, List.countP_eq_length_filter] at hsum
  rw [hsum, Nat.add_comm]
  simp

/-- Settles O17, by whether the record is in the table and finished. -/
theorem queryAndRelease : Obligations.QueryAndRelease := by
  refine ⟨fun h id start s ht htab => ⟨fun hno => ?_, fun j hj hid => ⟨?_, fun hc hle => ?_⟩⟩,
    fun h id s ht htab => ⟨fun hno => ?_, fun j hj hid => ?_⟩⟩
  · refine (exec_command rfl ht).trans ?_
    simp [State.queryJob, Prc.job?_of_unknown hno]
  · subst hid
    refine (exec_command rfl ht).trans ?_
    simp [State.queryJob, Prc.job?_of_mem htab.2.1 hj, Job.summary]
  · rw [List.drop_eq_nil_of_le (by rw [hc.tiles_length]; exact hle), List.take_nil]
  · refine (exec_command rfl ht).trans ?_
    simp [State.releaseJob, Prc.job?_of_unknown hno]
  · subst hid
    have hjob := Prc.job?_of_mem htab.2.1 hj
    by_cases hf : j.state.finished = true
    · rw [if_pos ((JobState.finished_iff _).1 hf)]
      refine ⟨s.prc.jobs.filter fun x => decide (x.id ≠ j.id), ?_, fun k => ?_, length_filter_id htab.2.1 hj⟩
      · refine (exec_command rfl ht).trans ?_
        simp [State.releaseJob, hjob, hf]
      · simp
    · rw [if_neg fun k => hf ((JobState.finished_iff _).2 k)]
      refine (exec_command rfl ht).trans ?_
      simp [State.releaseJob, hjob, hf]

/-! ## The run -/

/-- A change of the run changes nothing else of PRC. -/
theorem State.setRun_prc (s : State) (r : RunState) : (s.setRun r).prc = { s.prc with run := r } := by
  obtain ⟨hr, e⟩ | ⟨-, e⟩ := s.setRun_cases r <;> rw [e]
  · rw [← hr]
  · rfl

/-- The first tile of the active job that passes a test: none where none passes. -/
theorem Prc.firstTile_eq_none_iff {p : Prc} {f : Tile → Bool} :
    p.firstTile f = none ↔ ∀ j, p.activeJob? = some j → ∀ x ∈ j.tiles, f x = false := by
  unfold Prc.firstTile
  cases p.activeJob? <;> simp

/-- R31: what keeps a run from its hold point. -/
theorem Prc.outstanding_eq_false_iff {p : Prc} : p.outstanding = false ↔ p.trsReq = none ∧ p.unloadNext = none
    ∧ p.planReq = none ∧ p.expReq = none ∧ p.firstTile Tile.unexposed = none := by
  simp [Prc.outstanding, Bool.or_eq_false_iff, and_assoc]

theorem State.tryHoldPoint_eq (hr : s.prc.run = .holding) (ho : s.prc.outstanding = false) :
    s.tryHoldPoint = s.goHeld (if s.prc.holdByLink then .link else .requested) := by
  simp [State.tryHoldPoint, hr, ho]

theorem State.tryHoldPoint_eq_self (h : ¬ (s.prc.run = .holding ∧ s.prc.outstanding = false)) : s.tryHoldPoint = s := by
  simp [State.tryHoldPoint, h]

/-- Settles O20: the hold point is reached where nothing is outstanding. -/
theorem holdAndHoldPoint : Obligations.HoldAndHoldPoint := by
  refine ⟨fun h s ht => ⟨fun hr => ?_, fun hr => ⟨?_, ?_⟩⟩, fun s hr => ⟨fun h1 h2 h3 h4 hx => ?_, fun hout => ?_⟩⟩
  · refine (exec_command rfl ht).trans ?_
    simp [State.holdRun, hr]
  · refine (exec_command rfl ht).trans ?_
    simp [State.holdRun, hr]
  · refine ⟨_, (exec_command rfl ht).trans rfl, ?_⟩
    have howner : (State.holdRun s).state
        = (State.setRun { s with prc := { s.prc with holdByLink := false } } .holding).tryHoldPoint := by
      simp [State.holdRun, hr]
    have hprc := State.setRun_prc { s with prc := { s.prc with holdByLink := false } } .holding
    have hfirst : (State.setRun { s with prc := { s.prc with holdByLink := false } } .holding).prc.outstanding
        = s.prc.outstanding := by rw [hprc]; rfl
    simp only [State.replied, howner]
    by_cases ho : s.prc.outstanding = false
    · rw [if_pos (Prc.outstanding_eq_false_iff.1 ho), State.tryHoldPoint_eq (by simp) (by rw [hfirst, ho]), hprc,
        State.goHeld_of_unheld _ (.inr (.inl (by simp))), State.setRun_prc, hprc]
      exact ⟨rfl, rfl, rfl⟩
    · rw [if_neg (fun k => ho (Prc.outstanding_eq_false_iff.2 k)),
        State.tryHoldPoint_eq_self (by rw [hfirst]; exact fun k => ho k.2), hprc]
      exact ⟨rfl, rfl, rfl⟩
  · refine congrArg Host.Outcome.next (State.tryHoldPoint_eq (s := s.deliver .holdPoint) hr ?_)
    refine Prc.outstanding_eq_false_iff.2 ⟨h1, h2, h3, h4, Prc.firstTile_eq_none_iff.2 fun j hj x hxj => ?_⟩
    simp [Tile.unexposed, hx j hj x hxj]
  · refine congrArg Host.Outcome.next (State.tryHoldPoint_eq_self (s := s.deliver .holdPoint) fun k => ?_)
    obtain ⟨k1, -, k3, k4, -⟩ := Prc.outstanding_eq_false_iff.1 k.2
    obtain ho | ho | ho := hout
    · exact ho k1
    · exact ho k3
    · exact ho k4

/-! ## Credits -/

theorem State.tryStripe_eq_self (hq : s.sou.queue = []) : s.tryStripe = s := by
  unfold State.tryStripe
  rw [hq]
  exact ite_self _

/-- Settles O57: the counter rises to 1024 at most, and SOU looks at its conditions as at STRIPE_START. -/
theorem grantStripes : Obligations.GrantStripes := by
  intro h n s hatt hfit hcred granted
  have hstart : .stripeStart ∉ s.inFlight → exec .stripeStart granted = .next granted.tryStripe := fun hno =>
    congrArg (fun u : State => Host.Outcome.next u.tryStripe) (State.deliver_eq_self (s := granted) hno)
  have howner : 1 ≤ n → n ≤ 1024 → s.grantStripes n
      = { state := granted.tryStripe, status := if s.sou.credits + n ≤ 1024 then .ok else .clamped
          body := .grant (min 1024 (s.sou.credits + n) - s.sou.credits) (min 1024 (s.sou.credits + n)) } := by
    intro h1 h2
    have hn : ¬ (n = 0 ∨ 1024 < n) := by omega
    simp only [State.grantStripes, if_neg hn]
    rfl
  refine ⟨fun hw => ⟨fun hn => ?_, fun h1 h2 hno => ⟨_, hstart hno, fun hle => ?_, fun hlt => ?_⟩,
    fun hq hno => ?_⟩, fun w hw => congrArg Host.Outcome.next (command_resetting hatt hw)⟩
  · refine (exec_command rfl ⟨hatt, hw, hfit⟩).trans ?_
    simp [State.grantStripes, hn]
  · refine (exec_command rfl ⟨hatt, hw, hfit⟩).trans ?_
    rw [howner h1 h2]
    simp [hle]
  · refine (exec_command rfl ⟨hatt, hw, hfit⟩).trans ?_
    rw [howner h1 h2]
    have hmin : min 1024 (s.sou.credits + n) = 1024 := by omega
    simp [hmin, Nat.not_le.2 hlt]
  · rw [hstart hno, State.tryStripe_eq_self (s := granted) hq]

end Sys2Proof.Machine
end

section
/-! PROOFS. What the words of the statements about PRC say (`noticesOnly`, `otherRecords`), the active job and its
tiles, and each request of PRC as an equation. -/

namespace Sys2Proof.Machine

variable {s t u : State}

/-! ## Notices only -/

theorem State.noticesOnly.of_liu (h : t.liu = s.liu) : s.noticesOnly t := ⟨s.liu.notices, s.liu.overflow, s.liu.sticky, h⟩

theorem State.noticesOnly.trans (h1 : s.noticesOnly t) (h2 : t.noticesOnly u) : s.noticesOnly u := by
  obtain ⟨n, o, k, e⟩ := h1
  obtain ⟨n', o', k', e'⟩ := h2
  exact ⟨n', o', k', by rw [e', e]⟩

theorem State.noticesOnly.of_raise {n : Notice} (h : t.liu = s.liu.raise n) : s.noticesOnly t := by
  obtain ⟨-, e⟩ | ⟨-, -, -, e⟩ | ⟨-, -, e⟩ := s.liu.raise_cases n <;> rw [e] at h
  · exact ⟨_, _, _, h⟩
  · exact ⟨_, _, _, h⟩
  · exact ⟨_, _, _, h⟩

theorem State.noticesOnly.notice (h : s.noticesOnly t) (n : Notice) : s.noticesOnly (t.notice n) :=
  h.trans (.of_raise rfl)

theorem State.noticesOnly.setJob (h : s.noticesOnly t) (id : Nat) (st : JobState) (out : Option JobOutcome) :
    s.noticesOnly (t.setJob id st out) := by
  obtain ⟨e, -⟩ | ⟨j, -, -, -, e⟩ := t.setJob_cases id st out <;> rw [e]
  · exact h
  · exact h.trans (.of_raise rfl)

theorem State.noticesOnly.setRun (h : s.noticesOnly t) (r : RunState) : s.noticesOnly (t.setRun r) := by
  obtain ⟨-, e⟩ | ⟨-, e⟩ := t.setRun_cases r <;> rw [e]
  · exact h
  · exact h.trans (.of_raise rfl)

theorem State.noticesOnly.goHeld (h : s.noticesOnly t) (c : HoldCause) : s.noticesOnly (t.goHeld c) := by
  unfold State.goHeld
  split
  case h_4 =>
    split
    · exact h.setRun _
    · exact h
  case h_5 => exact h
  all_goals exact h.setRun _

/-- A call for HELD changes the run, and nothing else of PRC. -/
theorem State.goHeld_prc (s : State) (c : HoldCause) : (s.goHeld c).prc = { s.prc with run := (s.goHeld c).prc.run } := by
  unfold State.goHeld
  split
  case h_4 =>
    split
    · rw [State.setRun_prc]
    · rfl
  case h_5 => rfl
  all_goals rw [State.setRun_prc]

/-! ## The active job and its tiles -/

theorem Prc.activeJob?_eq_some {p : Prc} {j : Job} (h : p.activeJob? = some j) :
    p.active = some j.id ∧ p.job? j.id = some j := by
  obtain ⟨id, ha, hj⟩ := Option.bind_eq_some_iff.1 h
  have e := Prc.job?_id hj
  subst e
  exact ⟨ha, hj⟩

theorem Prc.activeJob?_of {p : Prc} {id : Nat} {j : Job} (ha : p.active = some id) (hj : p.job? id = some j) :
    p.activeJob? = some j := by simp [Prc.activeJob?, ha, hj]

theorem Prc.activeJob?_none {p : Prc} (ha : p.active = none) : p.activeJob? = none := by simp [Prc.activeJob?, ha]

/-- A tile of a record is known by its job id and its number. -/
theorem Prc.tile?_of_mem {p : Prc} {j : Job} (hj : p.job? j.id = some j) (hc : j.countLaw) {x : Tile} (hx : x ∈ j.tiles) :
    p.tile? ⟨j.id, x.seq⟩ = some x := by
  have hfind := find_seq hc.nodup_seq hx id fun _ => rfl
  rw [List.map_id] at hfind
  simpa [Prc.tile?, hj] using hfind

theorem Prc.firstTile_of_find {p : Prc} {j : Job} (hj : p.activeJob? = some j) {f : Tile → Bool} {x : Tile}
    (hx : j.tiles.find? f = some x) : p.firstTile f = some ⟨j.id, x.seq⟩ := by
  simp [Prc.firstTile, hj, hx, Job.ref]

theorem Prc.firstTile_of_none {p : Prc} {j : Job} (hj : p.activeJob? = some j) {f : Tile → Bool}
    (hx : ∀ x ∈ j.tiles, f x = false) : p.firstTile f = none :=
  Prc.firstTile_eq_none_iff.2 fun k hk x hxk => by
    rw [hj] at hk
    cases hk
    exact hx x hxk

/-- A stronger test that the first tile of a weaker one passes finds that tile. -/
theorem find?_of_imp {α : Type} {l : List α} {p q : α → Bool} {x : α} (h : l.find? p = some x) (hq : q x = true)
    (himp : ∀ y ∈ l, q y = true → p y = true) : l.find? q = some x := by
  rw [List.find?_eq_some_iff_append] at *
  obtain ⟨-, as, bs, rfl, hno⟩ := h
  refine ⟨hq, as, bs, rfl, fun a ha => ?_⟩
  have := himp a (List.mem_append_left _ ha)
  have hna := hno a ha
  cases hqa : q a <;> simp_all

theorem Prc.activeExposing_iff {p : Prc} {j : Job} (hj : p.activeJob? = some j) :
    p.activeExposing = true ↔ ∃ x ∈ j.tiles, x.state = .exposing := by
  simp [Prc.activeExposing, hj]

/-! ## Records changed -/

theorem State.mapTile_eq {r : TileRef} {f : Tile → Tile} (hr : s.prc.run ≠ .quiescing) :
    s.mapTile r f = { s with prc := s.prc.mapTile r f } := by simp [State.mapTile, hr]

/-- The record of a job with one tile changed. -/
def Job.withTile (j : Job) (n : Nat) (f : Tile → Tile) : Job :=
  { j with tiles := j.tiles.map fun x => if x.seq = n then f x else x }

theorem Prc.job?_mapTile {p : Prc} {j : Job} (hj : p.job? j.id = some j) (n : Nat) (f : Tile → Tile) :
    (p.mapTile ⟨j.id, n⟩ f).job? j.id = some (j.withTile n f) := by
  rw [show j.id = (⟨j.id, n⟩ : TileRef).job from rfl, Prc.job?_mapTile_self]
  simp [hj, Job.withTile]

theorem Prc.activeJob?_mapTile {p : Prc} {j : Job} (hj : p.activeJob? = some j) (n : Nat) (f : Tile → Tile) :
    (p.mapTile ⟨j.id, n⟩ f).activeJob? = some (j.withTile n f) := by
  obtain ⟨ha, hid⟩ := Prc.activeJob?_eq_some hj
  exact Prc.activeJob?_of ha (Prc.job?_mapTile hid n f)

theorem Prc.job?_congr {p q : Prc} (h : q.jobs = p.jobs) (k : Nat) : q.job? k = p.job? k := by simp [Prc.job?, h]

theorem Prc.tile?_congr {p q : Prc} (h : q.jobs = p.jobs) (r : TileRef) : q.tile? r = p.tile? r := by
  simp [Prc.tile?, Prc.job?_congr h]

/-- A change of one tile leaves the other records, and a change of other fields than the records leaves them all. -/
theorem Prc.otherRecords.of_mapTile {p q : Prc} {r : TileRef} {f : Tile → Tile}
    (hf : ∀ x, (f x).seq = x.seq) (h : q.jobs = (p.mapTile r f).jobs) : q.otherRecords p r := by
  refine ⟨fun k hk => ?_, fun n hn => ?_⟩
  · rw [Prc.job?_congr h, Prc.job?_mapTile_ne _ _ _ _ hk]
  · rw [Prc.tile?_congr h, Prc.tile?_mapTile_ne _ _ _ _ hf fun e => hn (congrArg TileRef.seq e)]

theorem Prc.otherRecords.of_jobs {p q : Prc} {r : TileRef} (h : q.jobs = p.jobs) : q.otherRecords p r :=
  ⟨fun k _ => (Prc.job?_congr h k).symm, fun _ _ => (Prc.tile?_congr h _).symm⟩

theorem Prc.otherRecords.symm {p q : Prc} {r : TileRef} (h : p.otherRecords q r) : q.otherRecords p r :=
  ⟨fun k hk => (h.1 k hk).symm, fun n hn => (h.2 n hn).symm⟩

theorem Prc.otherRecords.trans {p q w : Prc} {r : TileRef} (h1 : p.otherRecords q r) (h2 : q.otherRecords w r) :
    p.otherRecords w r :=
  ⟨fun k hk => (h2.1 k hk).trans (h1.1 k hk), fun n hn => (h2.2 n hn).trans (h1.2 n hn)⟩

theorem Prc.tile?_mapTile_of {p : Prc} {r : TileRef} {x : Tile} (hx : p.tile? r = some x) {f : Tile → Tile}
    (hf : ∀ x, (f x).seq = x.seq) : (p.mapTile r f).tile? r = some (f x) := by
  rw [Prc.tile?_mapTile_self _ _ _ hf, hx]; rfl

/-! ## Requests -/

theorem State.issuePlan_eq {r : TileRef} (hc : s.cru.state = .idle) :
    s.issuePlan r = { s with prc := { s.prc with planReq := some r }, inFlight := s.inFlight ++ [.planRequest (.prc r)] } := by
  simp [State.issuePlan, State.calibrating, hc, State.emit, Instr.asMessage]

theorem State.issuePlan_eq_self {r : TileRef} (hc : s.cru.state ≠ .idle) : s.issuePlan r = s := by
  simp [State.issuePlan, State.calibrating, hc]

theorem realise_eq_self {throttle : Bool} {e : PlanEntry} (h : throttle = false ∨ e.drive ≤ 1024) :
    realise throttle e = e ∧ realiseCapped throttle e = false := by
  obtain h | h := h
  · simp [realise, realiseCapped, h]
  · simp [realise, realiseCapped, Nat.not_lt.2 h]

/-- R25: the next exposure of a tile is requested, with its light first. -/
theorem State.requestExposure_eq {r : TileRef} {x : Tile} {plan : List PlanEntry} {e : PlanEntry} {n : Nat}
    (hx : s.prc.tile? r = some x) (hplan : x.plan = some plan) (he : plan[x.exposures.length]? = some e)
    (hn : s.fst.lowestReserved r = some n) (hc : s.cru.state = .idle) (hexp : s.prc.expReq = none)
    (hback : s.prc.retryBack = none) (hlow : s.blu.throttle = false ∨ e.drive ≤ 1024) :
    s.requestExposure r = { s with
      prc := { s.prc with expReq := some r }
      inFlight := s.inFlight ++ [.lightRequest e.drive, .exposureRequest
        { client := .prc r, time := e.time, target := .slot n r, lamp := .settled e.drive, stage := true }] } := by
  obtain ⟨hreal, hcap⟩ := realise_eq_self hlow
  simp [State.requestExposure, hx, hn, hplan, he, State.calibrating, hc, hexp, hback, hreal, hcap, State.emit,
    Instr.asMessage, tileRequest]

/-! ## What PRC takes up again -/

theorem State.kickExposure_eq_self
    (h : s.prc.run = .running ∨ s.prc.run = .holding → s.prc.firstTile Tile.unexposed = none) : s.kickExposure = s := by
  unfold State.kickExposure
  split
  case h_1 hr hx => rw [h (.inl hr)] at hx; cases hx
  case h_2 hr hx => rw [h (.inr hr)] at hx; cases hx
  case h_3 => rfl

theorem State.kickExposure_eq {r : TileRef} (hr : s.prc.run = .running ∨ s.prc.run = .holding)
    (hx : s.prc.firstTile Tile.unexposed = some r) : s.kickExposure = s.requestExposure r := by
  unfold State.kickExposure
  obtain hr | hr := hr <;> rw [hr, hx]

/-- A job in whose cycle a tile is begins no other. -/
theorem State.kickNext_eq_self (h : ∀ j, s.prc.activeJob? = some j → j.state ≠ .capturing ∨ (∃ x ∈ j.tiles, x.state.inCycle = true)
    ∨ s.prc.trsReq ≠ none) : s.kickNext = s := by
  unfold State.kickNext
  split
  · next j hj =>
    refine if_neg fun k => ?_
    obtain ⟨hst, hcyc, htrs⟩ := k
    obtain hne | ⟨x, hx, hin⟩ | hne := h j hj
    · exact hne hst
    · have := List.any_eq_false.1 hcyc x hx
      exact this hin
    · exact hne htrs
  · rfl

/-- A job with no tile in its cycle, and none to begin, leaves PRC nothing to take up. -/
theorem State.kick_eq_self (h : ∀ j, s.prc.activeJob? = some j → j.state ≠ .capturing
    ∧ ∀ x ∈ j.tiles, x.state ≠ .exposing ∧ x.state ≠ .metering ∧ x.state ≠ .planned) : s.kick = s := by
  have hexp : s.kickExposure = s := State.kickExposure_eq_self fun _ =>
    Prc.firstTile_eq_none_iff.2 fun j hj x hx => by simp [Tile.unexposed, ((h j hj).2 x hx).1]
  have hplan : s.prc.toPlan = none := by
    unfold Prc.toPlan
    split
    · rfl
    · cases hj : s.prc.activeJob? with
      | none => rfl
      | some j =>
        have hno : (j.tiles.find? fun x => decide (x.state = .metering)
            || (decide (x.state = .planned) && decide (s.prc.admReq ≠ some (j.ref x)))) = none :=
          List.find?_eq_none.2 fun x hx => by
            obtain ⟨-, h2, h3⟩ := (h j hj).2 x hx
            simp [h2, h3]
        rw [Option.bind_some, hno]
        rfl
  have hkp : s.kickPlan = s := by simp [State.kickPlan, hplan]
  have hkn : s.kickNext = s := State.kickNext_eq_self fun j hj => .inl (h j hj).1
  simp [State.kick, hexp, hkp, hkn]

end Sys2Proof.Machine
end

section
/-! PROOFS. A job start (R20) with what it leaves, what follows CRU's return to IDLE (R87), and the accepted submission
(R2, R5, R6, R19). -/

namespace Sys2Proof.Machine

variable {s : State}

/-! ## The start -/

/-- R20: what a start leaves. -/
theorem State.startJob_spec {j : Job} {rest : List Nat} (hr : s.prc.run = .running) (hq : s.prc.queue = j.id :: rest)
    (hj : s.prc.job? j.id = some j) (hst : j.state.finished = false) :
    let t := s.startJob j
    t.prc.active = some j.id ∧ t.prc.queue = rest ∧ t.prc.run = .running
      ∧ t.prc.trsReq = some .load ∧ t.prc.abortMark = false ∧ t.prc.recoveryJob = none
      ∧ t.prc.job? j.id = some { j with state := .loading, outcome := none }
      ∧ (∀ k, k ≠ j.id → t.prc.job? k = s.prc.job? k)
      ∧ t.inFlight = s.inFlight ++ [.loadRequest .prc j.position]
      ∧ t.blu = { s.blu with idleTimer := none, deferred := false }
      ∧ t.bpl = s.bpl ∧ t.fst = s.fst ∧ t.sfe = s.sfe ∧ t.trs = s.trs ∧ t.bme = s.bme ∧ t.cru = s.cru
      ∧ t.sou = s.sou ∧ s.noticesOnly t := by
  have hrun : s.prc.run ≠ .quiescing := by rw [hr]; nofun
  have hprc : (s.startJob j).prc = { s.prc with
      jobs := (s.prc.mapJob j.id fun x => { x with state := .loading, outcome := none }).jobs
      queue := s.prc.queue.drop 1, active := some j.id, abortMark := false, trsReq := some .load
      recoveryJob := none } := by
    unfold State.startJob
    dsimp only
    rw [State.setJob_notice (s := { s with prc := { s.prc with
      queue := s.prc.queue.drop 1, active := some j.id, abortMark := false, trsReq := some .load
      recoveryJob := none } }) hj hst hrun]
    rfl
  dsimp only
  refine ⟨by rw [hprc], by rw [hprc, hq]; rfl, by rw [hprc, ← hr], by rw [hprc], by rw [hprc], by rw [hprc], ?_,
    fun k hk => ?_, by simp [State.startJob, Instr.asMessage], by simp [State.startJob], by simp, by simp, by simp,
    by simp, by simp, by simp, by simp, ?_⟩
  · refine (Prc.job?_congr (p := s.prc.mapJob j.id fun x => { x with state := .loading, outcome := none })
      (by rw [hprc]) _).trans ?_
    refine (Prc.job?_mapJob_self (hf := by intro _; rfl) ..).trans ?_
    rw [hj]
    rfl
  · refine (Prc.job?_congr (p := s.prc.mapJob j.id fun x => { x with state := .loading, outcome := none })
      (by rw [hprc]) _).trans ?_
    exact Prc.job?_mapJob_ne (hf := by intro _; rfl) (hk := hk) ..
  · have hset : s.noticesOnly (State.setJob { s with prc := { s.prc with
        queue := s.prc.queue.drop 1, active := some j.id, abortMark := false, trsReq := some .load
        recoveryJob := none } } j.id .loading none) := State.noticesOnly.setJob (.of_liu rfl) ..
    exact hset.trans (.of_liu (by simp [State.startJob]))

theorem State.considerStart_of_verdict {id : Nat} {rest : List Nat} {j : Job} (hr : s.prc.run = .running)
    (ha : s.prc.active = none) (hq : s.prc.queue = id :: rest) (hj : s.prc.job? id = some j) :
    (s.startVerdict j = .wait → s.considerStart = s)
      ∧ (∀ c, s.startVerdict j = .hold c → s.considerStart = s.goHeld c)
      ∧ (s.startVerdict j = .go → s.considerStart = s.startJob j) := by
  rw [State.considerStart_eq hr ha hq hj]
  exact ⟨fun h => by simp [h], fun c h => by simp [h], fun h => by simp [h]⟩

/-- The reports at which PRC considers a start: those of the other blocks, and CRU's, at which what CRU held back is
taken up too, have nothing to take up where no job is active. -/
theorem exec_considerStart {c : Instr} (hc : c = .startJob ∨ c = .trsEmptyReport ∨ c = .reinitEndReport ∨ c = .cruIdleReport)
    (hr : s.prc.run ≠ .quiescing)
    (hkick : ((s.deliver c).considerStart).kick = (s.deliver c).considerStart) :
    exec c s = .next (s.deliver c).considerStart := by
  obtain rfl | rfl | rfl | rfl := hc
  · rfl
  · exact congrArg Host.Outcome.next (State.prcEvent_eq hr)
  · exact congrArg Host.Outcome.next (State.prcEvent_eq hr)
  · exact congrArg Host.Outcome.next ((State.prcEvent_eq (s := s.deliver .cruIdleReport) (f := State.cruIdle) hr).trans hkick)

/-- With no job active PRC takes nothing up. -/
theorem State.kick_of_inactive (h : s.prc.active = none) : s.kick = s :=
  State.kick_eq_self fun j hj => by rw [Prc.activeJob?_none h] at hj; cases hj

/-- While a tile of the active job is EXPOSING neither a plan is asked for nor a next tile begun. -/
theorem State.kickRest_eq_self {j : Job} {x : Tile} (hj : s.prc.activeJob? = some j) (hx : x ∈ j.tiles)
    (hxs : x.state = .exposing) : s.kickPlan.kickNext = s := by
  have hplan : s.kickPlan = s := by
    unfold State.kickPlan
    split
    · rw [(Prc.activeExposing_iff hj).2 ⟨x, hx, hxs⟩]; rfl
    · rfl
  rw [hplan]
  refine State.kickNext_eq_self fun k hk => ?_
  rw [hj] at hk
  cases hk
  exact .inr (.inl ⟨x, hx, by rw [hxs]; rfl⟩)

/-- Settles O22: the examination of R20 verdict by verdict, and the request that CRU held back. -/
theorem jobStart : Obligations.JobStart := by
  refine ⟨fun c s id rest j hc hr ha hq hj hst htiles => ?_, fun s j htab hj hcount hcap hcru hplan hexp hback => ?_⟩
  · have hid := Prc.job?_id hj
    subst hid
    have hasm : c.asMessage = c := by obtain rfl | rfl | rfl | rfl := hc <;> rfl
    obtain ⟨hwait, hhold, hgo⟩ := State.considerStart_of_verdict (s := s.deliver c) hr ha hq hj
    have hrq : s.prc.run ≠ .quiescing := by rw [hr]; nofun
    have exec_wait : s.startVerdict j = .wait → exec c s = .next (s.deliver c) := fun hv => by
      rw [exec_considerStart hc hrq (by rw [hwait hv, State.kick_of_inactive (s := s.deliver c) ha]), hwait hv]
    have exec_hold : ∀ cause, s.startVerdict j = .hold cause → exec c s = .next ((s.deliver c).goHeld cause) :=
      fun cause hv => by
        have hact : ((s.deliver c).goHeld cause).prc.active = none := by rw [State.goHeld_prc]; exact ha
        rw [exec_considerStart hc hrq (by rw [hhold _ hv, State.kick_of_inactive hact]), hhold _ hv]
    refine ⟨fun htrs => exec_hold _ (State.startVerdict_transport htrs),
      fun htrs => exec_wait (State.startVerdict_wait htrs), fun hreq htrs => ?_⟩
    have hpass : s.TrsPasses := ⟨hreq, htrs⟩
    refine ⟨fun hf hre => exec_hold _ ?_, fun hf hre => exec_wait ?_, fun hf hb => exec_hold _ ?_, fun hf hb =>
      ⟨fun hne => exec_wait ?_, fun hidle href => exec_hold _ ?_, fun hne hidle hd hp => exec_wait ?_,
        fun hempty hidle hd hp => ?_⟩⟩
    · rw [State.startVerdict_sensor hpass hf, hre]; rfl
    · rw [State.startVerdict_sensor hpass hf, hre]; rfl
    · exact State.startVerdict_lamp hpass hf hb
    · rw [State.startVerdict_last hpass hf hb, if_pos hne]
    · rw [State.startVerdict_last hpass hf hb, if_neg (not_not.2 hidle), if_pos href]
    · rw [State.startVerdict_last hpass hf hb, if_neg (not_not.2 hidle), if_neg (by simp [hd, hp]), if_neg hne]
    · have hv : (s.deliver c).startVerdict j = .go := by
        show s.startVerdict j = .go
        rw [State.startVerdict_last hpass hf hb, if_neg (not_not.2 hidle), if_neg (by simp [hd, hp]), if_pos hempty]
      have hspec := State.startJob_spec (s := s.deliver c) hr hq hj (by rw [hst]; rfl)
      obtain ⟨hact, hqueue, hrun, hload, habort, hrec, hjob, hother, hmsg, hblocks⟩ := hspec
      have hkick : ((s.deliver c).startJob j).kick = (s.deliver c).startJob j := by
        refine State.kick_eq_self fun k hk => ?_
        rw [Prc.activeJob?_of hact hjob] at hk
        cases hk
        refine ⟨nofun, fun x hx => ?_⟩
        obtain hx | hx := htiles x hx <;> rw [hx] <;> exact ⟨nofun, nofun, nofun⟩
      refine ⟨_, exec_considerStart hc hrq (by rw [hgo hv, hkick]), ?_⟩
      rw [hgo hv]
      exact ⟨hact, hqueue, hrun, hload, habort, hrec, hjob, hother, by rw [hmsg, State.deliver_inFlight, hasm], hblocks⟩
  · obtain ⟨hact, hjob⟩ := Prc.activeJob?_eq_some hj
    have hexec : s.prc.run ≠ .quiescing → exec .cruIdleReport s = .next (s.deliver .cruIdleReport).kick := fun hr => by
      refine congrArg Host.Outcome.next 
        ((State.prcEvent_eq (s := s.deliver .cruIdleReport) (f := State.cruIdle) hr).trans ?_)
      show (s.deliver .cruIdleReport).considerStart.kick = _
      rw [State.considerStart_eq_self (s := s.deliver .cruIdleReport) fun k => by simp [hact] at k]
    refine ⟨fun x plan e n hrun hx hp he hn hlow => ?_, fun x hrun hadm hno hx => ?_⟩
    · have hxm := List.mem_of_find?_eq_some hx
      have hxs : x.state = .exposing := by simpa using List.find?_some hx
      have hr : s.prc.run ≠ .quiescing := by obtain h | h := hrun <;> rw [h] <;> nofun
      have hun : x.unexposed = true := by
        have hlt : x.exposures.length < plan.length := by
          rw [List.getElem?_eq_some_iff] at he; exact he.1
        simp [Tile.unexposed, Tile.planLength, hxs, hp, hlt]
      have hfirst : s.prc.firstTile Tile.unexposed = some ⟨j.id, x.seq⟩ :=
        Prc.firstTile_of_find hj (find?_of_imp hx hun fun y _ hy => by
          simp only [Tile.unexposed, Bool.and_eq_true] at hy; exact hy.1)
      have hkick := State.kickExposure_eq (s := s.deliver .cruIdleReport) hrun hfirst
      rw [State.requestExposure_eq (s := s.deliver .cruIdleReport) (Prc.tile?_of_mem hjob hcount hxm) hp he hn hcru hexp
        hback hlow] at hkick
      rw [hexec hr]
      refine congrArg Host.Outcome.next ?_
      unfold State.kick
      rw [hkick]
      dsimp only
      rw [State.kickRest_eq_self (j := j) (x := x) (hx := hxm) (hxs := hxs), ite_self]
      · rfl
      · exact hj
    · have hxm := List.mem_of_find?_eq_some hx
      have hxs : x.state = .metering ∨ x.state = .planned := by simpa using List.find?_some hx
      have hr : s.prc.run ≠ .quiescing := by rw [hrun]; nofun
      have htile := Prc.tile?_of_mem hjob hcount hxm
      have hexpo : (s.deliver .cruIdleReport).kickExposure = s.deliver .cruIdleReport :=
        State.kickExposure_eq_self fun _ => Prc.firstTile_of_none (p := s.prc) hj fun y hy => by
          simp [Tile.unexposed, hno y hy]
      have hto : s.prc.toPlan = some ⟨j.id, x.seq⟩ := by
        have : (fun y : Tile => decide (y.state = .metering)
            || (decide (y.state = .planned) && decide (s.prc.admReq ≠ some (j.ref y))))
            = fun y => decide (y.state = .metering ∨ y.state = .planned) := by
          funext y; simp [hadm]
        unfold Prc.toPlan
        rw [hplan, hj]
        refine (congrArg (Option.map j.ref) (congrArg (List.find? · j.tiles) this)).trans ?_
        rw [hx]
        rfl
      have hnot : s.prc.activeExposing = false := by
        rw [Bool.eq_false_iff, Ne, Prc.activeExposing_iff hj]
        exact fun ⟨y, hy, hys⟩ => hno y hy hys
      have hkp : (s.deliver .cruIdleReport).kickPlan = { s with
          prc := { s.prc.mapTile ⟨j.id, x.seq⟩ Tile.unplan with planReq := some ⟨j.id, x.seq⟩ }
          inFlight := s.inFlight.erase .cruIdleReport ++ [.planRequest (.prc ⟨j.id, x.seq⟩)] } := by
        have : (s.deliver .cruIdleReport).prc = s.prc := rfl
        unfold State.kickPlan
        rw [this, hto]
        dsimp only
        rw [hnot, State.calibrating]
        simp only [State.deliver_frame, hcru, ne_eq, not_true_eq_false, decide_false, Bool.or_self, Bool.false_eq_true,
          if_false]
        rw [State.mapTile_eq (s := s.deliver .cruIdleReport) hr, State.issuePlan_eq]
        · rfl
        · exact hcru
      have hactive := Prc.activeJob?_mapTile hj x.seq Tile.unplan
      have hkick : (s.deliver .cruIdleReport).kick = (s.deliver .cruIdleReport).kickPlan := by
        unfold State.kick
        rw [hexpo]
        dsimp only
        rw [if_pos (show (s.deliver .cruIdleReport).prc.run = .running from hrun)]
        refine State.kickNext_eq_self fun k hk => ?_
        rw [hkp] at hk
        have : k = j.withTile x.seq Tile.unplan := by
          have e : some k = some (j.withTile x.seq Tile.unplan) := hk.symm.trans hactive
          exact Option.some.inj e
        subst this
        exact .inr (.inl ⟨x.unplan, List.mem_map.2 ⟨x, hxm, by simp⟩, rfl⟩)
      refine ⟨_, (hexec hr).trans (congrArg Host.Outcome.next (hkick.trans hkp)), ?_, ?_, rfl, ?_, rfl⟩
      · exact ⟨rfl, rfl, rfl, rfl, rfl, rfl, rfl, rfl, rfl, rfl, .of_liu rfl⟩
      · exact .symm (Prc.otherRecords.symm (.of_mapTile (f := Tile.unplan) (fun _ => rfl) rfl))
      · refine (Prc.tile?_congr (p := s.prc.mapTile ⟨j.id, x.seq⟩ Tile.unplan) rfl _).trans ?_
        rw [Prc.tile?_mapTile_of (f := Tile.unplan) htile fun _ => rfl]
        rfl

/-! ## An accepted submission -/

/-- The queue before the place of a new job (R5). -/
def Prc.ahead (p : Prc) (rush : Bool) : List Nat := if rush then p.queue.takeWhile p.isRush else p.queue

/-- The queue behind the place of a new job (R5). -/
def Prc.behind (p : Prc) (rush : Bool) : List Nat := if rush then p.queue.dropWhile p.isRush else []

theorem Prc.enqueue_eq (p : Prc) (j : Job) : p.enqueue j = p.ahead j.rush ++ j.id :: p.behind j.rush := by
  cases h : j.rush <;> simp [Prc.enqueue, Prc.ahead, Prc.behind, h]

theorem Prc.ahead_append_behind (p : Prc) (rush : Bool) : p.ahead rush ++ p.behind rush = p.queue := by
  cases rush <;> simp [Prc.ahead, Prc.behind]

theorem Prc.isRush_of_mem_ahead {p : Prc} {id : Nat} (h : id ∈ p.ahead true) : p.isRush id = true :=
  List.mem_takeWhile_imp (show id ∈ p.queue.takeWhile p.isRush from h)

theorem Prc.isRush_of_head_behind {p : Prc} {id : Nat} (h : (p.behind true).head? = some id) : p.isRush id = false := by
  have hall := List.head?_dropWhile_not p.isRush p.queue
  rw [show p.queue.dropWhile p.isRush = p.behind true from rfl, h] at hall
  simpa using hall

/-- R2: an accepted job, appended and queued, with its notice. -/
def State.queueJob (s : State) (j : Job) : State :=
  State.notice { s with prc := { s.prc with
    jobs := s.prc.jobs ++ [j], queue := s.prc.ahead j.rush ++ j.id :: s.prc.behind j.rush } } j.notice

theorem State.acceptJob_eq (s : State) (j : Job) : s.acceptJob j
    = (if s.prc.run = .idle then (s.queueJob j).setRun .running else s.queueJob j).considerStart := by
  unfold State.acceptJob State.queueJob
  rw [Prc.enqueue_eq]
  rfl

theorem Prc.job?_append {p q : Prc} {j : Job} (hq : q.jobs = p.jobs ++ [j]) (hnew : ∀ x ∈ p.jobs, x.id ≠ j.id) :
    q.job? j.id = some j := by
  have hnone : p.jobs.find? (fun x => decide (x.id = j.id)) = none := List.find?_eq_none.2 fun x hx => by simp [hnew x hx]
  simp [Prc.job?, hq, List.find?_append, hnone]

theorem State.acceptJob_of_ne (s : State) (j : Job) (h : s.prc.run ≠ .idle) :
    s.acceptJob j = (s.queueJob j).considerStart := by rw [State.acceptJob_eq, if_neg h]

theorem State.acceptJob_of_idle (s : State) (j : Job) (h : s.prc.run = .idle) :
    s.acceptJob j = ((s.queueJob j).setRun .running).considerStart := by rw [State.acceptJob_eq, if_pos h]

/-- R20: the one job of the queue starts where nothing stands against it. -/
theorem State.considerStart_starts {u : State} {j : Job} (hr : u.prc.run = .running) (ha : u.prc.active = none)
    (hq : u.prc.queue = [j.id]) (hj : u.prc.job? j.id = some j) (hst : j.state.finished = false)
    (hv : u.startVerdict j = .go) :
    u.considerStart.prc.run = .running ∧ u.considerStart.prc.active = some j.id ∧ u.considerStart.prc.queue = []
      ∧ u.considerStart.prc.job? j.id = some { j with state := .loading, outcome := none }
      ∧ u.considerStart.inFlight = u.inFlight ++ [.loadRequest .prc j.position] := by
  rw [(State.considerStart_of_verdict hr ha hq hj).2.2 hv]
  obtain ⟨hact, hque, hrun, -, -, -, hrec, -, hmsg, -⟩ := State.startJob_spec hr hq hj hst
  exact ⟨hrun, hact, hque, hrec, hmsg⟩

/-- R2 and R20: a job that nothing stands against starts at its acceptance. -/
theorem State.acceptJob_starts {j : Job} (hrun : s.prc.run = .idle ∨ s.prc.run = .running) (ha : s.prc.active = none)
    (hq : s.prc.queue = []) (hst : j.state.finished = false) (hnew : ∀ x ∈ s.prc.jobs, x.id ≠ j.id)
    (hgo : s.startVerdict j = .go) :
    (s.acceptJob j).prc.run = .running ∧ (s.acceptJob j).prc.active = some j.id ∧ (s.acceptJob j).prc.queue = []
      ∧ (s.acceptJob j).prc.job? j.id = some { j with state := .loading, outcome := none }
      ∧ (s.acceptJob j).inFlight = s.inFlight ++ [.loadRequest .prc j.position] := by
  have hplace : s.prc.ahead j.rush ++ j.id :: s.prc.behind j.rush = [j.id] := by
    obtain ⟨h1, h2⟩ := List.append_eq_nil_iff.1 ((s.prc.ahead_append_behind j.rush).trans hq)
    rw [h1, h2]; rfl
  obtain hi | hr := hrun
  · have hne : (s.queueJob j).prc.run ≠ .running := by rw [show (s.queueJob j).prc.run = .idle from hi]; nofun
    rw [State.acceptJob_of_idle _ _ hi, State.setRun_of_ne hne]
    exact State.considerStart_starts rfl ha hplace (Prc.job?_append rfl hnew) hst hgo
  · rw [State.acceptJob_of_ne _ _ (by rw [hr]; nofun)]
    exact State.considerStart_starts hr ha hplace (Prc.job?_append rfl hnew) hst hgo

theorem clampEntry_eq_self_iff (e : PlanEntry) :
    clampEntry e = e ↔ ¬ (e.time = 0 ∨ 80000 < e.time ∨ e.drive = 0 ∨ 4096 < e.drive) := by
  cases e
  simp only [clampEntry, clampTo, PlanEntry.mk.injEq]
  omega

theorem submissionClamped_iff (sub : Submission) : submissionClamped sub = true
    ↔ sub.policy = 1 ∧ ∃ e ∈ sub.plan, e.time = 0 ∨ 80000 < e.time ∨ e.drive = 0 ∨ 4096 < e.drive := by
  have hmap : sub.plan.map clampEntry = sub.plan ↔ ∀ e ∈ sub.plan, clampEntry e = e :=
    ⟨fun h => List.map_eq_map_iff.1 (h.trans (List.map_id _).symm), fun h => (List.map_congr_left h).trans (List.map_id _)⟩
  simp only [submissionClamped, Bool.and_eq_true, decide_eq_true_eq, ne_eq, hmap, clampEntry_eq_self_iff]
  simp only [not_forall, not_not, exists_prop]

/-- An accepted submission. -/
theorem exec_submitJob_accepted {h : Hdr} {sub : Submission} (ht : s.takes h) (hf : sub.fits = true) (ho : ¬ sub.outside)
    (hnew : ∀ j ∈ s.prc.jobs, j.id ≠ sub.jobId) (hclaim : ¬ s.prc.claims? sub.position) (hroom : s.prc.jobs.length < 32) :
    exec (.submitJob h (encodeSubmission sub)) s = .next ((s.acceptJob (newJob sub)).replied h .submitJob
      (if submissionClamped sub = true then .clamped else .ok)
      (.accepted (newJob sub).cols (newJob sub).rows ((newJob sub).cols * (newJob sub).rows - (newJob sub).masked))) := by
  have hcheck : s.prc.checkSubmission (encodeSubmission sub) = .ok sub := by
    rw [Prc.checkSubmission_encode _ hf, (fieldCheck_iff sub).2 ho, (Prc.job?_eq_none_iff _ _).2 hnew]
    have : s.prc.claimed sub.position = false := by rwa [← Bool.not_eq_true, Prc.claimed_iff]
    simp [this, jobCapacity, hroom]
  refine congrArg Host.Outcome.next ((command_eq_replied ht).trans ?_)
  simp [State.submit, hcheck]

/-- Settles O15. -/
theorem submitJobAccepted : Obligations.SubmitJobAccepted := by
  intro h sub s ht hf ho hnew hclaim hroom
  have hexec := exec_submitJob_accepted ht hf ho hnew hclaim hroom
  have hstatus : (if submissionClamped sub = true then Status.clamped else .ok) = if sub.policy = 1
      ∧ ∃ e ∈ sub.plan, e.time = 0 ∨ 80000 < e.time ∨ e.drive = 0 ∨ 4096 < e.drive then .clamped else .ok :=
    if_congr (submissionClamped_iff sub) rfl rfl
  rw [hstatus] at hexec
  refine ⟨newJob sub, s.prc.ahead (newJob sub).rush, s.prc.behind (newJob sub).rush, ?_, ?_, ?_, ?_,
    (s.prc.ahead_append_behind _).symm, fun hr => ?_, fun hr => ?_, rfl, rfl, rfl, rfl, rfl, rfl, rfl, rfl, rfl, rfl, rfl,
    fun hp => ?_, fun hp => ?_, rfl, rfl, rfl, rfl, rfl, newJob_countLaw _⟩
  · intro hrun
    have hbusy : ¬ ((s.queueJob (newJob sub)).prc.run = .running ∧ (s.queueJob (newJob sub)).prc.active = none) := by
      show ¬ (s.prc.run = .running ∧ s.prc.active = none)
      rintro ⟨hr, ha⟩
      obtain h | ⟨c, h⟩ | ⟨-, h⟩ := hrun
      · rw [hr] at h; cases h
      · rw [hr] at h; cases h
      · exact h ha
    have hidle : s.prc.run ≠ .idle := by
      obtain h | ⟨c, h⟩ | ⟨h, -⟩ := hrun <;> rw [h] <;> nofun
    rw [hexec, State.acceptJob_of_ne _ _ hidle, State.considerStart_eq_self hbusy]
    rfl
  · intro hno hr ha
    refine ⟨_, rfl, ?_⟩
    rw [hexec, State.acceptJob_of_ne _ _ (by rw [hr]; nofun)]
    rw [State.deliver_eq_self (by exact hno)]
    rfl
  · intro hno hi
    refine ⟨_, rfl, ?_⟩
    have hne : (s.queueJob (newJob sub)).prc.run ≠ .running := by
      rw [show (s.queueJob (newJob sub)).prc.run = .idle from hi]; nofun
    rw [hexec, State.acceptJob_of_idle _ _ hi, State.setRun_of_ne hne]
    rw [State.deliver_eq_self (by exact hno)]
    rfl
  · intro hrun ha hq hreq htrs hsfe hblu hcru hd hp
    have hgo : s.startVerdict (newJob sub) = .go := by
      have hpass : s.TrsPasses := ⟨hreq, .inl htrs⟩
      rw [State.startVerdict_last hpass hsfe hblu, if_neg (not_not.2 hcru), if_neg (by simp [newJob, hd, hp]),
        if_pos htrs]
    refine ⟨_, hexec, ?_⟩
    exact State.acceptJob_starts hrun ha hq rfl hnew hgo
  · simp [Prc.behind, newJob, hr]
  · simp only [newJob, hr, decide_true]
    exact ⟨fun id => Prc.isRush_of_mem_ahead, fun id => Prc.isRush_of_head_behind⟩
  · simp [newJob, hp]
  · simp [newJob, hp, clampEntry, clampTo]

end Sys2Proof.Machine
end

section
/-! PROOFS. Table 1.3's tile cycle as PRC moves it: a tile moved, begun and brought back, a record changed, the hold
point; then the reports of the motions (R21 to R23, R27, R36). -/

namespace Sys2Proof.Machine

variable {s t u : State}

/-! ## Nothing but PRC -/

theorem State.prcOnly.of_prc {p : Prc} {m : List Instr} : s.prcOnly { s with prc := p, inFlight := m } :=
  ⟨rfl, rfl, rfl, rfl, rfl, rfl, rfl, rfl, rfl, rfl, .of_liu rfl⟩

theorem State.prcOnly.of_frame (h : s.noticesOnly t) (hf : t.bpl = s.bpl ∧ t.fst = s.fst ∧ t.sfe = s.sfe
    ∧ t.blu = s.blu ∧ t.trs = s.trs ∧ t.bme = s.bme ∧ t.cru = s.cru ∧ t.sou = s.sou ∧ t.freeCount = s.freeCount
    ∧ t.pending = s.pending) : s.prcOnly t := by
  obtain ⟨h1, h2, h3, h4, h5, h6, h7, h8, h9, h10⟩ := hf
  exact ⟨h1, h2, h3, h4, h5, h6, h7, h8, h9, h10, h⟩

theorem State.prcOnly.trans (h1 : s.prcOnly t) (h2 : t.prcOnly u) : s.prcOnly u := by
  obtain ⟨a1, a2, a3, a4, a5, a6, a7, a8, a9, a10, a⟩ := h1
  obtain ⟨b1, b2, b3, b4, b5, b6, b7, b8, b9, b10, b⟩ := h2
  exact ⟨b1.trans a1, b2.trans a2, b3.trans a3, b4.trans a4, b5.trans a5, b6.trans a6, b7.trans a7, b8.trans a8,
    b9.trans a9, b10.trans a10, a.trans b⟩

theorem State.prcOnly.goHeld (h : s.prcOnly t) (c : HoldCause) : s.prcOnly (t.goHeld c) :=
  h.trans (.of_frame ((State.noticesOnly.of_liu rfl).goHeld c) (by simp))

theorem State.prcOnly.tryHoldPoint (h : s.prcOnly t) : s.prcOnly t.tryHoldPoint := by
  unfold State.tryHoldPoint
  split
  · exact h.goHeld _
  · exact h

theorem State.prcOnly.issuePlan (h : s.prcOnly t) (r : TileRef) : s.prcOnly (t.issuePlan r) := by
  unfold State.issuePlan
  split
  · exact h
  · exact h.trans .of_prc

theorem State.prcOnly.setJob (h : s.prcOnly t) (id : Nat) (st : JobState) (out : Option JobOutcome) :
    s.prcOnly (t.setJob id st out) :=
  h.trans (.of_frame ((State.noticesOnly.of_liu rfl).setJob ..) (by simp))

theorem State.prcOnly.recordJob (h : s.prcOnly t) (k : Job) : s.prcOnly (t.recordJob k) :=
  h.trans (.of_frame (.of_raise rfl) ⟨rfl, rfl, rfl, rfl, rfl, rfl, rfl, rfl, rfl, rfl⟩)

/-! ## A record changed -/

theorem Prc.unique_of_tableLaw {p : Prc} (h : p.tableLaw) {k : Job} (hk : p.job? k.id = some k) :
    ∀ x ∈ p.jobs, x.id = k.id → x = k := fun x hx e => by
  have := Prc.job?_of_mem h.2.1 hx
  rw [e, hk] at this
  exact (Option.some.inj this).symm

theorem State.recordJob_job?_self {k j : Job} (h : s.prc.job? k.id = some j) : (s.recordJob k).prc.job? k.id = some k := by
  show List.find? (fun x : Job => decide (x.id = k.id)) (s.prc.jobs.map fun x : Job => if x.id = k.id then k else x) = _
  have hf : ((fun x : Job => decide (x.id = k.id)) ∘ fun x => if x.id = k.id then k else x)
      = fun x => decide (x.id = k.id) := by
    funext x
    by_cases hx : x.id = k.id <;> simp [hx]
  rw [List.find?_map, hf, show s.prc.jobs.find? (fun x => decide (x.id = k.id)) = some j from h]
  simp [Prc.job?_id h]

theorem State.recordJob_job?_ne {k : Job} {i : Nat} (hi : i ≠ k.id) : (s.recordJob k).prc.job? i = s.prc.job? i := by
  show List.find? (fun x : Job => decide (x.id = i)) (s.prc.jobs.map fun x : Job => if x.id = k.id then k else x) = _
  have hf : ((fun x : Job => decide (x.id = i)) ∘ fun x => if x.id = k.id then k else x) = fun x => decide (x.id = i) := by
    funext x
    by_cases hx : x.id = k.id
    · simp [hx, hi.symm]
    · simp [hx]
  rw [List.find?_map, hf]
  show Option.map _ (s.prc.job? i) = _
  cases h : s.prc.job? i with
  | none => rfl
  | some x =>
    have hid := Prc.job?_id h
    rw [Option.map_some, if_neg (by rw [hid]; exact hi)]

/-- A change of a record but for its tiles leaves every tile. -/
theorem State.recordJob_tile? {k j : Job} (h : s.prc.job? k.id = some j) (ht : k.tiles = j.tiles) (r : TileRef) :
    (s.recordJob k).prc.tile? r = s.prc.tile? r := by
  unfold Prc.tile?
  by_cases hr : r.job = k.id
  · rw [hr, State.recordJob_job?_self h, h]
    simp [ht]
  · rw [State.recordJob_job?_ne hr]

theorem State.recordJob_otherRecords {k j : Job} (h : s.prc.job? k.id = some j) (ht : k.tiles = j.tiles) {r : TileRef}
    (hr : r.job = k.id) : (s.recordJob k).prc.otherRecords s.prc r :=
  ⟨fun i hi => (State.recordJob_job?_ne (by rw [← hr]; exact hi)).symm, fun _ _ => (State.recordJob_tile? h ht _).symm⟩

/-! ## A tile moved -/

/-- A tile in another state, if it has not ended (Table 1.4). -/
def Tile.moved (st : TileState) (x : Tile) : Tile := if x.state.ended then x else { x with state := st }

theorem Tile.moved_of {x : Tile} (h : x.state.ended = false) (st : TileState) : x.moved st = { x with state := st } := by
  simp [Tile.moved, h]

theorem Tile.moved_seq (st : TileState) (x : Tile) : (x.moved st).seq = x.seq := by
  unfold Tile.moved; split <;> rfl

theorem State.moveTile_eq (hr : s.prc.run ≠ .quiescing) (r : TileRef) (st : TileState) :
    s.moveTile r st = { s with prc := s.prc.mapTile r (Tile.moved st) } := State.mapTile_eq hr

/-- R22: a tile is begun. -/
theorem State.beginTile_eq (hr : s.prc.run ≠ .quiescing) {r : TileRef} {x : Tile} (hx : s.prc.tile? r = some x) :
    s.beginTile r = { s with
      prc := { s.prc.mapTile r (Tile.moved .positioning) with trsReq := some (.move r.seq) }
      inFlight := s.inFlight ++ [.moveRequest .prc (.point x.cx x.cy)] } := by
  unfold State.beginTile
  rw [hx]
  dsimp only
  rw [State.moveTile_eq hr]
  rfl

theorem State.beginNext_eq (hr : s.prc.run ≠ .quiescing) {j : Job} {x : Tile} (hj : s.prc.activeJob? = some j)
    (hx : j.tiles.find? (fun y => decide (y.state = .pending)) = some x) (ht : s.prc.tile? ⟨j.id, x.seq⟩ = some x) :
    s.beginNext = { s with
      prc := { s.prc.mapTile ⟨j.id, x.seq⟩ (Tile.moved .positioning) with trsReq := some (.move x.seq) }
      inFlight := s.inFlight ++ [.moveRequest .prc (.point x.cx x.cy)] } := by
  unfold State.beginNext
  rw [Prc.firstTile_of_find hj hx]
  exact State.beginTile_eq hr ht

/-- R27: the stage is asked back to a tile. -/
theorem State.bringBack_eq {r : TileRef} {x : Tile} (hx : s.prc.tile? r = some x) : s.bringBack r = { s with
    prc := { s.prc with trsReq := some (.moveBack r.seq) }
    inFlight := s.inFlight ++ [.moveRequest .prc (.point x.cx x.cy)] } := by
  unfold State.bringBack
  rw [hx]
  rfl

theorem Prc.tile?_moved {p q : Prc} {r : TileRef} {x : Tile} {st : TileState} (hx : p.tile? r = some x)
    (he : x.state.ended = false) (hq : q.jobs = (p.mapTile r (Tile.moved st)).jobs) :
    q.tile? r = some { x with state := st } := by
  rw [Prc.tile?_congr hq, Prc.tile?_mapTile_of hx (Tile.moved_seq st), Tile.moved_of he]

/-! ## The hold point -/

theorem State.goHeld_prc_of_unheld (c : HoldCause) (h : s.prc.run = .running ∨ s.prc.run = .holding ∨ s.prc.run = .idle) :
    (s.goHeld c).prc = { s.prc with run := .held c } := by
  rw [State.goHeld_of_unheld c h, State.setRun_prc]

/-- R31: with nothing asked for and no tile to expose, the hold point is reached. -/
theorem Prc.outstanding_of {p : Prc} (h1 : p.trsReq = none) (h2 : p.unloadNext = none) (h3 : p.planReq = none)
    (h4 : p.expReq = none) (hx : ∀ j, p.activeJob? = some j → ∀ x ∈ j.tiles, x.state ≠ .exposing) :
    p.outstanding = false :=
  Prc.outstanding_eq_false_iff.2 ⟨h1, h2, h3, h4, Prc.firstTile_eq_none_iff.2 fun j hj x hxj => by
    simp [Tile.unexposed, hx j hj x hxj]⟩

theorem State.tryHoldPoint_of_ne (h : s.prc.run ≠ .holding) : s.tryHoldPoint = s :=
  State.tryHoldPoint_eq_self fun k => h k.1

/-- A start, and a hold that takes its place, end in no HOLDING run. -/
theorem State.considerStart_ne_holding (h : s.prc.run ≠ .holding) : s.considerStart.prc.run ≠ .holding := by
  unfold State.considerStart
  split
  case isFalse => exact h
  case isTrue k =>
    split
    · exact h
    · split
      · exact h
      · rw [State.goHeld_prc_of_unheld _ (.inl k.1)]; nofun
      · unfold State.startJob
        rw [show ∀ v : State, ((v.stopIdle).emit _).prc = v.prc from fun _ => rfl, State.setJob_prc]
        exact h

/-! ## The load (R21) -/

theorem State.loadDone_eq {j : Job} (hreq : s.prc.trsReq = some .load) (hj : s.prc.activeJob? = some j) :
    (s.prc.abortMark = true → s.loadDone = s.trsAnswered.issueUnload .unload)
      ∧ (s.prc.abortMark = false → s.loadDone = if s.prc.run = .running
        then (s.trsAnswered.setJob j.id .capturing none).beginNext
        else (s.trsAnswered.setJob j.id .capturing none).tryHoldPoint) := by
  unfold State.loadDone
  rw [hreq, hj]
  refine ⟨fun h => if_pos h, fun h => (if_neg (show ¬ s.trsAnswered.prc.abortMark = true by
    rw [show s.trsAnswered.prc.abortMark = s.prc.abortMark from rfl, h]; nofun)).trans ?_⟩
  have hrun : (s.trsAnswered.setJob j.id .capturing none).prc.run = s.prc.run := by rw [State.setJob_prc]; rfl
  simp only [hrun]

theorem not_mem_withdrawals (p : Prc) (r : TileRef) (st : TileState) : Instr.startJob ∉ p.withdrawals r st := by
  cases st <;> simp [Prc.withdrawals]

theorem Job.without_ended (j : Job) : ∀ x ∈ (j.without fun st => !st.ended).tiles,
    x.state = .masked ∨ x.state = .sent ∨ x.state = .abandoned := by
  intro x hx
  obtain ⟨y, -, rfl⟩ := List.mem_map.1 hx
  cases h : y.state <;> simp [TileState.ended, h]

end Sys2Proof.Machine
end

section
/-! PROOFS. The reports of the loads and the moves that PRC asks for (R21 to R23, R27, R31, R36). -/

namespace Sys2Proof.Machine

variable {s t u : State}

/-- What ends a job that never came to the stage (R36). -/
theorem State.loadNoCarrier_eq {j : Job} (hr : s.prc.run ≠ .quiescing) (htab : s.prc.tableLaw) (hcount : j.countLaw)
    (hreq : s.prc.trsReq = some .load) (hj : s.prc.activeJob? = some j) (hst : j.state = .loading) :
    let gone : State := s.trsAnswered.tilesGone j fun st => !st.ended
    s.loadNoCarrier = State.afterJob (State.recordJob
      { gone with prc := { gone.prc with active := none, abortMark := false, unloadNext := none } }
      { (j.without fun st => !st.ended) with state := .failed, outcome := some (.failed .noCarrier) }) := by
  obtain ⟨hact, hjob⟩ := Prc.activeJob?_eq_some hj
  have hgone : s.trsAnswered.abandonTiles j (fun st => !st.ended) = s.trsAnswered.tilesGone j fun st => !st.ended :=
    State.abandonTiles_eq _ _ _ hr htab.2.1 (Prc.job?_mem hjob) hcount.nodup_seq (by simp)
  have hrec := State.tilesGone_job s.trsAnswered j (fun st => !st.ended) hjob
  unfold State.loadNoCarrier
  rw [hreq, hj]
  dsimp only
  rw [hgone]
  refine congrArg State.afterJob (State.setJob_eq _ (j.without fun st => !st.ended) _ _ hrec ?_ hr ?_)
  · intro x hx e
    obtain ⟨y, hy, rfl⟩ := List.mem_map.1 hx
    by_cases hid : y.id = j.id
    · simp [hid]
    · rw [if_neg hid] at e; exact absurd e hid
  · show j.state.finished = false
    rw [hst]; rfl

/-- Settles O23. -/
theorem loadReports : Obligations.LoadReports := by
  refine ⟨fun s j htab hcount hr hreq hj hst => ?_, fun s j htab hcount hreq hj hst => ?_⟩
  · obtain ⟨hact, hjob⟩ := Prc.activeJob?_eq_some hj
    have hexec : exec .loadComplete s = .next (s.deliver .loadComplete).loadDone :=
      congrArg Host.Outcome.next (State.prcEvent_eq (s := s.deliver .loadComplete) hr)
    obtain ⟨hmark, hno⟩ := State.loadDone_eq (s := s.deliver .loadComplete) hreq hj
    have hset : (s.deliver .loadComplete).trsAnswered.setJob j.id .capturing none
        = (s.deliver .loadComplete).trsAnswered.recordJob { j with state := .capturing, outcome := none } :=
      State.setJob_eq _ j _ _ hjob (Prc.unique_of_tableLaw htab hjob) hr (by rw [hst]; rfl)
    rw [hset] at hno
    refine ⟨fun h => ?_, fun x hrun h hx => ?_, fun h => ⟨fun c hrun => ?_, fun hrun hun hplan hexp htiles => ?_⟩⟩
    · exact ⟨_, hexec.trans (congrArg _ (hmark h)), .of_prc, rfl, rfl⟩
    · have hxs : x.state = .pending := by simpa using List.find?_some hx
      have htile := Prc.tile?_of_mem hjob hcount (List.mem_of_find?_eq_some hx)
      generalize hd : (s.deliver .loadComplete).trsAnswered = d at hno hset
      have hdjob : d.prc.job? j.id = some j := by rw [← hd]; exact hjob
      have hdact : d.prc.active = some j.id := by rw [← hd]; exact hact
      have hdr : d.prc.run ≠ .quiescing := by rw [← hd]; exact hr
      have hrecord := State.recordJob_job?_self (s := d) (k := { j with state := .capturing, outcome := none }) hdjob
      have hrtile : (d.recordJob { j with state := .capturing, outcome := none }).prc.tile? ⟨j.id, x.seq⟩ = some x := by
        rw [State.recordJob_tile? (s := d) (k := { j with state := .capturing, outcome := none }) hdjob rfl, ← hd]; exact htile
      have hnext := State.beginNext_eq (s := d.recordJob { j with state := .capturing, outcome := none }) hdr
        (j := { j with state := .capturing, outcome := none }) (Prc.activeJob?_of hdact hrecord) hx hrtile
      refine ⟨_, hexec.trans (congrArg _ ((hno h).trans ((if_pos hrun).trans hnext))), ?_, ?_, ?_,
        Prc.tile?_moved hrtile (by rw [hxs]; rfl) rfl, rfl, ?_, ?_, ?_⟩
      · exact (State.prcOnly.recordJob (by rw [← hd]; exact .of_prc) _).trans .of_prc
      · refine Prc.otherRecords.trans (.of_mapTile (Tile.moved_seq _) rfl)
          ((State.recordJob_otherRecords (k := { j with state := .capturing, outcome := none }) hdjob rfl rfl).trans (.of_jobs ?_))
        rw [← hd]; rfl
      · refine (congrArg (Option.map _) (Prc.job?_mapTile hrecord x.seq _)).trans rfl
      · rw [← hd]; rfl
      · rw [← hrun, ← hd]; rfl
      · rw [← hd]; rfl
    · have hne : s.prc.run ≠ .running := by rw [hrun]; nofun
      have hnh : s.prc.run ≠ .holding := by rw [hrun]; nofun
      exact hexec.trans (congrArg _ ((hno h).trans ((if_neg hne).trans (State.tryHoldPoint_of_ne hnh))))
    · have hne : s.prc.run ≠ .running := by rw [hrun]; nofun
      refine hexec.trans (congrArg _ ((hno h).trans ((if_neg hne).trans (State.tryHoldPoint_eq hrun ?_))))
      · refine Prc.outstanding_of rfl hun hplan hexp fun k hk x hx => ?_
        have hrec := State.recordJob_job?_self (s := (s.deliver .loadComplete).trsAnswered)
          (k := { j with state := .capturing, outcome := none }) hjob
        rw [Prc.activeJob?_of (by exact hact) hrec] at hk
        cases hk
        obtain h | h := htiles x hx <;> rw [h] <;> nofun
  · obtain ⟨hact, hjob⟩ := Prc.activeJob?_eq_some hj
    have hexec : s.prc.run ≠ .quiescing → exec .noCarrier s = .next (s.deliver .noCarrier).loadNoCarrier := fun hr =>
      congrArg Host.Outcome.next (State.prcEvent_eq (s := s.deliver .noCarrier) hr)
    have heq := fun hr : s.prc.run ≠ .quiescing => (hexec hr).trans (congrArg _
      (State.loadNoCarrier_eq (s := s.deliver .noCarrier) hr htab (hcount j (Prc.job?_mem hjob)) hreq hj hst))
    intro gone u
    have hurun : u.prc.run = s.prc.run := rfl
    have hua : u.prc.active = none := rfl
    have huq : u.prc.queue = s.prc.queue := rfl
    refine ⟨j.without_ended, fun hrun hq => ?_, fun hrun hq hno => ?_, fun c hrun => ?_, fun hrun hplan hexp => ?_⟩
    · have hidle := State.setRun_of_ne (s := u) (r := .idle) (by rw [hurun, hrun]; nofun)
      rw [huq, hua, hq] at hidle
      refine (heq (by rw [hrun]; nofun)).trans (congrArg Host.Outcome.next ?_)
      show (u.idleCheck.considerStart.tryHoldPoint).startIdle = _
      rw [show u.idleCheck = u.setRun .idle from if_pos ⟨hurun.trans hrun, hua, huq.trans hq⟩, hidle]
      rw [State.considerStart_eq_self (by nofun), State.tryHoldPoint_of_ne (by nofun)]
      rfl
    · refine ⟨u.considerStart, ?_, (heq (by rw [hrun]; nofun)).trans (congrArg Host.Outcome.next ?_)⟩
      · refine congrArg (fun v : State => Host.Outcome.next v.considerStart) (State.deliver_eq_self (s := u) ?_)
        intro hm
        obtain hm | hm := List.mem_append.1 hm
        · exact hno (List.mem_of_mem_erase hm)
        · obtain ⟨x, -, hx⟩ := List.mem_flatMap.1 hm
          exact not_mem_withdrawals _ _ _ hx
      · show (u.idleCheck.considerStart.tryHoldPoint).startIdle = _
        rw [show u.idleCheck = u from if_neg fun k => hq (huq.symm.trans k.2.2),
          State.tryHoldPoint_of_ne (State.considerStart_ne_holding (by rw [hurun, hrun]; nofun))]
    · refine (heq (by rw [hrun]; nofun)).trans (congrArg Host.Outcome.next ?_)
      show (u.idleCheck.considerStart.tryHoldPoint).startIdle = _
      have hne : u.prc.run ≠ .running := by rw [hurun, hrun]; nofun
      rw [show u.idleCheck = u from if_neg fun k => hne k.1, State.considerStart_eq_self fun k => hne k.1,
        State.tryHoldPoint_of_ne (by rw [hurun, hrun]; nofun)]
    · refine (heq (by rw [hrun]; nofun)).trans (congrArg Host.Outcome.next ?_)
      show (u.idleCheck.considerStart.tryHoldPoint).startIdle = _
      have hne : u.prc.run ≠ .running := by rw [hurun, hrun]; nofun
      rw [show u.idleCheck = u from if_neg fun k => hne k.1, State.considerStart_eq_self fun k => hne k.1,
        State.tryHoldPoint_eq (hurun.trans hrun)]
      · rfl
      · refine Prc.outstanding_of rfl rfl ?_ ?_ fun k hk => ?_
        · show j.requestLeft _ _ s.prc.planReq = none
          rw [hplan]; simp [Job.requestLeft]
        · show j.requestLeft _ _ s.prc.expReq = none
          rw [hexp]; simp [Job.requestLeft]
        · cases hk


/-! ## The settle (R23, R27) -/

theorem Prc.tileState?_of {p : Prc} {r : TileRef} {x : Tile} (h : p.tile? r = some x) : p.tileState? r = some x.state := by
  simp [Prc.tileState?, h]

theorem Prc.tile?_some {p : Prc} {r : TileRef} {x : Tile} (h : p.tile? r = some x) :
    ∃ j, p.job? r.job = some j ∧ x ∈ j.tiles ∧ x.seq = r.seq := by
  unfold Prc.tile? at h
  cases hj : p.job? r.job with
  | none => rw [hj] at h; cases h
  | some j =>
    rw [hj] at h
    exact ⟨j, rfl, List.mem_of_find?_eq_some h, by simpa using List.find?_some h⟩

theorem State.settled_unload {k : Nat} {r : TrsRequest}
    (h : s.prc.trsReq = some (.move k) ∨ s.prc.trsReq = some (.moveBack k)) (hu : s.prc.unloadNext = some r) :
    s.settled = s.trsAnswered.issueUnload r := by
  obtain h | h := h <;> simp [State.settled, h, State.trsAnswered, hu]

theorem State.settled_inactive {k : Nat} (h : s.prc.trsReq = some (.move k) ∨ s.prc.trsReq = some (.moveBack k))
    (hu : s.prc.unloadNext = none) (ha : s.prc.active = none) : s.settled = s.trsAnswered.tryHoldPoint := by
  obtain h | h := h <;> simp [State.settled, h, State.trsAnswered, hu, ha]

theorem State.settled_brought {k id : Nat} (h : s.prc.trsReq = some (.moveBack k)) (hu : s.prc.unloadNext = none)
    (ha : s.prc.active = some id) : s.settled = s.trsAnswered.broughtBack := by
  simp [State.settled, h, State.trsAnswered, hu, ha]

theorem State.settled_retry {k id : Nat} {r : TileRef} (h : s.prc.trsReq = some (.move k)) (hu : s.prc.unloadNext = none)
    (ha : s.prc.active = some id) (hb : s.prc.retryBack = some r) :
    s.settled = (s.trsAnswered.moveTile ⟨id, k⟩ .pending).bringBack r := by
  simp [State.settled, h, State.trsAnswered, hu, ha, hb]

theorem State.settled_metering {k id : Nat} {x : Tile} (h : s.prc.trsReq = some (.move k)) (hu : s.prc.unloadNext = none)
    (ha : s.prc.active = some id) (hb : s.prc.retryBack = none) (hx : s.prc.tile? ⟨id, k⟩ = some x)
    (hxs : x.state = .positioning) : s.settled = s.trsAnswered.tileSettled ⟨id, k⟩ := by
  have hts : s.trsAnswered.prc.tileState? ⟨id, k⟩ = some .positioning := by
    rw [← hxs]; exact Prc.tileState?_of (p := s.prc) hx
  unfold State.settled
  rw [h]
  dsimp only
  rw [show s.trsAnswered.prc.unloadNext = none from hu, ha]
  dsimp only
  rw [show s.trsAnswered.prc.retryBack = none from hb]
  dsimp only
  rw [if_neg (by simp), if_pos hts]

/-- R23: a tile whose move has settled. -/
def Tile.metered (x : Tile) : Tile := if x.state.ended then x else { x with state := .metering, attempts := 0 }

theorem Tile.metered_seq (x : Tile) : x.metered.seq = x.seq := by unfold Tile.metered; split <;> rfl

theorem Tile.metered_ne_exposing {x : Tile} (h : x.state ≠ .exposing) : x.metered.state ≠ .exposing := by
  unfold Tile.metered
  split
  · exact h
  · nofun

/-- With no tile EXPOSING there is none after a change that makes none so. -/
theorem Prc.activeExposing_mapTile_false {p : Prc} {r : TileRef} {f : Tile → Tile} (h : p.activeExposing = false)
    (hf : ∀ x, x.state ≠ .exposing → (f x).state ≠ .exposing) : (p.mapTile r f).activeExposing = false := by
  rw [Bool.eq_false_iff] at h ⊢
  intro k
  cases hk : (p.mapTile r f).activeJob? with
  | none => simp [Prc.activeExposing, hk] at k
  | some i =>
    obtain ⟨x, hx, hxs⟩ := (Prc.activeExposing_iff hk).1 k
    obtain ⟨ha, hid⟩ := Prc.activeJob?_eq_some hk
    by_cases hij : i.id = r.job
    · rw [hij, Prc.job?_mapTile_self] at hid
      obtain ⟨j, hj, rfl⟩ := Option.map_eq_some_iff.1 hid
      obtain ⟨y, hy, rfl⟩ := List.mem_map.1 hx
      have hact : p.activeJob? = some j := Prc.activeJob?_of (by rw [← hij] at hj; exact ha) (by rw [← hij] at hj; exact hj)
      refine h ((Prc.activeExposing_iff hact).2 ⟨y, hy, ?_⟩)
      by_contra hne
      by_cases hs : y.seq = r.seq
      · rw [if_pos hs] at hxs; exact hf y hne hxs
      · rw [if_neg hs] at hxs; exact hne hxs
    · rw [Prc.job?_mapTile_ne _ _ _ _ hij] at hid
      exact h ((Prc.activeExposing_iff (Prc.activeJob?_of (p := p) ha hid)).2 ⟨x, hx, hxs⟩)

/-- A tile EXPOSING stays the one that is, through a change of another. -/
theorem Prc.activeExposing_mapTile_true {p : Prc} {id k : Nat} {f : Tile → Tile} (h : p.activeExposing = true)
    (hc : p.countLaw) {x : Tile} (ha : p.active = some id) (hx : p.tile? ⟨id, k⟩ = some x)
    (hxs : x.state ≠ .exposing) : (p.mapTile ⟨id, k⟩ f).activeExposing = true := by
  obtain ⟨j, hj, hxj, hseq⟩ := Prc.tile?_some hx
  have hid := Prc.job?_id hj
  subst hid
  have hact : p.activeJob? = some j := Prc.activeJob?_of ha hj
  obtain ⟨y, hy, hys⟩ := (Prc.activeExposing_iff hact).1 h
  have hne : y.seq ≠ k := fun e => by
    have hjy := Prc.tile?_of_mem hj (hc j (Prc.job?_mem hj)) hy
    rw [e, hx] at hjy
    exact hxs (by rw [Option.some.inj hjy, hys])
  refine (Prc.activeExposing_iff (Prc.activeJob?_mapTile hact k f)).2 ⟨y, List.mem_map.2 ⟨y, hy, ?_⟩, hys⟩
  rw [if_neg hne]

theorem State.tileSettled_eq (hr : s.prc.run ≠ .quiescing) (r : TileRef) :
    let v : State := { s with prc := s.prc.mapTile r Tile.metered }
    s.tileSettled r = if s.prc.run = .running ∧ v.prc.activeExposing = false then v.issuePlan r else v.tryHoldPoint := by
  unfold State.tileSettled
  dsimp only
  rw [State.mapTile_eq hr]
  rfl

/-- Settles O24. -/
theorem settleCompletion : Obligations.SettleCompletion := by
  have hexec : ∀ s : State, s.prc.run ≠ .quiescing →
      exec .settleCompletion s = .next (s.deliver .settleCompletion).settled := fun s hr =>
    congrArg Host.Outcome.next (State.prcEvent_eq (s := s.deliver .settleCompletion) hr)
  refine ⟨fun s k hr hreq => ⟨fun r hu => ?_, fun hu ha => ⟨fun hne => ?_, fun hrun hplan hexp => ?_⟩⟩,
    fun s id k hr ha => ⟨fun x hreq hu hb hx hxs => ?_, fun r hreq hu hb he => ?_,
      fun r x y hreq hu hb hne hy hx hxs => ?_⟩⟩
  · exact ⟨_, (hexec s hr).trans (congrArg _ (State.settled_unload (s := s.deliver .settleCompletion) hreq hu)),
      .of_prc, rfl, rfl⟩
  · exact (hexec s hr).trans (congrArg _ ((State.settled_inactive (s := s.deliver .settleCompletion) hreq hu ha).trans
      (State.tryHoldPoint_of_ne hne)))
  · refine (hexec s hr).trans (congrArg _ ((State.settled_inactive (s := s.deliver .settleCompletion) hreq hu ha).trans
      (State.tryHoldPoint_eq hrun (Prc.outstanding_of rfl hu hplan hexp fun j hj => ?_))))
    rw [Prc.activeJob?_none (by exact ha)] at hj
    cases hj
  · obtain ⟨v, hv⟩ : ∃ v : State, v = { s with
        prc := { s.prc.mapTile ⟨id, k⟩ Tile.metered with trsReq := none }
        inFlight := s.inFlight.erase .settleCompletion } := ⟨_, rfl⟩
    have heq : exec .settleCompletion s = .next (if s.prc.run = .running ∧ v.prc.activeExposing = false
        then v.issuePlan ⟨id, k⟩ else v.tryHoldPoint) := by
      refine (hexec s hr).trans (congrArg _ ((State.settled_metering (s := s.deliver .settleCompletion)
        hreq hu ha hb hx hxs).trans ?_))
      rw [hv]
      exact State.tileSettled_eq (s := (s.deliver .settleCompletion).trsAnswered) hr _
    have honly : s.prcOnly v := by rw [hv]; exact .of_prc
    have hrun : v.prc.run = s.prc.run := by rw [hv]; rfl
    have hjobs : v.prc.jobs = (s.prc.mapTile ⟨id, k⟩ Tile.metered).jobs := by rw [hv]
    have hfalse : s.prc.activeExposing = false → v.prc.activeExposing = false := fun h => by
      rw [hv]; exact Prc.activeExposing_mapTile_false h fun _ => Tile.metered_ne_exposing
    have htrue : s.prc.activeExposing = true → s.prc.countLaw → v.prc.activeExposing = true := fun h hc => by
      rw [hv]; exact Prc.activeExposing_mapTile_true h hc ha hx (by rw [hxs]; nofun)
    have hprc : v.prc = { s.prc with jobs := v.prc.jobs, trsReq := none } := by rw [hv]; rfl
    have hmsg : v.inFlight = s.inFlight.erase .settleCompletion := by rw [hv]
    have htile : v.prc.tile? ⟨id, k⟩ = some { x with state := .metering, attempts := 0 } := by
      rw [Prc.tile?_congr hjobs, Prc.tile?_mapTile_of hx Tile.metered_seq, Tile.metered, hxs]; rfl
    have hself : s.prc.run ≠ .holding → v.tryHoldPoint = v := fun h => State.tryHoldPoint_of_ne (by rw [hrun]; exact h)
    refine ⟨_, heq, ?_, .of_mapTile Tile.metered_seq ?_, ?_, fun hrn hact hcru => ?_, fun hc hcase => ?_,
      fun hrn hplan hexp hact => ?_⟩
    · split
      · exact honly.issuePlan _
      · exact honly.tryHoldPoint
    · split <;> simp [hjobs]
    · split
      · rw [Prc.tile?_congr (p := v.prc) (by simp)]; exact htile
      · rw [Prc.tile?_congr (p := v.prc) (by simp)]; exact htile
    · rw [if_pos ⟨hrn, hfalse hact⟩, State.issuePlan_eq (by rw [hv]; exact hcru)]
      exact ⟨rfl, by rw [hprc], hrun.trans hrn, by rw [hprc]; exact ha, by rw [hmsg]⟩
    · have hsame : (if s.prc.run = .running ∧ v.prc.activeExposing = false then v.issuePlan ⟨id, k⟩
          else v.tryHoldPoint) = v := by
        split
        · next hif =>
          obtain ⟨-, hbusy | hcru⟩ | ⟨c, hheld⟩ := hcase
          · rw [htrue hbusy hc] at hif; exact absurd hif.2 (by nofun)
          · exact State.issuePlan_eq_self (by rw [hv]; exact hcru)
          · rw [hheld] at hif; exact absurd hif.1 (by nofun)
        · refine hself ?_
          obtain ⟨h, -⟩ | ⟨c, h⟩ := hcase <;> rw [h] <;> nofun
      rw [hsame]
      exact ⟨hprc, hmsg⟩
    · have hout : v.prc.outstanding = false := by
        refine Prc.outstanding_of (by rw [hprc]) (by rw [hprc]; exact hu) (by rw [hprc]; exact hplan)
          (by rw [hprc]; exact hexp) fun j hj y hy hys => ?_
        have := (Prc.activeExposing_iff hj).2 ⟨y, hy, hys⟩
        rw [hfalse hact] at this
        cases this
      rw [if_neg (by rw [hrn]; nofun), State.tryHoldPoint_eq (hrun.trans hrn) hout]
      refine ⟨?_, by simpa using hmsg⟩
      rw [State.goHeld_prc_of_unheld _ (.inr (.inl (hrun.trans hrn))), hprc]
  · refine ⟨_, (hexec s hr).trans (congrArg _ (State.settled_brought (s := s.deliver .settleCompletion) hreq hu ha)), ?_⟩
    have hback : (s.deliver .settleCompletion).trsAnswered.broughtBack = { s with
        prc := { s.prc with trsReq := none, retryBack := none }
        inFlight := s.inFlight.erase .settleCompletion ++ [.goAhead] } := by
      unfold State.broughtBack
      rw [show (s.deliver .settleCompletion).trsAnswered.prc.retryBack = some r from hb]
      exact if_pos he
    rw [hback]
    exact ⟨.of_prc, rfl, rfl⟩
  · have hty : (s.prc.mapTile ⟨id, k⟩ (Tile.moved .pending)).tile? r = some y :=
      (Prc.tile?_mapTile_ne _ _ _ _ (Tile.moved_seq _) hne).trans hy
    have hback : (((s.deliver .settleCompletion).trsAnswered.moveTile ⟨id, k⟩ .pending).bringBack r) = { s with
        prc := { s.prc.mapTile ⟨id, k⟩ (Tile.moved .pending) with trsReq := some (.moveBack r.seq) }
        inFlight := s.inFlight.erase .settleCompletion ++ [.moveRequest .prc (.point y.cx y.cy)] } := by
      rw [State.moveTile_eq (by exact hr)]
      exact State.bringBack_eq hty
    exact ⟨_, (hexec s hr).trans (congrArg _ ((State.settled_retry (s := s.deliver .settleCompletion) hreq hu ha hb).trans
      hback)), .of_prc, .of_mapTile (Tile.moved_seq _) rfl, Prc.tile?_moved hx (by rw [hxs]; rfl) rfl, rfl, hb, rfl, rfl⟩

end Sys2Proof.Machine
end

section
/-! PROOFS. The reports of the plan and of the exposures (R23 to R27, R30, R31). -/

namespace Sys2Proof.Machine

variable {s t u : State}

/-! ## The plan and the staleness of the dark references (R54, R98) -/

/-- R54: a tile with its plan. -/
def Tile.withPlan (plan : List PlanEntry) (attempts : Nat) (f : PlanFlags) (x : Tile) : Tile :=
  { x with state := .planned, plan := some plan, attempts := attempts, flags := x.flags.addPlanning f }

/-- R98: a tile planned with stale dark references. -/
def Tile.markStale (x : Tile) : Tile := { x with flags := { x.flags with darkStale := true } }

theorem State.planned_eq {r : TileRef} {x : Tile} {plan : List PlanEntry} {attempts : Nat} {f : PlanFlags}
    (hr : s.prc.run ≠ .quiescing) (hreq : s.prc.planReq = some r) (hx : s.prc.tile? r = some x) (hxs : x.state = .metering) :
    let v : State := { s with prc := { s.prc.mapTile r (Tile.withPlan plan attempts f) with planReq := none } }
    s.planned r plan attempts f = if s.prc.run = .running then v.staleCheck r plan.length else v.tryHoldPoint := by
  unfold State.planned
  rw [if_pos ⟨hreq, by rw [Prc.tileState?_of hx, hxs]⟩]
  dsimp only
  rw [State.mapTile_eq (by exact hr)]
  rfl

theorem State.staleCheck_fresh {r : TileRef} {n : Nat} (h : s.darkStale = false) : s.staleCheck r n = { s with
    prc := { s.prc with admReq := some r }, inFlight := s.inFlight ++ [.admissionRequest r n] } := by
  rw [State.staleCheck, h]
  rfl

theorem State.staleCheck_hold {r : TileRef} {n : Nat} (h : s.darkStale = true) (hp : s.liu.params.darkPolicy = .hold) :
    s.staleCheck r n = s.goHeld .darkStale := by
  simp [State.staleCheck, h, hp]

theorem State.staleCheck_continue {r : TileRef} {n : Nat} (hr : s.prc.run ≠ .quiescing) (h : s.darkStale = true)
    (hp : s.liu.params.darkPolicy = .continue) : s.staleCheck r n = { s with
      prc := { s.prc.mapTile r Tile.markStale with admReq := some r }
      inFlight := s.inFlight ++ [.admissionRequest r n] } := by
  unfold State.staleCheck
  rw [h, hp]
  dsimp only
  rw [State.mapTile_eq hr]
  rfl

theorem State.darkStale_iff : s.darkStale = true ↔ s.liu.params.darkTolerance < (s.cru.dark.temp - s.sfe.temp).natAbs := by
  simp only [State.darkStale, staleBetween, decide_eq_true_eq]
  omega

/-- Settles O25. -/
theorem planCompletion : Obligations.PlanCompletion := by
  intro s r x plan attempts f hr hreq hx hxs stale x'
  obtain ⟨v, hv⟩ : ∃ v : State, v = { s with
      prc := { s.prc.mapTile r (Tile.withPlan plan attempts f) with planReq := none }
      inFlight := s.inFlight.erase (.planCompletion r plan attempts f) } := ⟨_, rfl⟩
  have heq : exec (.planCompletion r plan attempts f) s
      = .next (if s.prc.run = .running then v.staleCheck r plan.length else v.tryHoldPoint) := by
    rw [hv]
    exact congrArg Host.Outcome.next
      ((State.prcEvent_eq (s := s.deliver (.planCompletion r plan attempts f)) (f := fun s => s.planned r plan attempts f)
        hr).trans (State.planned_eq (s := s.deliver (.planCompletion r plan attempts f)) hr hreq hx hxs))
  have honly : s.prcOnly v := by rw [hv]; exact .of_prc
  have hrun : v.prc.run = s.prc.run := by rw [hv]; rfl
  have hjobs : v.prc.jobs = (s.prc.mapTile r (Tile.withPlan plan attempts f)).jobs := by rw [hv]
  have hprc : v.prc = { s.prc with jobs := v.prc.jobs, planReq := none } := by rw [hv]; rfl
  have hmsg : v.inFlight = s.inFlight.erase (.planCompletion r plan attempts f) := by rw [hv]
  have hother : v.prc.otherRecords s.prc r := .of_mapTile (f := Tile.withPlan plan attempts f) (fun _ => rfl) hjobs
  have htile : v.prc.tile? r = some (x.withPlan plan attempts f) := by
    rw [Prc.tile?_congr hjobs, Prc.tile?_mapTile_of (f := Tile.withPlan plan attempts f) hx fun _ => rfl]
  have hstale : v.darkStale = true ↔ stale := by rw [hv]; exact State.darkStale_iff (s := s)
  have hpol : v.liu.params.darkPolicy = s.liu.params.darkPolicy := by rw [hv]
  have hkeep : (s.prc.run = .running → stale → s.liu.params.darkPolicy ≠ .continue) → x' = x.withPlan plan attempts f := by
    intro h
    have : (decide (s.prc.run = .running) && decide stale && decide (s.liu.params.darkPolicy = .continue)) = false := by
      rw [Bool.eq_false_iff]
      simpa using h
    simp only [x', this, Bool.or_false]
    rfl
  by_cases hrn : s.prc.run = .running
  · rw [if_pos hrn] at heq
    have hnot : ∀ c, s.prc.run ≠ .held c := fun c => by rw [hrn]; nofun
    by_cases hst : stale
    · obtain hp | hp : s.liu.params.darkPolicy = .hold ∨ s.liu.params.darkPolicy = .continue := by
        cases s.liu.params.darkPolicy <;> simp
      · rw [State.staleCheck_hold (hstale.2 hst) (hpol.trans hp)] at heq
        refine ⟨_, heq, honly.goHeld _, ?_, ?_, ?_, fun _ => ?_, fun ⟨c, h⟩ => absurd h (hnot c), fun h => ?_⟩
        · exact Prc.otherRecords.trans (.of_jobs (by simp)) hother
        · rw [Prc.tile?_congr (p := v.prc) (by simp), htile, hkeep fun _ _ => by rw [hp]; nofun]
        · rw [State.goHeld_prc, hprc]
        · rw [if_pos ⟨hst, hp⟩, State.goHeld_prc_of_unheld _ (.inl (hrun.trans hrn))]
          exact ⟨rfl, by rw [hprc], by simpa using hmsg⟩
        · rw [hrn] at h; cases h
      · have hrv : v.prc.run ≠ .quiescing := by rw [hrun]; exact hr
        rw [State.staleCheck_continue hrv (hstale.2 hst) (hpol.trans hp)] at heq
        refine ⟨_, heq, honly.trans .of_prc, ?_, ?_, ?_, fun _ => ?_, fun ⟨c, h⟩ => absurd h (hnot c), fun h => ?_⟩
        · exact Prc.otherRecords.trans (.of_mapTile (f := Tile.markStale) (fun _ => rfl) rfl) hother
        · refine (Prc.tile?_congr (p := v.prc.mapTile r Tile.markStale) rfl r).trans ?_
          rw [Prc.tile?_mapTile_of (f := Tile.markStale) htile fun _ => rfl]
          simp [x', Tile.markStale, Tile.withPlan, TileFlags.addPlanning, hrn, hst, hp]
        · show v.prc.planReq = none
          rw [hprc]
        · rw [if_neg (by rintro ⟨-, h⟩; rw [hp] at h; cases h)]
          exact ⟨hrun.trans hrn, rfl, by rw [hmsg]⟩
        · rw [hrn] at h; cases h
    · have hfresh : v.darkStale = false := by rw [← Bool.not_eq_true, hstale]; exact hst
      rw [State.staleCheck_fresh hfresh] at heq
      refine ⟨_, heq, honly.trans .of_prc, ?_, ?_, ?_, fun _ => ?_, fun ⟨c, h⟩ => absurd h (hnot c), fun h => ?_⟩
      · exact Prc.otherRecords.trans (.of_jobs rfl) hother
      · rw [hkeep fun _ h => absurd h hst]; exact htile
      · show v.prc.planReq = none
        rw [hprc]
      · rw [if_neg fun h => hst h.1]
        exact ⟨hrun.trans hrn, rfl, by rw [hmsg]⟩
      · rw [hrn] at h; cases h
  · rw [if_neg hrn] at heq
    refine ⟨_, heq, honly.tryHoldPoint, ?_, ?_, ?_, fun h => absurd h hrn, fun ⟨c, h⟩ => ?_,
      fun h htrs hun hexp hact => ?_⟩
    · exact Prc.otherRecords.trans (.of_jobs (by simp)) hother
    · rw [Prc.tile?_congr (p := v.prc) (by simp), htile, hkeep fun h => absurd h hrn]
    · unfold State.tryHoldPoint
      split
      · rw [State.goHeld_prc, hprc]
      · rw [hprc]
    · rw [State.tryHoldPoint_of_ne (by rw [hrun, h]; nofun)]
      exact ⟨hprc, hmsg⟩
    · have hout : v.prc.outstanding = false := by
        refine Prc.outstanding_of (by rw [hprc]; exact htrs) (by rw [hprc]; exact hun) (by rw [hprc])
          (by rw [hprc]; exact hexp) fun j hj y hy hys => ?_
        have hfalse : v.prc.activeExposing = false := by
          rw [hv]
          exact Prc.activeExposing_mapTile_false hact fun _ _ => by nofun
        have := (Prc.activeExposing_iff hj).2 ⟨y, hy, hys⟩
        rw [hfalse] at this
        cases this
      rw [State.tryHoldPoint_eq (hrun.trans h) hout]
      refine ⟨?_, by simpa using hmsg⟩
      rw [State.goHeld_prc_of_unheld _ (.inr (.inl (hrun.trans h))), hprc]

/-! ## The exposure end and the retry report (R26, R27) -/

/-- R27: a tile with a repeated readout. -/
def Tile.markRetried (x : Tile) : Tile := { x with flags := { x.flags with retried := true } }

theorem State.tileExposureEnd_of {r : TileRef} {x : Tile} (hx : s.prc.tile? r = some x) :
    s.tileExposureEnd r = if x.lastExposure && decide (s.prc.run = .running) && decide (s.prc.active = some r.job)
      && decide (s.prc.trsReq = none) then s.beginNext else s := by
  unfold State.tileExposureEnd
  rw [hx]

theorem Tile.lastExposure_iff {x : Tile} {plan : List PlanEntry} (hxs : x.state = .exposing) (hp : x.plan = some plan) :
    x.lastExposure = true ↔ x.exposures.length + 1 = plan.length := by
  simp [Tile.lastExposure, Tile.planLength, hxs, hp]

theorem State.retried_eq {r : TileRef} {x : Tile} {metering : Bool} (hr : s.prc.run ≠ .quiescing)
    (hx : s.prc.tile? r = some x) (he : x.state.ended = false) :
    let v : State := { s with prc := s.prc.mapTile r Tile.markRetried }
    s.retried r metering = if metering then v else match v.prc.movedOn with
      | none => v.emit .goAhead
      | some u =>
        let w : State := { v with prc := { v.prc with retryBack := some r } }
        if w.prc.tileState? u = some .metering then (w.moveTile u .pending).bringBack r else w := by
  unfold State.retried
  rw [hx]
  dsimp only
  rw [if_neg (by rw [he]; nofun), State.mapTile_eq hr]
  rfl

/-- What finds a tile by its state finds the same one when no state has changed. -/
theorem Prc.firstTile_mapTile {p : Prc} {r : TileRef} {f : Tile → Tile} {g : Tile → Bool} (hf : ∀ x, (f x).seq = x.seq)
    (hg : ∀ x, g (f x) = g x) : (p.mapTile r f).firstTile g = p.firstTile g := by
  unfold Prc.firstTile Prc.activeJob?
  show (p.active.bind (p.mapTile r f).job?).bind _ = _
  cases p.active with
  | none => rfl
  | some id =>
    rw [Option.bind_some, Option.bind_some]
    by_cases hid : id = r.job
    · rw [hid, Prc.job?_mapTile_self]
      cases p.job? r.job with
      | none => rfl
      | some j =>
        simp only [Option.map_some, Option.bind_some, List.find?_map]
        have hcomp : (g ∘ fun x => if x.seq = r.seq then f x else x) = g := by
          funext x
          by_cases hx : x.seq = r.seq <;> simp [hx, hg]
        rw [hcomp]
        cases j.tiles.find? g with
        | none => rfl
        | some x => by_cases hx : x.seq = r.seq <;> simp [hx, hf, Job.ref]
    · rw [Prc.job?_mapTile_ne _ _ _ _ hid]

theorem Prc.movedOn_markRetried (p : Prc) (r : TileRef) : (p.mapTile r Tile.markRetried).movedOn = p.movedOn :=
  Prc.firstTile_mapTile (fun _ => rfl) fun _ => rfl

/-- Settles O27. -/
theorem exposureReports : Obligations.ExposureReports := by
  refine ⟨fun s j r x m htab hcount hrun hj hid hx hxs htrs => ?_, fun s r x metering hr hx hxs hno => ?_,
    fun s r u x y hr hx hxs hmoved hy => ?_⟩
  · obtain ⟨hact, hjob⟩ := Prc.activeJob?_eq_some hj
    have hr : s.prc.run ≠ .quiescing := by rw [hrun]; nofun
    have hexec : exec (.exposureEnd r m) s = .next ((s.deliver (.exposureEnd r m)).tileExposureEnd r) :=
      congrArg Host.Outcome.next (State.prcEvent_eq (s := s.deliver (.exposureEnd r m)) (f := fun s => s.tileExposureEnd r) hr)
    rw [State.tileExposureEnd_of (s := s.deliver (.exposureEnd r m)) hx] at hexec
    refine ⟨fun plan hp hlt => hexec.trans (congrArg _ (if_neg ?_)), fun plan y hp hlast hy => ?_⟩
    · have : x.lastExposure = false := by
        rw [← Bool.not_eq_true, Tile.lastExposure_iff hxs hp]; omega
      simp [this]
    · have hys : y.state = .pending := by simpa using List.find?_some hy
      have hty := Prc.tile?_of_mem hjob hcount (List.mem_of_find?_eq_some hy)
      have hlast' := (Tile.lastExposure_iff hxs hp).2 hlast
      have hif : (x.lastExposure && decide ((s.deliver (.exposureEnd r m)).prc.run = .running)
          && decide ((s.deliver (.exposureEnd r m)).prc.active = some r.job)
          && decide ((s.deliver (.exposureEnd r m)).prc.trsReq = none)) = true := by
        simp [hlast', hrun, hact, hid, htrs]
      exact ⟨_, hexec.trans (congrArg _ ((if_pos hif).trans
        (State.beginNext_eq (s := s.deliver (.exposureEnd r m)) hr hj hy hty))), .of_prc,
        .of_mapTile (Tile.moved_seq _) rfl, Prc.tile?_moved hty (by rw [hys]; rfl) rfl, rfl, rfl⟩
  · have he : x.state.ended = false := by obtain h | h := hxs <;> rw [h] <;> rfl
    have hexec : exec (.retryReport r metering) s = .next ((s.deliver (.retryReport r metering)).retried r metering) :=
      congrArg Host.Outcome.next
        (State.prcEvent_eq (s := s.deliver (.retryReport r metering)) (f := fun s => s.retried r metering) hr)
    rw [State.retried_eq (s := s.deliver (.retryReport r metering)) hr hx he] at hexec
    have htile : (s.prc.mapTile r Tile.markRetried).tile? r = some x.markRetried :=
      Prc.tile?_mapTile_of (f := Tile.markRetried) hx fun _ => rfl
    cases metering with
    | true => exact ⟨_, hexec, .of_prc, .of_mapTile (f := Tile.markRetried) (fun _ => rfl) rfl, htile, (List.append_nil _).symm⟩
    | false =>
      have hmv : s.prc.movedOn = none := hno.resolve_left nofun
      have hnone : (s.prc.mapTile r Tile.markRetried).movedOn = none := (Prc.movedOn_markRetried _ _).trans hmv
      refine ⟨{ s with
        prc := s.prc.mapTile r Tile.markRetried
        inFlight := s.inFlight.erase (.retryReport r false) ++ [.goAhead] }, hexec.trans (congrArg _ ?_), .of_prc,
        .of_mapTile (f := Tile.markRetried) (fun _ => rfl) rfl, htile, rfl⟩
      rw [if_neg nofun, show (s.deliver (.retryReport r false)).prc = s.prc from rfl, hnone]
      rfl
  · have he : x.state.ended = false := by rw [hxs]; rfl
    have hexec : exec (.retryReport r false) s = .next ((s.deliver (.retryReport r false)).retried r false) :=
      congrArg Host.Outcome.next
        (State.prcEvent_eq (s := s.deliver (.retryReport r false)) (f := fun s => s.retried r false) hr)
    obtain ⟨w, hw⟩ : ∃ w : State, w = { s with
        prc := { s.prc.mapTile r Tile.markRetried with retryBack := some r }
        inFlight := s.inFlight.erase (.retryReport r false) } := ⟨_, rfl⟩
    have hret : (s.deliver (.retryReport r false)).retried r false
        = if w.prc.tileState? u = some .metering then (w.moveTile u .pending).bringBack r else w := by
      rw [State.retried_eq (s := s.deliver (.retryReport r false)) hr hx he, if_neg nofun,
        show (s.deliver (.retryReport r false)).prc = s.prc from rfl,
        (Prc.movedOn_markRetried s.prc r).trans hmoved, hw]
      rfl
    have honly : s.prcOnly w := by rw [hw]; exact .of_prc
    have hrun : w.prc.run = s.prc.run := by rw [hw]; rfl
    have hback : w.prc.retryBack = some r := by rw [hw]
    have hexp : w.prc.expReq = s.prc.expReq := by rw [hw]; rfl
    have htrs : w.prc.trsReq = s.prc.trsReq := by rw [hw]; rfl
    have hjobs : w.prc.jobs = (s.prc.mapTile r Tile.markRetried).jobs := by rw [hw]
    have htr : w.prc.tile? r = some x.markRetried := by
      rw [Prc.tile?_congr hjobs, Prc.tile?_mapTile_of (f := Tile.markRetried) hx fun _ => rfl]
    have hmsg : w.inFlight = s.inFlight.erase (.retryReport r false) := by rw [hw]
    by_cases hyr : u = r
    · subst hyr
      have hyx : y = x := Option.some.inj (hy.symm.trans hx)
      have hstate : w.prc.tileState? u ≠ some .metering := by
        rw [Prc.tileState?_of htr]
        show some x.state ≠ _
        rw [hxs]; nofun
      rw [if_neg hstate] at hret
      refine ⟨w, hexec.trans (congrArg _ hret), honly, htr, hback, hrun, hexp, fun h => ?_, fun h => ?_⟩ <;>
        rw [hyx, hxs] at h <;> cases h
    · have htu : w.prc.tile? u = some y := by
        rw [Prc.tile?_congr hjobs, Prc.tile?_mapTile_ne _ _ _ Tile.markRetried (fun _ => rfl) hyr, hy]
      rw [Prc.tileState?_of htu] at hret
      by_cases hm : y.state = .metering
      · rw [if_pos (by rw [hm]), State.moveTile_eq (by rw [hrun]; exact hr)] at hret
        have htr' : (w.prc.mapTile u (Tile.moved .pending)).tile? r = some x.markRetried :=
          (Prc.tile?_mapTile_ne _ _ _ _ (Tile.moved_seq _) (Ne.symm hyr)).trans htr
        refine ⟨_, hexec.trans (congrArg _ (hret.trans (State.bringBack_eq htr'))), honly.trans .of_prc, htr', hback,
          hrun, hexp, fun _ => ⟨Prc.tile?_moved htu (by rw [hm]; rfl) rfl, rfl, by rw [hmsg]; rfl⟩, fun h => ?_⟩
        rw [hm] at h; cases h
      · rw [if_neg fun h => hm (Option.some.inj h)] at hret
        exact ⟨w, hexec.trans (congrArg _ hret), honly, htr, hback, hrun, hexp, fun h => absurd h hm,
          fun _ => ⟨htu, htrs, hmsg⟩⟩

end Sys2Proof.Machine
end

section
/-! PROOFS. Jobs that end before their capture is complete: ABORT_JOB (R34, R35) and the reports of faults (R37 to
R40). -/

namespace Sys2Proof.Machine

variable {s t u : State}

/-! ## Tiles abandoned, and what is done beside -/

/-- A record whose tiles have been abandoned takes a state and an outcome. -/
theorem State.setJob_gone {j : Job} {f : TileState → Bool} (hj : s.prc.job? j.id = some j)
    (hu : u.prc.jobs = (s.tilesGone j f).prc.jobs) (hr : u.prc.run ≠ .quiescing) (hf : j.state.finished = false)
    (st : JobState) (out : Option JobOutcome) :
    u.setJob j.id st out = u.recordJob { j.without f with state := st, outcome := out } := by
  refine State.setJob_eq _ (j.without f) _ _ ((Prc.job?_congr hu _).trans (State.tilesGone_job s j f hj)) ?_ hr hf
  intro x hx e
  rw [hu] at hx
  obtain ⟨y, -, rfl⟩ := List.mem_map.1 hx
  by_cases hid : y.id = j.id
  · simp [hid]
  · rw [if_neg hid] at e; exact absurd e hid

theorem State.idleCheck_eq : s.idleCheck = if s.prc.run = .running ∧ s.prc.active = none ∧ s.prc.queue = [] then
    { s with prc := { s.prc with run := .idle } }.notice (.runState .idle none none) else s := by
  unfold State.idleCheck
  by_cases h : s.prc.run = .running ∧ s.prc.active = none ∧ s.prc.queue = []
  · rw [if_pos h, if_pos h, State.setRun_of_ne (by rw [h.1]; nofun), h.2.1, h.2.2]
    rfl
  · rw [if_neg h, if_neg h]

theorem Job.without_keeps (j : Job) {x : Tile} (hx : x ∈ j.tiles) (hs : x.state = .masked ∨ x.state = .sent) :
    x ∈ (j.without fun st => !st.ended).tiles := by
  refine List.mem_map.2 ⟨x, hx, ?_⟩
  obtain h | h := hs <;> simp [h, TileState.ended]

theorem State.abandonTiles_unended {j : Job} (hr : s.prc.run ≠ .quiescing) (htab : s.prc.tableLaw) (hcount : s.prc.countLaw)
    (hj : s.prc.job? j.id = some j) : s.abandonTiles j (fun st => !st.ended) = s.tilesGone j fun st => !st.ended :=
  State.abandonTiles_eq _ _ _ hr htab.2.1 (Prc.job?_mem hj) (hcount j (Prc.job?_mem hj)).nodup_seq (by simp)

theorem State.askUnload_none {k : TrsRequest} (h : s.prc.trsReq = none) : s.askUnload k = { s with
    prc := { s.prc with trsReq := some k, unloadNext := none }
    inFlight := s.inFlight ++ [Instr.unloadRequest .prc true] } := by
  unfold State.askUnload
  rw [h]
  rfl

theorem State.askUnload_load {k : TrsRequest} (h : s.prc.trsReq = some .load) :
    s.askUnload k = { s with prc := { s.prc with unloadNext := some k } } := by
  unfold State.askUnload
  rw [h]

theorem State.askUnload_eq_self {k : TrsRequest} (h : s.prc.trsReq = some .unload ∨ s.prc.trsReq = some .recovery) :
    s.askUnload k = s := by
  unfold State.askUnload
  obtain h | h := h <;> rw [h]

theorem State.askUnload_move {k : TrsRequest} {n : Nat} (h : s.prc.trsReq = some (.move n) ∨ s.prc.trsReq = some (.moveBack n)) :
    s.askUnload k = { s with prc := { s.prc with unloadNext := some k } } := by
  unfold State.askUnload
  obtain h | h := h <;> rw [h]

/-- Settles O18: the abandonment is `State.tilesGone`, by the state of the job. -/
theorem abortJobEndsTiles : Obligations.AbortJobEndsTiles := by
  intro h id s ht htab hcount hr
  have hexec := exec_command (c := .abortJob h id) rfl ht
  refine ⟨fun hno => ?_, fun j hj hid => ?_⟩
  · refine hexec.trans ?_
    simp [State.abortJob, Prc.job?_of_unknown hno]
  · subst hid
    have hjob := Prc.job?_of_mem htab.2.1 hj
    have hgone := State.abandonTiles_unended hr htab hcount hjob
    split
    next hfin =>
      refine hexec.trans ?_
      obtain h | h | h := hfin <;> simp [State.abortJob, hjob, h]
    next hfin =>
      refine ⟨j.without_ended, fun x hx hs => j.without_keeps hx hs, fun hst => ?_, fun hst => ?_, fun hst => ?_⟩
      · have hq : s.abortJob j.id = .okay (s.abortQueued j) := by simp [State.abortJob, hjob, hst]
        rw [hexec, hq]
        refine congrArg (fun v : State => Host.Outcome.next (v.replied h .abortJob .ok .none)) ?_
        unfold State.abortQueued
        rw [hgone]
        dsimp only
        rw [State.setJob_gone (s := s) (f := fun st => !st.ended) hjob (by rfl) (by exact hr) (by rw [hst]; rfl),
          State.idleCheck_eq]
        rfl
      · have hq : s.abortJob j.id = .okay (s.abortDraining j) := by simp [State.abortJob, hjob, hst]
        rw [hexec, hq]
        refine congrArg (fun v : State => Host.Outcome.next (v.replied h .abortJob .ok .none)) ?_
        unfold State.abortDraining
        rw [hgone, State.setJob_gone (s := s) (f := fun st => !st.ended) hjob (by rfl) (by exact hr) (by rw [hst]; rfl)]
        rfl
      · have hq : s.abortJob j.id = .okay (s.abortActive j) := by
          obtain h | h | h := hst <;> simp [State.abortJob, hjob, h]
        rw [hexec, hq]
        intro m v
        have hmark := State.abandonTiles_unended (s := { s with prc := { s.prc with abortMark := true } }) hr htab hcount hjob
        have hv : (if j.state = .capturing then m.setJob j.id .unloading none else m) = v := by
          by_cases hc : j.state = .capturing
          · rw [if_pos hc, State.setJob_gone (s := s) (f := fun st => !st.ended) hjob (by rfl) (by exact hr) (by rw [hc]; rfl)]
            exact (if_pos hc).symm
          · rw [if_neg hc]
            exact (if_neg hc).symm
        have htrs : v.prc.trsReq = s.prc.trsReq := by
          rw [← hv]
          split
          · rw [State.setJob_prc]; rfl
          · rfl
        refine congrArg (fun v : State => Host.Outcome.next (v.replied h .abortJob .ok .none)) ?_
        unfold State.abortActive
        dsimp only
        rw [hmark]
        refine (congrArg (State.askUnload · .unload) hv).trans ?_
        cases hreq : s.prc.trsReq with
        | none => exact State.askUnload_none (htrs.trans hreq)
        | some r =>
          cases r with
          | load => exact State.askUnload_load (htrs.trans hreq)
          | move n => exact State.askUnload_move (.inl (htrs.trans hreq))
          | moveBack n => exact State.askUnload_move (.inr (htrs.trans hreq))
          | unload => exact State.askUnload_eq_self (.inl (htrs.trans hreq))
          | recovery => exact State.askUnload_eq_self (.inr (htrs.trans hreq))

/-! ## The failure of the active job (R37, R39) -/

/-- A state with PRC's request to TRS, and the unload put off, replaced. -/
def State.withTrs (s : State) (a b : Option TrsRequest) : State := { s with prc := { s.prc with trsReq := a, unloadNext := b } }

theorem State.setRun_withTrs (a b : Option TrsRequest) (r : RunState) : (s.withTrs a b).setRun r = (s.setRun r).withTrs a b := by
  obtain ⟨h, e⟩ | ⟨h, e⟩ := s.setRun_cases r <;> rw [e]
  · exact State.setRun_of_eq h
  · exact State.setRun_of_ne h

theorem State.goHeld_withTrs (a b : Option TrsRequest) (c : HoldCause) :
    (s.withTrs a b).goHeld c = (s.goHeld c).withTrs a b := by
  have hrun : (s.withTrs a b).prc.run = s.prc.run := rfl
  cases hr : s.prc.run with
  | idle | running | holding =>
    rw [State.goHeld_of_unheld c (by simp [hrun, hr]), State.goHeld_of_unheld c (by simp [hr]), State.setRun_withTrs]
  | held c0 =>
    rw [State.goHeld_of_held c (hrun.trans hr), State.goHeld_of_held c hr]
    split
    · exact State.setRun_withTrs ..
    · rfl
  | quiescing => simp [State.goHeld, hrun, hr]

theorem State.startIdle_withTrs (a b : Option TrsRequest) : (s.withTrs a b).startIdle = s.startIdle.withTrs a b := by
  unfold State.startIdle
  rw [show (s.withTrs a b).idleCondition = s.idleCondition from rfl]
  split <;> rfl

/-- The end of the active job by a failure, before the idle timer is started. -/
def State.jobRecorded (s : State) (j : Job) (c : FailCause) : State :=
  let a := s.tilesGone j TileState.uncaptured
  { a with prc := { a.prc with active := none, abortMark := false, lampAfterUnload := false } }.recordJob
    { j.without TileState.uncaptured with
      state := if j.tiles.any fun x => x.state.inFlight then .draining else .failed
      outcome := some (.failed c) }

theorem State.jobEnded_withTrs (a b : Option TrsRequest) (j : Job) (c : FailCause) :
    (s.withTrs a b).jobEnded j c = (s.jobEnded j c).withTrs a b :=
  State.startIdle_withTrs (s := s.jobRecorded j c) a b

theorem State.jobEnded_prc (j : Job) (c : FailCause) :
    (s.jobEnded j c).prc.trsReq = s.prc.trsReq ∧ (s.jobEnded j c).prc.unloadNext = s.prc.unloadNext := by
  unfold State.jobEnded
  simp only [State.startIdle_frame]
  exact ⟨rfl, rfl⟩

/-- R18: a transport fault outranks every other cause. -/
theorem State.goHeld_transport_run (h : s.prc.run = .holding ∨ ∃ c, s.prc.run = .held c) :
    (s.goHeld .transport).prc.run = .held .transport := by
  obtain h | ⟨c, h⟩ := h
  · rw [State.goHeld_prc_of_unheld _ (.inr (.inl h))]
  · rw [State.goHeld_of_held _ h, if_pos (by cases c <;> decide), State.setRun_prc]

/-- Settles O28. -/
theorem faultReports : Obligations.FaultReports := by
  have htransport : ∀ s : State, s.prc.run ≠ .quiescing →
      exec .transportFault s = .next (s.deliver .transportFault).transportFaulted := fun s hr =>
    congrArg Host.Outcome.next (State.prcEvent_eq (s := s.deliver .transportFault) hr)
  refine ⟨fun s j htab hcount hr hj hst => ?_, fun s id j ha hrec hreq hun hr hj => ?_, fun s ha hrec => ?_,
    fun s f hr => ?_⟩
  · obtain ⟨hact, hjob⟩ := Prc.activeJob?_eq_some hj
    have hfin : j.state.finished = false := by obtain h | h | h := hst <;> rw [h] <;> rfl
    have hend : ∀ (d : State) (cause : FailCause), d.prc.jobs = s.prc.jobs → d.prc.run = s.prc.run →
        d.endJob j cause = d.jobEnded j cause := fun d cause hd hdr =>
      State.endJob_eq _ _ _ (by rw [hdr]; exact hr) (by rw [hd]; exact htab.2.1) (by rw [hd]; exact Prc.job?_mem hjob)
        (hcount j (Prc.job?_mem hjob)).nodup_seq hfin
    have hreq : ∀ (c : Instr) (cause : FailCause) (hold : HoldCause),
        (((s.deliver c).jobEnded j cause).goHeld hold).prc.trsReq = s.prc.trsReq := fun c cause hold => by
      rw [State.goHeld_prc, (State.jobEnded_prc j cause).1]; rfl
    have hfault : ∀ e : State,
        e = (((s.deliver .transportFault).jobEnded j .transport).goHeld .transport).withTrs none none →
        exec .transportFault s = .next (if recoverable s.prc.trsReq then e.askRecovery j.id else e) := by
      intro e he
      refine (htransport s hr).trans (congrArg Host.Outcome.next ?_)
      have hend' : (((s.deliver .transportFault).withTrs none none).endJob j .transport).goHeld .transport = e := by
        rw [hend ((s.deliver .transportFault).withTrs none none) _ rfl rfl, State.jobEnded_withTrs, State.goHeld_withTrs, he]
      unfold State.transportFaulted
      rw [show (s.deliver .transportFault).prc.activeJob? = some j from hj]
      dsimp only
      rw [← hend']
      rfl
    have hasked : recoverable s.prc.trsReq = true → exec .transportFault s = .next
        (let e := ((s.deliver .transportFault).jobEnded j .transport).goHeld .transport
        { e with
          prc := { e.prc with trsReq := some .recovery, unloadNext := none, recoveryJob := some j.id }
          inFlight := e.inFlight ++ [.unloadRequest .prc true] }) := fun h =>
      (hfault _ rfl).trans (congrArg _ ((if_pos h).trans (State.askUnload_none rfl)))
    refine ⟨fun h => ?_, fun r x hrj hx hxe => ?_, fun k h => ?_, fun h => ?_⟩
    · exact hasked (by rw [h]; rfl)
    · have hsens : exec (.secondReadoutFailure r) s = .next ((((s.deliver (.secondReadoutFailure r)).jobEnded j
          .sensor).goHeld .sensor).askRecovery j.id) := by
        refine congrArg Host.Outcome.next ((State.prcEvent_eq (s := s.deliver (.secondReadoutFailure r))
          (f := fun s => s.tileSensorFailure r) hr).trans ?_)
        show (s.deliver (.secondReadoutFailure r)).tileSensorFailure r = _
        unfold State.tileSensorFailure
        rw [show (s.deliver (.secondReadoutFailure r)).prc.activeJob? = some j from hj,
          show (s.deliver (.secondReadoutFailure r)).prc.tile? r = some x from hx]
        dsimp only
        rw [if_pos ⟨hrj.symm, hxe⟩, hend (s.deliver (.secondReadoutFailure r)) _ rfl rfl]
      exact ⟨fun h => hsens.trans (congrArg _ (State.askUnload_none ((hreq (.secondReadoutFailure r) _ _).trans h))),
        fun k h => hsens.trans (congrArg _ (State.askUnload_move
          (h.imp ((hreq (.secondReadoutFailure r) _ _).trans ·) ((hreq (.secondReadoutFailure r) _ _).trans ·))))⟩
    · exact hasked (by obtain h | h := h <;> rw [h] <;> rfl)
    · refine (hfault _ rfl).trans (congrArg _ (if_neg ?_))
      obtain h | h := h <;> rw [h] <;> nofun
  · obtain ⟨v, hv⟩ : ∃ v : State, v = { s with
        prc := { s.prc with trsReq := none, unloadNext := none, recoveryJob := none }
        inFlight := s.inFlight.erase .transportFault } := ⟨_, rfl⟩
    have hid := Prc.job?_id hj
    subst hid
    have hvj : v.prc.job? j.id = some j := by rw [hv]; exact hj
    have hvr : v.prc.run = s.prc.run := by rw [hv]
    have hdr : ∃ w : State, v.drainTransport j.id = w ∧ s.prcOnly w ∧ w.prc = { v.prc with jobs := w.prc.jobs }
        ∧ w.inFlight = v.inFlight
        ∧ w.prc.job? j.id = some (if j.state = .draining then { j with outcome := some (.failed .transport) } else j)
        ∧ ∀ k, k ≠ j.id → w.prc.job? k = s.prc.job? k := by
      refine ⟨_, rfl, ?_⟩
      have hsame : ∀ k, v.prc.job? k = s.prc.job? k := fun k => by rw [hv]; rfl
      have honly : s.prcOnly v := by rw [hv]; exact .of_prc
      unfold State.drainTransport
      rw [hvj]
      dsimp only
      by_cases hdr : j.state = .draining
      · rw [if_pos hdr, if_pos hdr]
        refine ⟨honly.setJob .., State.setJob_prc .., by simp, ?_, fun k hk => ?_⟩
        · rw [State.setJob_job?_self hvj (by rw [hdr]; rfl) (by rw [hvr]; exact hr)]
          exact congrArg (fun st => some { j with state := st, outcome := some (.failed .transport) }) hdr.symm
        · rw [State.setJob_job?_ne _ _ _ hk, hsame]
      · rw [if_neg hdr, if_neg hdr]
        exact ⟨honly, rfl, rfl, hvj, fun k _ => hsame k⟩
    obtain ⟨w, hw, honly, hprc, hmsg, hjob, hother⟩ := hdr
    have hwr : w.prc.run = s.prc.run := by rw [hprc]; exact hvr
    have heq : exec .transportFault s = .next (match w.prc.run with
        | .held _ | .holding => w.goHeld .transport
        | .idle | .running | .quiescing => w) := by
      refine (htransport s hr).trans (congrArg Host.Outcome.next ?_)
      unfold State.transportFaulted
      rw [show (s.deliver .transportFault).prc.activeJob? = none from Prc.activeJob?_none ha]
      dsimp only
      unfold State.idleTransportFault
      rw [show (s.deliver .transportFault).prc.recoveryJob = some j.id from hrec]
      have hfault : (s.deliver .transportFault).recoveryFault j.id = w := by
        rw [← hw, hv]
        unfold State.recoveryFault
        rw [show (s.deliver .transportFault).prc.unloadNext = none from hun]
        rfl
      cases hrun : w.prc.run <;> simp only [hfault, hrun]
    have hfields : w.prc.trsReq = none ∧ w.prc.recoveryJob = none ∧ w.prc.active = none ∧ w.inFlight
        = s.inFlight.erase .transportFault := by
      rw [hmsg, hprc, hv]; exact ⟨rfl, rfl, ha, rfl⟩
    obtain ⟨htrs, hrecov, hact, hmsgs⟩ := hfields
    by_cases hheld : s.prc.run = .holding ∨ ∃ c, s.prc.run = .held c
    · have ht : exec .transportFault s = .next (w.goHeld .transport) := by
        rw [heq]
        obtain h | ⟨c, h⟩ := hheld <;> rw [hwr, h]
      refine ⟨_, ht, honly.goHeld _, by rw [State.goHeld_prc]; exact htrs, fun h => ?_,
        fun _ => State.goHeld_transport_run (by rw [hwr]; exact hheld), by rw [State.goHeld_prc]; exact hrecov,
        by rw [State.goHeld_prc]; exact hact, by simpa using hmsgs, ?_, fun k hk => ?_⟩
      · obtain h | h := h <;> rw [h] at hheld <;> obtain h' | ⟨c, h'⟩ := hheld <;> cases h'
      · rw [Prc.job?_congr (p := w.prc) (by simp)]; exact hjob
      · rw [Prc.job?_congr (p := w.prc) (by simp)]; exact hother k hk
    · have ht : exec .transportFault s = .next w := by
        rw [heq, hwr]
        cases hrun : s.prc.run with
        | holding => exact absurd (.inl hrun) hheld
        | held c => exact absurd (.inr ⟨c, hrun⟩) hheld
        | idle | running | quiescing => rfl
      exact ⟨w, ht, honly, htrs, fun _ => hwr, fun h => absurd h hheld, hrecov, hact, hmsgs, hjob, hother⟩
  · intro v
    have heq : s.prc.run ≠ .quiescing → exec .transportFault s = .next (match v.prc.run with
        | .held _ | .holding => v.goHeld .transport
        | .idle | .running | .quiescing => v) := fun hr => by
      refine (htransport s hr).trans (congrArg Host.Outcome.next ?_)
      unfold State.transportFaulted
      rw [show (s.deliver .transportFault).prc.activeJob? = none from Prc.activeJob?_none ha]
      dsimp only
      unfold State.idleTransportFault
      rw [show (s.deliver .transportFault).prc.recoveryJob = none from hrec]
      show (match s.prc.run with | .held _ | .holding => _ | .idle | .running | .quiescing => _) = _
      cases hrun : s.prc.run <;> simp [v, hrun, State.deliver, Instr.asMessage]
    have hvr : v.prc.run = s.prc.run := rfl
    refine ⟨fun h => ?_, fun h => ?_⟩
    · rw [heq (by obtain h | h := h <;> rw [h] <;> nofun), hvr]
      obtain h | h := h <;> rw [h]
    · rw [heq (by obtain h | ⟨c, h⟩ := h <;> rw [h] <;> nofun), hvr]
      obtain h | ⟨c, h⟩ := h <;> rw [h]
  · have hexec : exec (.backlightFault f) s = .next (s.deliver (.backlightFault f)).backlightFaulted :=
      congrArg Host.Outcome.next (State.prcEvent_eq (s := s.deliver (.backlightFault f)) hr)
    refine ⟨fun ha => hexec.trans (congrArg _ ?_), fun j hj => ⟨fun hst hno => hexec.trans (congrArg _ ?_),
      fun r hst hreq hrun => ?_, fun hst => hexec.trans (congrArg _ ?_)⟩⟩
    · unfold State.backlightFaulted
      rw [show (s.deliver (.backlightFault f)).prc.activeJob? = none from Prc.activeJob?_none ha]
    · unfold State.backlightFaulted State.withdrawPlan
      rw [show (s.deliver (.backlightFault f)).prc.activeJob? = some j from hj,
        show (s.deliver (.backlightFault f)).prc.planReq = none from hno]
      obtain h | h := hst <;> simp only [h]
    · have hback : (s.deliver (.backlightFault f)).backlightFaulted = State.goHeld { s with
          prc := { s.prc with planReq := none }
          inFlight := s.inFlight.erase (.backlightFault f) ++ [.planWithdraw (.prc r)] } .lamp := by
        unfold State.backlightFaulted State.withdrawPlan
        rw [show (s.deliver (.backlightFault f)).prc.activeJob? = some j from hj,
          show (s.deliver (.backlightFault f)).prc.planReq = some r from hreq]
        obtain h | h := hst <;> simp only [h] <;> rfl
      refine ⟨_, hexec.trans (congrArg _ hback), State.prcOnly.of_prc.goHeld _, ?_, by simp⟩
      exact State.goHeld_prc_of_unheld _ (.inl hrun)
    · unfold State.backlightFaulted
      rw [show (s.deliver (.backlightFault f)).prc.activeJob? = some j from hj]
      simp only [hst]
      rfl

end Sys2Proof.Machine
end

section
/-! PROOFS. The frame store's slots: a change by its table (R100), admission, its wait and the release (R101, R102, R104),
and a calibration's slots (R86, R108). -/

namespace Sys2Proof.Machine

variable {s t u v : State}

/-! ## The slots in a state -/

theorem Fst.lt_of_slot {f : Fst} {i : Nat} {x : SlotState} (h : f.slot i = some x) : i < 48 :=
  (Vector.getElem?_eq_some_iff.1 h).1

theorem Fst.setSlots_eq (f : Fst) (l : List Nat) (x : SlotState) :
    f.setSlots l x = { f with slots := (f.setSlots l x).slots } := by
  obtain ⟨h1, h2, h3, h4⟩ := f.setSlots_frame l x
  rw [← h1, ← h2, ← h3, ← h4]

theorem Fst.slotsWhere_pairwise (f : Fst) (p : SlotState → Bool) : (f.slotsWhere p).Pairwise (· < ·) :=
  List.Pairwise.filter _ List.pairwise_lt_range

theorem Fst.mem_free_iff {f : Fst} {i : Nat} : i ∈ f.slotsWhere (fun x => decide (x = .free)) ↔ f.slot i = some .free := by
  rw [Fst.mem_slotsWhere]
  constructor
  · rintro ⟨-, x, hx, h⟩
    rw [hx, of_decide_eq_true h]
  · exact fun h => ⟨Fst.lt_of_slot h, _, h, by simp⟩

/-- R101, R86: the lowest FREE slots are taken. -/
theorem Fst.lowestFree_spec {f : Fst} {n : Nat} (h : n ≤ f.freeCount) : f.isLowestFree (f.lowestFree n) n := by
  have hsorted := f.slotsWhere_pairwise fun x => decide (x = .free)
  refine ⟨by simpa [Fst.lowestFree, Fst.freeCount] using h, hsorted.sublist (List.take_sublist _ _),
    fun i hi => Fst.mem_free_iff.1 (List.mem_of_mem_take hi), fun i hi hnot k hk => ?_⟩
  rw [← List.take_append_drop n (f.slotsWhere fun x => decide (x = .free))] at hsorted
  have hmem := Fst.mem_free_iff.2 hi
  rw [← List.take_append_drop n (f.slotsWhere fun x => decide (x = .free))] at hmem
  exact (List.pairwise_append.1 hsorted).2.2 k hk i ((List.mem_append.1 hmem).resolve_left hnot)

/-- The count of the FREE slots of a frame store, from the states of its slots. -/
theorem Fst.freeCount_of_slots {f : Fst} {g : Nat → Option SlotState} (h : ∀ i, f.slot i = g i) :
    f.freeCount = ((List.range 48).filter fun i => decide (g i = some .free)).length := by
  unfold Fst.freeCount Fst.slotsWhere
  refine congrArg List.length (List.filter_congr fun i _ => ?_)
  rw [h]
  cases g i <;> simp

/-! ## What waits for a slot that goes to FREE -/

theorem State.afterFree_of_idle (hw : s.fst.wait = none) (hc : s.cru.state ≠ .waiting) : s.afterFree = s := by
  rw [State.afterFree, State.grantWait_eq_self hw, State.cruTest_eq_self hc]

theorem State.grantWait_grants {r : TileRef} {n : Nat} (h : s.fst.wait = some (r, n)) (hn : n + 1 ≤ s.fst.freeCount) :
    s.grantWait = State.grantSlots { s with fst := { s.fst with wait := none } } r n := by
  simp [State.grantWait, h, hn]

theorem State.grantWait_waits {r : TileRef} {n : Nat} (h : s.fst.wait = some (r, n)) (hn : s.fst.freeCount < n + 1) :
    s.grantWait = s := by
  simp [State.grantWait, h, Nat.not_le.2 hn]

/-- R102, R86: what waits asks again when slots have gone to FREE, and then CRU tests. -/
theorem State.execAll_afterFree (h : v.fst.wait = none ∨ v.fst.quiesce = false)
    (hno : ∀ d ∈ v.fst.asksAgain ++ [.calworkGrant], d ∉ v.inFlight) :
    execAll (v.fst.asksAgain ++ [.calworkGrant]) { v with fst := { v.fst with wait := none } } = .next v.afterFree := by
  have htest : ∀ w : State, .calworkGrant ∉ w.inFlight → execAll [.calworkGrant] w = .next w.cruTest := fun w hw => by
    have : exec .calworkGrant w = .next w.cruTest :=
      congrArg (fun u : State => Host.Outcome.next u.cruTest) (State.deliver_eq_self (s := w) hw)
    rw [execAll_cons this, execAll_nil]
  have hcal : .calworkGrant ∉ v.inFlight := hno _ (List.mem_append_right _ (List.mem_singleton_self _))
  cases hw : v.fst.wait with
  | none =>
    have hv : { v with fst := { v.fst with wait := none } } = v := by rw [← hw]
    rw [hv, Fst.asksAgain, hw]
    refine (htest v hcal).trans ?_
    rw [State.afterFree, State.grantWait_eq_self hw]
  | some p =>
    obtain ⟨r, n⟩ := p
    have hq : v.fst.quiesce = false := h.resolve_left (by rw [hw]; nofun)
    have hadm : .admissionRequest r n ∉ v.inFlight := hno _ (by rw [Fst.asksAgain, hw]; exact List.mem_cons_self)
    have hgrant := State.grantWait_eq_askSlots hw hq
    have hexec : exec (.admissionRequest r n) { v with fst := { v.fst with wait := none } } = .next v.grantWait := by
      rw [hgrant]
      exact congrArg (fun u : State => Host.Outcome.next (u.askSlots r n))
        (State.deliver_eq_self (s := { v with fst := { v.fst with wait := none } }) hadm)
    have hafter : .calworkGrant ∉ v.grantWait.inFlight := by
      by_cases hn : n + 1 ≤ v.fst.freeCount
      · rw [State.grantWait_grants hw hn]
        intro hm
        obtain hm | hm := List.mem_append.1 hm
        · exact hcal hm
        · rw [List.mem_singleton] at hm; cases hm
      · rw [State.grantWait_waits hw (Nat.not_le.1 hn)]
        exact hcal
    rw [Fst.asksAgain, hw]
    exact (execAll_cons hexec _).trans (htest _ hafter)

/-- A command that frees slots goes on with what waits for them. -/
theorem State.goesOn_of_afterFree {c : Instr} (h1 : exec c s = .next v.afterFree) (h2 : exec c s.unwaited = .next v.unwaited)
    (hfst : v.fst.wait = s.fst.wait) (hq : v.fst.quiesce = s.fst.quiesce) (hcru : v.cru = s.cru)
    (h : s.fst.wait = none ∨ s.fst.quiesce = false) :
    s.goesOn c s.unwaited (fun u => { u with cru := s.cru }) (s.fst.asksAgain ++ [.calworkGrant]) := by
  have hasks : s.fst.asksAgain = v.fst.asksAgain := by simp only [Fst.asksAgain, hfst]
  refine ⟨_, h2, fun hno => ?_⟩
  rw [h1, hasks, ← hcru]
  exact (State.execAll_afterFree (by rw [hfst, hq]; exact h) (by rw [← hasks]; exact hno)).symm

/-! ## A change by the table -/

theorem State.changeSlot_refused {i : Nat} {c : SlotChange} {r : TileRef} (h : s.fst.slot i ≠ some (c.before r)) :
    s.changeSlot i c r = s := by
  simp [State.changeSlot, Fst.allows, h]

theorem State.changeSlot_frees {i : Nat} {c : SlotChange} {r : TileRef} (h : s.fst.slot i = some (c.before r))
    (hc : c.after r = .free) : s.changeSlot i c r = s.freeSlots [i] := by
  unfold State.changeSlot
  rw [if_pos (show s.fst.allows i c r = true by simp [Fst.allows, h]), hc]

theorem State.changeSlot_sets {i : Nat} {c : SlotChange} {r : TileRef} (h : s.fst.slot i = some (c.before r))
    (hc : c.after r ≠ .free) : s.changeSlot i c r = s.setSlot i (c.after r) := by
  unfold State.changeSlot
  rw [if_pos (show s.fst.allows i c r = true by simp [Fst.allows, h])]
  split
  · contradiction
  · rfl

theorem State.changeSlot_changes {i : Nat} {c : SlotChange} {r : TileRef} (h : s.fst.slot i = some (c.before r))
    (hc : c.after r = .free → s.fst.wait = none ∧ s.cru.state ≠ .waiting) :
    s.changeSlot i c r = { s with fst := s.fst.setSlot i (c.after r) } := by
  by_cases hf : c.after r = .free
  · obtain ⟨hw, hcru⟩ := hc hf
    rw [State.changeSlot_frees h hf, State.freeSlots, State.afterFree_of_idle (by simpa using hw) (by exact hcru), hf]
    rfl
  · exact State.changeSlot_sets h hf

/-- Settles O38. -/
theorem slotChanges : Obligations.SlotChanges := by
  intro s i r p hp
  obtain ⟨hbefore, hafter⟩ : p.2.1 = p.1.before r ∧ p.2.2 = p.1.after r := by
    simp only [List.mem_cons, List.not_mem_nil, or_false] at hp
    obtain rfl | rfl | rfl | rfl | rfl | rfl | rfl | rfl | rfl | rfl | rfl | rfl := hp <;> exact ⟨rfl, rfl⟩
  rw [hbefore, hafter]
  refine ⟨fun h hfree => ⟨s.fst.setSlot i (p.1.after r), congrArg Host.Outcome.next
    (State.changeSlot_changes (s := s.deliver (.slotChange i p.1 r)) h hfree), rfl, fun k => ?_⟩, fun h => ?_,
    fun h hfree hw => ?_⟩
  · rw [Fst.slot_setSlot]
    simp [Fst.lt_of_slot h]
  · exact congrArg Host.Outcome.next (State.changeSlot_refused (s := s.deliver (.slotChange i p.1 r)) h)
  · refine State.goesOn_of_afterFree (v := { s.deliver (.slotChange i p.1 r) with fst := s.fst.setSlots [i] .free })
      (congrArg Host.Outcome.next (State.changeSlot_frees (s := s.deliver (.slotChange i p.1 r)) h hfree)) ?_ (by simp) (by simp)
      rfl hw
    refine congrArg Host.Outcome.next ((State.changeSlot_frees (s := s.unwaited.deliver (.slotChange i p.1 r)) h hfree).trans ?_)
    rfl

/-! ## Admission and release -/

theorem State.askSlots_grants {r : TileRef} {n : Nat} (hq : s.fst.quiesce = false) (hw : s.fst.wait = none)
    (hn : n + 1 ≤ s.fst.freeCount) : s.askSlots r n = s.grantSlots r n := by
  simp [State.askSlots, hq, hw, hn]

theorem State.askSlots_waits {r : TileRef} {n : Nat} (hq : s.fst.quiesce = false) (hw : s.fst.wait = none)
    (hn : s.fst.freeCount < n + 1) : s.askSlots r n = { s with fst := { s.fst with wait := some (r, n) } } := by
  simp [State.askSlots, hq, hw, Nat.not_le.2 hn]

theorem State.askSlots_refuses {r : TileRef} {n : Nat} (h : s.fst.quiesce = true ∨ s.fst.wait ≠ none) :
    s.askSlots r n = s.admissionRefused r := by
  refine if_pos ?_
  obtain h | h := h
  · rw [h]; rfl
  · rw [Option.isSome_iff_ne_none.2 h, Bool.or_true]

/-- R101: slots granted are RESERVED, and the others as they were. -/
theorem Fst.slot_granted {f : Fst} {l : List Nat} {n : Nat} (h : f.isLowestFree l n) (x : SlotState) (i : Nat) :
    (f.setSlots l x).slot i = if i ∈ l then some x else f.slot i := by
  obtain ⟨-, -, hfree, -⟩ := h
  rw [Fst.slot_setSlots]
  refine if_congr ⟨And.left, fun hi => ⟨hi, Fst.lt_of_slot (hfree i hi)⟩⟩ rfl rfl

/-- R104: the release of a tile, slot by slot. -/
theorem Fst.slot_released (f : Fst) (r : TileRef) (i : Nat) :
    (f.setSlots (f.exposureSlots r) .free).slot i
      = if f.slot i = some (.reserved r) ∨ f.slot i = some (.exposing r) ∨ f.slot i = some (.raw r)
        then some .free else f.slot i := by
  rw [Fst.slot_setSlots]
  refine if_congr ?_ rfl rfl
  rw [Fst.exposureSlots, Fst.mem_slotsWhere]
  constructor
  · rintro ⟨⟨-, x, hx, h⟩, -⟩
    simpa [hx, or_assoc] using h
  · intro h
    have hlt : i < 48 := by obtain h | h | h := h <;> exact Fst.lt_of_slot h
    refine ⟨⟨hlt, ?_⟩, hlt⟩
    obtain h | h | h := h <;> exact ⟨_, h, by simp⟩

theorem State.freeSlots_of_idle {l : List Nat} (hw : s.fst.wait = none) (hc : s.cru.state ≠ .waiting) :
    s.freeSlots l = { s with fst := s.fst.setSlots l .free } :=
  State.afterFree_of_idle (by simpa using hw) hc

/-- Settles O39. -/
theorem admissionAndRelease : Obligations.AdmissionAndRelease := by
  intro s r n hcru released
  have hreleased : ∀ i, (s.fst.setSlots (s.fst.exposureSlots r) .free).slot i = released i := s.fst.slot_released r
  refine ⟨fun hq hw hn => ?_, fun hq hw hn => ?_, fun h => ?_, fun hw => ?_, fun hw c hc => ?_, fun u hw hu => ?_, rfl,
    fun kind => rfl⟩
  · have hl := Fst.lowestFree_spec hn
    exact ⟨_, _, congrArg Host.Outcome.next (State.askSlots_grants (s := s.deliver (.admissionRequest r n)) hq hw hn), hl,
      s.fst.setSlots_eq _ _, fun i => Fst.slot_granted hl _ i⟩
  · exact congrArg Host.Outcome.next (State.askSlots_waits (s := s.deliver (.admissionRequest r n)) hq hw hn)
  · exact congrArg Host.Outcome.next (State.askSlots_refuses (s := s.deliver (.admissionRequest r n)) h)
  · refine congrArg Host.Outcome.next ?_
    show (s.deliver (.admissionWithdraw r)).withdrawAdmission r = _
    unfold State.withdrawAdmission
    rw [show (s.deliver (.admissionWithdraw r)).fst.wait = some (r, n) from hw]
    exact if_pos rfl
  · refine ⟨_, ?_, s.fst.setSlots_eq _ _, hreleased⟩
    obtain rfl | rfl := hc
    · refine congrArg Host.Outcome.next (Eq.trans ?_
        (State.freeSlots_of_idle (s := s.deliver (.admissionWithdraw r)) (l := s.fst.exposureSlots r) hw hcru))
      show (s.deliver (.admissionWithdraw r)).withdrawAdmission r = _
      unfold State.withdrawAdmission
      rw [show (s.deliver (.admissionWithdraw r)).fst.wait = none from hw]
      rfl
    · exact congrArg Host.Outcome.next (State.freeSlots_of_idle (s := s.deliver (.tileRelease r)) hw hcru)
  · obtain ⟨f, hf⟩ : ∃ f : Fst, f = s.fst.setSlots (s.fst.exposureSlots r) .free := ⟨_, rfl⟩
    have hslots : ∀ i, f.slot i = released i := by rw [hf]; exact hreleased
    have hwait : f.wait = some (u, n) := by rw [hf, (s.fst.setSlots_frame _ _).1, hw]
    have hexec : exec (.tileRelease r) s = .next ({ s.deliver (.tileRelease r) with fst := f }.grantWait) := by
      refine congrArg Host.Outcome.next ?_
      show ({ s.deliver (.tileRelease r) with fst := s.fst.setSlots (s.fst.exposureSlots r) .free }).grantWait.cruTest = _
      rw [← hf]
      exact State.cruTest_eq_self (by rw [State.grantWait_frame _ |>.2.2.2.2.2.2.2.1]; exact hcru)
    refine ⟨_, hexec, ?_⟩
    rw [← Fst.freeCount_of_slots hslots]
    split
    next hn =>
      have hspec := Fst.lowestFree_spec (f := { f with wait := none }) hn
      have ⟨hlen, hsorted, hfree, _⟩ := hspec
      rw [State.grantWait_grants (s := { s.deliver (.tileRelease r) with fst := f }) hwait hn]
      refine ⟨_, hlen, hsorted, fun i hi => (hslots i).symm.trans (hfree i hi), rfl, ?_, fun i => ?_⟩
      · exact (Fst.setSlots_frame _ _ _).1
      · refine (Fst.slot_granted hspec (.reserved u) i).trans ?_
        rw [show ({ f with wait := none } : Fst).slot i = f.slot i from rfl, hslots]
    next hn =>
      rw [State.grantWait_waits (s := { s.deliver (.tileRelease r) with fst := f }) hwait (Nat.not_le.1 hn)]
      exact ⟨rfl, hwait, hslots⟩

/-! ## The slots of a calibration -/

/-- R86: each slot of a list without repetition goes to CALWORK under its role, and no other slot changes. -/
theorem Fst.slot_takeCalwork_ne {f : Fst} {pairs : List (Nat × CalRole)} {i : Nat} (h : ∀ p ∈ pairs, p.1 ≠ i) :
    (f.takeCalwork pairs).slot i = f.slot i := by
  induction pairs generalizing f with
  | nil => rfl
  | cons p pairs ih =>
    refine (ih (f := f.setSlot p.1 (.calwork p.2)) fun q hq => h q (List.mem_cons_of_mem _ hq)).trans ?_
    rw [Fst.slot_setSlot, if_neg fun k => h p List.mem_cons_self k.1.symm]

theorem Fst.slot_takeCalwork_mem {f : Fst} {pairs : List (Nat × CalRole)} (hn : (pairs.map Prod.fst).Nodup)
    (hlt : ∀ p ∈ pairs, p.1 < 48) : ∀ p ∈ pairs, (f.takeCalwork pairs).slot p.1 = some (.calwork p.2) := by
  induction pairs generalizing f with
  | nil => nofun
  | cons q pairs ih =>
    intro p hp
    obtain ⟨hq, hn⟩ := List.nodup_cons.1 hn
    obtain rfl | hp := List.mem_cons.1 hp
    · refine (Fst.slot_takeCalwork_ne (f := f.setSlot p.1 (.calwork p.2)) fun x hx e => hq ?_).trans ?_
      · exact List.mem_map.2 ⟨x, hx, e⟩
      · rw [Fst.slot_setSlot, if_pos ⟨rfl, hlt p List.mem_cons_self⟩]
    · exact ih hn (fun x hx => hlt x (List.mem_cons_of_mem _ hx)) p hp

theorem Fst.takeCalwork_eq (f : Fst) (pairs : List (Nat × CalRole)) :
    f.takeCalwork pairs = { f with slots := (f.takeCalwork pairs).slots } := by
  obtain ⟨h1, h2, h3, h4⟩ := f.takeCalwork_frame pairs
  rw [← h1, ← h2, ← h3, ← h4]

/-- The two requests by which CRU's slots are taken: BME's answer is asked for with the first two. -/
theorem State.cruSlots_taken {k : CalKind} {lo hi : Nat} {r0 r1 : CalRole} {rest : List (Nat × CalRole)}
    (hst : s.cru.state = .waiting) (hreq : s.cru.request = some k) (hwork : s.cru.work = []) (hfree : s.bme.free = true)
    (hready : s.fst.calworkReady k = true) (hpairs : s.fst.calworkPairs k = (lo, r0) :: (hi, r1) :: rest) :
    let taken : State := { s with
      fst := s.fst.takeCalwork (s.fst.calworkPairs k), cru := { s.cru with work := s.fst.calworkPairs k }
      inFlight := s.inFlight ++ [.calWorkRequest lo hi] }
    s.cruTest = taken ∧ s.requestCalwork k = taken := by
  constructor
  · unfold State.cruTest
    simp only [hst, hreq, hwork, hfree, hready, hpairs, decide_true, Bool.and_self, if_true]
    rfl
  · unfold State.requestCalwork
    simp only [hready, if_true, hst, hreq, hpairs, hwork, and_self]
    rfl

theorem State.cruSlots_untaken {k : CalKind} (hreq : s.cru.request = some k) (hready : s.fst.calworkReady k = false) :
    s.cruTest = s ∧ s.requestCalwork k = s := by
  constructor
  · unfold State.cruTest
    cases hst : s.cru.state <;> simp [hreq, hready]
  · simp [State.requestCalwork, hready]

theorem Fst.isCalwork_iff {f : Fst} {i : Nat} : f.isCalwork i = true ↔ ∃ role, f.slot i = some (.calwork role) := by
  unfold Fst.isCalwork
  split
  next role h => exact iff_of_true rfl ⟨role, h⟩
  next h => exact iff_of_false nofun fun ⟨role, hr⟩ => h role hr

theorem RefName.valid_of {name : RefName} (h : ∀ p, name = .flat p → p < 4) : name.valid = true := by
  cases name with
  | bias | rate => rfl
  | flat p => exact decide_eq_true (h p rfl)

/-- R108: a commit makes a CALWORK slot the reference of a name, in place of the slot that was. -/
theorem Fst.slot_commitRef {f : Fst} {i : Nat} {name : RefName} {role : CalRole} (hi : f.slot i = some (.calwork role))
    (hn : name.valid = true) (k : Nat) : (f.commitRef i name).slot k = if k = i then some (.ref name)
      else if f.slot k = some (.ref name) then some .free else f.slot k := by
  unfold Fst.commitRef
  rw [if_pos (by rw [Fst.isCalwork_iff.2 ⟨role, hi⟩, hn]; rfl), Fst.slot_setSlot]
  refine if_congr (and_iff_left (Fst.lt_of_slot hi)) rfl ?_
  rw [Fst.slot_setSlots]
  refine if_congr ?_ rfl rfl
  rw [Fst.mem_slotsWhere]
  constructor
  · rintro ⟨⟨-, x, hx, h⟩, -⟩
    rw [hx, of_decide_eq_true h]
  · exact fun h => ⟨⟨Fst.lt_of_slot h, _, h, by simp⟩, Fst.lt_of_slot h⟩

theorem Fst.commitRef_eq (f : Fst) (i : Nat) (name : RefName) :
    f.commitRef i name = { f with slots := (f.commitRef i name).slots } := by
  unfold Fst.commitRef
  split
  · rw [Fst.setSlots_eq]; rfl
  · rfl

theorem Fst.commit_eq (f : Fst) (entries : List (Nat × RefName)) : f.commit entries = { f with slots := (f.commit entries).slots } := by
  unfold Fst.commit
  induction entries generalizing f with
  | nil => rfl
  | cons e entries ih =>
    refine (ih (f.commitRef e.1 e.2)).trans ?_
    have h := f.commitRef_eq e.1 e.2
    rw [congrArg Fst.wait h, congrArg Fst.port h, congrArg Fst.quiesce h, congrArg Fst.planes h]
    rfl

/-! ### With no admission waiting -/

/-- The frame store with no admission waiting. -/
def Fst.unwaited (f : Fst) : Fst := { f with wait := none }

theorem Fst.setSlots_unwaited (f : Fst) (l : List Nat) (x : SlotState) : f.unwaited.setSlots l x = (f.setSlots l x).unwaited := by
  unfold Fst.setSlots
  induction l generalizing f with
  | nil => rfl
  | cons i l ih => exact ih (f.setSlot i x)

theorem Fst.commitRef_unwaited (f : Fst) (i : Nat) (name : RefName) :
    f.unwaited.commitRef i name = (f.commitRef i name).unwaited := by
  unfold Fst.commitRef
  rw [show f.unwaited.isCalwork i = f.isCalwork i from rfl]
  split
  · exact congrArg (Fst.setSlot · i (.ref name)) (f.setSlots_unwaited _ .free)
  · rfl

theorem Fst.commit_unwaited (f : Fst) (entries : List (Nat × RefName)) :
    f.unwaited.commit entries = (f.commit entries).unwaited := by
  unfold Fst.commit
  induction entries generalizing f with
  | nil => rfl
  | cons e entries ih =>
    rw [List.foldl_cons, List.foldl_cons, Fst.commitRef_unwaited]
    exact ih (f.commitRef e.1 e.2)

/-- A change of the slots, whatever it is, at the state with nothing waiting and at the state itself. -/
theorem State.goesOn_of_slots {c : Instr} {f : Fst} (h1 : exec c s = .next (State.afterFree { s.deliver c with fst := f }))
    (h2 : exec c s.unwaited = .next (State.afterFree { s.unwaited.deliver c with fst := f.unwaited }))
    (hf : f = { s.fst with slots := f.slots }) (h : s.fst.wait = none ∨ s.fst.quiesce = false) :
    s.goesOn c s.unwaited (fun u => { u with cru := s.cru }) (s.fst.asksAgain ++ [.calworkGrant]) := by
  refine State.goesOn_of_afterFree (v := { s.deliver c with fst := f }) h1 (h2.trans (congrArg Host.Outcome.next ?_))
    (Eq.trans (congrArg Fst.wait hf) rfl) (Eq.trans (congrArg Fst.quiesce hf) rfl) rfl h
  exact State.afterFree_of_idle rfl nofun

/-- Settles O40. -/
theorem calibrationSlots : Obligations.CalibrationSlots := by
  intro s
  refine ⟨fun k roles c hk hc hst hreq hwork => ?_, fun hst => ?_, fun hw hcru => ⟨fun i name role hi hname => ?_, fun l => ?_⟩,
    fun c hc hw => ?_⟩
  · have hroles : roles = k.roles ∧ k.slots = k.roles.length := by
      obtain ⟨rfl, rfl⟩ | ⟨p, rfl, rfl⟩ := hk <;> exact ⟨rfl, rfl⟩
    obtain ⟨rfl, hlen⟩ := hroles
    have hexec : ∀ w, (s.deliver c).cruTest = w ∧ (s.deliver c).requestCalwork k = w → exec c s = .next w := by
      rintro w ⟨h1, h2⟩
      obtain rfl | rfl := hc
      · exact congrArg Host.Outcome.next h1
      · exact congrArg Host.Outcome.next h2
    have hasm : c.asMessage = c := by obtain rfl | rfl := hc <;> rfl
    refine ⟨fun hbme hque hbq hfq hn => ?_, fun hn => ?_⟩
    · have hspec := Fst.lowestFree_spec (hlen ▸ hn : k.slots ≤ s.fst.freeCount)
      have ⟨hl, hsorted, hfree, _⟩ := hspec
      have hready : s.fst.calworkReady k = true := by simp [Fst.calworkReady, hfq, hlen, hn]
      have hbme' : s.bme.free = true := by simp [Bme.free, hbme, hque, hbq]
      obtain ⟨lo, hi, rest, hlist⟩ : ∃ lo hi rest, s.fst.lowestFree k.slots = lo :: hi :: rest := by
        have h4 : 4 ≤ (s.fst.lowestFree k.slots).length := by
          rw [hl]; cases k <;> simp [CalKind.slots]
        match s.fst.lowestFree k.slots, h4 with
        | lo :: hi :: rest, _ => exact ⟨lo, hi, rest, rfl⟩
      obtain ⟨r0, r1, rs, hrs⟩ : ∃ r0 r1 rs, k.roles = r0 :: r1 :: rs := by
        cases k <;> exact ⟨_, _, _, rfl⟩
      have hpairs : s.fst.calworkPairs k = (lo, r0) :: (hi, r1) :: rest.zip rs := by
        rw [Fst.calworkPairs, hlist, hrs]; rfl
      have htaken := hexec _ (by
        obtain ⟨h1, h2⟩ := State.cruSlots_taken (s := s.deliver c) hst hreq hwork hbme' hready hpairs
        exact ⟨h1, h2⟩)
      have hmap : ((s.fst.calworkPairs k).map Prod.fst) = s.fst.lowestFree k.slots :=
        List.map_fst_zip (by rw [hl, hlen])
      refine ⟨_, _, lo, hi, hlen ▸ hspec, ?_, ?_, ?_, s.fst.takeCalwork_eq (s.fst.calworkPairs k), ?_, fun i hi => ?_⟩
      · rw [← hlen, hlist]; rfl
      · rw [← hlen, hlist]; rfl
      · rw [htaken]
        refine congrArg Host.Outcome.next ?_
        rw [← hlen, State.deliver_inFlight, hasm]
        rfl
      · rw [← hlen]
        refine Fst.slot_takeCalwork_mem ?_ fun p hp => ?_
        · rw [show (s.fst.lowestFree k.slots).zip k.roles = s.fst.calworkPairs k from rfl, hmap]
          exact hsorted.imp Nat.ne_of_lt
        · exact Fst.lt_of_slot (hfree p.1 (by rw [← hmap]; exact List.mem_map_of_mem hp))
      · refine Fst.slot_takeCalwork_ne fun p hp e => hi ?_
        rw [← hlen, ← hmap, ← e]
        exact List.mem_map_of_mem hp
    · have hready : s.fst.calworkReady k = false := by
        simp only [Fst.calworkReady, hlen, Bool.and_eq_false_iff, decide_eq_false_iff_not, Nat.not_le]
        exact .inl hn
      rw [hexec _ (State.cruSlots_untaken (s := s.deliver c) hreq hready)]
      exact congrArg (fun m => Host.Outcome.next { s with inFlight := s.inFlight.erase m }) hasm
  · exact congrArg Host.Outcome.next (State.cruTest_eq_self (s := s.deliver .calworkGrant) hst)
  · have hvalid := RefName.valid_of hname
    refine ⟨_, congrArg Host.Outcome.next (State.afterFree_of_idle
      (s := { s.deliver (.calCommit [(i, name)]) with fst := s.fst.commit [(i, name)] }) ?_ hcru), s.fst.commit_eq _,
      fun k => Fst.slot_commitRef hi hvalid k⟩
    show (s.fst.commit [(i, name)]).wait = none
    rw [Fst.commit_eq]; exact hw
  · refine ⟨_, congrArg Host.Outcome.next (State.freeSlots_of_idle (s := s.deliver (.calworkReturn l)) hw hcru),
      s.fst.setSlots_eq _ _, fun k role hk hrole => ?_, fun k hk => ?_⟩
    · refine (Fst.slot_setSlots ..).trans (if_pos ⟨List.mem_filter.2 ⟨hk, Fst.isCalwork_iff.2 ⟨role, hrole⟩⟩,
        Fst.lt_of_slot hrole⟩)
    · refine (Fst.slot_setSlots ..).trans (if_neg fun h => ?_)
      obtain ⟨hmem, hcal⟩ := List.mem_filter.1 h.1
      obtain ⟨role, hrole⟩ := Fst.isCalwork_iff.1 hcal
      exact hk.elim (fun hno => hno hmem) fun hno => hno role hrole
  · obtain ⟨entries, rfl⟩ | ⟨l, rfl⟩ := hc
    · refine State.goesOn_of_slots (f := s.fst.commit entries) rfl ?_ (s.fst.commit_eq entries) hw
      rw [← Fst.commit_unwaited]
      rfl
    · refine State.goesOn_of_slots (f := s.fst.setSlots (l.filter s.fst.isCalwork) .free) rfl ?_ (s.fst.setSlots_eq _ _) hw
      rw [← Fst.setSlots_unwaited]
      rfl

end Sys2Proof.Machine
end

section
/-! PROOFS. The memory port (R109, R110, Table 6.3): what it lets through, whom it serves, and the row that SFE writes. -/

namespace Sys2Proof.Machine

variable {s t : State} {u w : PortUnit}

/-! ## What the port lets through -/

/-- Table 6.3, row by row. -/
theorem portTable_iff (c : PortClient) (write cal : Bool) (x : SlotState) : portTable c write cal x = true
    ↔ (c = .sfe ∧ write = true ∧ ((∃ t, x = .exposing t) ∨ ∃ r, x = .calwork r))
      ∨ (c = .bme ∧ write = false
          ∧ (((∃ t, x = .raw t) ∧ ¬ cal = true) ∨ (∃ r, x = .ref r) ∨ ((∃ r, x = .calwork r) ∧ cal = true)))
      ∨ (c = .bme ∧ write = true ∧ (((∃ t, x = .dest t) ∧ ¬ cal = true) ∨ ((∃ r, x = .calwork r) ∧ cal = true)))
      ∨ (c = .sou ∧ write = false ∧ x = .streaming) := by
  cases c with
  | sfe => cases write <;> cases x <;> simp [portTable]
  | bme => cases write <;> cases x <;> simp [portTable]
  | sou => cases write <;> cases x <;> simp [portTable]

theorem BmeState.inCal_iff (b : BmeState) : b.inCal = true ↔ b = .calReady ∨ b = .calBusy := by
  cases b <;> simp [BmeState.inCal]

theorem State.portAllows_iff (s : State) (u : PortUnit) : s.portAllows u = true
    ↔ ∃ x, s.fst.slot u.slot = some x ∧ portTable u.client u.write s.bme.state.inCal x = true := by
  unfold State.portAllows Fst.portAllows
  cases s.fst.slot u.slot <;> simp

theorem State.portAllows_congr (hf : t.fst.slots = s.fst.slots) (hb : t.bme = s.bme) (u : PortUnit) :
    t.portAllows u = s.portAllows u := by
  unfold State.portAllows Fst.portAllows Fst.slot
  rw [hf, hb]

/-! ## Whom it serves -/

theorem State.servePort_allowed {k : Nat} (hc : s.fst.port.choose = some u) (ha : s.portAllows u = true) :
    State.servePort (k + 1) s = { s with fst := { s.fst with port := s.fst.port.take u } } := by
  unfold State.servePort
  simp [hc, ha]

theorem State.servePort_refused {k : Nat} (hc : s.fst.port.choose = some u) (ha : s.portAllows u = false) :
    State.servePort (k + 1) s = State.servePort k (State.readoutRefused { s with fst := { s.fst with
      port := { s.fst.port.take u with serving := none, last := s.fst.port.last } } } u) := by
  conv_lhs => unfold State.servePort
  simp [hc, ha]

theorem State.servePort_empty {k : Nat} (hc : s.fst.port.choose = none) : State.servePort k s = s := by
  cases k with
  | zero => rfl
  | succ k => unfold State.servePort; simp [hc]

/-- The port with no unit, as the last served left it. -/
def Port.idle (last : PortClient) : Port := { serving := none, waitSfe := none, waitBme := none, waitSou := none, last := last }

theorem Port.eq_idle {p : Port} (h1 : p.serving = none) (h2 : p.waitSfe = none) (h3 : p.waitBme = none)
    (h4 : p.waitSou = none) : p = Port.idle p.last := by
  cases p
  cases h1
  cases h2
  cases h3
  cases h4
  rfl

theorem Port.choose_enqueue_idle (l : PortClient) (u : PortUnit) : ((Port.idle l).enqueue u).choose = some u := by
  unfold Port.enqueue
  cases u.client <;> rfl

theorem Port.take_enqueue_idle (l : PortClient) (u : PortUnit) : ((Port.idle l).enqueue u).take u
    = { Port.idle l with serving := some u, last := match u.client with | .sfe => l | .bme => .bme | .sou => .sou } := by
  unfold Port.take Port.enqueue
  cases u.client <;> rfl

theorem Port.given_up_idle (l : PortClient) (u : PortUnit) :
    { ((Port.idle l).enqueue u).take u with serving := none, last := ((Port.idle l).enqueue u).last } = Port.idle l := by
  unfold Port.take Port.enqueue
  cases u.client <;> rfl

theorem State.requestUnit_idle (hl : s.sfe.asksFor u) (hp : s.fst.port = Port.idle s.fst.port.last) :
    s.requestUnit u = State.servePort 3 { s with fst := { s.fst with port := (Port.idle s.fst.port.last).enqueue u } } := by
  have hstop : s.unitStopped u = false := (s.unitStopped_iff u).2 hl
  have hholds : s.fst.port.holds u.client = false := by rw [hp]; cases u.client <;> rfl
  have hserve : ((Port.idle s.fst.port.last).enqueue u).serving = none := by unfold Port.enqueue; cases u.client <;> rfl
  unfold State.requestUnit
  rw [hholds, hstop, ← hp] at *
  rw [if_neg nofun]
  exact if_pos hserve

theorem State.requestUnit_served (hl : s.sfe.asksFor u) (hp : s.fst.port = Port.idle s.fst.port.last)
    (ha : s.portAllows u = true) : s.requestUnit u = { s with fst := { s.fst with port := { s.fst.port with
      serving := some u, last := match u.client with | .sfe => s.fst.port.last | .bme => .bme | .sou => .sou } } } := by
  refine (State.requestUnit_idle hl hp).trans ((State.servePort_allowed (k := 2) (s := { s with fst := { s.fst with
    port := (Port.idle s.fst.port.last).enqueue u } }) (Port.choose_enqueue_idle _ u) ha).trans ?_)
  dsimp only
  rw [Port.take_enqueue_idle]
  generalize s.fst.port.last = l at hp
  rw [hp]

theorem State.requestUnit_refused (hl : s.sfe.asksFor u) (hp : s.fst.port = Port.idle s.fst.port.last)
    (ha : s.portAllows u = false) : s.requestUnit u = s.readoutRefused u := by
  have hself : { s with fst := { s.fst with port := Port.idle s.fst.port.last } } = s := by rw [← hp]
  refine (State.requestUnit_idle hl hp).trans ((State.servePort_refused (k := 2) (s := { s with fst := { s.fst with
    port := (Port.idle s.fst.port.last).enqueue u } }) (Port.choose_enqueue_idle _ u) ha).trans ?_)
  dsimp only
  rw [Port.given_up_idle, hself]
  refine State.servePort_empty ?_
  rw [(s.readoutRefused_frame u).2.2.2.1, hp]
  rfl

theorem State.readoutRefused_other (h : u.client ≠ .sfe) : s.readoutRefused u = s := by
  simp [State.readoutRefused, h]

/-- R118: a row that the port refuses leaves its mark on the readout. -/
theorem State.readoutRefused_row {q : Readout} (hc : u.client = .sfe) (hq : s.sfe.readout = some q)
    (hr : s.sfe.readsInto u.slot = true) :
    s.readoutRefused u = { s with sfe := { s.sfe with readout := some { q with noFrame := true } } } := by
  simp [State.readoutRefused, hc, hr, hq]

theorem State.requestUnit_busy {v : PortUnit} (hl : s.sfe.asksFor u) (hv : s.fst.port.serving = some v)
    (hne : v.client ≠ u.client) (h1 : s.fst.port.waitSfe = none) (h2 : s.fst.port.waitBme = none)
    (h3 : s.fst.port.waitSou = none) :
    s.requestUnit u = { s with fst := { s.fst with port := s.fst.port.enqueue u } } := by
  have hstop : s.unitStopped u = false := (s.unitStopped_iff u).2 hl
  have hholds : s.fst.port.holds u.client = false := by
    unfold Port.holds
    cases hc : u.client <;> simp_all
  have hserve : (s.fst.port.enqueue u).serving = some v := by unfold Port.enqueue; cases u.client <;> exact hv
  unfold State.requestUnit
  rw [hholds, hstop, if_neg nofun]
  dsimp only
  rw [hserve, if_neg nofun]

theorem State.requestUnit_eq_self (hl : ¬ s.sfe.asksFor u) : s.requestUnit u = s := by
  have hstop : s.unitStopped u = true := by rw [← Bool.not_eq_false, s.unitStopped_iff]; exact hl
  unfold State.requestUnit
  rw [hstop, Bool.or_true, if_pos rfl]

/-! ## The end of a unit -/

theorem State.finishUnit_keeps (s : State) (u : PortUnit) :
    (s.finishUnit u).fst.port = s.fst.port ∧ (s.finishUnit u).fst.slots = s.fst.slots := by
  unfold State.finishUnit
  repeat' split
  all_goals simp

/-- R109: the port with the next of its waiting units in service, SFE's first, and BME and SOU in turn. -/
def Port.served (p : Port) : Port :=
  match p.waitSfe, p.waitBme, p.waitSou with
  | some w, _, _ => { p with serving := some w, waitSfe := none }
  | none, some v, some w =>
    if p.last = .bme then { p with serving := some w, waitSou := none, last := .sou }
    else { p with serving := some v, waitBme := none, last := .bme }
  | none, some v, none => { p with serving := some v, waitBme := none, last := .bme }
  | none, none, some w => { p with serving := some w, waitSou := none, last := .sou }
  | none, none, none => p

theorem Port.served_eq (p : Port) (a b c : Option PortUnit) : p.waitSfe = a → p.waitBme = b → p.waitSou = c →
    ({ p with serving := none } : Port).served = match a, b, c with
      | some w, _, _ => { p with serving := some w, waitSfe := none }
      | none, some v, some w => if p.last = .bme then { p with serving := some w, waitSou := none, last := .sou }
        else { p with serving := some v, waitBme := none, last := .bme }
      | none, some v, none => { p with serving := some v, waitBme := none, last := .bme }
      | none, none, some w => { p with serving := some w, waitSou := none, last := .sou }
      | none, none, none => { p with serving := none } := by
  rintro rfl rfl rfl
  obtain ⟨sv, a, b, c, l⟩ := p
  cases a <;> cases b <;> cases c <;> rfl

/-- R109: each waiting unit is one that the port lets through, so the one chosen is served. -/
theorem State.servePort_next (ha : ∀ w, s.fst.port.waitSfe = some w → w.client = .sfe ∧ s.portAllows w = true)
    (hb : ∀ w, s.fst.port.waitBme = some w → w.client = .bme ∧ s.portAllows w = true)
    (hc : ∀ w, s.fst.port.waitSou = some w → w.client = .sou ∧ s.portAllows w = true) :
    State.servePort 3 s = { s with fst := { s.fst with port := s.fst.port.served } } := by
  have hserve : ∀ w, s.portAllows w = true → s.fst.port.choose = some w → s.fst.port.served = s.fst.port.take w →
      State.servePort 3 s = { s with fst := { s.fst with port := s.fst.port.served } } := fun w hal hch htk => by
    rw [State.servePort_allowed hch hal, htk]
  cases h1 : s.fst.port.waitSfe with
  | some w =>
    obtain ⟨hcl, hal⟩ := ha w h1
    exact hserve w hal (by simp [Port.choose, h1]) (by simp [Port.served, Port.take, h1, hcl])
  | none =>
    cases h2 : s.fst.port.waitBme with
    | some v =>
      obtain ⟨hcv, hav⟩ := hb v h2
      cases h3 : s.fst.port.waitSou with
      | some w =>
        obtain ⟨hcw, haw⟩ := hc w h3
        by_cases hl : s.fst.port.last = .bme
        · exact hserve w haw (by simp [Port.choose, h1, h2, h3, hl]) (by simp [Port.served, Port.take, h1, h2, h3, hl, hcw])
        · exact hserve v hav (by simp [Port.choose, h1, h2, h3, hl]) (by simp [Port.served, Port.take, h1, h2, h3, hl, hcv])
      | none => exact hserve v hav (by simp [Port.choose, h1, h2, h3]) (by simp [Port.served, Port.take, h1, h2, h3, hcv])
    | none =>
      cases h3 : s.fst.port.waitSou with
      | some w =>
        obtain ⟨hcw, haw⟩ := hc w h3
        exact hserve w haw (by simp [Port.choose, h1, h2, h3]) (by simp [Port.served, Port.take, h1, h2, h3, hcw])
      | none =>
        rw [State.servePort_empty (by simp [Port.choose, h1, h2, h3]), show s.fst.port.served = s.fst.port by
          simp [Port.served, h1, h2, h3]]

theorem State.finishUnit_other (h : u.client ≠ .sfe) : s.finishUnit u = s := by
  unfold State.finishUnit
  cases hc : u.client with
  | sfe => exact absurd hc h
  | bme => cases u.write <;> rfl
  | sou => cases u.write <;> rfl

/-- R110: the row of SFE that the port serves is written, and the readout goes on to the next. -/
theorem State.finishUnit_writes (hl : s.sfe.asksFor u) (hc : u.client = .sfe) (hw : u.write = true)
    (ha : s.portAllows u = true) (hr : u.row < 3840) : s.finishUnit u = { s with
      fst := s.fst.write u.slot (u.row * columns) u.rowCodes, sfe := s.sfe.advance u.slot u.row } := by
  have hstop : s.unitStopped u = false := (s.unitStopped_iff u).2 hl
  have hrow : u.row < sensorRows := hr
  unfold State.finishUnit
  simp [hc, hw, hstop, ha, hrow]

/-! ## The row that SFE writes -/

theorem PortUnit.rowCodes_length (u : PortUnit) : runsLength u.rowCodes = 5120 := by
  unfold PortUnit.rowCodes runsFit
  rw [runsLength_take, runsLength_append]
  simp [runsLength, columns]

theorem PortUnit.rowCodes_get (u : PortUnit) {col : Nat} (h : col < 5120) :
    runsGet? u.rowCodes col = some (min 16383 ((runsGet? u.codes col).getD 0)) := by
  have hin := runsGet?_isSome u.codes col
  have hrest : runsGet? [(columns, 0)] (col - runsLength (runsMap capCode u.codes)) = some 0 := by
    simp [runsGet?, columns, Nat.lt_of_le_of_lt (Nat.sub_le _ _) h]
  unfold PortUnit.rowCodes runsFit
  rw [runsGet?_take, if_pos h, runsGet?_append, runsGet?_map, hrest, runsLength_map]
  by_cases hc : col < runsLength u.codes
  · rw [if_pos hc]
    rw [decide_eq_true hc, Option.isSome_iff_exists] at hin
    obtain ⟨v, hv⟩ := hin
    rw [hv]
    rfl
  · rw [if_neg hc]
    rw [decide_eq_false hc, Option.isSome_eq_false_iff, Option.isNone_iff_eq_none] at hin
    rw [hin]
    rfl

theorem Fst.pixel_congr {f g : Fst} (h : f.planes = g.planes) (slot row col : Nat) :
    f.pixel slot row col = g.pixel slot row col := by simp [Fst.pixel, Fst.plane, h]

/-- R110: what a row written leaves of the pixels. -/
theorem Fst.pixel_write_row {f : Fst} (hm : f.memoryLaw) (hs : u.slot < 48) (hr : u.row < 3840) (slot row col : Nat)
    (hcol : col < 5120) : (f.write u.slot (u.row * columns) u.rowCodes).pixel slot row col
      = if slot = u.slot ∧ row = u.row then some (min 16383 ((runsGet? u.codes col).getD 0)) else f.pixel slot row col := by
  unfold Fst.pixel columns
  by_cases hslot : slot = u.slot
  · subst hslot
    rw [Fst.plane_write_get _ _ _ _ _ hm hs (by rw [u.rowCodes_length]; simp only [tilePixels]; omega), u.rowCodes_length]
    by_cases hrow : row = u.row
    · subst hrow
      rw [if_neg (by omega), if_pos (by omega), if_pos ⟨rfl, rfl⟩, Nat.add_sub_cancel_left, u.rowCodes_get hcol]
      refine congrArg some (Nat.mod_eq_of_lt ?_)
      omega
    · by_cases hlt : row < u.row
      · rw [if_pos (show row * 5120 + col < u.row * 5120 by omega), if_neg (fun h => hrow h.2)]
      · rw [if_neg (show ¬ row * 5120 + col < u.row * 5120 by omega),
          if_neg (show ¬ row * 5120 + col < u.row * 5120 + 5120 by omega), if_neg (fun h => hrow h.2)]
  · rw [Fst.plane_write_ne _ _ _ _ _ hslot, if_neg fun h => hslot h.1]

theorem State.unitDone_eq (hs : s.fst.port.serving = some u) : s.unitDone = State.servePort 3 { s.finishUnit u with
    fst := { (s.finishUnit u).fst with port := { s.fst.port with serving := none } } } := by
  unfold State.unitDone
  rw [hs]
  dsimp only
  rw [(s.finishUnit_keeps u).1]

/-- Settles O41. -/
theorem portUnits : Obligations.PortUnits := by
  intro s u cal live
  have hfree : s.fst.port.serving = none → s.fst.port.waitSfe = none → s.fst.port.waitBme = none →
      s.fst.port.waitSou = none → s.fst.port = Port.idle s.fst.port.last := Port.eq_idle
  refine ⟨?_, fun hl hs h1 h2 h3 => ?_, fun v hl hs hne h1 h2 h3 => ?_, fun a b c hs ha hb hc hwa hwb hwc => ?_,
    fun w hl hmem hs hcl hwr hst hrow hw => ?_, fun hl => ?_, fun hs hno => ?_⟩
  · rw [State.portAllows_iff]
    simp only [portTable_iff, BmeState.inCal_iff]
    exact Iff.rfl
  · have hp := hfree hs h1 h2 h3
    refine ⟨fun ha => ?_, fun ha hne => ?_, fun q e m temp ha hcl hq hk ht => ?_⟩
    · exact congrArg Host.Outcome.next (State.requestUnit_served (s := s.deliver (.portUnitRequest u)) hl hp ha)
    · exact congrArg Host.Outcome.next ((State.requestUnit_refused (s := s.deliver (.portUnitRequest u)) hl hp ha).trans
        (State.readoutRefused_other hne))
    · exact congrArg Host.Outcome.next ((State.requestUnit_refused (s := s.deliver (.portUnitRequest u)) hl hp ha).trans
        (State.readoutRefused_row hcl hq ((Sfe.readsInto_iff _ _).2 ⟨q, e, m, temp, hq, hk, ht⟩)))
  · refine congrArg Host.Outcome.next ((State.requestUnit_busy (s := s.deliver (.portUnitRequest u)) hl hs hne h1 h2 h3).trans ?_)
    unfold Port.enqueue
    cases u.client <;> rfl
  · obtain ⟨hport, hslots⟩ := (s.deliver .portUnitDone).finishUnit_keeps u
    obtain ⟨f, hf⟩ : ∃ f : State, f = (s.deliver .portUnitDone).finishUnit u := ⟨_, rfl⟩
    rw [← hf] at hport hslots
    have hbme : f.bme = s.bme := by rw [hf]; simp
    have hexec : exec .portUnitDone s = .next (State.servePort 3 { f with
        fst := { f.fst with port := { s.fst.port with serving := none } } }) := by
      rw [hf]
      exact congrArg Host.Outcome.next (State.unitDone_eq (s := s.deliver .portUnitDone) hs)
    have hallow : ∀ w, State.portAllows { f with fst := { f.fst with port := { s.fst.port with serving := none } } } w
        = s.portAllows w := State.portAllows_congr hslots hbme
    have hnext := State.servePort_next
      (s := { f with fst := { f.fst with port := { s.fst.port with serving := none } } })
      (fun w h => (hwa w (ha.symm.trans h)).imp_right ((hallow w).trans ·))
      (fun w h => (hwb w (hb.symm.trans h)).imp_right ((hallow w).trans ·))
      (fun w h => (hwc w (hc.symm.trans h)).imp_right ((hallow w).trans ·))
    intro next
    have hp : ({ s.fst.port with serving := none } : Port).served = next := Port.served_eq _ _ _ _ ha hb hc
    have hserved : exec .portUnitDone s = .next { f with fst := { f.fst with port := next } } := by
      rw [hexec, hnext, ← hp]
    refine ⟨fun hcl => ?_, fun hcl => ⟨_, hserved, rfl, hslots, hbme, by rw [hf]; simp⟩⟩
    rw [hserved, hf, State.finishUnit_other hcl]
    rfl
  · have hlt : u.slot < 48 := by
      obtain ⟨_, h⟩ | ⟨_, h⟩ := hst <;> exact Fst.lt_of_slot h
    have hallow : s.portAllows u = true := by
      rw [State.portAllows_iff]
      obtain ⟨x, h⟩ | ⟨x, h⟩ := hst <;> exact ⟨_, h, by rw [hcl, hwr]; rfl⟩
    obtain ⟨f, hf⟩ : ∃ f : State, f = (s.deliver .portUnitDone).finishUnit u := ⟨_, rfl⟩
    have hfin := hf.trans (State.finishUnit_writes (s := s.deliver .portUnitDone) hl hcl hwr hallow hrow)
    have hexec : exec .portUnitDone s = .next (State.servePort 3 { f with
        fst := { f.fst with port := { s.fst.port with serving := none } } }) := by
      rw [hf]
      exact congrArg Host.Outcome.next (State.unitDone_eq (s := s.deliver .portUnitDone) hs)
    have hkeep := State.servePort_slots 3 { f with fst := { f.fst with port := { s.fst.port with serving := none } } }
    have hslots : f.fst.slots = s.fst.slots := by rw [hfin]; rfl
    have hplanes := hkeep.2.trans (show f.fst.planes = (s.fst.write u.slot (u.row * columns) u.rowCodes).planes by
      rw [hfin]; rfl)
    refine ⟨_, hexec, hkeep.1.trans hslots, ?_, fun slot row col hcol => ?_⟩
    · unfold Fst.memoryLaw
      rw [hplanes]
      exact s.fst.write_keeps _ _ _ hmem
    · rw [Fst.pixel_congr hplanes, hw]
      exact Fst.pixel_write_row hmem hlt hrow slot row col hcol
  · exact congrArg Host.Outcome.next (State.requestUnit_eq_self (s := s.deliver (.portUnitRequest u)) hl)
  · have hself := State.finishUnit_eq_self (s := s.deliver .portUnitDone) hno
    have hexec : exec .portUnitDone s = .next (State.servePort 3 { s.deliver .portUnitDone with
        fst := { s.fst with port := { s.fst.port with serving := none } } }) := by
      refine congrArg Host.Outcome.next ((State.unitDone_eq (s := s.deliver .portUnitDone) hs).trans ?_)
      rw [hself]
      rfl
    have hkeep := State.servePort_slots 3 { s.deliver .portUnitDone with
        fst := { s.fst with port := { s.fst.port with serving := none } } }
    refine ⟨_, hexec, hkeep.2, hkeep.1, fun h1 h2 h3 => ?_⟩
    rw [State.servePort_empty]
    · rfl
    · simp [Port.choose, h1, h2, h3]

end Sys2Proof.Machine
end

section
/-! PROOFS. SFE: what ends a start (log entry 28), the exposure end (R117), the readout with its failures (R118 to R120)
and the flush (R121). -/

namespace Sys2Proof.Machine

variable {s t : State}

/-! ## The grants at their end -/

theorem startEnded_eq (l : List Instr) : startEnded l = l.filter fun c => !ofStart c := by
  unfold startEnded
  refine List.filter_congr fun c _ => ?_
  cases c <;> rfl

theorem State.lampRelease_settled {a : LampAsk} {d : Nat} (hg : s.blu.grant = some a) (ha : a.cond = .settled d)
    (hc : s.blu.driveChanged = false) (hp : s.blu.pendingDrive = none) (hd : s.blu.deferred = false) (since : Nat) :
    (s.lampRelease since).1 = { s with blu := { s.blu with grant := none }, freeCount := s.freeCount + 1 } := by
  simp [State.lampRelease, hg, State.endGrant, ha, State.afterGrant, hc, hp, State.tryStandby, hd]

theorem State.lampRelease_dark {a : LampAsk} (hg : s.blu.grant = some a) (ha : a.cond = .dark)
    (hd : s.blu.deferred = false) (since : Nat) :
    (s.lampRelease since).1 = { s with blu := { s.blu with grant := none }, freeCount := s.freeCount + 1 } := by
  simp [State.lampRelease, hg, State.endGrant, ha, State.tryStandby, hd]

theorem State.interlockRelease_granted (hi : s.trs.interlock = .granted) (hp : s.trs.pendingMotion = none) :
    s.interlockRelease = { s with trs := { s.trs with interlock := .none } } := by
  simp [State.interlockRelease, hi, hp, Interlock.held, Interlock.released, State.tryInterlock, Interlock.waits]

/-! ## The exposure end -/

theorem State.exposureEnded_lit {e : Exposing} {d since : Nat} {a : LampAsk} (he : s.sfe.exposing = some e)
    (hl : e.req.lamp = .settled d) (hst : e.req.stage = true) (hi : s.trs.interlock = .granted)
    (hpm : s.trs.pendingMotion = none) (hg : s.blu.grant = some a) (ha : a.cond = .settled d)
    (hc : s.blu.driveChanged = false) (hp : s.blu.pendingDrive = none) (hd : s.blu.deferred = false) :
    s.exposureEnded since = State.reportEnd { s with
      sfe := { s.sfe with
        state := .reading, exposing := none
        readout := some { kind := .frame e (some (s.intensity since e.req.time)) s.sfe.temp } }
      trs := { s.trs with interlock := .none }
      blu := { s.blu with grant := none }
      freeCount := s.freeCount + 1
      inFlight := startEnded s.inFlight } e.req.client (some (s.intensity since e.req.time)) := by
  unfold State.exposureEnded State.releaseLamp
  rw [he]
  dsimp only
  rw [hl, hst, if_pos rfl, State.interlockRelease_granted hi hpm,
    State.lampRelease_settled (s := { s with trs := { s.trs with interlock := .none } }) hg ha hc hp hd, startEnded_eq]
  rfl

theorem State.exposureEnded_dark {e : Exposing} {since : Nat} {a : LampAsk} (he : s.sfe.exposing = some e)
    (hl : e.req.lamp = .dark) (hst : e.req.stage = false) (hg : s.blu.grant = some a) (ha : a.cond = .dark)
    (hd : s.blu.deferred = false) : s.exposureEnded since = State.reportEnd { s with
      sfe := { s.sfe with state := .reading, exposing := none, readout := some { kind := .frame e none s.sfe.temp } }
      blu := { s.blu with grant := none }
      freeCount := s.freeCount + 1
      inFlight := startEnded s.inFlight } e.req.client none := by
  unfold State.exposureEnded State.releaseLamp
  rw [he]
  dsimp only
  rw [hl, hst, if_neg nofun, State.lampRelease_dark hg ha hd, startEnded_eq]
  rfl

/-! ## The end of a readout -/

theorem State.endReadout_eq (s : State) : s.endReadout = { s with
    sfe := { s.sfe with readout := none }, fst := { s.fst with port := s.fst.port.withoutSfe } } := by
  rw [State.endReadout, Port.giveUpSfe_eq]

theorem State.chooseNext_idle (hm : s.sfe.mark = false) (hh : s.sfe.held = none) :
    s.chooseNext = { s with sfe := { s.sfe with state := .idle } } := by
  simp [State.chooseNext, hm, hh]

theorem State.sfeSettled_eq_self (hq : s.sfe.quiesce = false) : s.sfeSettled = s := by simp [State.sfeSettled, hq]

/-- R118: with nothing held, SFE is IDLE at the end of a readout. -/
theorem State.readoutOver (hm : s.sfe.mark = false) (hh : s.sfe.held = none) (hq : s.sfe.quiesce = false) :
    ((s.endReadout).chooseNext).sfeSettled = { s with
      sfe := { s.sfe with state := .idle, readout := none }, fst := { s.fst with port := s.fst.port.withoutSfe } } := by
  rw [State.endReadout_eq]
  rw [State.chooseNext_idle (by exact hm) (by exact hh)]
  exact State.sfeSettled_eq_self hq

/-! ## What a readout hands over -/

theorem frameCodes_length (frame : Runs Nat) : runsLength (frameCodes frame) = tilePixels := by
  unfold frameCodes runsFit
  rw [runsLength_take, runsLength_append]
  simp [runsLength]

theorem frameCodes_get (frame : Runs Nat) {i : Nat} (h : i < tilePixels) :
    runsGet? (frameCodes frame) i = some (min 16383 ((runsGet? frame i).getD 0)) := by
  have hin := runsGet?_isSome frame i
  have hrest : runsGet? [(tilePixels, 0)] (i - runsLength (runsMap capCode frame)) = some 0 := by
    simp [runsGet?, Nat.lt_of_le_of_lt (Nat.sub_le _ _) h]
  unfold frameCodes runsFit
  rw [runsGet?_take, if_pos h, runsGet?_append, runsGet?_map, hrest, runsLength_map]
  by_cases hc : i < runsLength frame
  · rw [if_pos hc]
    rw [decide_eq_true hc, Option.isSome_iff_exists] at hin
    obtain ⟨v, hv⟩ := hin
    rw [hv]
    rfl
  · rw [if_neg hc]
    rw [decide_eq_false hc, Option.isSome_eq_false_iff, Option.isNone_iff_eq_none] at hin
    rw [hin]
    rfl

/-- A write that begins behind the last pixel writes none. -/
theorem Fst.plane_write_beyond (f : Fst) (slot start i : Nat) (new : Runs Nat) (hs : tilePixels ≤ start) (h : f.memoryLaw) :
    runsGet? ((f.write slot start new).plane slot) i = runsGet? (f.plane slot) i := by
  by_cases hlt : slot < 48
  · have hw := Fst.plane_wf f slot h hlt
    simp only [planeWf, Bool.and_eq_true, decide_eq_true_eq] at hw
    have hpart : runsLength (runsTake (tilePixels - start) (runsMap clip16 new)) = 0 := by
      rw [runsLength_take, Nat.sub_eq_zero_of_le hs, Nat.zero_min]
    have hplane : (f.write slot start new).plane slot
        = planeSplice start (runsTake (tilePixels - start) (runsMap clip16 new)) (f.plane slot) := by
      unfold Fst.write
      simp [Fst.plane, hlt]
    have hnone : ∀ k, tilePixels ≤ k → runsGet? (f.plane slot) k = none := fun k hk => by
      have := runsGet?_isSome (f.plane slot) k
      rw [hw.1.2, decide_eq_false (Nat.not_lt.2 hk), Option.isSome_eq_false_iff, Option.isNone_iff_eq_none] at this
      exact this
    rw [hplane]
    unfold planeSplice
    rw [runsGet?_norm, runsGet?_append, runsLength_append, runsLength_take, hpart, hw.1.2, Nat.min_eq_right hs,
      runsGet?_drop, runsGet?_append, runsLength_take, hw.1.2, Nat.min_eq_right hs, runsGet?_take]
    by_cases hi : i < tilePixels
    · rw [if_pos (by omega), if_pos hi, if_pos (by omega)]
    · rw [if_neg (by omega), hnone i (by omega), hnone _ (by omega)]
  · have hout : ∀ g : Vector (Runs Nat) 48, g[slot]? = none := fun g => Vector.getElem?_eq_none (Nat.not_lt.1 hlt)
    unfold Fst.plane
    rw [hout, hout]

/-- R118: what the frame handed over leaves of the pixels: the rows that the port has not yet written. -/
theorem Fst.pixel_write_frame {f : Fst} (hm : f.memoryLaw) {n : Nat} (hs : n < 48) (r : Nat) (frame : Runs Nat)
    (slot row col : Nat) (hcol : col < 5120) :
    (f.write n (r * columns) (runsDrop (r * columns) (frameCodes frame))).pixel slot row col
      = if slot = n ∧ r ≤ row ∧ row < 3840 then some (min 16383 ((runsGet? frame (row * 5120 + col)).getD 0))
        else f.pixel slot row col := by
  unfold Fst.pixel columns
  by_cases hslot : slot = n
  · subst hslot
    by_cases hr : 3840 ≤ r
    · rw [Fst.plane_write_beyond _ _ _ _ _ (by simp only [tilePixels]; omega) hm, if_neg fun h => by omega]
    · have hlen : runsLength (runsDrop (r * 5120) (frameCodes frame)) = tilePixels - r * 5120 := by
        rw [runsLength_drop, frameCodes_length]
      rw [Fst.plane_write_get _ _ _ _ _ hm hs (by rw [hlen]; simp only [tilePixels]; omega), hlen]
      by_cases hlt : row < r
      · rw [if_pos (show row * 5120 + col < r * 5120 by omega), if_neg fun h => by omega]
      · rw [if_neg (show ¬ row * 5120 + col < r * 5120 by omega)]
        by_cases hrow : row < 3840
        · rw [if_pos (show row * 5120 + col < r * 5120 + (tilePixels - r * 5120) by simp only [tilePixels]; omega),
            if_pos ⟨rfl, Nat.not_lt.1 hlt, hrow⟩, runsGet?_drop,
            show r * 5120 + (row * 5120 + col - r * 5120) = row * 5120 + col by omega,
            frameCodes_get _ (by simp only [tilePixels]; omega)]
          refine congrArg some (Nat.mod_eq_of_lt ?_)
          omega
        · rw [if_neg (show ¬ row * 5120 + col < r * 5120 + (tilePixels - r * 5120) by simp only [tilePixels]; omega),
            if_neg fun h => hrow h.2.2]
  · rw [Fst.plane_write_ne _ _ _ _ _ hslot, if_neg fun h => hslot h.1]

theorem countBin_get (h : Vector Nat 64) (n c : Nat) {b : Nat} (hb : b < 64) :
    ((countBin h n c)[b]?).getD 0 = (h[b]?).getD 0 + if min 63 (c / 256) = b then n else 0 := by
  unfold countBin
  rw [Vector.getElem?_setIfInBounds]
  by_cases hc : min 63 (c / 256) = b
  · rw [if_pos hc, if_pos hc, if_pos (by omega), hc]
    rfl
  · rw [if_neg hc, if_neg hc, Nat.add_zero]

/-- Table 7.3: each bin of the histogram counts its pixels. -/
theorem histogramOf_get (frame : Runs Nat) {b : Nat} (hb : b < 64) : (histogramOf frame)[b]?
    = some ((List.filter (fun x => decide (min 63 (x.2 / 256) = b)) frame).map (·.1)).sum := by
  have hfold : ∀ (l : Runs Nat) (h : Vector Nat 64), ((l.foldl (fun h r => countBin h r.1 r.2) h)[b]?).getD 0
      = (h[b]?).getD 0 + ((List.filter (fun x => decide (min 63 (x.2 / 256) = b)) l).map (·.1)).sum := by
    intro l
    induction l with
    | nil => intro h; rfl
    | cons r l ih =>
      intro h
      rw [List.foldl_cons, ih, countBin_get _ _ _ hb, Nat.add_assoc]
      by_cases hr : min 63 (r.2 / 256) = b <;> simp [hr]
  have hget := hfold frame (Vector.replicate 64 0)
  rw [Vector.getElem?_replicate, if_pos hb, Option.getD_some, Nat.zero_add] at hget
  rw [← hget]
  show (histogramOf frame)[b]? = some (((histogramOf frame)[b]?).getD 0)
  rw [Vector.getElem?_eq_getElem hb]
  rfl

/-! ## Failures of a readout -/

theorem State.readoutDone_of_frame {q : Readout} {e : Exposing} {m : Option Nat} {temp : Int} (frame : Runs Nat)
    (hq : s.sfe.readout = some q) (hk : q.kind = .frame e m temp) (hqs : s.sfe.quiesce = false) :
    s.readoutDone frame = ((if q.dropped then s.clearHistogram e
      else s.handOver q e m temp frame).endReadout.chooseNext).sfeSettled := by
  unfold State.readoutDone
  rw [hq]
  dsimp only
  rw [hk]
  dsimp only
  rw [hqs, Bool.or_false]

theorem State.readoutExpired_of_frame {q : Readout} {e : Exposing} {m : Option Nat} {temp : Int}
    (hq : s.sfe.readout = some q) (hk : q.kind = .frame e m temp) (hd : q.dropped = false) (hqs : s.sfe.quiesce = false) :
    s.readoutExpired = if e.retry = 0 then s.armRepeat e
      else ((s.abandonReadout e).reportFailure e.req.client).sensorFault .readout := by
  unfold State.readoutExpired
  rw [hq]
  dsimp only
  rw [if_neg (by rw [hqs]; nofun), hk]
  dsimp only
  rw [hd, if_neg nofun]

/-- R119: the one repeat waits for the go-ahead, and the failure is reported. -/
theorem State.armRepeat_eq (e : Exposing) (hm : (s.abandonReadout e).sfe.mark = false) : s.armRepeat e
    = State.reportRetry { s.abandonReadout e with sfe := { (s.abandonReadout e).sfe with
      state := .armed, phase := .goAhead, held := some { req := e.req, retry := 1, cleared := false } } } e.req.client := by
  simp [State.armRepeat, State.chooseNext, hm, State.pursue]

/-- R120: SFE is in FAULT, with its notice. -/
theorem State.sensorFault_eq {c : SensorFault} (hh : s.sfe.held = none) (hm : s.sfe.mark = false) :
    s.sensorFault c = { s with sfe := { s.sfe with state := .fault, cause := some c } }.notice
      (.sensorState .fault (some c) s.sfe.temp false) := by
  unfold State.sensorFault State.refuseHeld State.sensorNotice
  rw [show (State.notice { s with sfe := { s.sfe with state := .fault, cause := some c } } _).sfe.held = none from hh]
  rw [← hm]

theorem State.abandonReadout_slot {e : Exposing} {n : Nat} {r : TileRef} (ht : e.req.target = .slot n r)
    (hs : s.fst.slot n = some (.exposing r)) : s.abandonReadout e = { s with
      fst := { s.fst with slots := s.fst.slots.setIfInBounds n (.reserved r), port := s.fst.port.withoutSfe }
      sfe := { s.sfe with readout := none } } := by
  unfold State.abandonReadout State.clearHistogram
  rw [ht]
  dsimp only
  rw [State.changeSlot_sets (c := .exposingToReserved) hs nofun, State.endReadout_eq]
  rfl

theorem State.abandonReadout_calwork {e : Exposing} {n : Nat} (ht : e.req.target = .calwork n) :
    s.abandonReadout e = { s with
      fst := { s.fst with port := s.fst.port.withoutSfe }, sfe := { s.sfe with readout := none } } := by
  unfold State.abandonReadout State.clearHistogram
  rw [ht]
  exact State.endReadout_eq s

theorem State.abandonReadout_histogram {e : Exposing} (ht : e.req.target = .histogram) :
    s.abandonReadout e = { s with
      fst := { s.fst with port := s.fst.port.withoutSfe }
      sfe := { s.sfe with readout := none, hist := Vector.replicate 64 0 } } := by
  unfold State.abandonReadout State.clearHistogram
  rw [ht]
  exact State.endReadout_eq _

theorem State.clearHistogram_eq (e : Exposing) : s.clearHistogram e = { s with sfe := { s.sfe with
    hist := if e.req.target = .histogram then Vector.replicate 64 0 else s.sfe.hist } } := by
  unfold State.clearHistogram
  cases e.req.target <;> simp

/-- R47, R120: a metering whose readout fails twice is discarded, and the failure goes to whom it is planned for. -/
theorem State.reportFailure_bpl (p : Planner) (hr : s.liu.resetWork = none) : s.reportFailure (.bpl p) = { s with
    bpl := if s.bpl.work.map (fun w : Metering => w.planner) = some p then { work := none } else s.bpl
    inFlight := s.inFlight ++ [match p with
      | .prc t => Instr.secondReadoutFailure t
      | .cru _ _ => Instr.calSensorFailure] } := by
  have hidle : s.bplIdle = { s with bpl := { work := none } } := by simp [State.bplIdle, State.ack, hr]
  unfold State.reportFailure
  dsimp only
  by_cases hw : s.bpl.work.map (fun w : Metering => w.planner) = some p
  · rw [if_pos hw, if_pos hw, hidle]
    cases p <;> rfl
  · rw [if_neg hw, if_neg hw]
    cases p <;> rfl

/-- Settles O44. -/
theorem exposureReadout : Obligations.ExposureReadout := by
  intro s hqs
  refine ⟨fun e d since a he hl hst hi hpm hg ha hc hp hd => ?_, fun e since a he hcl hl hst hg ha hd => ?_,
    fun e m temp q frame n hq hk hdr hno hm hh ht => ⟨fun role hs hmem => ?_, fun hs => ?_⟩,
    fun e m temp q frame hq hk hdr hno hm hh => ⟨fun n r d ht hl => ⟨fun hs hmem => ?_, fun hs => ?_⟩,
      fun p w ht hcl hw hwp => ?_⟩,
    fun e m temp q n r hq hk hdr ht hcl hs hh hm => ⟨fun hre => ?_, fun hre => ?_⟩,
    fun e m temp q n hq hk hdr ht hcl hh hm => ⟨fun hre => ?_, fun hre => ?_⟩,
    fun e m temp q p hq hk hdr ht hcl hh hm => ⟨fun hre => ?_, fun hre hrw => ?_⟩,
    fun e m temp q hq hk hdr => ⟨fun frame hm hh => ?_, ?_⟩,
    fun q k hq hk hh hm => ⟨?_, fun hk0 => ?_, fun hk0 => ?_⟩⟩
  · refine congrArg Host.Outcome.next ((State.exposureEnded_lit he hl hst hi hpm hg ha hc hp hd).trans ?_)
    cases hcl : e.req.client <;> simp [State.reportEnd, State.intensity, State.emit, Instr.asMessage]
  · refine congrArg Host.Outcome.next ((State.exposureEnded_dark he hl hst hg ha hd).trans ?_)
    rw [hcl]
    rfl
  · have hcal : s.fst.isCalwork n = true := Fst.isCalwork_iff.2 ⟨role, hs⟩
    refine ⟨{ s.fst.write n (q.row * columns) (runsDrop (q.row * columns) (frameCodes frame)) with
      port := s.fst.port.withoutSfe }, congrArg Host.Outcome.next ?_, rfl, fun i row col hcol =>
        Fst.pixel_write_frame hmem (Fst.lt_of_slot hs) q.row frame i row col hcol⟩
    rw [State.readoutDone_of_frame frame hq hk hqs, hdr, if_neg nofun]
    unfold State.handOver
    rw [ht]
    dsimp only
    rw [hcal, hno, if_pos (show (true && !false) = true from rfl)]
    exact State.readoutOver hm hh hqs
  · have hcal : s.fst.isCalwork n = false := by
      rw [← Bool.not_eq_true, Fst.isCalwork_iff]
      exact fun ⟨role, h⟩ => hs role h
    refine congrArg Host.Outcome.next ?_
    rw [State.readoutDone_of_frame frame hq hk hqs, hdr, if_neg nofun]
    unfold State.handOver
    rw [ht]
    dsimp only
    rw [hcal, if_neg nofun]
    exact State.readoutOver hm hh hqs
  · refine ⟨{ (s.fst.write n (q.row * columns) (runsDrop (q.row * columns) (frameCodes frame))).setSlot n (.raw r) with
      port := s.fst.port.withoutSfe }, congrArg Host.Outcome.next ?_, rfl, fun i => ?_, fun i row col hcol =>
        Fst.pixel_write_frame hmem (Fst.lt_of_slot hs) q.row frame i row col hcol⟩
    · rw [State.readoutDone_of_frame frame hq hk hqs, hdr, if_neg nofun]
      unfold State.handOver
      rw [ht]
      dsimp only
      rw [if_pos ⟨hno, show s.fst.allows n .exposingToRaw r = true by simp [Fst.allows, SlotChange.before, hs]⟩]
      unfold doneReport
      rw [hl]
      exact State.readoutOver hm hh hqs
    · refine (Fst.slot_setSlot (s.fst.write n (q.row * columns) (runsDrop (q.row * columns) (frameCodes frame))) n i
        (.raw r)).trans ?_
      exact if_congr (and_iff_left (Fst.lt_of_slot hs)) rfl rfl
  · refine congrArg Host.Outcome.next ?_
    rw [State.readoutDone_of_frame frame hq hk hqs, hdr, if_neg nofun]
    unfold State.handOver
    rw [ht]
    dsimp only
    rw [if_neg fun h => hs (of_decide_eq_true h.2)]
    unfold doneReport
    rw [hl]
    exact State.readoutOver hm hh hqs
  · refine ⟨histogramOf (frameCodes frame), congrArg Host.Outcome.next ?_, fun b hb => histogramOf_get _ hb⟩
    rw [State.readoutDone_of_frame frame hq hk hqs, hdr, if_neg nofun]
    unfold State.handOver
    rw [ht]
    dsimp only
    rw [hcl, hw]
    dsimp only
    rw [if_pos hwp]
    exact State.readoutOver hm hh hqs
  · refine congrArg Host.Outcome.next ((State.readoutExpired_of_frame hq hk hdr hqs).trans ((if_pos hre).trans ?_))
    have habandon := State.abandonReadout_slot ht hs
    rw [State.armRepeat_eq e (by rw [habandon]; exact hm), habandon, hcl]
    rfl
  · refine congrArg Host.Outcome.next ((State.readoutExpired_of_frame hq hk hdr hqs).trans ((if_neg (by omega)).trans ?_))
    rw [State.abandonReadout_slot ht hs, hcl]
    exact State.sensorFault_eq (by exact hh) (by exact hm)
  · refine congrArg Host.Outcome.next ((State.readoutExpired_of_frame hq hk hdr hqs).trans ((if_pos hre).trans ?_))
    have habandon := State.abandonReadout_calwork (s := s) ht
    rw [State.armRepeat_eq e (by rw [habandon]; exact hm), habandon, hcl]
    rfl
  · refine congrArg Host.Outcome.next ((State.readoutExpired_of_frame hq hk hdr hqs).trans ((if_neg (by omega)).trans ?_))
    rw [State.abandonReadout_calwork ht, hcl]
    exact State.sensorFault_eq (by exact hh) (by exact hm)
  · refine congrArg Host.Outcome.next ((State.readoutExpired_of_frame hq hk hdr hqs).trans ((if_pos hre).trans ?_))
    have habandon := State.abandonReadout_histogram (s := s) ht
    rw [State.armRepeat_eq e (by rw [habandon]; exact hm), habandon, hcl]
    cases p with
    | prc r => simp [State.reportRetry, State.emit, Instr.asMessage]
    | cru k d => rfl
  · refine congrArg Host.Outcome.next ((State.readoutExpired_of_frame hq hk hdr hqs).trans ((if_neg (by omega)).trans ?_))
    rw [State.abandonReadout_histogram ht, hcl]
    rw [State.reportFailure_bpl p (by exact hrw)]
    refine (State.sensorFault_eq (by exact hh) (by exact hm)).trans ?_
    cases p <;> rfl
  · refine congrArg Host.Outcome.next ?_
    rw [State.readoutDone_of_frame frame hq hk hqs, hdr, if_pos rfl, State.clearHistogram_eq]
    exact State.readoutOver hm hh hqs
  · refine congrArg Host.Outcome.next ?_
    show s.readoutExpired = _
    unfold State.readoutExpired
    rw [hq]
    dsimp only
    rw [if_neg (by rw [hqs]; nofun), hk]
    dsimp only
    rw [hdr, if_pos rfl, State.clearHistogram_eq]
  · refine congrArg Host.Outcome.next ?_
    show s.flushDone = _
    unfold State.flushDone
    rw [hq]
    dsimp only
    rw [hk]
    exact State.readoutOver hm hh hqs
  · refine congrArg Host.Outcome.next ?_
    show s.readoutExpired = _
    unfold State.readoutExpired
    rw [hq]
    dsimp only
    rw [if_neg (by rw [hqs]; nofun), hk]
    exact if_pos hk0
  · refine congrArg Host.Outcome.next ?_
    show s.readoutExpired = _
    unfold State.readoutExpired
    rw [hq]
    dsimp only
    rw [if_neg (by rw [hqs]; nofun), hk]
    dsimp only
    rw [if_neg hk0, State.endReadout_eq]
    exact State.sensorFault_eq (by exact hh) (by exact hm)

end Sys2Proof.Machine
end

section
/-! PROOFS. What a band of BME's work computes, pixel by pixel (R62, R67, R76, R78 to R80). -/

namespace Sys2Proof.Machine

variable {α β : Type}

/-! ## Planes side by side -/

theorem runsGet?_fit (k : Nat) (d : α) (rs : Runs α) {i : Nat} (h : i < k) :
    runsGet? (runsFit k d rs) i = some ((runsGet? rs i).getD d) := by
  have hin := runsGet?_isSome rs i
  unfold runsFit
  rw [runsGet?_take, if_pos h, runsGet?_append]
  by_cases hc : i < runsLength rs
  · rw [decide_eq_true hc, Option.isSome_iff_exists] at hin
    obtain ⟨v, hv⟩ := hin
    rw [if_pos hc, hv]
    rfl
  · rw [decide_eq_false hc, Option.isSome_eq_false_iff, Option.isNone_iff_eq_none] at hin
    rw [if_neg hc, hin]
    exact if_pos (by omega)

theorem runsLength_fit (k : Nat) (d : α) (rs : Runs α) : runsLength (runsFit k d rs) = k := by
  unfold runsFit
  rw [runsLength_take, runsLength_append, runsLength_cons, runsLength_nil]
  omega

theorem runsGet?_zipFuel (k : Nat) (xs : Runs α) (ys : Runs β) (h : xs.length + ys.length ≤ k) (i : Nat) :
    runsGet? (runsZipFuel k xs ys) i = (runsGet? xs i).bind fun a => (runsGet? ys i).map fun b => (a, b) := by
  induction k generalizing xs ys i with
  | zero =>
    obtain rfl : xs = [] := List.length_eq_zero_iff.1 (by omega)
    rfl
  | succ k ih =>
    match xs, ys with
    | [], _ => rfl
    | (n, a) :: xs, [] => simp [runsZipFuel, runsGet?]
    | (n, a) :: xs, (m, b) :: ys =>
      simp only [List.length_cons] at h
      unfold runsZipFuel
      split
      · next hlt =>
        simp only [runsGet?, ih xs ((m - n, b) :: ys) (by simp only [List.length_cons]; omega)]
        by_cases hi : i < n
        · simp [hi, Nat.lt_trans hi hlt]
        · by_cases hm : i < m
          · simp [hi, hm, show i - n < m - n by omega]
          · simp [hi, hm, show ¬ i - n < m - n by omega, show i - n - (m - n) = i - m by omega]
      · split
        · next hlt =>
          simp only [runsGet?, ih ((n - m, a) :: xs) ys (by simp only [List.length_cons]; omega)]
          by_cases hi : i < m
          · simp [hi, Nat.lt_trans hi hlt]
          · by_cases hn : i < n
            · simp [hi, hn, show i - m < n - m by omega]
            · simp [hi, hn, show ¬ i - m < n - m by omega, show i - m - (n - m) = i - n by omega]
        · obtain rfl : n = m := by omega
          simp only [runsGet?, ih xs ys (by omega)]
          by_cases hi : i < n <;> simp [hi]

theorem runsGet?_zip (xs : Runs α) (ys : Runs β) (i : Nat) :
    runsGet? (runsZip xs ys) i = (runsGet? xs i).bind fun a => (runsGet? ys i).map fun b => (a, b) :=
  runsGet?_zipFuel _ xs ys (Nat.le_refl _) i

/-- The length of runs is known from the places at which they hold a value. -/
theorem runsLength_of_get {rs : Runs α} {k : Nat} (h : ∀ i, (runsGet? rs i).isSome = decide (i < k)) :
    runsLength rs = k := by
  have hiff : ∀ i, i < runsLength rs ↔ i < k := fun i => by
    have := (runsGet?_isSome rs i).symm.trans (h i)
    exact decide_eq_decide.1 this
  have h1 := hiff (runsLength rs)
  have h2 := hiff k
  omega

theorem runsLength_zip {xs : Runs α} {ys : Runs β} {k : Nat} (hx : runsLength xs = k) (hy : runsLength ys = k) :
    runsLength (runsZip xs ys) = k := by
  refine runsLength_of_get fun i => ?_
  have h1 := runsGet?_isSome xs i
  have h2 := runsGet?_isSome ys i
  rw [hx] at h1
  rw [hy] at h2
  rw [runsGet?_zip]
  cases ha : runsGet? xs i with
  | none => rw [ha] at h1; exact h1
  | some a => rw [← h2]; exact Option.isSome_map

theorem runsAlign_cons (k : Nat) (p : Runs Nat) (rest : List (Runs Nat)) : runsAlign k (p :: rest)
    = runsMap (fun v : Nat × List Nat => v.1 :: v.2) (runsZip p (runsAlign k rest)) := rfl

theorem runsLength_align {k : Nat} {planes : List (Runs Nat)} (h : ∀ p ∈ planes, runsLength p = k) :
    runsLength (runsAlign k planes) = k := by
  induction planes with
  | nil => exact Nat.add_zero k
  | cons p rest ih =>
    rw [runsAlign_cons, runsLength_map]
    exact runsLength_zip (h p (by simp)) (ih fun q hq => h q (by simp [hq]))

theorem runsGet?_align {k i : Nat} {planes : List (Runs Nat)} (hi : i < k) (h : ∀ p ∈ planes, runsLength p = k) :
    runsGet? (runsAlign k planes) i = some (planes.map fun p => (runsGet? p i).getD 0) := by
  induction planes with
  | nil => exact if_pos hi
  | cons p rest ih =>
    have hp := runsGet?_isSome p i
    rw [h p (by simp), decide_eq_true hi, Option.isSome_iff_exists] at hp
    obtain ⟨v, hv⟩ := hp
    rw [runsAlign_cons, runsGet?_map, runsGet?_zip, ih fun q hq => h q (by simp [hq]), hv, List.map_cons, hv]
    rfl

/-- A sum over the pixels of runs, pixel by pixel. -/
theorem runsSum_eq (f : α → Nat) (rs : Runs α) :
    runsSum f rs = ((List.range (runsLength rs)).map fun i => ((runsGet? rs i).map f).getD 0).sum := by
  induction rs with
  | nil => rfl
  | cons r rest ih =>
    have hhead : ((List.range r.1).map fun i => ((runsGet? (r :: rest) i).map f).getD 0).sum = r.1 * f r.2 := by
      rw [List.map_congr_left (g := fun _ => f r.2) fun i hi => by
        rw [runsGet?, if_pos (List.mem_range.1 hi)]; rfl]
      simp
    have htail : ((List.range (runsLength rest)).map fun i => ((runsGet? (r :: rest) (r.1 + i)).map f).getD 0).sum
        = runsSum f rest := by
      rw [ih]
      refine congrArg List.sum (List.map_congr_left fun i _ => ?_)
      rw [runsGet?, if_neg (by omega), Nat.add_sub_cancel_left]
    rw [runsLength_cons, List.range_add, List.map_append, List.sum_append, hhead, List.map_map]
    exact congrArg (r.1 * f r.2 + ·) htail.symm

/-! ## The merge of a band -/

/-- The pixel i of the band b of a slot, 0 where the slot has none. -/
def Fst.bandPixel (f : Fst) (b slot i : Nat) : Nat := (f.pixel slot (64 * b + i / 5120) (i % 5120)).getD 0

theorem Fst.band_length (f : Fst) (slot b : Nat) : runsLength (f.band slot b) = bandPixels := runsLength_fit ..

theorem Fst.band_get (f : Fst) (slot b : Nat) {i : Nat} (h : i < bandPixels) :
    runsGet? (f.band slot b) i = some (f.bandPixel b slot i) := by
  unfold Fst.band Fst.stripeRows runsSlice
  rw [runsGet?_fit _ _ _ h, runsGet?_take, if_pos h, runsGet?_drop]
  unfold Fst.bandPixel Fst.pixel columns
  rw [show b * bandPixels + i = (64 * b + i / 5120) * 5120 + i % 5120 by
    unfold bandPixels; omega]

theorem Fst.refBand_length (f : Fst) (slot : Option Nat) (b : Nat) : runsLength (f.refBand slot b) = bandPixels := by
  cases slot with
  | none => exact Nat.add_zero _
  | some n => exact f.band_length n b

theorem Fst.mergeBand_get (f : Fst) (ctx : MergeCtx) {b q g : Nat} (hb : ctx.bias = some b) (hq : ctx.rate = some q)
    (hg : ctx.flat = some g) (k : Nat) {i : Nat} (h : i < bandPixels) :
    runsGet? (f.mergeBand ctx k) i = some (mergePixel ctx
      { bias := f.bandPixel k b i, rate := f.bandPixel k q i, gain := f.bandPixel k g i }
      (ctx.exposures.map fun e => f.bandPixel k e.slot i)) := by
  have hget : ∀ n, ((runsGet? (f.band n k) i).getD 0) = f.bandPixel k n i := fun n => by rw [f.band_get n k h]; rfl
  unfold Fst.mergeBand
  rw [runsGet?_map, runsGet?_align h, hb, hq, hg]
  · show some (mergeValues ctx (_ :: _ :: _ :: List.map _ _)) = _
    simp only [Fst.refBand, hget, List.map_map, Function.comp_def, mergeValues]
  · intro p hp
    simp only [List.mem_cons, List.mem_map] at hp
    obtain rfl | rfl | rfl | ⟨e, _, rfl⟩ := hp
    · exact f.refBand_length ..
    · exact f.refBand_length ..
    · exact f.refBand_length ..
    · exact f.band_length ..

/-! ## What the pixels of a band add to the accumulators -/

/-- The codes of the resolved pixels. -/
def resolvedCodes (pixels : List PixelOut) : List Nat := (pixels.filter fun p => p.resolved).map (·.code)

/-- R76: `new` is `a` with the pixels added. -/
def Stats.added (a : Stats) (pixels : List PixelOut) (new : Stats) : Prop :=
  new.clippedBright = a.clippedBright + pixels.countP (·.clippedBright)
  ∧ new.clippedDense = a.clippedDense + pixels.countP (·.clippedDense)
  ∧ new.overClear = a.overClear + pixels.countP (·.overClear)
  ∧ new.denseLimit = a.denseLimit + pixels.countP (·.denseLimit)
  ∧ new.limit = a.limit + pixels.countP (·.limit)
  ∧ new.minCode = (a.minCode.toList ++ resolvedCodes pixels).min?
  ∧ new.maxCode = (a.maxCode.toList ++ resolvedCodes pixels).max?

theorem min?_toList_append (l m : List Nat) : (l.min?.toList ++ m).min? = (l ++ m).min? := by
  cases l with
  | nil => rfl
  | cons x xs => exact congrArg some (List.foldl_append ..).symm

theorem max?_toList_append (l m : List Nat) : (l.max?.toList ++ m).max? = (l ++ m).max? := by
  cases l with
  | nil => rfl
  | cons x xs => exact congrArg some (List.foldl_append ..).symm

theorem Stats.added_nil (a : Stats) : a.added [] a := by
  have hmin : a.minCode = a.minCode.toList.min? := by cases a.minCode <;> rfl
  have hmax : a.maxCode = a.maxCode.toList.max? := by cases a.maxCode <;> rfl
  simpa [Stats.added, resolvedCodes] using ⟨hmin, hmax⟩

theorem Stats.added.trans {a b c : Stats} {xs ys : List PixelOut} (h1 : a.added xs b) (h2 : b.added ys c) :
    a.added (xs ++ ys) c := by
  obtain ⟨cb, cd, oc, dl, li, mn, mx⟩ := h1
  obtain ⟨cb', cd', oc', dl', li', mn', mx'⟩ := h2
  have hcodes : resolvedCodes (xs ++ ys) = resolvedCodes xs ++ resolvedCodes ys := by simp [resolvedCodes]
  refine ⟨?_, ?_, ?_, ?_, ?_, ?_, ?_⟩
  · rw [cb', cb, List.countP_append, Nat.add_assoc]
  · rw [cd', cd, List.countP_append, Nat.add_assoc]
  · rw [oc', oc, List.countP_append, Nat.add_assoc]
  · rw [dl', dl, List.countP_append, Nat.add_assoc]
  · rw [li', li, List.countP_append, Nat.add_assoc]
  · rw [mn', mn, min?_toList_append, hcodes, List.append_assoc]
  · rw [mx', mx, max?_toList_append, hcodes, List.append_assoc]

theorem Stats.added_pixel (a : Stats) (p : PixelOut) : a.added [p] (a.add 1 p) := by
  have hcount : ∀ mark : Bool, countIf mark 1 = if mark = true then 1 else 0 := fun _ => rfl
  refine ⟨?_, ?_, ?_, ?_, ?_, ?_, ?_⟩
  · simp [Stats.add, hcount, List.countP_cons]
  · simp [Stats.add, hcount, List.countP_cons]
  · simp [Stats.add, hcount, List.countP_cons]
  · simp [Stats.add, hcount, List.countP_cons]
  · simp [Stats.add, hcount, List.countP_cons]
  · cases hr : p.resolved <;> cases hm : a.minCode <;>
      simp [Stats.add, resolvedCodes, hr, hm, minCodeOf, Nat.min_comm]
  · cases hr : p.resolved <;> cases hm : a.maxCode <;>
      simp [Stats.add, resolvedCodes, hr, hm, maxCodeOf, Nat.max_comm]

theorem Stats.add_zero (a : Stats) (p : PixelOut) : a.add 0 p = a := by
  have hcount : ∀ mark, countIf mark 0 = 0 := fun mark => by cases mark <;> rfl
  simp [Stats.add, hcount]

theorem Stats.add_succ (a : Stats) (n : Nat) (p : PixelOut) : a.add (n + 1) p = (a.add 1 p).add n p := by
  have hcount : ∀ mark k, k + countIf mark (n + 1) = k + countIf mark 1 + countIf mark n := fun mark k => by
    cases mark <;> simp [countIf, Nat.add_assoc, Nat.add_comm 1 n]
  cases hr : p.resolved with
  | false => simp [Stats.add, hr, hcount]
  | true =>
    cases n with
    | zero => simp [Stats.add_zero]
    | succ n => cases hm : a.minCode <;> cases hx : a.maxCode <;> simp [Stats.add, hr, hcount, hm, hx, minCodeOf, maxCodeOf]

/-- A run of a pixel counts it as often as the run is long. -/
theorem Stats.added_run (a : Stats) (n : Nat) (p : PixelOut) : a.added (List.replicate n p) (a.add n p) := by
  induction n generalizing a with
  | zero => rw [a.add_zero]; exact a.added_nil
  | succ n ih =>
    rw [a.add_succ]
    exact (a.added_pixel p).trans (ih _)

theorem Stats.added_runs (a : Stats) (band : Runs PixelOut) :
    a.added (band.flatMap fun r => List.replicate r.1 r.2) (a.addRuns band) := by
  induction band generalizing a with
  | nil => exact a.added_nil
  | cons r rest ih => exact (a.added_run r.1 r.2).trans (ih _)

/-! ## A band of a calibration operation -/

section Calibration

variable {f : Fst} {b : Nat}

theorem Fst.calwork_lt {n : Nat} (h : f.isCalwork n = true) : n < 48 := by
  obtain ⟨x, hx⟩ := Fst.isCalwork_iff.1 h
  exact Fst.lt_of_slot hx

theorem Fst.writeCal_isCalwork (slot start : Nat) (new : Runs Nat) (n : Nat) :
    (f.writeCal slot start new).isCalwork n = f.isCalwork n := by
  unfold Fst.writeCal
  split <;> rfl

/-- A pixel outside the band keeps its value. -/
theorem Fst.pixel_writeCal_outside (hm : f.memoryLaw) (hb : b < 60) {new : Runs Nat} (hn : runsLength new = bandPixels)
    (n slot : Nat) {row col : Nat} (hcol : col < 5120) (hrow : row < 64 * b ∨ 64 * b + 64 ≤ row) :
    (f.writeCal n (b * bandPixels) new).pixel slot row col = f.pixel slot row col := by
  unfold Fst.writeCal
  split
  · next hc =>
    unfold Fst.pixel columns
    by_cases hslot : slot = n
    · subst hslot
      rw [Fst.plane_write_get _ _ _ _ _ hm (Fst.calwork_lt hc) (by rw [hn]; unfold bandPixels tilePixels; omega), hn]
      unfold bandPixels
      by_cases h : row < 64 * b
      · rw [if_pos (by omega)]
      · rw [if_neg (by omega), if_neg (by omega)]
    · rw [Fst.plane_write_ne _ _ _ _ _ hslot]
  · rfl

/-- A pixel of the band of the slot written. -/
theorem Fst.bandPixel_writeCal (hm : f.memoryLaw) (hb : b < 60) {new : Runs Nat} (hn : runsLength new = bandPixels)
    {n : Nat} (hc : f.isCalwork n = true) {i : Nat} (hi : i < bandPixels) :
    (f.writeCal n (b * bandPixels) new).bandPixel b n i = clip16 ((runsGet? new i).getD 0) := by
  have hval := runsGet?_isSome new i
  rw [hn, decide_eq_true hi, Option.isSome_iff_exists] at hval
  obtain ⟨v, hv⟩ := hval
  unfold Fst.writeCal
  rw [if_pos hc]
  unfold bandPixels at *
  unfold Fst.bandPixel Fst.pixel columns
  rw [Fst.plane_write_get _ _ _ _ _ hm (Fst.calwork_lt hc) (by rw [hn]; unfold tilePixels; omega), hn,
    show (64 * b + i / 5120) * 5120 + i % 5120 = b * 327680 + i by omega, if_neg (by omega), if_pos (by omega),
    Nat.add_sub_cancel_left, hv]
  rfl

theorem Fst.bandPixel_writeCal_ne {n slot : Nat} (h : slot ≠ n) (start : Nat) (new : Runs Nat) (i : Nat) :
    (f.writeCal n start new).bandPixel b slot i = f.bandPixel b slot i := by
  unfold Fst.writeCal
  split
  · unfold Fst.bandPixel Fst.pixel
    rw [Fst.plane_write_ne _ _ _ _ _ h]
  · rfl

/-- The sum that the low and the high slot of the work hold at the pixel i of the band. -/
def Fst.bandSum (f : Fst) (w : CalWork) (i : Nat) : Nat :=
  f.bandPixel w.band w.low i + 65536 * f.bandPixel w.band w.high i

theorem Fst.sumBand_length (w : CalWork) : runsLength (f.sumBand w) = bandPixels := by
  unfold Fst.sumBand
  rw [runsLength_map]
  exact runsLength_zip (f.band_length ..) (f.band_length ..)

theorem Fst.sumBand_get (w : CalWork) {i : Nat} (h : i < bandPixels) : runsGet? (f.sumBand w) i = some (f.bandSum w i) := by
  unfold Fst.sumBand
  rw [runsGet?_map, runsGet?_zip, f.band_get _ _ h, f.band_get _ _ h]
  rfl

theorem Fst.writeSums_sum (hm : f.memoryLaw) {w : CalWork} (hb : w.band < 60) {sums : Runs Nat}
    (hn : runsLength sums = bandPixels) (hne : w.low ≠ w.high) (hl : f.isCalwork w.low = true)
    (hh : f.isCalwork w.high = true) {i v : Nat} (hi : i < bandPixels) (hv : runsGet? sums i = some v)
    (hfit : v < 4294967296) : (f.writeSums w sums).bandSum w i = v := by
  unfold Fst.bandSum Fst.writeSums
  rw [Fst.bandPixel_writeCal_ne hne, Fst.bandPixel_writeCal hm hb (by rw [runsLength_map, hn]) hl hi,
    Fst.bandPixel_writeCal (Fst.writeCal_keeps _ _ _ _ hm) hb (by rw [runsLength_map, hn])
      (by rw [Fst.writeCal_isCalwork]; exact hh) hi,
    runsGet?_map, runsGet?_map, hv]
  show clip32 v % 65536 % 65536 + 65536 * (clip32 v / 65536 % 65536) = v
  rw [show clip32 v = v from if_pos hfit]
  omega

theorem Fst.writeSums_outside (hm : f.memoryLaw) {w : CalWork} (hb : w.band < 60) {sums : Runs Nat}
    (hn : runsLength sums = bandPixels) (slot : Nat) {row col : Nat} (hcol : col < 5120)
    (hrow : row < 64 * w.band ∨ 64 * w.band + 64 ≤ row) :
    (f.writeSums w sums).pixel slot row col = f.pixel slot row col := by
  unfold Fst.writeSums
  rw [Fst.pixel_writeCal_outside (Fst.writeCal_keeps _ _ _ _ hm) hb (by rw [runsLength_map, hn]) _ _ hcol hrow,
    Fst.pixel_writeCal_outside hm hb (by rw [runsLength_map, hn]) _ _ hcol hrow]

/-- The sums that an accumulation leaves. -/
theorem Fst.accBand_sums_length (dark : DarkEntry) (w : CalWork) (n : Nat) :
    ∀ p ∈ [f.sumBand w, f.band n w.band, f.refBand dark.biasSlot w.band, f.refBand dark.rateSlot w.band],
      runsLength p = bandPixels := by
  simp only [List.mem_cons, List.not_mem_nil, or_false]
  rintro p (rfl | rfl | rfl | rfl)
  · exact f.sumBand_length w
  · exact f.band_length ..
  · exact f.refBand_length ..
  · exact f.refBand_length ..

theorem Fst.accBand_sum (hm : f.memoryLaw) {w : CalWork} (hb : w.band < 60) (dark : DarkEntry) (n : Nat) (kind : AccKind)
    (hne : w.low ≠ w.high) (hl : f.isCalwork w.low = true) (hh : f.isCalwork w.high = true) {i v : Nat}
    (hi : i < bandPixels)
    (hv : v = f.bandSum w i + accTerm kind (f.bandPixel w.band n i) ((runsGet? (f.refBand dark.biasSlot w.band) i).getD 0)
      ((runsGet? (f.refBand dark.rateSlot w.band) i).getD 0)) (hfit : v < 4294967296) :
    (f.accBand dark w n kind).bandSum w i = v := by
  unfold Fst.accBand
  refine Fst.writeSums_sum hm hb (by rw [runsLength_map, runsLength_align (f.accBand_sums_length dark w n)]) hne hl hh hi ?_ hfit
  rw [runsGet?_map, runsGet?_align hi (f.accBand_sums_length dark w n), hv]
  simp only [List.map_cons, List.map_nil, f.sumBand_get w hi, f.band_get _ _ hi]
  rfl

/-- The port lets BME read the CALWORK slots of the work and any reference. -/
theorem Fst.portAllows_cal {n : Nat} (h : f.isCalwork n = true ∨ ∃ k, f.slot n = some (.ref k)) :
    f.portAllows .bme false true n = true := by
  unfold Fst.portAllows
  obtain h | ⟨k, h⟩ := h
  · obtain ⟨x, hx⟩ := Fst.isCalwork_iff.1 h
    rw [hx]
    rfl
  · rw [h]
    rfl

theorem Fst.calBand_of_reads {dark : DarkEntry} {w : CalWork}
    (h : ∀ n ∈ w.reads dark, f.isCalwork n = true ∨ ∃ k, f.slot n = some (.ref k)) :
    f.calBand dark w = f.calBandRead dark w :=
  if_pos (List.all_eq_true.2 fun n hn => Fst.portAllows_cal (h n hn))

/-- A band of an operation counts itself, and changes nothing of the work but the total and the defects. -/
theorem Fst.calBand_work (f : Fst) (dark : DarkEntry) {w : CalWork} {op : CalOp} (h : w.op = some op) :
    (f.calBand dark w).2 = { w with
        band := w.band + 1, total := (f.calBand dark w).2.total, defects := (f.calBand dark w).2.defects }
    ∧ ((∀ r, op ≠ .biasFinish r ∧ op ≠ .flatMean r) → (f.calBand dark w).2.total = w.total)
    ∧ ((∀ r mean y, op ≠ .flatGain r mean y) → (f.calBand dark w).2.defects = w.defects) := by
  unfold Fst.calBand
  split
  · unfold Fst.calBandRead
    cases op <;> simp [h]
  · exact ⟨rfl, fun _ => rfl, fun _ => rfl⟩

theorem Fst.calBand_outside (hm : f.memoryLaw) (dark : DarkEntry) {w : CalWork} (hb : w.band < 60) (slot : Nat)
    {row col : Nat} (hcol : col < 5120) (hrow : row < 64 * w.band ∨ 64 * w.band + 64 ≤ row) :
    (f.calBand dark w).1.pixel slot row col = f.pixel slot row col := by
  have hcal : ∀ (n : Nat) (new : Runs Nat), runsLength new = bandPixels →
      (f.writeCal n (w.band * bandPixels) new).pixel slot row col = f.pixel slot row col := fun n new hn =>
    Fst.pixel_writeCal_outside hm hb hn n slot hcol hrow
  have hsums : ∀ sums : Runs Nat, runsLength sums = bandPixels →
      (f.writeSums w sums).pixel slot row col = f.pixel slot row col := fun sums hn =>
    Fst.writeSums_outside hm hb hn slot hcol hrow
  unfold Fst.calBand
  split
  · unfold Fst.calBandRead
    cases hop : w.op with
    | none => rfl
    | some op =>
      cases op with
      | accumulate n kind =>
        exact hsums _ (by rw [runsLength_map]; exact runsLength_align (f.accBand_sums_length dark w n))
      | clear => exact hsums _ (Nat.add_zero _)
      | biasFinish r => exact hcal _ _ (by rw [runsLength_map, f.sumBand_length])
      | rateFinish t b r =>
        exact hcal _ _ (by rw [runsLength_map]; exact runsLength_zip (f.sumBand_length w) (f.band_length ..))
      | flatMean r => exact hcal _ _ (by rw [runsLength_map, f.sumBand_length])
      | flatGain r mean y => exact hcal _ _ (by rw [runsLength_map, f.band_length])
  · rfl

/-- R78: an accumulation adds its term to the sum of each pixel. -/
theorem Fst.calBand_accumulates (hm : f.memoryLaw) (dark : DarkEntry) {w : CalWork} (hb : w.band < 60) {n : Nat}
    {kind : AccKind} (hne : w.low ≠ w.high) (hl : f.isCalwork w.low = true) (hh : f.isCalwork w.high = true)
    (hreads : ∀ k ∈ ({ w with op := some (.accumulate n kind) } : CalWork).reads dark,
      f.isCalwork k = true ∨ ∃ x, f.slot k = some (.ref x)) {i v : Nat} (hi : i < bandPixels)
    (hv : v = f.bandSum w i + accTerm kind (f.bandPixel w.band n i) ((runsGet? (f.refBand dark.biasSlot w.band) i).getD 0)
      ((runsGet? (f.refBand dark.rateSlot w.band) i).getD 0)) (hfit : v < 4294967296) :
    (f.calBand dark { w with op := some (.accumulate n kind) }).1.bandSum w i = v := by
  rw [Fst.calBand_of_reads hreads]
  exact Fst.accBand_sum (w := { w with op := some (.accumulate n kind) }) hm hb dark n kind hne hl hh hi hv hfit

/-- What a finish of a series (of the bias, or of the flat means) writes and adds up. -/
theorem Fst.calBand_means (hm : f.memoryLaw) (dark : DarkEntry) {w : CalWork} (hb : w.band < 60) {r : Nat} {op : CalOp}
    (hop : op = .biasFinish r ∨ op = .flatMean r) (hl : f.isCalwork w.low = true) (hh : f.isCalwork w.high = true)
    (hr : f.isCalwork r = true) :
    (∀ i, i < bandPixels → (f.bandSum w i + 8) / 16 < 65536 →
      (f.calBand dark { w with op := some op }).1.bandPixel w.band r i = (f.bandSum w i + 8) / 16)
    ∧ ((∀ i, i < bandPixels → (f.bandSum w i + 8) / 16 < 65536) →
      (f.calBand dark { w with op := some op }).2.total
        = w.total + ((List.range bandPixels).map fun i => (f.bandSum w i + 8) / 16).sum) := by
  have hmean : ∀ v, (v + 8) / 16 < 65536 → meanOf16 v = (v + 8) / 16 := fun v hv => if_pos hv
  obtain ⟨w', hw⟩ : ∃ w' : CalWork, w' = { w with op := some op } := ⟨_, rfl⟩
  have hsum : ∀ i, i < bandPixels → runsGet? (f.sumBand w') i = some (f.bandSum w i) := fun i hi => by
    rw [f.sumBand_get w' hi, hw]
    rfl
  have hread : f.calBand dark w' = f.calBandRead dark w' := Fst.calBand_of_reads fun n hn => .inl (by
    have : n = w.low ∨ n = w.high := by
      obtain rfl | rfl := hop <;> simpa [CalWork.reads, hw] using hn
    obtain rfl | rfl := this
    · exact hl
    · exact hh)
  have heq : f.calBand dark w' = (f.writeCal r (w.band * bandPixels) (runsMap meanOf16 (f.sumBand w')),
      { w' with band := w.band + 1, total := w.total + runsSum id (runsMap meanOf16 (f.sumBand w')) }) := by
    rw [hread]
    unfold Fst.calBandRead
    obtain rfl | rfl := hop <;> rw [hw]
  rw [← hw, heq]
  refine ⟨fun i hi hfit => ?_, fun hfit => ?_⟩
  · rw [Fst.bandPixel_writeCal hm hb (by rw [runsLength_map, f.sumBand_length]) hr hi, runsGet?_map, hsum i hi]
    exact (congrArg clip16 (hmean _ hfit)).trans (Nat.mod_eq_of_lt hfit)
  · refine congrArg (w.total + ·) ?_
    rw [runsSum_eq, runsLength_map, f.sumBand_length]
    refine congrArg List.sum (List.map_congr_left fun i hi => ?_)
    rw [runsGet?_map, hsum i (List.mem_range.1 hi)]
    exact hmean _ (hfit i (List.mem_range.1 hi))

theorem Fst.calBand_rates (hm : f.memoryLaw) (dark : DarkEntry) {w : CalWork} (hb : w.band < 60) {t n r : Nat}
    (ht : 0 < t) (hl : f.isCalwork w.low = true) (hh : f.isCalwork w.high = true) (hn : f.isCalwork n = true)
    (hr : f.isCalwork r = true) {i : Nat} (hi : i < bandPixels) :
    (f.calBand dark { w with op := some (.rateFinish t n r) }).1.bandPixel w.band r i
      = min 65535 ((2 * (f.bandSum w i - 16 * f.bandPixel w.band n i) * 4096 + 16 * t) / (2 * 16 * t)) := by
  have hrate : ∀ sum bias, ratePixel t sum bias = min 65535 ((2 * (sum - 16 * bias) * 4096 + 16 * t) / (2 * 16 * t)) := by
    intro sum bias
    unfold ratePixel
    by_cases h : sum - 16 * bias = 0
    · rw [h]
      have : (2 * 0 * 4096 + 16 * t) / (2 * 16 * t) = 0 := Nat.div_eq_of_lt (by omega)
      rw [this]
      rfl
    · simp only [if_neg h, if_neg (Nat.ne_of_gt ht)]
  rw [Fst.calBand_of_reads]
  · refine (Fst.bandPixel_writeCal hm hb ?_ hr hi).trans ?_
    · rw [runsLength_map]
      exact runsLength_zip (f.sumBand_length _) (f.band_length ..)
    · rw [runsGet?_map, runsGet?_zip, f.sumBand_get _ hi, f.band_get _ _ hi]
      refine (congrArg clip16 (hrate ..)).trans (Nat.mod_eq_of_lt ?_)
      omega
  · intro k hk
    simp only [CalWork.reads, List.mem_cons, List.not_mem_nil, or_false] at hk
    obtain rfl | rfl | rfl := hk
    · exact .inl hl
    · exact .inl hh
    · exact .inl hn

theorem sum_map_ite {p : Nat → Bool} (l : List Nat) : (l.map fun i => if p i then 1 else 0).sum = l.countP p := by
  induction l with
  | nil => rfl
  | cons x xs ih => rw [List.map_cons, List.sum_cons, List.countP_cons, ih, Nat.add_comm]

theorem Fst.calBand_gains (hm : f.memoryLaw) (dark : DarkEntry) {w : CalWork} (hb : w.band < 60) {r mean y : Nat}
    (hr : f.isCalwork r = true) :
    (∀ i, i < bandPixels → (f.calBand dark { w with op := some (.flatGain r mean y) }).1.bandPixel w.band r i
      = gainPixel mean (f.bandPixel w.band r i))
    ∧ (f.calBand dark { w with op := some (.flatGain r mean y) }).2.defects = w.defects
      + (List.range bandPixels).countP fun i => gainDefect mean (f.bandPixel w.band r i) := by
  rw [Fst.calBand_of_reads (fun k hk => .inl (by
    simp only [CalWork.reads, List.mem_cons, List.not_mem_nil, or_false] at hk
    rw [hk]
    exact hr))]
  refine ⟨fun i hi => ?_, congrArg (w.defects + ·) ?_⟩
  · refine (Fst.bandPixel_writeCal hm hb (by rw [runsLength_map, f.band_length]) hr hi).trans ?_
    rw [runsGet?_map, f.band_get _ _ hi]
    refine Nat.mod_eq_of_lt (show gainPixel _ _ < 65536 from ?_)
    unfold gainPixel
    split
    · decide
    · omega
  · rw [runsSum_eq, f.band_length, ← sum_map_ite]
    refine congrArg List.sum (List.map_congr_left fun i hi => ?_)
    rw [f.band_get _ _ (List.mem_range.1 hi)]
    rfl

end Calibration

/-- Settles O52: the planes are taken side by side, a run of a pixel counts as its pixels, and each operation writes the
band of its slots. -/
theorem bandsArePixelwise : Obligations.BandsArePixelwise := by
  unfold Obligations.BandsArePixelwise
  refine ⟨fun f ctx k i b q g _ _ hi hb hq hg _ _ _ _ => f.mergeBand_get ctx hb hq hg k hi, fun a band => ?_,
    fun f dark w hm hb => ?_, fun f dark w n hfree hop => ?_⟩
  · intro pixels codes new
    obtain ⟨cb, cd, oc, dl, li, mn, mx⟩ := a.added_runs band
    have hmin : new.minCode = (a.minCode.toList ++ codes).min? := mn
    have hmax : new.maxCode = (a.maxCode.toList ++ codes).max? := mx
    have hmem : ∀ (o : Option Nat) (m : Nat), m ∈ o.toList ++ codes ↔ o = some m ∨ m ∈ codes := fun o m => by
      rw [List.mem_append, Option.mem_toList]
    have hnil : ∀ o : Option Nat, o.toList ++ codes = [] ↔ o = none ∧ codes = [] := fun o => by
      rw [List.append_eq_nil_iff, Option.toList_eq_nil_iff]
    refine ⟨cb, cd, oc, dl, li, ?_, fun m => ?_, ?_, fun m => ?_⟩
    · rw [hmin, List.min?_eq_none_iff, hnil]
    · rw [hmin, List.min?_eq_some_iff]
      simp only [hmem]
    · rw [hmax, List.max?_eq_none_iff, hnil]
    · rw [hmax, List.max?_eq_some_iff]
      simp only [hmem]
  · intro held at' sum after
    refine ⟨fun n i hi hheld => ⟨fun hfit => ?_, fun t p q hp hq hps hqs => ?_⟩, fun hheld i hi => ?_,
      fun r op hheld hop => ?_, fun r n t i hheld ht hi => ?_, fun r mean y hr => ?_, fun op => ?_,
      fun op slot row col hcol hrow => ?_⟩
    · obtain ⟨hnd, hcal⟩ := hheld
      exact Fst.calBand_accumulates (v := f.bandSum w i + f.bandPixel w.band n i) hm dark hb (fun h => by simp [h] at hnd)
        (hcal _ (by simp)) (hcal _ (by simp))
        (fun k hk => .inl (hcal k (by simpa [CalWork.reads] using hk))) hi rfl hfit
    · intro signal hfit
      obtain ⟨hnd, hcal⟩ := hheld
      refine Fst.calBand_accumulates (v := f.bandSum w i + signal) hm dark hb (fun h => by simp [h] at hnd) (hcal _ (by simp)) (hcal _ (by simp))
        (fun k hk => ?_) hi ?_ hfit
      · have : k ∈ [w.low, w.high, n] ∨ k = p ∨ k = q := by
          simpa [CalWork.reads, hp, hq, or_assoc] using hk
        obtain h | rfl | rfl := this
        · exact .inl (hcal k h)
        · exact .inr hps
        · exact .inr hqs
      · rw [hp, hq]
        simp only [Fst.refBand, f.band_get _ _ hi]
        rfl
    · obtain ⟨hnd, hcal⟩ := hheld
      have hclear : (f.calBand dark { w with op := some .clear }).1.bandSum w i = 0 := by
        have hne : w.low ≠ w.high := fun h => by simp [h] at hnd
        have hreads : ({ w with op := some .clear } : CalWork).reads dark = [] := rfl
        rw [Fst.calBand_of_reads fun n hn => absurd hn (by rw [hreads]; exact List.not_mem_nil)]
        exact Fst.writeSums_sum (w := { w with op := some .clear }) hm hb (Nat.add_zero _) hne
          (hcal _ (by simp)) (hcal _ (by simp)) hi (if_pos hi) (by decide)
      exact hclear
    · obtain ⟨hnd, hcal⟩ := hheld
      exact Fst.calBand_means hm dark hb hop (hcal _ (by simp)) (hcal _ (by simp)) (hcal _ (by simp))
    · obtain ⟨hnd, hcal⟩ := hheld
      exact Fst.calBand_rates hm dark hb ht (hcal _ (by simp)) (hcal _ (by simp)) (hcal _ (by simp)) (hcal _ (by simp)) hi
    · intro g
      obtain ⟨hgain, hdefect⟩ := Fst.calBand_gains (y := y) (mean := mean) hm dark hb hr
      refine ⟨hgain, hdefect.trans (congrArg (w.defects + ·) (List.countP_congr fun i _ => ?_))⟩
      have hiff : ∀ mu, gainDefect mean mu = true ↔ mu = 0 ∨ gainRaw mean mu < 8192 ∨ 32767 < gainRaw mean mu := fun mu => by
        simp [gainDefect, or_assoc]
      exact (hiff _).trans decide_eq_true_iff.symm
    · obtain ⟨heq, htotal, hdef⟩ := f.calBand_work dark (w := { w with op := some op }) rfl
      exact ⟨heq, htotal, hdef⟩
    · exact Fst.calBand_outside (w := { w with op := some op }) hm dark hb slot hcol hrow
  · have hno : f.bmeReads true (w.reads dark) = false := by
      unfold CalWork.reads Fst.bmeReads
      rw [hop]
      simp [Fst.portAllows, hfree, portTable]
    unfold Fst.calBand
    rw [hno]
    rfl

end Sys2Proof.Machine
end

section
/-! PROOFS. What the end of a band of a merge writes (R62, R76). -/

namespace Sys2Proof.Machine

variable {α : Type} {f : Fst} {s : State}

/-! ## The rows mirrored left to right -/

theorem runsLength_reverse (rs : Runs α) : runsLength rs.reverse = runsLength rs := by
  unfold runsLength
  rw [List.map_reverse, List.sum_reverse]

theorem runsGet?_reverse (rs : Runs α) {i : Nat} (h : i < runsLength rs) :
    runsGet? rs.reverse i = runsGet? rs (runsLength rs - 1 - i) := by
  induction rs with
  | nil => simp at h
  | cons r rest ih =>
    obtain ⟨n, v⟩ := r
    rw [runsLength_cons] at h ⊢
    rw [List.reverse_cons, runsGet?_append, runsLength_reverse]
    simp only [runsGet?] at h ⊢
    by_cases hi : i < runsLength rest
    · rw [if_pos hi, ih hi, if_neg (by omega)]
      exact congrArg _ (by omega)
    · rw [if_neg hi, if_pos (by omega), if_pos (by omega)]

theorem runsLength_mirrorRows (r : Nat) (rs : Runs α) (h : runsLength rs = r * 5120) :
    runsLength (mirrorRows r rs) = r * 5120 := by
  induction r generalizing rs with
  | zero => rw [Nat.zero_mul]; rfl
  | succ r ih =>
    have hrest : runsLength (runsDrop columns rs) = r * 5120 := by
      rw [runsLength_drop, h]; unfold columns; omega
    rw [mirrorRows, runsLength_append, runsLength_reverse, runsLength_take, ih _ hrest, h]
    unfold columns
    omega

theorem runsGet?_mirrorRows (r : Nat) (rs : Runs α) (h : runsLength rs = r * 5120) {row col : Nat} (hrow : row < r)
    (hcol : col < 5120) : runsGet? (mirrorRows r rs) (row * 5120 + col) = runsGet? rs (row * 5120 + (5119 - col)) := by
  induction r generalizing rs row with
  | zero => omega
  | succ r ih =>
    have hrest : runsLength (runsDrop columns rs) = r * 5120 := by
      rw [runsLength_drop, h]; unfold columns; omega
    have hhead : runsLength (runsTake columns rs) = 5120 := by
      rw [runsLength_take, h]; unfold columns; omega
    rw [mirrorRows, runsGet?_append, runsLength_reverse, hhead]
    cases row with
    | zero =>
      rw [if_pos (by omega), runsGet?_reverse _ (by rw [hhead]; omega), hhead, runsGet?_take,
        if_pos (by unfold columns; omega)]
      exact congrArg _ (by omega)
    | succ row =>
      rw [if_neg (by omega), show (row + 1) * 5120 + col - 5120 = row * 5120 + col by omega,
        ih _ hrest (by omega), runsGet?_drop]
      exact congrArg _ (by unfold columns; omega)

/-! ## The codes of a band -/

theorem densityOut_code_lt (l y : Nat) (c : Bool) : (densityOut l y c).code < 65536 := by
  unfold densityOut
  split
  · exact Nat.lt_of_lt_of_le (Nat.lt_succ_self 65534) (by decide)
  · dsimp only
    split
    · exact Nat.zero_lt_succ _
    · split
      · exact Nat.lt_of_lt_of_le (Nat.lt_succ_self 65534) (by decide)
      · show (densityRaw l y).toNat < 65536
        omega

theorem linearOut_code_lt (n y : Nat) (c : Bool) : (linearOut n y c).code < 65536 := by
  unfold linearOut
  split
  · decide
  · show linearRaw n y < 65536
    omega

theorem unresolvedOut_code_lt (sat : Nat) (e : Encoding) (codes : List Nat) : (unresolvedOut sat e codes).code < 65536 := by
  unfold unresolvedOut
  split <;> cases e <;> simp

theorem mergePixel_code_lt (ctx : MergeCtx) (r : PixelRef) (codes : List Nat) : (mergePixel ctx r codes).code < 65536 := by
  unfold mergePixel
  dsimp only
  split
  · exact unresolvedOut_code_lt ..
  · cases ctx.encoding with
    | density16 => exact densityOut_code_lt ..
    | linear16 n => exact linearOut_code_lt ..

theorem mergeValues_code_lt (ctx : MergeCtx) (l : List Nat) : (mergeValues ctx l).code < 65536 := by
  unfold mergeValues
  split <;> exact mergePixel_code_lt ..

theorem Fst.mergeBand_planes_length (f : Fst) (ctx : MergeCtx) (b : Nat) :
    ∀ p ∈ f.refBand ctx.bias b :: f.refBand ctx.rate b :: f.refBand ctx.flat b :: ctx.exposures.map fun e => f.band e.slot b,
      runsLength p = bandPixels := by
  intro p hp
  simp only [List.mem_cons, List.mem_map] at hp
  obtain rfl | rfl | rfl | ⟨e, _, rfl⟩ := hp
  · exact f.refBand_length ..
  · exact f.refBand_length ..
  · exact f.refBand_length ..
  · exact f.band_length ..

theorem Fst.mergeBand_length (f : Fst) (ctx : MergeCtx) (b : Nat) : runsLength (f.mergeBand ctx b) = bandPixels := by
  unfold Fst.mergeBand
  rw [runsLength_map]
  exact runsLength_align (f.mergeBand_planes_length ctx b)

/-- Every pixel of a band has a code of 16 bits. -/
theorem Fst.mergeBand_code (f : Fst) (ctx : MergeCtx) (b : Nat) {i : Nat} (h : i < bandPixels) :
    ((runsGet? (f.mergeBand ctx b) i).map (·.code)).map clip16 = (runsGet? (f.mergeBand ctx b) i).map (·.code)
    ∧ (runsGet? (f.mergeBand ctx b) i).isSome = true := by
  unfold Fst.mergeBand
  rw [runsGet?_map, runsGet?_align h (f.mergeBand_planes_length ctx b)]
  exact ⟨congrArg some (Nat.mod_eq_of_lt (mergeValues_code_lt ..)), rfl⟩

theorem bandCodes_length (v : View) (band : Runs PixelOut) (h : runsLength band = bandPixels) :
    runsLength (bandCodes v band) = bandPixels := by
  cases v with
  | glassSide => exact (runsLength_map ..).trans h
  | emulsionSide => exact runsLength_mirrorRows 64 _ ((runsLength_map ..).trans h)

theorem bandCodes_get (v : View) (band : Runs PixelOut) (h : runsLength band = bandPixels) {row col : Nat} (hrow : row < 64)
    (hcol : col < 5120) : runsGet? (bandCodes v band) (row * 5120 + col)
      = (runsGet? band (row * 5120 + (match v with | .glassSide => col | .emulsionSide => 5119 - col))).map (·.code) := by
  cases v with
  | glassSide => exact runsGet?_map ..
  | emulsionSide =>
    refine (runsGet?_mirrorRows 64 _ ((runsLength_map ..).trans h) hrow hcol).trans ?_
    exact runsGet?_map ..

/-! ## The end of a band -/

/-- The frame store after the band in progress. -/
def Fst.afterBand (f : Fst) (w : MergeWork) : Fst :=
  if f.bmeReads false w.ctx.reads then
    match w.ctx.dest with
    | some d =>
      if f.portAllows .bme true false d then
        f.write d (w.band * bandPixels) (bandCodes w.ctx.view (f.mergeBand w.ctx w.band))
      else f
    | none => f
  else f

theorem State.mergeBandDone_fst (s : State) (w : MergeWork) :
    (s.mergeBandDone w).1 = { s with fst := s.fst.afterBand w } := by
  unfold State.mergeBandDone Fst.afterBand
  split
  · cases w.ctx.dest with
    | none => rfl
    | some d => dsimp only; split <;> rfl
  · rfl

theorem Fst.afterBand_eq (f : Fst) (w : MergeWork) : f.afterBand w = { f with planes := (f.afterBand w).planes } := by
  unfold Fst.afterBand
  split
  · cases w.ctx.dest with
    | none => rfl
    | some d => dsimp only; split <;> rfl
  · rfl

theorem Fst.afterBand_unwaited (f : Fst) (w : MergeWork) : f.unwaited.afterBand w = (f.afterBand w).unwaited := by
  unfold Fst.afterBand
  rw [show f.unwaited.bmeReads false w.ctx.reads = f.bmeReads false w.ctx.reads from rfl]
  split
  · cases w.ctx.dest with
    | none => rfl
    | some d =>
      dsimp only
      rw [show f.unwaited.portAllows .bme true false d = f.portAllows .bme true false d from rfl]
      split <;> rfl
  · rfl

theorem Fst.mergeReadable.bmeReads {ctx : MergeCtx} (h : f.mergeReadable ctx) : f.bmeReads false ctx.reads = true := by
  obtain ⟨href, hraw⟩ := h
  refine List.all_eq_true.2 fun n hn => ?_
  have hslot : (∃ r, f.slot n = some (.ref r)) ∨ ∃ v, f.slot n = some (.raw v) := by
    obtain hn | hn := List.mem_append.1 hn
    · refine .inl (href n ?_)
      simpa [eq_comm] using hn
    · obtain ⟨e, he, rfl⟩ := List.mem_map.1 hn
      exact .inr (hraw e he)
  unfold Fst.portAllows
  obtain ⟨r, h⟩ | ⟨r, h⟩ := hslot <;> rw [h] <;> rfl

theorem State.mergeBandDone_work (s : State) {w : MergeWork} (h : s.fst.mergeReadable w.ctx) :
    (s.mergeBandDone w).2 = { w with band := w.band + 1, acc := w.acc.addRuns (s.fst.mergeBand w.ctx w.band) } := by
  unfold State.mergeBandDone
  dsimp only
  rw [if_pos h.bmeReads]

theorem State.mergeBandDone_band (s : State) (w : MergeWork) : (s.mergeBandDone w).2.band = w.band + 1 := by
  unfold State.mergeBandDone
  dsimp only
  split <;> rfl

theorem State.mergeBandDone_same (s : State) (w : MergeWork) :
    (s.mergeBandDone w).2 = { w with band := w.band + 1, acc := (s.mergeBandDone w).2.acc } := by
  unfold State.mergeBandDone
  dsimp only
  split <;> rfl

/-- A band with a slot that the port does not let BME read writes and adds nothing. -/
theorem State.mergeBandDone_unreadable {w : MergeWork} (h : s.fst.bmeReads false w.ctx.reads = false) :
    s.mergeBandDone w = (s, { w with band := w.band + 1 }) := by
  unfold State.mergeBandDone
  rw [h]
  rfl

/-- R62: the pixels after the band in progress. -/
theorem Fst.pixel_afterBand (hm : f.memoryLaw) {w : MergeWork} (hb : w.band < 60) (hread : f.mergeReadable w.ctx)
    (hdest : ∀ d, w.ctx.dest = some d → f.slot d = some (.dest w.tile)) (i row col : Nat) (hcol : col < 5120) :
    (f.afterBand w).pixel i row col = f.mergeWritten w i row col := by
  unfold Fst.afterBand Fst.mergeWritten
  rw [if_pos hread.bmeReads]
  cases hd : w.ctx.dest with
  | none => exact (if_neg fun h => by cases h.1).symm
  | some d =>
    have hslot := hdest d hd
    have hlen := bandCodes_length w.ctx.view _ (f.mergeBand_length w.ctx w.band)
    have hallow : f.portAllows .bme true false d = true := by unfold Fst.portAllows; rw [hslot]; rfl
    dsimp only
    rw [if_pos hallow]
    by_cases hi : i = d
    · subst hi
      unfold Fst.pixel columns
      rw [Fst.plane_write_get _ _ _ _ _ hm (Fst.lt_of_slot hslot) (by rw [hlen]; unfold bandPixels tilePixels; omega), hlen]
      by_cases hrow : 64 * w.band ≤ row ∧ row < 64 * w.band + 64
      · rw [if_neg (by unfold bandPixels; omega), if_pos (by unfold bandPixels; omega), if_pos ⟨rfl, hrow⟩,
          show row * 5120 + col - w.band * bandPixels = (row - 64 * w.band) * 5120 + col by unfold bandPixels; omega,
          bandCodes_get _ _ (f.mergeBand_length w.ctx w.band) (by omega) hcol]
        refine (f.mergeBand_code w.ctx w.band ?_).1
        unfold bandPixels
        cases w.ctx.view <;> dsimp only <;> omega
      · rw [if_neg (show ¬ (some i = some i ∧ _) from fun h => hrow h.2)]
        by_cases hlt : row < 64 * w.band
        · rw [if_pos (by unfold bandPixels; omega)]
        · rw [if_neg (by unfold bandPixels; omega), if_neg (by unfold bandPixels; omega)]
    · rw [if_neg fun h => hi (Option.some.inj h.1).symm]
      unfold Fst.pixel
      rw [Fst.plane_write_ne _ _ _ _ _ hi]

end Sys2Proof.Machine
end

section
/-! PROOFS. The events of a merge, with what follows in them (R60, R62 to R65). -/

namespace Sys2Proof.Machine

variable {s v : State}

/-! ## A slot change that frees nothing, and the start of a stripe -/

theorem State.changeSlot_keeps {i : Nat} {c : SlotChange} {r : TileRef} (hc : c.after r ≠ .free) (s : State) :
    s.changeSlot i c r = { s with fst := { s.fst with slots := (s.changeSlot i c r).fst.slots } } := by
  by_cases h : s.fst.slot i = some (c.before r)
  · rw [State.changeSlot_sets h hc]
    rfl
  · rw [State.changeSlot_refused h]

theorem State.moveTile_keeps (s : State) (r : TileRef) (st : TileState) :
    s.moveTile r st = { s with prc := { s.prc with jobs := (s.moveTile r st).prc.jobs } } := by
  unfold State.moveTile State.mapTile
  split <;> rfl

/-- The beginning of a tile at the output changes its slot and its record. -/
theorem State.startTile_keeps (s : State) (e : OutEntry) : s.startTile e = { s with
    fst := { s.fst with slots := (s.startTile e).fst.slots }
    prc := { s.prc with jobs := (s.startTile e).prc.jobs }
    sou := { s.sou with started := true } } := by
  unfold State.startTile
  split
  · next h => rw [← h]
  · rw [State.moveTile_keeps, State.changeSlot_keeps (by simp [SlotChange.after])]

/-- The start of a stripe changes the slot and the record of its tile, and the output. -/
theorem State.tryStripe_keeps (s : State) : s.tryStripe = { s with
    fst := { s.fst with slots := s.tryStripe.fst.slots }
    prc := { s.prc with jobs := s.tryStripe.prc.jobs }
    sou := s.tryStripe.sou } := by
  unfold State.tryStripe State.startStripe
  repeat' split
  · rfl
  · rw [State.startTile_keeps]
  · rfl
  · rfl

/-- Nothing of it looks at BME, CRU or the admission that waits. -/
theorem State.tryStripe_aside (s : State) (b : Bme) (w : Option (TileRef × Nat)) :
    State.tryStripe { s with bme := b, fst := { s.fst with wait := w } }
      = { s.tryStripe with bme := b, fst := { s.tryStripe.fst with wait := w } } := by
  have hmove : ∀ (u : State) (r : TileRef), State.moveTile { u with bme := b, fst := { u.fst with wait := w } } r .sending
      = { u.moveTile r .sending with bme := b, fst := { (u.moveTile r .sending).fst with wait := w } } := fun u r => by
    unfold State.moveTile State.mapTile
    split <;> rfl
  have hstart : ∀ e : OutEntry, State.startTile { s with bme := b, fst := { s.fst with wait := w } } e
      = { s.startTile e with bme := b, fst := { (s.startTile e).fst with wait := w } } := fun e => by
    unfold State.startTile
    by_cases hs : s.sou.started = true
    · rw [if_pos hs, if_pos hs]
    · rw [if_neg hs, if_neg hs]
      have hset : State.changeSlot { s with bme := b, fst := { s.fst with wait := w } } e.slot .mergedToStreaming e.tile
          = { s.changeSlot e.slot .mergedToStreaming e.tile with
              bme := b, fst := { (s.changeSlot e.slot .mergedToStreaming e.tile).fst with wait := w } } := by
        by_cases h : s.fst.slot e.slot = some (SlotChange.before .mergedToStreaming e.tile)
        · rw [State.changeSlot_sets (s := s) h (by simp [SlotChange.after]), State.changeSlot_sets (by exact h)
            (by simp [SlotChange.after])]
          rfl
        · rw [State.changeSlot_refused (s := s) h, State.changeSlot_refused (by exact h)]
      rw [hset, hmove]
  unfold State.tryStripe
  rw [show State.stripeReady { s with bme := b, fst := { s.fst with wait := w } } = s.stripeReady from rfl]
  by_cases hready : s.stripeReady = true
  · rw [if_pos hready, if_pos hready]
    cases s.sou.queue with
    | nil => rfl
    | cons e rest =>
      dsimp only
      cases s.prc.job? e.tile.job with
      | none => rfl
      | some j =>
        cases s.prc.tile? e.tile with
        | none => rfl
        | some x =>
          unfold State.startStripe
          rw [hstart]
  · rw [if_neg hready, if_neg hready]

theorem State.tryStripe_of_credits (h : s.sou.credits = 0) : s.tryStripe = s := by
  unfold State.tryStripe State.stripeReady
  rw [h, if_neg (by simp)]

/-! ## The next head of the merge queue -/

theorem State.takeUp_eq_self (h : s.bme.state ≠ .idle ∨ s.bme.queue = []) : s.takeUp = s := by
  unfold State.takeUp
  split
  · rfl
  · next t rest hq =>
    refine if_neg fun hi => ?_
    obtain h | h := h
    · exact h hi.1
    · rw [hq] at h; cases h

theorem State.takeUp_messages (s : State) : s.takeUp.inFlight = s.inFlight := by
  unfold State.takeUp
  split
  · rfl
  · split
    · dsimp only
      rw [State.moveTile_keeps]
      split
      · rw [State.changeSlot_keeps (by simp [SlotChange.after])]
      · rfl
    · rfl

theorem State.grantWait_bme (s : State) (b : Bme) : State.grantWait { s with bme := b } = { s.grantWait with bme := b } := by
  unfold State.grantWait
  dsimp only
  cases s.fst.wait with
  | none => rfl
  | some p =>
    dsimp only
    split <;> rfl

theorem State.grantWait_messages {d : Instr} (h : d ∉ s.inFlight) (hd : ∀ t l, d ≠ .admissionGrant t l) :
    d ∉ s.grantWait.inFlight := by
  unfold State.grantWait
  split
  · exact h
  · split
    · refine fun hm => (List.mem_append.1 hm).elim h fun hm => ?_
      exact hd _ _ (List.mem_singleton.1 hm)
    · exact h

theorem State.cruTest_of_work (h : s.cru.work ≠ []) : s.cruTest = s := by
  unfold State.cruTest
  split
  · exact if_neg (by simp [h])
  · rfl

theorem State.cruTest_cases (s : State) : s.cruTest = s ∨ s.cruTest.cru.work ≠ [] := by
  unfold State.cruTest
  split
  · split
    · split
      · exact .inr (by simp [State.emit])
      · exact .inl rfl
    · exact .inl rfl
  · exact .inl rfl

/-- CRU's test finds nothing more where BME has no tile to take up, and where it has one it waits for it. -/
theorem State.cruTest_takeUp (s : State) : s.cruTest.takeUp.cruTest = s.takeUp.cruTest := by
  by_cases hq : s.bme.queue = []
  · have hbme : s.cruTest.bme = s.bme := (State.cruTest_frame s).2.2.2.2.2.2.1
    rw [State.takeUp_eq_self (s := s) (.inr hq), State.takeUp_eq_self (s := s.cruTest) (.inr (by rw [hbme]; exact hq))]
    obtain h | h := s.cruTest_cases
    · rw [h, h]
    · obtain ⟨u, hu⟩ : ∃ u, u = s.cruTest := ⟨_, rfl⟩
      rw [← hu] at h ⊢
      exact State.cruTest_of_work h
  · have : s.cruTest = s := by
      unfold State.cruTest
      split
      · rw [if_neg (by simp [Bme.free, hq])]
      · rfl
    rw [this]

/-! ## One event after another -/

theorem execAll_append {xs : List Instr} {s t : State} (h : execAll xs s = .next t) (ys : List Instr) :
    execAll (xs ++ ys) s = execAll ys t := by
  induction xs generalizing s with
  | nil => cases h; rfl
  | cons c xs ih =>
    cases hc : exec c s with
    | next u =>
      rw [execAll_cons hc] at h
      rw [List.cons_append, execAll_cons hc]
      exact ih h
    | _ => simp [execAll, hc] at h

/-- R102: what waits asks again. -/
theorem State.execAll_asksAgain (h : v.fst.wait = none ∨ v.fst.quiesce = false)
    (hno : ∀ d ∈ v.fst.asksAgain, d ∉ v.inFlight) :
    execAll v.fst.asksAgain { v with fst := { v.fst with wait := none } } = .next v.grantWait := by
  cases hw : v.fst.wait with
  | none =>
    rw [show { v with fst := { v.fst with wait := none } } = v by rw [← hw], Fst.asksAgain, hw]
    exact congrArg Host.Outcome.next (State.grantWait_eq_self hw).symm
  | some p =>
    obtain ⟨r, n⟩ := p
    have hadm : .admissionRequest r n ∉ v.inFlight := hno _ (by rw [Fst.asksAgain, hw]; exact List.mem_cons_self)
    have hexec : exec (.admissionRequest r n) { v with fst := { v.fst with wait := none } } = .next v.grantWait := by
      rw [State.grantWait_eq_askSlots hw (h.resolve_left (by rw [hw]; nofun))]
      exact congrArg (fun u : State => Host.Outcome.next (u.askSlots r n))
        (State.deliver_eq_self (s := { v with fst := { v.fst with wait := none } }) hadm)
    rw [Fst.asksAgain, hw]
    exact (execAll_cons hexec _).trans rfl

/-- R102, R60, R86: what waits asks again, BME takes up its next head, and CRU tests. -/
theorem State.execAll_bmeIdle (h : v.fst.wait = none ∨ v.fst.quiesce = false)
    (hno : ∀ d ∈ v.fst.asksAgain ++ [.mergeTakeUp, .calworkGrant], d ∉ v.inFlight) :
    execAll (v.fst.asksAgain ++ [.mergeTakeUp, .calworkGrant]) { v with fst := { v.fst with wait := none } }
      = .next v.grantWait.takeUp.cruTest := by
  rw [execAll_append (State.execAll_asksAgain h fun d hd => hno d (List.mem_append_left _ hd))]
  have htake : .mergeTakeUp ∉ v.grantWait.inFlight := State.grantWait_messages (hno _ (by simp)) nofun
  have hcal : .calworkGrant ∉ v.grantWait.takeUp.inFlight := by
    rw [State.takeUp_messages]
    exact State.grantWait_messages (hno _ (by simp)) nofun
  have h1 : exec .mergeTakeUp v.grantWait = .next v.grantWait.takeUp :=
    congrArg (fun u : State => Host.Outcome.next u.takeUp) (State.deliver_eq_self (s := v.grantWait) htake)
  have h2 : exec .calworkGrant v.grantWait.takeUp = .next v.grantWait.takeUp.cruTest :=
    congrArg (fun u : State => Host.Outcome.next u.cruTest) (State.deliver_eq_self (s := v.grantWait.takeUp) hcal)
  rw [execAll_cons h1, execAll_cons h2, execAll_nil]

end Sys2Proof.Machine
end

section
/-! PROOFS. The merge runs (R60, R62 to R65): the statement. -/

namespace Sys2Proof.Machine

variable {s : State}

/-! ## The completion of a merge -/

/-- What the report of a merge leaves in the record of its tile, but for its state. -/
def Tile.reported (acc : Stats) (x : Tile) : Tile :=
  { x with stats := some acc, flags := { x.flags with limit := x.flags.limit || decide (0 < acc.limit) } }

/-- The job table after the report of a merge. -/
def Prc.merged (p : Prc) (w : MergeWork) : Prc :=
  if p.recordOpen w.tile then
    (p.mapTile w.tile (Tile.reported w.acc)).mapTile w.tile (Tile.moved .merged)
  else p

theorem State.reportMerge_eq (hr : s.prc.run ≠ .quiescing) (w : MergeWork) :
    s.reportMerge w = { s with prc := s.prc.merged w } := by
  unfold State.reportMerge Prc.merged
  split
  · dsimp only
    rw [State.mapTile_eq hr, State.moveTile_eq (by exact hr)]
    rfl
  · rfl

theorem Prc.merged_keeps (p : Prc) (w : MergeWork) : p.merged w = { p with jobs := (p.merged w).jobs } := by
  unfold Prc.merged
  split <;> rfl

theorem Prc.merged_otherRecords (p : Prc) (w : MergeWork) : (p.merged w).otherRecords p w.tile := by
  unfold Prc.merged
  split
  · exact Prc.otherRecords.trans (.of_mapTile (Tile.moved_seq .merged) rfl) (.of_mapTile (f := Tile.reported w.acc) (fun _ => rfl) rfl)
  · exact .of_jobs rfl

theorem Prc.merged_tile? {p : Prc} {w : MergeWork} {j : Job} {x : Tile} (hj : p.job? w.tile.job = some j)
    (hx : p.tile? w.tile = some x) :
    (p.merged w).tile? w.tile = some (if j.state.finished then x else (x.reported w.acc).moved .merged) := by
  have hopen : p.recordOpen w.tile = !j.state.finished := by
    unfold Prc.recordOpen
    rw [hj]
  unfold Prc.merged
  rw [hopen]
  cases j.state.finished with
  | true => exact hx
  | false => exact Prc.tile?_mapTile_of (Prc.tile?_mapTile_of (f := Tile.reported w.acc) hx fun _ => rfl) (Tile.moved_seq .merged)

theorem Prc.merged_unknown {p : Prc} {w : MergeWork} (hj : p.job? w.tile.job = none) : p.merged w = p := by
  unfold Prc.merged Prc.recordOpen
  rw [hj]
  rfl

theorem Fst.mergeDone_eq (f : Fst) (t : TileRef) : f.mergeDone t = { f with slots := (f.mergeDone t).slots } := by
  unfold Fst.mergeDone
  rw [Fst.setSlots_eq, Fst.setSlots_eq f]

theorem Fst.mergeDone_unwaited (f : Fst) (t : TileRef) : f.unwaited.mergeDone t = (f.mergeDone t).unwaited := by
  unfold Fst.mergeDone
  rw [← Fst.setSlots_unwaited, ← Fst.setSlots_unwaited]
  rfl

theorem Fst.slot_mergeDone (f : Fst) (t : TileRef) (i : Nat) : (f.mergeDone t).slot i
    = if f.slot i = some (.raw t) then some .free else if f.slot i = some (.dest t) then some (.merged t) else f.slot i := by
  have hmem : ∀ x : SlotState, (i ∈ f.slotsWhere (fun y => decide (y = x)) ∧ i < 48) ↔ f.slot i = some x := fun x => by
    rw [Fst.mem_slotsWhere]
    constructor
    · rintro ⟨⟨_, y, hy, h⟩, _⟩
      rw [hy, of_decide_eq_true h]
    · exact fun h => ⟨⟨Fst.lt_of_slot h, x, h, decide_eq_true rfl⟩, Fst.lt_of_slot h⟩
  unfold Fst.mergeDone
  rw [Fst.slot_setSlots, Fst.slot_setSlots]
  simp only [hmem]
  by_cases hraw : f.slot i = some (.raw t)
  · rw [if_neg (by rw [hraw]; nofun), if_pos hraw, if_pos hraw]
  · rw [if_neg hraw, if_neg hraw]

theorem Fst.slot_mergeSlots (f : Fst) (t : TileRef) (i : Nat) : (f.setSlots (f.mergeSlots t) .free).slot i
    = if f.slot i = some (.raw t) ∨ f.slot i = some (.reserved t) ∨ f.slot i = some (.dest t) then some .free
      else f.slot i := by
  rw [Fst.slot_setSlots]
  refine if_congr ?_ rfl rfl
  unfold Fst.mergeSlots
  rw [Fst.mem_slotsWhere]
  constructor
  · rintro ⟨⟨_, y, hy, h⟩, _⟩
    rw [hy]
    simpa [or_assoc] using h
  · intro h
    have hlt : i < 48 := by obtain h | h | h := h <;> exact Fst.lt_of_slot h
    refine ⟨⟨hlt, ?_⟩, hlt⟩
    obtain h | h | h := h <;> exact ⟨_, h, by simp⟩

/-- The state after the report of a merge, with its tile at the output. -/
def State.merged (s : State) (w : MergeWork) (d : Nat) : State :=
  { s with
    fst := s.fst.mergeDone w.tile, prc := s.prc.merged w
    sou := { s.sou with queue := s.sou.queue ++ [⟨w.tile, d⟩] } }

theorem State.mergeDone_eq (hr : s.prc.run ≠ .quiescing) {w : MergeWork} {d : Nat} (hd : w.ctx.dest = some d) :
    s.mergeDone w = (s.merged w d).tryStripe.grantWait.bmeIdle := by
  unfold State.mergeDone
  dsimp only
  rw [State.reportMerge_eq (by exact hr)]
  unfold State.outAppend
  rw [hd]
  rfl

theorem State.bandDone_merging {w : MergeWork} (hs : s.bme.state = .merging) (hm : s.bme.merge = some w) :
    exec .bandCompletion s = .next (s.mergingBandDone w) := by
  refine congrArg Host.Outcome.next ?_
  show s.bandDone = _
  unfold State.bandDone
  simp only [hs, hm]

theorem State.bandDone_abandoning {w : MergeWork} (hs : s.bme.state = .abandoning) (hm : s.bme.merge = some w) :
    exec .bandCompletion s = .next (s.abandoningBandDone w) := by
  refine congrArg Host.Outcome.next ?_
  show s.bandDone = _
  unfold State.bandDone
  simp only [hs, hm]

/-- A band that is not the last. -/
theorem State.mergingBandDone_goes {w : MergeWork} (hq : s.bme.quiesce = false) (hb : w.band < 59) :
    s.mergingBandDone w = { s with
      fst := s.fst.afterBand w, bme := { s.bme with merge := some (s.mergeBandDone w).2 } } := by
  unfold State.mergingBandDone
  dsimp only
  rw [State.mergeBandDone_fst, if_neg (by rw [hq]; nofun),
    if_pos (by rw [State.mergeBandDone_band]; exact Nat.succ_lt_succ hb)]

/-- The last band. -/
theorem State.mergingBandDone_ends {w : MergeWork} (hq : s.bme.quiesce = false) (hb : w.band = 59) :
    s.mergingBandDone w = State.mergeDone { s with fst := s.fst.afterBand w } (s.mergeBandDone w).2 := by
  unfold State.mergingBandDone
  dsimp only
  rw [State.mergeBandDone_fst, if_neg (by rw [hq]; nofun),
    if_neg (by rw [State.mergeBandDone_band, hb]; exact Nat.lt_irrefl 60)]

/-- The band of an abandoned merge. -/
theorem State.abandoningBandDone_eq {w : MergeWork} (hq : s.bme.quiesce = false) :
    s.abandoningBandDone w = (State.freeSlots { s with
      fst := s.fst.afterBand w, bme := { s.bme with state := .idle, merge := none } }
        ((s.fst.afterBand w).mergeSlots w.tile)).takeUp.cruTest := by
  unfold State.abandoningBandDone
  dsimp only
  rw [State.mergeBandDone_fst, if_neg (by rw [hq]; nofun)]
  rfl

/-- With nothing that waits, and no tile to take up, BME is idle and that is all. -/
theorem State.bmeIdle_of_idle (hq : s.bme.queue = []) (hc : s.cru.state ≠ .waiting) :
    s.bmeIdle = { s with bme := { s.bme with state := .idle, merge := none, cal := none } } := by
  unfold State.bmeIdle
  rw [State.takeUp_eq_self (.inr (by exact hq)), State.cruTest_eq_self (by exact hc)]

/-! ## The take-up -/

theorem Fst.destOf_of {f : Fst} {t : TileRef} {d : Nat} (h : f.slot d = some (.reserved t))
    (huniq : ∀ i, f.slot i = some (.reserved t) → i = d) : f.destOf t = some d := by
  have hiff : ∀ i, i ∈ f.slotsWhere (fun x => decide (x = .reserved t)) ↔ f.slot i = some (.reserved t) := fun i => by
    rw [Fst.mem_slotsWhere]
    constructor
    · rintro ⟨_, y, hy, h⟩
      rw [hy, of_decide_eq_true h]
    · exact fun h => ⟨Fst.lt_of_slot h, _, h, decide_eq_true rfl⟩
  unfold Fst.destOf
  cases hl : (f.slotsWhere fun x => decide (x = .reserved t)).getLast? with
  | none =>
    rw [List.getLast?_eq_none_iff] at hl
    have := (hiff d).2 h
    rw [hl] at this
    cases this
  | some i => exact congrArg some (huniq i ((hiff i).1 (List.mem_of_getLast? hl)))

theorem State.takeUp_takes {t : TileRef} {rest : List TileRef} {d : Nat} (hs : s.bme.state = .idle)
    (hq : s.bme.queue = t :: rest) (hqu : s.bme.quiesce = false) (hr : s.prc.run ≠ .quiescing)
    (hd : s.fst.slot d = some (.reserved t)) (hdest : s.fst.destOf t = some d) :
    s.takeUp = { s with
      fst := s.fst.setSlot d (.dest t), prc := s.prc.mapTile t (Tile.moved .merging)
      bme := { s.bme with
        state := .merging, queue := rest, merge := some { tile := t, ctx := s.mergeCtx t, band := 0, acc := {} } } } := by
  have hctx : (s.mergeCtx t).dest = some d := hdest
  unfold State.takeUp
  rw [hq]
  dsimp only
  rw [if_pos ⟨hs, hqu⟩, hctx]
  dsimp only
  rw [State.changeSlot_sets (by exact hd) (by simp [SlotChange.after]), State.moveTile_eq (by exact hr)]
  rfl

/-! ## What goes on in the event of a merge -/

@[simp] theorem Fst.mergeDone_frame (f : Fst) (t : TileRef) : (f.mergeDone t).wait = f.wait
    ∧ (f.mergeDone t).quiesce = f.quiesce ∧ (f.mergeDone t).planes = f.planes := by
  rw [Fst.mergeDone_eq]
  exact ⟨rfl, rfl, rfl⟩

@[simp] theorem Fst.afterBand_frame (f : Fst) (w : MergeWork) : (f.afterBand w).wait = f.wait
    ∧ (f.afterBand w).quiesce = f.quiesce ∧ (f.afterBand w).slots = f.slots := by
  rw [Fst.afterBand_eq]
  exact ⟨rfl, rfl, rfl⟩

/-- The work after a band looks at the slots and their pixels only. -/
theorem State.mergeBandDone_aside (s : State) (b : Bme) (u : Sou) (w : MergeWork) :
    (State.mergeBandDone { s.unwaited with bme := b, sou := u } w).2 = (s.mergeBandDone w).2 := by
  unfold State.mergeBandDone
  dsimp only
  rw [show Fst.bmeReads s.unwaited.fst false w.ctx.reads = s.fst.bmeReads false w.ctx.reads from rfl]
  split <;> rfl

/-- R102, R60, R86, R156: the end of a merge, with the stripe that may start. -/
theorem State.mergeEnd_goesOn {w : MergeWork} {d : Nat} (hqu : s.bme.quiesce = false) (hr : s.prc.run ≠ .quiescing)
    (hs : s.bme.state = .merging) (hm : s.bme.merge = some w) (hdest : w.ctx.dest = some d) (hb : w.band = 59)
    (hw : s.fst.wait = none ∨ s.fst.quiesce = false) :
    s.goesOn .bandCompletion
      { s.unwaited with bme := { s.bme with queue := [] }, sou := { s.sou with credits := 0 } }
      (fun u => { u with
        cru := s.cru, bme := { u.bme with queue := s.bme.queue }, sou := { u.sou with credits := s.sou.credits } })
      (.stripeStart :: s.fst.asksAgain ++ [.mergeTakeUp, .calworkGrant]) := by
  obtain ⟨w', hw'⟩ : ∃ w' : MergeWork, w' = (s.mergeBandDone w).2 := ⟨_, rfl⟩
  have hdest' : w'.ctx.dest = some d := by rw [hw', State.mergeBandDone_same]; exact hdest
  obtain ⟨v, hv⟩ : ∃ v : State, v = State.merged { s with fst := s.fst.afterBand w } w' d := ⟨_, rfl⟩
  obtain ⟨b, hb'⟩ : ∃ b : Bme, b = { s.bme with state := .idle, merge := none, cal := none } := ⟨_, rfl⟩
  have hwait : v.fst.wait = s.fst.wait := by rw [hv]; simp [State.merged]
  have hquiet : v.fst.quiesce = s.fst.quiesce := by rw [hv]; simp [State.merged]
  have hmsg : v.inFlight = s.inFlight := by rw [hv]; rfl
  have hbme : v.tryStripe.grantWait.bme = s.bme := by
    rw [(State.grantWait_frame _).2.2.2.2.2.2.1, (State.tryStripe_frame v).2.2.2.2.2.1, hv]
    rfl
  have hreal : exec .bandCompletion s = .next (State.grantWait { v.tryStripe with bme := b }).takeUp.cruTest := by
    rw [State.bandDone_merging hs hm, State.mergingBandDone_ends hqu hb, ← hw', State.mergeDone_eq (by exact hr) hdest',
      ← hv, State.grantWait_bme v.tryStripe b, hb']
    unfold State.bmeIdle
    rw [hbme]
  have haside : exec .bandCompletion { s.unwaited with bme := { s.bme with queue := [] }, sou := { s.sou with credits := 0 } }
      = .next { v with
        fst := v.fst.unwaited, cru := { s.cru with state := .idle }, bme := { b with queue := [] }
        sou := { v.sou with credits := 0 } } := by
    rw [State.bandDone_merging (by exact hs) (by exact hm), State.mergingBandDone_ends (by exact hqu) hb,
      State.mergeBandDone_aside, ← hw', State.mergeDone_eq (by exact hr) hdest', State.tryStripe_of_credits rfl,
      State.grantWait_eq_self (by simp [State.merged, State.unwaited]), State.bmeIdle_of_idle rfl (fun h => by cases h), hv, hb']
    unfold State.merged
    dsimp only
    rw [show s.unwaited.fst = s.fst.unwaited from rfl, Fst.afterBand_unwaited, Fst.mergeDone_unwaited]
    rfl
  refine ⟨_, haside, fun hno => ?_⟩
  have hstripe : exec .stripeStart { v with fst := { v.fst with wait := none }, bme := b } = .next { v.tryStripe with
      bme := b, fst := { v.tryStripe.fst with wait := none } } := by
    rw [← State.tryStripe_aside]
    exact congrArg (fun u : State => Host.Outcome.next u.tryStripe)
      (State.deliver_eq_self (s := { v with fst := { v.fst with wait := none }, bme := b }) (hno .stripeStart (by simp)))
  have hkeep := congrArg State.fst v.tryStripe_keeps
  have hasks : s.fst.asksAgain = Fst.asksAgain v.tryStripe.fst := by
    rw [hkeep]
    simp only [Fst.asksAgain, hwait]
  rw [hreal]
  symm
  refine (congrArg (execAll _) (a₂ := { v with fst := { v.fst with wait := none }, bme := b }) ?_).trans ?_
  · rw [hv, hb']
    rfl
  rw [List.cons_append, execAll_cons hstripe, hasks]
  refine State.execAll_bmeIdle (v := { v.tryStripe with bme := b }) ?_ fun e he => ?_
  · show v.tryStripe.fst.wait = none ∨ v.tryStripe.fst.quiesce = false
    rw [hkeep]
    exact hw.imp hwait.trans hquiet.trans
  · show e ∉ v.tryStripe.inFlight
    rw [v.tryStripe_keeps]
    exact hno e (by rw [hasks]; exact List.mem_cons_of_mem _ he)

/-- R102, R60, R86: the end of an abandoned merge. -/
theorem State.abandonedEnd_goesOn {w : MergeWork} (hqu : s.bme.quiesce = false) (hs : s.bme.state = .abandoning)
    (hm : s.bme.merge = some w) (hw : s.fst.wait = none ∨ s.fst.quiesce = false) :
    s.goesOn .bandCompletion { s.unwaited with bme := { s.bme with queue := [] } }
      (fun u => { u with cru := s.cru, bme := { u.bme with queue := s.bme.queue } })
      (s.fst.asksAgain ++ [.mergeTakeUp, .calworkGrant]) := by
  obtain ⟨v, hv⟩ : ∃ v : State, v = { s with
      fst := (s.fst.afterBand w).setSlots ((s.fst.afterBand w).mergeSlots w.tile) .free
      bme := { s.bme with state := .idle, merge := none } } := ⟨_, rfl⟩
  have hwait : v.fst.wait = s.fst.wait := by rw [hv]; simp
  have hquiet : v.fst.quiesce = s.fst.quiesce := by rw [hv]; simp
  have hreal : exec .bandCompletion s = .next v.grantWait.takeUp.cruTest := by
    rw [State.bandDone_abandoning hs hm, State.abandoningBandDone_eq hqu, ← State.cruTest_takeUp v.grantWait, hv]
    rfl
  have haside : exec .bandCompletion { s.unwaited with bme := { s.bme with queue := [] } } = .next { v with
      fst := v.fst.unwaited, cru := { s.cru with state := .idle }, bme := { v.bme with queue := [] } } := by
    rw [State.bandDone_abandoning (by exact hs) (by exact hm), State.abandoningBandDone_eq (by exact hqu),
      State.freeSlots_of_idle (by simp [State.unwaited]) (fun h => by cases h), State.takeUp_eq_self (.inr rfl),
      State.cruTest_eq_self (fun h => by cases h), hv]
    dsimp only
    rw [show s.unwaited.fst = s.fst.unwaited from rfl, Fst.afterBand_unwaited, ← Fst.setSlots_unwaited]
    rfl
  refine ⟨_, haside, fun hno => ?_⟩
  have hasks : s.fst.asksAgain = v.fst.asksAgain := by simp only [Fst.asksAgain, hwait]
  rw [hreal]
  symm
  refine (congrArg (execAll _) (a₂ := { v with fst := { v.fst with wait := none } }) ?_).trans ?_
  · rw [hv]
    rfl
  rw [hasks]
  refine State.execAll_bmeIdle (hw.imp hwait.trans hquiet.trans) fun e he => ?_
  have := hno e (by rw [hasks]; exact he)
  rw [hv] at this ⊢
  exact this

/-- R65: the abandonment of a tile in the merge queue. -/
theorem State.bmeAbandon_queued {t : TileRef} (hqu : s.bme.quiesce = false) (h : t ∈ s.bme.queue) :
    exec (.bmeAbandon t) s = .next (State.afterFree { s.deliver (.bmeAbandon t) with
      fst := s.fst.setSlots (s.fst.mergeSlots t) .free
      bme := { s.bme with queue := s.bme.queue.filter fun x => decide (x ≠ t) } }) := by
  refine congrArg Host.Outcome.next ?_
  show (s.deliver (.bmeAbandon t)).bmeAbandoned t = _
  unfold State.bmeAbandoned
  rw [if_pos (by exact h)]
  exact if_neg (by rw [show (s.deliver (.bmeAbandon t)).bme = s.bme from rfl, hqu]; nofun)

/-- Settles O51. -/
theorem mergeRuns : Obligations.MergeRuns := by
  intro s t hqu hr nothingWaits aside putBack readable written
  refine ⟨fun rest d x j hs hq hd huniq hj hx hst => ?_, fun h => ?_, fun w d hs hm ht hdest hd hmem => ⟨fun hb hread => ?_,
    fun hb hfree => ?_, fun hb hw => ?_, fun hb hread hwaits hq hcred => ?_⟩, fun w hs hm hw => ?_,
    fun w hs hm ht hwaits hq hmem hb hread hdest => ?_, fun hmem hw => ?_, fun hmem hwaits => ?_, fun w hno hm ht => ?_⟩
  · have hdest := Fst.destOf_of hd huniq
    have htake := State.takeUp_takes (s := s.deliver .mergeTakeUp) hs hq hqu hr hd hdest
    refine ⟨_, s.cru.profile j.profile, rfl, congrArg Host.Outcome.next htake, rfl, ?_, rfl,
      .of_mapTile (Tile.moved_seq .merging) rfl, Prc.tile?_moved hx (by rw [hst]; rfl) rfl⟩
    have hctx : (s.deliver .mergeTakeUp).mergeCtx t = {
        exposures := x.mergeExposures, dest := some d, bias := s.cru.dark.biasSlot, rate := s.cru.dark.rateSlot
        flat := (s.cru.profile j.profile).flatSlot, lClear := (s.cru.profile j.profile).lClear, encoding := j.encoding
        view := j.view, satCode := s.liu.params.satCode, rounding := s.liu.params.roundingMode
        weights := s.liu.weights } := by
      unfold State.mergeCtx
      rw [show (s.deliver .mergeTakeUp).prc.job? t.job = some j from hj,
        show (s.deliver .mergeTakeUp).prc.tile? t = some x from hx,
        show (s.deliver .mergeTakeUp).fst.destOf t = some d from hdest]
      rfl
    rw [hctx]
    rfl
  · exact congrArg Host.Outcome.next (State.takeUp_eq_self (s := s.deliver .mergeTakeUp) h)
  · refine ⟨s.fst.afterBand w, ?_, s.fst.afterBand_eq w, fun i row col hcol => ?_⟩
    · rw [State.bandDone_merging hs hm, State.mergingBandDone_goes hqu hb, State.mergeBandDone_work s hread]
    · refine Fst.pixel_afterBand hmem (by omega) hread (fun e he => ?_) i row col hcol
      rw [hdest] at he
      cases he
      rw [ht, hd]
  · have hno : s.fst.bmeReads false w.ctx.reads = false := by
      obtain ⟨e, he, hfree⟩ := hfree
      unfold Fst.bmeReads
      rw [List.all_eq_false]
      exact ⟨e.slot, List.mem_append_right _ (List.mem_map.2 ⟨e, he, rfl⟩), by simp [Fst.portAllows, hfree, portTable]⟩
    have hkeep : s.fst.afterBand w = s.fst := if_neg (by rw [hno]; nofun)
    rw [State.bandDone_merging hs hm, State.mergingBandDone_goes hqu hb, State.mergeBandDone_unreadable hno, hkeep]
  · exact State.mergeEnd_goesOn hqu hr hs hm hdest hb hw
  · intro acc
    obtain ⟨w', hw'⟩ : ∃ w' : MergeWork, w' = { w with band := w.band + 1, acc := acc } := ⟨_, rfl⟩
    have hwork : (s.mergeBandDone w).2 = w' := by rw [State.mergeBandDone_work s hread, hw', hb]
    have htile : w'.tile = t := by rw [hw']; exact ht
    obtain ⟨v, hv⟩ : ∃ v : State, v = State.merged { s with fst := s.fst.afterBand w } w' d := ⟨_, rfl⟩
    have hfst : v.fst = (s.fst.afterBand w).mergeDone t := by rw [hv, ← htile]; rfl
    have hprc : v.prc = s.prc.merged w' := by rw [hv]; rfl
    have hexec : exec .bandCompletion s = .next { v with
        bme := { s.bme with state := .idle, merge := none, cal := none } } := by
      rw [State.bandDone_merging hs hm, State.mergingBandDone_ends hqu hb, hwork,
        State.mergeDone_eq (by exact hr) (d := d) (by rw [hw']; exact hdest), ← hv,
        State.tryStripe_of_credits (by rw [hv]; exact hcred),
        State.grantWait_eq_self (by rw [hfst]; simpa using hwaits.2),
        State.bmeIdle_of_idle (by rw [hv]; exact hq) (by rw [hv]; exact hwaits.1), hv]
      rfl
    refine ⟨_, hexec, ?_, fun i => ?_, fun i row col hcol => ?_, ?_, fun k x hj hx hst => ?_, fun hj => ?_⟩
    · have hfst' : v.fst = { s.fst with slots := v.fst.slots, planes := v.fst.planes } := by
        rw [hfst, Fst.mergeDone_eq, Fst.afterBand_eq]
      have hprc' : v.prc = { s.prc with jobs := v.prc.jobs } := by rw [hprc, Prc.merged_keeps]
      have hsou : v.sou = { s.sou with queue := s.sou.queue ++ [⟨t, d⟩] } := by rw [hv, ← htile]; rfl
      dsimp only
      rw [← hfst', ← hprc', ← hsou, hv]
      rfl
    · show v.fst.slot i = _
      rw [hfst, Fst.slot_mergeDone]
      unfold Fst.slot
      rw [(s.fst.afterBand_frame w).2.2]
    · show v.fst.pixel i row col = _
      rw [Fst.pixel_congr (g := s.fst.afterBand w) (by rw [hfst]; simp)]
      refine Fst.pixel_afterBand hmem (by omega) hread (fun e he => ?_) i row col hcol
      rw [hdest] at he
      cases he
      rw [ht, hd]
    · show v.prc.otherRecords s.prc t
      rw [hprc, ← htile]
      exact s.prc.merged_otherRecords w'
    · show v.prc.tile? t = _
      rw [hprc, ← htile, Prc.merged_tile? (by rw [htile]; exact hj) (by rw [htile]; exact hx)]
      refine congrArg some (if_congr k.state.finished_iff rfl ?_)
      rw [show w'.acc = acc by rw [hw']]
      obtain h | h := hst <;> simp [Tile.moved, Tile.reported, h, TileState.ended]
    · show v.prc = s.prc
      rw [hprc]
      exact Prc.merged_unknown (by rw [htile]; exact hj)
  · exact State.abandonedEnd_goesOn hqu hs hm hw
  · refine ⟨(s.fst.afterBand w).setSlots ((s.fst.afterBand w).mergeSlots t) .free, ?_, ?_, fun i => ?_,
      fun i row col hcol => ?_⟩
    · rw [State.bandDone_abandoning hs hm, State.abandoningBandDone_eq hqu,
        State.freeSlots_of_idle (by simpa using hwaits.2) (by exact hwaits.1), State.takeUp_eq_self (.inr (by exact hq)),
        State.cruTest_eq_self (by exact hwaits.1), ht]
    · rw [Fst.setSlots_eq, Fst.afterBand_eq]
    · rw [Fst.slot_mergeSlots]
      unfold Fst.slot
      rw [(s.fst.afterBand_frame w).2.2]
    · rw [Fst.pixel_congr (g := s.fst.afterBand w) (by simp)]
      exact Fst.pixel_afterBand hmem hb hread (fun d he => by rw [ht]; exact hdest d he) i row col hcol
  · refine State.goesOn_of_afterFree (State.bmeAbandon_queued hqu hmem) ?_ (by simp) (by simp) rfl hw
    refine (State.bmeAbandon_queued (s := s.unwaited) hqu hmem).trans (congrArg Host.Outcome.next ?_)
    rw [State.afterFree_of_idle (by simp [State.unwaited]) (fun h => by cases h)]
    dsimp only
    rw [show s.unwaited.fst = s.fst.unwaited from rfl, Fst.setSlots_unwaited]
    rfl
  · refine ⟨s.fst.setSlots (s.fst.mergeSlots t) .free, ?_, s.fst.setSlots_eq _ _, s.fst.slot_mergeSlots t⟩
    rw [State.bmeAbandon_queued hqu hmem, State.afterFree_of_idle (by simpa using hwaits.2) (by exact hwaits.1)]
    rfl
  · refine congrArg Host.Outcome.next ?_
    show (s.deliver (.bmeAbandon t)).bmeAbandoned t = _
    unfold State.bmeAbandoned
    rw [if_neg (by exact hno), show (s.deliver (.bmeAbandon t)).bme.merge = some w from hm]
    exact if_pos ht

end Sys2Proof.Machine
end

section
/-! PROOFS. The end of a plate at PRC (R28, R31, R36, R38, R40). -/

namespace Sys2Proof.Machine

variable {s t u : State}

theorem State.noticesOnly.params (h : s.noticesOnly t) : t.liu.params = s.liu.params := by
  obtain ⟨n, o, k, h⟩ := h
  rw [h]

theorem State.goHeld_params (s : State) (c : HoldCause) : (s.goHeld c).liu.params = s.liu.params :=
  ((State.noticesOnly.of_liu (s := s) rfl).goHeld c).params

/-- The run has changed its state, and nothing else has changed but the notices. -/
def State.ran (s : State) (r : RunState) (t : State) : Prop :=
  s.prcOnly t ∧ t.prc = { s.prc with run := r } ∧ t.inFlight = s.inFlight

theorem State.ran_self (s : State) : s.ran s.prc.run s := ⟨.of_prc, rfl, rfl⟩

theorem State.ran.goHeld {r : RunState} (h : s.ran r t) (c : HoldCause) : s.ran (t.goHeld c).prc.run (t.goHeld c) := by
  obtain ⟨h1, h2, h3⟩ := h
  refine ⟨h1.goHeld c, ?_, by simpa using h3⟩
  rw [State.goHeld_prc, h2]

theorem State.ran.setRun {r : RunState} (h : s.ran r t) (x : RunState) : s.ran x (t.setRun x) := by
  obtain ⟨h1, h2, h3⟩ := h
  refine ⟨h1.trans (.of_frame ((State.noticesOnly.of_liu rfl).setRun x) (by simp)), ?_, by simpa using h3⟩
  rw [State.setRun_prc, h2]

/-- What follows the end of a job in a HELD run: nothing. -/
theorem State.afterJob_held {c : HoldCause} (h : s.prc.run = .held c) : s.afterJob = s.startIdle := by
  have hne : s.prc.run ≠ .running := by rw [h]; nofun
  unfold State.afterJob State.idleCheck
  rw [if_neg fun k => hne k.1, State.considerStart_eq_self fun k => hne k.1, State.tryHoldPoint_of_ne (by rw [h]; nofun)]

/-- In a RUNNING run with no queued job: the run is IDLE. -/
theorem State.afterJob_idle (h : s.prc.run = .running) (ha : s.prc.active = none) (hq : s.prc.queue = []) :
    s.afterJob = (s.setRun .idle).startIdle := by
  unfold State.afterJob State.idleCheck
  rw [if_pos ⟨h, ha, hq⟩, State.considerStart_eq_self (by rw [State.setRun_prc]; nofun),
    State.tryHoldPoint_of_ne (by rw [State.setRun_prc]; nofun)]

/-- In a RUNNING run with queued jobs: a start is considered. -/
theorem State.afterJob_starts (h : s.prc.run = .running) (hq : s.prc.queue ≠ []) :
    s.afterJob = s.considerStart.startIdle := by
  unfold State.afterJob State.idleCheck
  rw [if_neg fun k => hq k.2.2, State.tryHoldPoint_of_ne (State.considerStart_ne_holding (by rw [h]; nofun))]

/-- In a HOLDING run with nothing asked for: the hold point. -/
theorem State.afterJob_holding (h : s.prc.run = .holding) (ho : s.prc.outstanding = false) :
    s.afterJob = (s.goHeld (if s.prc.holdByLink then .link else .requested)).startIdle := by
  have hne : s.prc.run ≠ .running := by rw [h]; nofun
  unfold State.afterJob State.idleCheck
  rw [if_neg fun k => hne k.1, State.considerStart_eq_self fun k => hne k.1, State.tryHoldPoint_eq h ho]

/-- R28: the run after an unload under the run mode, with a lamp fault that was put off or without. -/
def RunState.afterUnload (r : RunState) (lamp : Bool) (mode : RunMode) (byLink : Bool) : RunState :=
  match r with
  | .held c =>
    if lamp = true then .held (if c.rank ≤ HoldCause.lamp.rank then .lamp else c)
    else match mode with
      | .auto => .held c
      | .step => .held (if c.rank ≤ HoldCause.step.rank then .step else c)
  | r =>
    if lamp = true then .held .lamp
    else match mode with
      | .auto => if r = .running then .idle else .held (if byLink then .link else .requested)
      | .step => .held .step

/-- R28, R40: what follows when the unloaded job's record stands. -/
def State.afterUnload (s : State) (lamp : Bool) : State :=
  let x := if lamp then s.goHeld .lamp else s
  match x.liu.params.runMode with
  | .auto => x.afterJob
  | .step => (x.goHeld .step).startIdle

/-- With a lamp fault put off, the run is HELD(LAMP) by its rank, also under STEP, whose rank is lower. -/
theorem State.goHeld_lamp_run (h : s.prc.run ≠ .quiescing) (mode : RunMode) (b : Bool) :
    (∃ c, (s.goHeld .lamp).prc.run = .held c) ∧ (s.goHeld .lamp).prc.run = s.prc.run.afterUnload true mode b
    ∧ ((s.goHeld .lamp).goHeld .step).prc.run = s.prc.run.afterUnload true mode b := by
  rw [State.goHeld_run (s.goHeld .lamp), State.goHeld_run]
  cases hr : s.prc.run with
  | held c =>
    dsimp only [RunState.afterUnload]
    by_cases hc : c.rank ≤ HoldCause.lamp.rank
    · simp only [if_pos hc, if_true]
      exact ⟨⟨_, rfl⟩, trivial, if_neg (by decide)⟩
    · simp only [if_neg hc, if_true]
      exact ⟨⟨_, rfl⟩, trivial, if_neg fun k => hc (Nat.le_trans k (by decide))⟩
  | quiescing => exact absurd hr h
  | idle | running | holding => exact ⟨⟨_, rfl⟩, rfl, rfl⟩

theorem State.afterUnload_spec (lamp : Bool) (ha : s.prc.active = none)
    (hrun : (s.prc.run = .running ∧ (s.prc.queue = [] ∨ s.liu.params.runMode = .step ∨ lamp = true))
      ∨ (s.prc.run = .holding ∧ s.prc.outstanding = false) ∨ ∃ c, s.prc.run = .held c) :
    ∃ v, s.afterUnload lamp = v.startIdle
      ∧ s.ran (s.prc.run.afterUnload lamp s.liu.params.runMode s.prc.holdByLink) v := by
  have hq : s.prc.run ≠ .quiescing := by
    obtain ⟨h, -⟩ | ⟨h, -⟩ | ⟨c, h⟩ := hrun <;> rw [h] <;> nofun
  unfold State.afterUnload
  cases lamp with
  | true =>
    simp only [if_true, State.goHeld_params]
    obtain ⟨⟨c, hheld⟩, h1, h2⟩ := State.goHeld_lamp_run hq s.liu.params.runMode s.prc.holdByLink
    cases hm : s.liu.params.runMode with
    | auto =>
      refine ⟨s.goHeld .lamp, State.afterJob_held hheld, ?_⟩
      rw [← hm, ← h1]
      exact s.ran_self.goHeld .lamp
    | step =>
      refine ⟨(s.goHeld .lamp).goHeld .step, rfl, ?_⟩
      rw [← hm, ← h2]
      exact (s.ran_self.goHeld .lamp).goHeld .step
  | false =>
    simp only [Bool.false_eq_true, if_false]
    cases hm : s.liu.params.runMode with
    | auto =>
      obtain ⟨h, hqueue⟩ | ⟨h, ho⟩ | ⟨c, h⟩ := hrun
      · rw [hm] at hqueue
        refine ⟨s.setRun .idle, State.afterJob_idle h ha (hqueue.resolve_right (by nofun)), ?_⟩
        rw [h]
        exact s.ran_self.setRun .idle
      · refine ⟨_, State.afterJob_holding h ho, ?_⟩
        have := s.ran_self.goHeld (if s.prc.holdByLink then .link else .requested)
        rw [State.goHeld_run, h] at this
        rw [h]
        exact this
      · refine ⟨s, State.afterJob_held h, ?_⟩
        have := s.ran_self
        rw [h] at this ⊢
        exact this
    | step =>
      refine ⟨s.goHeld .step, rfl, ?_⟩
      have := s.ran_self.goHeld .step
      rw [State.goHeld_run] at this
      obtain ⟨h, -⟩ | ⟨h, -⟩ | ⟨c, h⟩ := hrun
      · rw [h] at this ⊢; exact this
      · rw [h] at this ⊢; exact this
      · rw [h] at this ⊢
        show s.ran (.held (if c.rank ≤ HoldCause.step.rank then .step else c)) _
        by_cases hc : c.rank ≤ HoldCause.step.rank
        · rw [if_pos hc]; simpa only [if_pos hc] using this
        · rw [if_neg hc]; simpa only [if_neg hc] using this

/-- The job table with the unloaded job's record (R28, R36). -/
def State.unloadedJob (s : State) (j : Job) : State :=
  State.recordJob { s with prc := { s.prc with trsReq := none, active := none, abortMark := false, lampAfterUnload := false } }
    { j with state := (j.unloaded s.prc.abortMark).1, outcome := some (j.unloaded s.prc.abortMark).2 }

theorem State.unloaded_eq {j : Job} (hr : s.prc.run ≠ .quiescing) (htab : s.prc.tableLaw)
    (hreq : s.prc.trsReq = some .unload) (hj : s.prc.activeJob? = some j) (hst : j.state = .unloading) :
    exec .unloadComplete s = .next (((s.deliver .unloadComplete).unloadedJob j).afterUnload s.prc.lampAfterUnload) := by
  obtain ⟨hact, hjob⟩ := Prc.activeJob?_eq_some hj
  refine congrArg Host.Outcome.next ((State.prcEvent_eq (s := s.deliver .unloadComplete) hr).trans ?_)
  have hset : ∀ (d : State) (st : JobState) (out : JobOutcome), d.prc.jobs = s.prc.jobs → d.prc.run = s.prc.run →
      d.setJob j.id st (some out) = d.recordJob { j with state := st, outcome := some out } := fun d st out h1 h2 =>
    State.setJob_eq d j _ _ ((Prc.job?_congr h1 _).trans hjob) (by rw [h1]; exact Prc.unique_of_tableLaw htab hjob)
      (by rw [h2]; exact hr) (by rw [hst]; rfl)
  unfold State.unloaded
  rw [show (s.deliver .unloadComplete).prc.trsReq = some .unload from hreq,
    show (s.deliver .unloadComplete).prc.activeJob? = some j from hj]
  show (s.deliver .unloadComplete).jobUnloaded j = _
  unfold State.jobUnloaded
  dsimp only
  rw [hset]
  · rfl
  · rfl
  · rfl

theorem Job.unloaded_eq (j : Job) (abort : Bool) : j.unloaded abort
    = (if abort then .aborted else if j.tiles.any (fun x => x.state.inFlight) then .draining else .done,
      if abort then .aborted else .done) := by
  unfold Job.unloaded
  cases abort with
  | true => rfl
  | false => cases j.tiles.any (fun x => x.state.inFlight) <;> rfl

/-- Settles O29. -/
theorem unloadCompletion : Obligations.UnloadCompletion := by
  refine ⟨fun s j htab hreq hj hst hrun => ?_, fun s j htab hreq hj hst hrun hmode hlamp hq hno => ?_, fun s hreq => ?_,
    fun s hreq => ?_⟩
  · obtain ⟨hact, hjob⟩ := Prc.activeJob?_eq_some hj
    have hr : s.prc.run ≠ .quiescing := by
      obtain ⟨h, -⟩ | ⟨h, -⟩ | ⟨c, h⟩ := hrun <;> rw [h] <;> nofun
    obtain ⟨u, hu⟩ : ∃ u : State, u = (s.deliver .unloadComplete).unloadedJob j := ⟨_, rfl⟩
    have honlyu : s.prcOnly u := by
      rw [hu]
      exact State.prcOnly.recordJob .of_prc _
    have hupar : u.liu.params = s.liu.params := honlyu.2.2.2.2.2.2.2.2.2.2.params
    have huprc : u.prc = { s.prc with
        trsReq := none, active := none, abortMark := false, lampAfterUnload := false, jobs := u.prc.jobs } := by rw [hu]; rfl
    have humsg : u.inFlight = s.inFlight.erase .unloadComplete := by rw [hu]; rfl
    have hurun : u.prc.run = s.prc.run := by rw [huprc]
    have hspec := State.afterUnload_spec (s := u) s.prc.lampAfterUnload (by rw [huprc]) (by
      rw [hurun, hupar]
      refine hrun.imp (And.imp_right fun h => ?_) (.imp_left (And.imp_right fun ⟨hun, hplan, hexp⟩ => ?_))
      · rw [huprc]; exact h
      · rw [huprc]
        refine Prc.outstanding_of rfl hun hplan hexp fun k hk => ?_
        rw [Prc.activeJob?_none rfl] at hk
        cases hk)
    obtain ⟨v, hv, honly, hprc, hmsg⟩ := hspec
    rw [hurun, hupar, show u.prc.holdByLink = s.prc.holdByLink by rw [huprc]] at hprc
    have hexec : exec .unloadComplete s = .next v.startIdle := by
      rw [State.unloaded_eq hr htab hreq hj hst, ← hu, hv]
    have hpv : v.startIdle.prc = v.prc := v.startIdle_frame.2.1
    have hjobs : ∀ k, v.startIdle.prc.job? k = u.prc.job? k := fun k => Prc.job?_congr (by rw [hpv, hprc]) k
    obtain ⟨-, h2, h3, -, h5, h6, h7, h8, -, -, -⟩ := honlyu.trans honly
    refine ⟨_, hexec, by rw [hpv, hprc, huprc], by rw [hpv, hprc, huprc], by rw [hpv, hprc, huprc],
      by rw [hpv, hprc, huprc], ?_, ?_, fun k hk => ?_, by simpa using h2, by simpa using h3, by simpa using h5,
      by simpa using h6, by simpa using h7, by simpa using h8, by simpa [hmsg] using humsg⟩
    · rw [hpv, hprc]
      rfl
    · rw [hjobs, hu]
      refine (State.recordJob_job?_self (k := { j with state := _, outcome := _ }) (by exact hjob)).trans ?_
      rw [Job.unloaded_eq]
      rfl
    · rw [hjobs, hu]
      exact State.recordJob_job?_ne hk
  · obtain ⟨hact, hjob⟩ := Prc.activeJob?_eq_some hj
    intro u
    have hu : (s.deliver .unloadComplete).unloadedJob j = u := by
      unfold State.unloadedJob
      rw [Job.unloaded_eq]
      show State.recordJob { s.deliver .unloadComplete with prc := { s.prc with
        trsReq := none, active := none, abortMark := false, lampAfterUnload := false } } _
        = State.recordJob { s.deliver .unloadComplete with prc := { s.prc with
          trsReq := none, active := none, abortMark := false, lampAfterUnload := s.prc.lampAfterUnload } } _
      rw [hlamp]
      rfl
    refine ⟨u.considerStart, ?_, ?_⟩
    · exact congrArg (fun v : State => Host.Outcome.next v.considerStart)
        (State.deliver_eq_self (s := u) fun hm => hno (List.mem_of_mem_erase hm))
    · rw [State.unloaded_eq (by rw [hrun]; nofun) htab hreq hj hst, hlamp, hu]
      unfold State.afterUnload
      have hmode' : u.liu.params.runMode = .auto := by
        rw [(show s.noticesOnly u from .of_raise rfl).params]
        exact hmode
      simp only [Bool.false_eq_true, if_false, hmode']
      exact congrArg Host.Outcome.next (State.afterJob_starts (s := u) hrun hq)
  · intro back
    have hexec : s.prc.run ≠ .quiescing → exec .unloadComplete s = .next back.considerStart.tryHoldPoint := fun hr => by
      refine congrArg Host.Outcome.next ((State.prcEvent_eq (s := s.deliver .unloadComplete) hr).trans ?_)
      unfold State.unloaded
      rw [show (s.deliver .unloadComplete).prc.trsReq = some .recovery from hreq]
      rfl
    have hstay : s.prc.run ≠ .running → back.considerStart = back := fun h => State.considerStart_eq_self fun k => h k.1
    refine ⟨fun h => ?_, fun h hno => ?_, fun h hun hplan hexp ha => ?_⟩
    · have hne : s.prc.run ≠ .quiescing ∧ s.prc.run ≠ .running ∧ s.prc.run ≠ .holding := by
        obtain h | ⟨c, h⟩ := h <;> rw [h] <;> exact ⟨nofun, nofun, nofun⟩
      obtain ⟨hq, hr, hh⟩ := hne
      rw [hexec hq, hstay hr, State.tryHoldPoint_of_ne (by exact hh)]
    · rw [hexec (by rw [h]; nofun),
        State.tryHoldPoint_of_ne (State.considerStart_ne_holding (s := back) (by rw [show back.prc.run = s.prc.run from rfl, h]; nofun))]
      exact congrArg (fun v : State => Host.Outcome.next v.considerStart)
        (State.deliver_eq_self (s := back) fun hm => hno (List.mem_of_mem_erase hm)).symm
    · rw [hexec (by rw [h]; nofun), hstay (by rw [h]; nofun)]
      refine congrArg Host.Outcome.next (State.tryHoldPoint_eq (s := back) h ?_)
      refine Prc.outstanding_of rfl hun hplan hexp fun k hk => ?_
      rw [Prc.activeJob?_none (by exact ha)] at hk
      cases hk
  · refine congrArg Host.Outcome.next ?_
    show (s.deliver .unloadComplete).prcEvent State.unloaded = _
    unfold State.prcEvent State.unloaded
    rw [show (s.deliver .unloadComplete).prc.trsReq = none from hreq]
    exact ite_self _

end Sys2Proof.Machine
end

section
/-! PROOFS. RESUME, and what PRC takes up again (R32, R33, R40, R124, R134). -/

namespace Sys2Proof.Machine

variable {s t u : State}

/-! ## What PRC takes up of an active job -/

/-- The run state, the active job and the queue stay, and nothing but PRC has changed. -/
def State.workedOn (s t : State) : Prop :=
  s.prcOnly t ∧ t.prc.run = s.prc.run ∧ t.prc.active = s.prc.active ∧ t.prc.queue = s.prc.queue

theorem State.workedOn.refl (s : State) : s.workedOn s := ⟨.of_prc, rfl, rfl, rfl⟩

theorem State.workedOn.trans (h1 : s.workedOn t) (h2 : t.workedOn u) : s.workedOn u := by
  obtain ⟨a1, a2, a3, a4⟩ := h1
  obtain ⟨b1, b2, b3, b4⟩ := h2
  exact ⟨a1.trans b1, b2.trans a2, b3.trans a3, b4.trans a4⟩

theorem State.workedOn.mapTile (s : State) (r : TileRef) (f : Tile → Tile) : s.workedOn (s.mapTile r f) := by
  unfold State.mapTile
  split
  · exact .refl s
  · exact ⟨.of_prc, rfl, rfl, rfl⟩

theorem State.workedOn.kickExposure (s : State) : s.workedOn s.kickExposure := by
  have hreq : ∀ r, s.workedOn (s.requestExposure r) := fun r => by
    unfold State.requestExposure
    split
    · split
      · split
        · exact .refl s
        · dsimp only
          split
          · exact (State.workedOn.mapTile s r _).trans ⟨.of_prc, rfl, rfl, rfl⟩
          · exact ⟨.of_prc, rfl, rfl, rfl⟩
      · exact .refl s
    · exact .refl s
  unfold State.kickExposure
  split
  · exact hreq _
  · exact hreq _
  · exact .refl s

theorem State.workedOn.kickPlan (s : State) : s.workedOn s.kickPlan := by
  unfold State.kickPlan
  split
  · next r _ =>
    split
    · exact .refl s
    · refine (State.workedOn.mapTile s r Tile.unplan).trans ?_
      unfold State.issuePlan
      split
      · exact .refl _
      · exact ⟨.of_prc, rfl, rfl, rfl⟩
  · exact .refl s

theorem State.workedOn.beginNext (s : State) : s.workedOn s.beginNext := by
  unfold State.beginNext
  split
  · unfold State.beginTile
    split
    · exact (State.workedOn.mapTile s _ _).trans ⟨.of_prc, rfl, rfl, rfl⟩
    · exact .refl s
  · exact .refl s

theorem State.workedOn.captureCheck (s : State) : s.workedOn s.captureCheck := by
  have hask : ∀ v : State, v.workedOn (v.askUnload .unload) := fun v => by
    unfold State.askUnload
    split
    · exact ⟨.of_prc, rfl, rfl, rfl⟩
    · exact .refl v
    · exact .refl v
    · exact ⟨.of_prc, rfl, rfl, rfl⟩
    · exact ⟨.of_prc, rfl, rfl, rfl⟩
    · exact ⟨.of_prc, rfl, rfl, rfl⟩
  unfold State.captureCheck
  split
  · split
    · refine State.workedOn.trans ?_ (hask _)
      refine ⟨State.prcOnly.setJob .of_prc .., ?_, ?_, ?_⟩ <;> rw [State.setJob_prc]
    · exact .refl s
  · exact .refl s

theorem State.workedOn.kick (s : State) : s.workedOn s.kick := by
  unfold State.kick
  dsimp only
  split
  · refine (State.workedOn.kickExposure s).trans ((State.workedOn.kickPlan _).trans ?_)
    unfold State.kickNext
    split
    · split
      · exact (State.workedOn.beginNext _).trans (.captureCheck _)
      · exact .refl _
    · exact .refl _
  · exact .kickExposure s

section Kick

variable {j : Job}

theorem Tile.unexposed_of {x : Tile} {plan : List PlanEntry} {e : PlanEntry} (hs : x.state = .exposing)
    (hp : x.plan = some plan) (he : plan[x.exposures.length]? = some e) : x.unexposed = true := by
  have hlt : x.exposures.length < plan.length := (List.getElem?_eq_some_iff.1 he).1
  simp [Tile.unexposed, Tile.planLength, hs, hp, hlt]

/-- R33: the next exposure of the EXPOSING tile is requested. -/
theorem State.kick_exposes (hr : s.prc.run = .running ∨ s.prc.run = .holding) (hj : s.prc.activeJob? = some j)
    (hcount : j.countLaw) {x : Tile} {plan : List PlanEntry} {e : PlanEntry} {n : Nat}
    (hx : j.tiles.find? (fun y => decide (y.state = .exposing)) = some x) (hp : x.plan = some plan)
    (he : plan[x.exposures.length]? = some e) (hn : s.fst.lowestReserved ⟨j.id, x.seq⟩ = some n)
    (hc : s.cru.state = .idle) (hexp : s.prc.expReq = none) (hback : s.prc.retryBack = none)
    (hlow : s.blu.throttle = false ∨ e.drive ≤ 1024) :
    s.kick = { s with
      prc := { s.prc with expReq := some ⟨j.id, x.seq⟩ }
      inFlight := s.inFlight ++ [.lightRequest e.drive, .exposureRequest
        { client := .prc ⟨j.id, x.seq⟩, time := e.time, target := .slot n ⟨j.id, x.seq⟩
          lamp := .settled e.drive, stage := true }] } := by
  obtain ⟨-, hjob⟩ := Prc.activeJob?_eq_some hj
  have hxm := List.mem_of_find?_eq_some hx
  have hxs : x.state = .exposing := by simpa using List.find?_some hx
  have hfirst : s.prc.firstTile Tile.unexposed = some ⟨j.id, x.seq⟩ :=
    Prc.firstTile_of_find hj (find?_of_imp hx (Tile.unexposed_of hxs hp he) fun y _ hy => by
      simp only [Tile.unexposed, Bool.and_eq_true] at hy; exact hy.1)
  unfold State.kick
  rw [State.kickExposure_eq hr hfirst,
    State.requestExposure_eq (Prc.tile?_of_mem hjob hcount hxm) hp he hn hc hexp hback hlow]
  dsimp only
  rw [State.kickRest_eq_self (j := j) (x := x) (hx := hxm) (hxs := hxs), ite_self]
  exact hj

theorem State.kickExposure_none (hj : s.prc.activeJob? = some j) (hno : ∀ y ∈ j.tiles, y.state ≠ .exposing) :
    s.kickExposure = s :=
  State.kickExposure_eq_self fun _ => Prc.firstTile_of_none hj fun y hy => by simp [Tile.unexposed, hno y hy]

/-- R33: a tile that waits in METERING, or in PLANNED with no admission request waiting, is planned from attempt 1. -/
theorem State.kick_plans (hr : s.prc.run = .running) (hj : s.prc.activeJob? = some j) {x : Tile}
    (hno : ∀ y ∈ j.tiles, y.state ≠ .exposing)
    (hx : j.tiles.find? (fun y => decide (y.state = .metering ∨ y.state = .planned)) = some x)
    (hadm : x.state = .planned → s.prc.admReq ≠ some ⟨j.id, x.seq⟩) (hc : s.cru.state = .idle)
    (hplan : s.prc.planReq = none) :
    s.kick = { s with
      prc := { s.prc.mapTile ⟨j.id, x.seq⟩ Tile.unplan with planReq := some ⟨j.id, x.seq⟩ }
      inFlight := s.inFlight ++ [.planRequest (.prc ⟨j.id, x.seq⟩)] } := by
  have hxm := List.mem_of_find?_eq_some hx
  have hxs : x.state = .metering ∨ x.state = .planned := by simpa using List.find?_some hx
  have hto : s.prc.toPlan = some ⟨j.id, x.seq⟩ := by
    unfold Prc.toPlan
    rw [hplan, hj]
    refine congrArg (Option.map j.ref) (find?_of_imp hx ?_ fun y _ hy => ?_)
    · obtain h | h := hxs
      · simp [h]
      · simp [h, Job.ref, hadm h]
    · simp only [Bool.or_eq_true, Bool.and_eq_true, decide_eq_true_eq] at hy ⊢
      exact hy.imp_right And.left
  have hnot : s.prc.activeExposing = false := by
    rw [Bool.eq_false_iff, Ne, Prc.activeExposing_iff hj]
    exact fun ⟨y, hy, hys⟩ => hno y hy hys
  have hkp : s.kickPlan = { s with
      prc := { s.prc.mapTile ⟨j.id, x.seq⟩ Tile.unplan with planReq := some ⟨j.id, x.seq⟩ }
      inFlight := s.inFlight ++ [.planRequest (.prc ⟨j.id, x.seq⟩)] } := by
    unfold State.kickPlan
    rw [hto]
    dsimp only
    rw [if_neg (by simp [hnot, State.calibrating, hc]), State.mapTile_eq (by rw [hr]; nofun), State.issuePlan_eq (by exact hc)]
  unfold State.kick
  rw [State.kickExposure_none hj hno]
  dsimp only
  rw [if_pos hr, hkp]
  refine State.kickNext_eq_self fun k hk => ?_
  obtain rfl : j.withTile x.seq Tile.unplan = k :=
    Option.some.inj ((Prc.activeJob?_mapTile hj x.seq Tile.unplan).symm.trans hk)
  exact .inr (.inl ⟨x.unplan, List.mem_map.2 ⟨x, hxm, by simp⟩, rfl⟩)

theorem Prc.toPlan_none (hj : s.prc.activeJob? = some j)
    (h : ∀ y ∈ j.tiles, y.state ≠ .metering ∧ (y.state = .planned → s.prc.admReq = some ⟨j.id, y.seq⟩)) :
    s.prc.toPlan = none := by
  unfold Prc.toPlan
  split
  · rfl
  · rw [hj]
    refine congrArg (Option.map j.ref) (List.find?_eq_none.2 fun y hy => ?_)
    obtain ⟨h1, h2⟩ := h y hy
    by_cases hp : y.state = .planned
    · simp [hp, Job.ref, h2 hp]
    · simp [h1, hp]

/-- R33: a tile whose admission request waits is left to its grant. -/
theorem State.kick_waits (hj : s.prc.activeJob? = some j) {x : Tile} (hx : x ∈ j.tiles) (hxs : x.state = .planned)
    (h : ∀ y ∈ j.tiles, y.state ≠ .exposing ∧ y.state ≠ .metering
      ∧ (y.state = .planned → s.prc.admReq = some ⟨j.id, y.seq⟩)) : s.kick = s := by
  unfold State.kick
  rw [State.kickExposure_none hj fun y hy => (h y hy).1]
  dsimp only
  have hkp : s.kickPlan = s := by
    unfold State.kickPlan
    rw [Prc.toPlan_none hj fun y hy => (h y hy).2]
  rw [hkp, State.kickNext_eq_self, ite_self]
  intro k hk
  obtain rfl : j = k := Option.some.inj (hj.symm.trans hk)
  exact .inr (.inl ⟨x, hx, by rw [hxs]; rfl⟩)

/-- With no tile in its cycle, PRC goes on to the next tile. -/
theorem State.kick_next (hr : s.prc.run = .running) (hj : s.prc.activeJob? = some j) (hst : j.state = .capturing)
    (htrs : s.prc.trsReq = none) (hno : ∀ y ∈ j.tiles, y.state.inCycle = false) : s.kick = s.beginNext.captureCheck := by
  have hstates : ∀ y ∈ j.tiles, y.state ≠ .exposing ∧ y.state ≠ .metering ∧ y.state ≠ .planned := fun y hy => by
    have := hno y hy
    refine ⟨fun h => ?_, fun h => ?_, fun h => ?_⟩ <;> rw [h] at this <;> cases this
  unfold State.kick
  rw [State.kickExposure_none hj fun y hy => (hstates y hy).1]
  dsimp only
  have hkp : s.kickPlan = s := by
    unfold State.kickPlan
    rw [Prc.toPlan_none hj fun y hy => ⟨(hstates y hy).2.1, fun h => absurd h (hstates y hy).2.2⟩]
  rw [if_pos hr, hkp]
  unfold State.kickNext
  rw [hj]
  exact if_pos ⟨hst, List.any_eq_false.2 fun y hy => by rw [hno y hy]; nofun, htrs⟩

/-- A job with a tile not yet captured goes on. -/
theorem State.captureCheck_eq_self (hj : s.prc.activeJob? = some j) (h : ∃ y ∈ j.tiles, y.state.uncaptured = true) :
    s.captureCheck = s := by
  obtain ⟨y, hy, hun⟩ := h
  unfold State.captureCheck
  rw [hj]
  exact if_neg fun k => List.any_eq_false.1 k.2.1 y hy hun

/-- R22: the next PENDING tile begins. -/
theorem State.kick_begins (hr : s.prc.run = .running) (hj : s.prc.activeJob? = some j) (hcount : j.countLaw)
    (hst : j.state = .capturing) (htrs : s.prc.trsReq = none) (hno : ∀ y ∈ j.tiles, y.state.inCycle = false) {x : Tile}
    (hx : j.tiles.find? (fun y => decide (y.state = .pending)) = some x) :
    s.kick = { s with
      prc := { s.prc.mapTile ⟨j.id, x.seq⟩ (Tile.moved .positioning) with trsReq := some (.move x.seq) }
      inFlight := s.inFlight ++ [.moveRequest .prc (.point x.cx x.cy)] } := by
  obtain ⟨-, hjob⟩ := Prc.activeJob?_eq_some hj
  have hxm := List.mem_of_find?_eq_some hx
  have hxs : x.state = .pending := by simpa using List.find?_some hx
  rw [State.kick_next hr hj hst htrs hno,
    State.beginNext_eq (by rw [hr]; nofun) hj hx (Prc.tile?_of_mem hjob hcount hxm)]
  refine State.captureCheck_eq_self (j := j.withTile x.seq (Tile.moved .positioning))
    (by exact Prc.activeJob?_mapTile hj x.seq (Tile.moved .positioning))
    ⟨x.moved .positioning, List.mem_map.2 ⟨x, hxm, by simp⟩, ?_⟩
  rw [Tile.moved_of (by rw [hxs]; rfl)]
  rfl

/-- R28: a job whose capture is complete is UNLOADING. -/
theorem State.kick_unloads (hr : s.prc.run = .running) (htab : s.prc.tableLaw) (hj : s.prc.activeJob? = some j)
    (hst : j.state = .capturing) (htrs : s.prc.trsReq = none) (hno : ∀ y ∈ j.tiles, y.state.uncaptured = false) :
    s.kick = (s.recordJob { j with state := .unloading, outcome := none }).issueUnload .unload := by
  obtain ⟨-, hjob⟩ := Prc.activeJob?_eq_some hj
  have hcycle : ∀ y ∈ j.tiles, y.state.inCycle = false ∧ y.state ≠ .pending := fun y hy => by
    have hcap := hno y hy
    cases h : y.state <;> simp [h, TileState.uncaptured] at hcap <;> exact ⟨rfl, fun k => by cases k⟩
  have hnext : s.beginNext = s := by
    unfold State.beginNext
    rw [Prc.firstTile_of_none hj fun y hy => by simpa using (hcycle y hy).2]
  rw [State.kick_next hr hj hst htrs fun y hy => (hcycle y hy).1, hnext]
  unfold State.captureCheck
  rw [hj]
  dsimp only
  rw [if_pos ⟨hst, List.any_eq_false.2 fun y hy => by rw [hno y hy]; nofun, .inl hr⟩,
    State.setJob_eq s j _ _ hjob (Prc.unique_of_tableLaw htab hjob) (by rw [hr]; nofun) (by rw [hst]; rfl)]
  unfold State.askUnload
  rw [show (s.recordJob _).prc.trsReq = none from htrs]

end Kick

/-! ## Faults left -/

theorem State.startReinit_eq (s : State) :
    s.startReinit = { s with sfe := { s.sfe with reinit := s.sfe.reinit || decide (s.sfe.state = .fault) } } := by
  unfold State.startReinit
  by_cases h : s.sfe.state = .fault
  · rw [if_pos h, decide_eq_true h, Bool.or_true]
  · rw [if_neg h, decide_eq_false h, Bool.or_false]

theorem State.leaveFault_other (h : ∀ f, s.blu.state ≠ .fault f) : s.leaveFault = s := by
  unfold State.leaveFault
  split
  · next f hf => exact absurd hf (h f)
  · rfl

theorem State.leaveFault_fault {f : LampFault} (h : s.blu.state = .fault f) : s.leaveFault
    = { s with blu := { s.blu with state := .standby, requested := 0, commanded := 0 } }.notice
        (.lampState .standby s.blu.throttle 0 s.blu.panelTemp) := by
  unfold State.leaveFault
  rw [h]
  rfl

theorem State.noticesOnly.symm (h : s.noticesOnly t) : t.noticesOnly s := by
  obtain ⟨n, o, k, h⟩ := h
  exact ⟨s.liu.notices, s.liu.overflow, s.liu.sticky, by rw [h]⟩

/-- R33: SFE and BLU have been asked to leave FAULT. -/
def State.recovered (s : State) : State := s.startReinit.leaveFault

theorem State.recovered_spec (s : State) : s.recovered.prc = s.prc ∧ s.recovered.inFlight = s.inFlight
    ∧ s.noticesOnly s.recovered
    ∧ s.recovered.sfe = { s.sfe with reinit := s.sfe.reinit || decide (s.sfe.state = .fault) }
    ∧ ((∀ f, s.blu.state ≠ .fault f) → s.recovered.blu = s.blu)
    ∧ (∀ f, s.blu.state = .fault f → s.recovered.blu = { s.blu with state := .standby, requested := 0, commanded := 0 })
    ∧ s.recovered.bpl = s.bpl ∧ s.recovered.fst = s.fst ∧ s.recovered.trs = s.trs ∧ s.recovered.bme = s.bme
    ∧ s.recovered.cru = s.cru ∧ s.recovered.sou = s.sou ∧ s.recovered.freeCount = s.freeCount
    ∧ s.recovered.pending = s.pending := by
  unfold State.recovered
  rw [State.startReinit_eq]
  by_cases h : ∃ f, s.blu.state = .fault f
  · obtain ⟨f, h⟩ := h
    rw [State.leaveFault_fault (f := f) (by exact h)]
    exact ⟨rfl, rfl, .of_raise rfl, rfl, fun hno => absurd h (hno f), fun _ _ => rfl, rfl, rfl, rfl, rfl, rfl, rfl, rfl, rfl⟩
  · have hno : ∀ f, s.blu.state ≠ .fault f := fun f hf => h ⟨f, hf⟩
    rw [State.leaveFault_other (by exact hno)]
    exact ⟨rfl, rfl, .of_liu rfl, rfl, fun _ => rfl, fun f hf => absurd hf (hno f), rfl, rfl, rfl, rfl, rfl, rfl, rfl, rfl⟩

/-- The blocks are the same after the faults are left, whatever PRC and the notices were. -/
theorem State.recovered_prcOnly (h : s.prcOnly t) : s.recovered.prcOnly t.recovered := by
  obtain ⟨h1, h2, h3, h4, h5, h6, h7, h8, h9, h10, hn⟩ := h
  obtain ⟨-, -, sn, ss, sb, sf, s1, s2, s5, s6, s7, s8, s9, s10⟩ := s.recovered_spec
  obtain ⟨-, -, tn, ts, tb, tf, t1, t2, t5, t6, t7, t8, t9, t10⟩ := t.recovered_spec
  refine ⟨by rw [t1, h1, s1], by rw [t2, h2, s2], by rw [ts, h3, ss], ?_, by rw [t5, h5, s5], by rw [t6, h6, s6],
    by rw [t7, h7, s7], by rw [t8, h8, s8], by rw [t9, h9, s9], by rw [t10, h10, s10], sn.symm.trans (hn.trans tn)⟩
  by_cases hf : ∃ f, s.blu.state = .fault f
  · obtain ⟨f, hf⟩ := hf
    rw [sf f hf, tf f (by rw [h4]; exact hf), h4]
  · have hno : ∀ f, s.blu.state ≠ .fault f := fun f k => hf ⟨f, k⟩
    rw [sb hno, tb (by rw [h4]; exact hno), h4]

/-! ## The command -/

/-- R32, R33: the run after an accepted RESUME, before PRC takes up its work. -/
def State.resumed (s : State) (r : RunState) : State :=
  ({ s with prc := { s.prc with holdByLink := false } }.setRun r).recovered

theorem State.resumed_spec {c : HoldCause} (hr : s.prc.run = .held c) {r : RunState} (hne : r ≠ .held c) :
    s.resumed r = ({ s with prc := { s.prc with run := r, holdByLink := false } }.notice
      (.runState r s.prc.active s.prc.queue.head?)).recovered := by
  unfold State.resumed
  rw [State.setRun_of_ne (by rw [show State.prc _ = { s.prc with holdByLink := false } from rfl]; simpa [hr] using hne.symm)]

theorem exec_resume {h : Hdr} (ht : s.takes h) {c : HoldCause} (hr : s.prc.run = .held c)
    (hok : s.resumeRefusal c = none) (r : RunState)
    (hrun : (if s.prc.active.isSome || !s.prc.queue.isEmpty then RunState.running else .idle) = r) :
    exec (.resume h) s = .next (State.replied (s.resumed r).considerStart.kick h .resume .ok .none) := by
  refine (exec_command rfl ht).trans ?_
  have : State.resume s = .okay s.resumeRun := by
    unfold State.resume
    rw [hr]
    dsimp only
    rw [hok]
  rw [this, ← hrun]
  rfl

theorem exec_resume_refused {h : Hdr} (ht : s.takes h) {e : Status} (hr : State.resume s = .refuse s e) :
    exec (.resume h) s = .next (s.replied h .resume e .none) := by
  refine (exec_command rfl ht).trans ?_
  rw [hr]
  rfl

/-- With no active job, what follows the examination of R20 is nothing. -/
theorem State.considerStart_kick {id : Nat} {rest : List Nat} {j : Job} (hr : s.prc.run = .running)
    (ha : s.prc.active = none) (hq : s.prc.queue = id :: rest) (hj : s.prc.job? id = some j) (hst : j.state = .queued)
    (htiles : ∀ x ∈ j.tiles, x.state = .pending ∨ x.state = .masked) :
    s.considerStart.kick = s.considerStart := by
  obtain rfl := Prc.job?_id hj
  obtain ⟨hwait, hhold, hgo⟩ := State.considerStart_of_verdict hr ha hq hj
  cases hv : s.startVerdict j with
  | wait => rw [hwait hv, State.kick_of_inactive ha]
  | hold c => rw [hhold c hv, State.kick_of_inactive (by rw [State.goHeld_prc]; exact ha)]
  | go =>
    rw [hgo hv]
    have ⟨hact, _, _, _, _, _, hjob, _⟩ := State.startJob_spec hr hq hj (by rw [hst]; rfl)
    refine State.kick_eq_self fun k hk => ?_
    rw [Prc.activeJob?_of hact hjob] at hk
    cases hk
    refine ⟨nofun, fun x hx => ?_⟩
    obtain hx | hx := htiles x hx <;> rw [hx] <;> exact ⟨nofun, nofun, nofun⟩

theorem State.stillUncalibrated_eq {id : Nat} {j : Job} (hq : s.prc.queue.head? = some id) (hj : s.prc.job? id = some j) :
    s.stillUncalibrated = !s.referencesValid j := by
  unfold State.stillUncalibrated
  rw [hq, Option.bind_some, hj]

/-- Settles O21. -/
theorem resumeCommand : Obligations.ResumeCommand := by
  intro h s ht
  have hrefusal : ∀ c, (c = .transport → s.trs.state = .empty ∨ s.trs.state = .atRest) →
      (c = .notCalibrated → s.stillUncalibrated = false) → s.resumeRefusal c = none := fun c h1 h2 => by
    cases c with
    | transport => exact if_pos (h1 rfl)
    | notCalibrated => exact if_neg (by rw [h2 rfl]; nofun)
    | sensor | lamp | darkStale | requested | step | link => rfl
  refine ⟨fun hr => exec_resume_refused ht ?_, fun hr h1 h2 => exec_resume_refused ht ?_,
    fun id j hr hq hj hval => exec_resume_refused ht ?_, fun c hr htrs ha hq => ?_, fun c hr htrs => ?_⟩
  · unfold State.resume
    cases hrun : s.prc.run with
    | held c => exact absurd hrun (hr c)
    | idle | running | holding | quiescing => rfl
  · have : s.resumeRefusal .transport = some .wrongState := if_neg fun k => k.elim h1 h2
    unfold State.resume
    rw [hr]
    dsimp only
    rw [this]
  · have : s.resumeRefusal .notCalibrated = some .notCalibrated := by
      refine if_pos ?_
      rw [State.stillUncalibrated_eq hq hj]
      obtain h | h := hval <;> simp [State.referencesValid, h]
    unfold State.resume
    rw [hr]
    dsimp only
    rw [this]
  · have hstill : s.stillUncalibrated = false := by
      unfold State.stillUncalibrated
      rw [hq]
      rfl
    have hexec := exec_resume ht hr (hrefusal c htrs fun _ => hstill) .idle (by rw [ha, hq]; rfl)
    obtain ⟨v, hv⟩ : ∃ v, v = s.resumed .idle := ⟨_, rfl⟩
    have hspec := State.recovered_spec ({ s with prc := { s.prc with run := .idle, holdByLink := false } }.notice
      (.runState .idle s.prc.active s.prc.queue.head?))
    rw [← State.resumed_spec (r := .idle) hr nofun, ← hv] at hspec
    obtain ⟨hprc, hmsg, -, hsfe, hblu, hfault, h1, h2, h3, h4, h5, h6, -⟩ := hspec
    rw [← hv, State.considerStart_eq_self (by rw [hprc]; exact fun k => by cases k.1),
      State.kick_of_inactive (by rw [hprc]; exact ha)] at hexec
    exact ⟨v, hexec, by rw [hprc]; rfl, by rw [hprc]; rfl, by rw [hprc]; exact hq, by rw [hprc]; exact ha, hsfe, hblu,
      hfault, h2, h3, h4, h5, h6, h1, hmsg⟩
  · intro sfe recovered
    have hrecovered : ∀ u : State, u.sfe = s.sfe → u.blu = s.blu → u.recovered = recovered u := fun u h1 h2 => by
      unfold State.recovered
      rw [State.startReinit_eq]
      by_cases hf : ∃ f, s.blu.state = .fault f
      · obtain ⟨f, hf⟩ := hf
        rw [State.leaveFault_fault (f := f) (by rw [h2]; exact hf)]
        simp only [recovered, hf, h1, h2]
        rfl
      · have hno : ∀ f, s.blu.state ≠ .fault f := fun f k => hf ⟨f, k⟩
        rw [State.leaveFault_other (by rw [h2]; exact hno)]
        cases hb : s.blu.state with
        | fault f => exact absurd hb (hno f)
        | standby | warming | settling | settled | dark =>
          simp only [recovered, hb, h1]
          rfl
    obtain ⟨v, hv⟩ : ∃ v, v = s.resumed .running := ⟨_, rfl⟩
    have hbase := State.resumed_spec hr (r := .running) nofun
    rw [← hv] at hbase
    have hprc : v.prc = { s.prc with run := .running, holdByLink := false } := by
      rw [hbase, (State.recovered_spec _).1]
      rfl
    have hrun : v.prc.run = .running := by rw [hprc]
    refine ⟨fun id rest j ha hq hj hst htiles hval hno => ?_, fun j hnc htab hj hcount hst hcru htreq hplan hexp hback => ?_⟩
    · have hstill : c = .notCalibrated → s.stillUncalibrated = false := fun hc => by
        rw [State.stillUncalibrated_eq (by rw [hq]; rfl) hj]
        simp [State.referencesValid, hval hc]
      have hexec := exec_resume ht hr (hrefusal c htrs hstill) .running (by rw [hq]; simp)
      rw [← hv, State.considerStart_kick (j := j) hrun (by rw [hprc]; exact ha) (by rw [hprc]; exact hq)
        (by rw [hprc]; exact hj) hst htiles] at hexec
      refine ⟨_, ?_, hexec⟩
      have hbase' : recovered ({ s with prc := { s.prc with run := .running, holdByLink := false } }.notice
          (.runState .running none (some id))) = v := by
        refine (hrecovered ({ s with prc := { s.prc with run := .running, holdByLink := false } }.notice
          (.runState .running none (some id))) rfl rfl).symm.trans ?_
        rw [hbase, ha, hq]
        rfl
      rw [hbase']
      refine congrArg (fun u : State => Host.Outcome.next u.considerStart) (State.deliver_eq_self (s := v) fun hm => hno ?_)
      rw [hbase, (State.recovered_spec _).2.1] at hm
      exact hm
    · obtain ⟨hact, hjob⟩ := Prc.activeJob?_eq_some hj
      have hexec := exec_resume ht hr (hrefusal c htrs fun hc => absurd hc hnc) .running (by rw [hact]; rfl)
      rw [← hv, State.considerStart_eq_self (by rw [hprc]; exact fun k => by rw [hact] at k; cases k.2)] at hexec
      have hmsg : v.inFlight = s.inFlight := by
        rw [hbase, (State.recovered_spec _).2.1]
        rfl
      have honly : (recovered s).prcOnly v := by
        rw [← hrecovered s rfl rfl, hbase]
        exact State.recovered_prcOnly ⟨rfl, rfl, rfl, rfl, rfl, rfl, rfl, rfl, rfl, rfl, .of_raise rfl⟩
      have hspec := State.recovered_spec ({ s with prc := { s.prc with run := .running, holdByLink := false } }.notice
        (.runState .running s.prc.active s.prc.queue.head?))
      rw [← hbase] at hspec
      obtain ⟨-, -, -, -, hblu, hfault, -, hvfst, -, -, hvcru, -⟩ := hspec
      have hthrottle : v.blu.throttle = s.blu.throttle := by
        by_cases hf : ∃ f, s.blu.state = .fault f
        · obtain ⟨f, hf⟩ := hf
          rw [hfault f hf]
          rfl
        · rw [hblu fun f k => hf ⟨f, k⟩]
          rfl
      have hvidle : v.cru.state = .idle := by rw [hvcru]; exact hcru
      have hvtile : ∀ x ∈ j.tiles, v.prc.tile? ⟨j.id, x.seq⟩ = some x := fun x hx => by
        rw [hprc]
        exact Prc.tile?_of_mem hjob hcount hx
      obtain ⟨hk, hkrun, hkact, hkq⟩ := State.workedOn.kick v
      have hvj : v.prc.activeJob? = some j := by rw [hprc]; exact hj
      have hothers : ∀ r, v.prc.otherRecords s.prc r := fun r => .of_jobs (by rw [hprc])
      refine ⟨_, hexec, honly.trans hk, hkrun.trans hrun, hkact.trans (by rw [hprc]), hkq.trans (by rw [hprc]),
        fun x plan e n hx hp he hn hlow => ?_, fun x hno hx hadm => ?_, fun x hx hxs hadm hno => ?_, fun x hno hx => ?_,
        fun hno => ?_⟩
      · rw [State.kick_exposes (.inl hrun) hvj hcount hx hp he (by rw [hvfst]; exact hn) hvidle (by rw [hprc]; exact hexp)
          (by rw [hprc]; exact hback) (by rw [hthrottle]; exact hlow)]
        exact ⟨by rw [hprc], rfl, by rw [hmsg]⟩
      · have hxm := List.mem_of_find?_eq_some hx
        rw [State.kick_plans hrun hvj hno hx (by rw [hprc]; exact hadm) hvidle (by rw [hprc]; exact hplan)]
        refine ⟨.trans (.of_mapTile (f := Tile.unplan) (fun _ => rfl) rfl) (hothers _), ?_, rfl, by rw [hmsg]⟩
        refine (Prc.tile?_congr (p := v.prc.mapTile ⟨j.id, x.seq⟩ Tile.unplan) rfl _).trans ?_
        rw [Prc.tile?_mapTile_of (f := Tile.unplan) (hvtile x hxm) fun _ => rfl]
        rfl
      · rw [State.kick_waits hvj hx hxs fun y hy => ?_]
        · exact ⟨hprc, hmsg⟩
        · by_cases hseq : y.seq = x.seq
          · obtain rfl := List.inj_on_of_nodup_map hcount.nodup_seq hy hx hseq
            rw [hxs, hprc]
            exact ⟨nofun, nofun, fun _ => hadm⟩
          · obtain ⟨h1, h2, h3⟩ := hno y hy hseq
            exact ⟨h3, h1, fun h => absurd h h2⟩
      · have hxm := List.mem_of_find?_eq_some hx
        have hxs : x.state = .pending := by simpa using List.find?_some hx
        have hcycle : ∀ y ∈ j.tiles, y.state.inCycle = false := fun y hy => by
          obtain ⟨h1, h2, h3, h4⟩ := hno y hy
          cases h : y.state <;> simp_all [TileState.inCycle]
        rw [State.kick_begins hrun hvj hcount hst (by rw [hprc]; exact htreq) hcycle hx]
        exact ⟨.trans (.of_mapTile (Tile.moved_seq _) rfl) (hothers _), Prc.tile?_moved (hvtile x hxm) (by rw [hxs]; rfl) rfl,
          rfl, by rw [hmsg]⟩
      · have hvtab : v.prc.tableLaw := by rw [hprc]; exact htab
        have hvjob : v.prc.job? j.id = some j := by rw [hprc]; exact hjob
        rw [State.kick_unloads hrun hvtab hvj hst (by rw [hprc]; exact htreq) hno]
        refine ⟨State.recordJob_job?_self (k := { j with state := .unloading, outcome := none }) hvjob, fun k hk => ?_, rfl, ?_⟩
        · refine (State.recordJob_job?_ne (k := { j with state := .unloading, outcome := none }) hk).trans ?_
          rw [hprc]
          rfl
        · exact congrArg (· ++ [.unloadRequest .prc true]) hmsg

end Sys2Proof.Machine
end

section
/-! PROOFS. BPL: plan requests and the metering attempts (R45 to R50, R54, R57). -/

namespace Sys2Proof.Machine

variable {s : State}

/-! ## An attempt -/

theorem realise_eq (throttle : Bool) (e : PlanEntry) : realise throttle e
    = if throttle = true ∧ 1024 < e.drive then { time := min 80000 ((e.time * e.drive + 512) / 1024), drive := 1024 } else e := by
  unfold realise
  simp only [Bool.and_eq_true, decide_eq_true_eq]
  rfl

/-- The record of a tile with the number of its attempts (R9). -/
def Tile.attempted (k : Nat) (x : Tile) : Tile := if x.state.ended then x else { x with attempts := k }

theorem Tile.attempted_seq (k : Nat) (x : Tile) : (x.attempted k).seq = x.seq := by
  unfold Tile.attempted
  split <;> rfl

/-- R46, R49: the request of an attempt, for a tile and for CRU. -/
theorem State.requestAttempt_prc (t : TileRef) (c : PlanCopies) (k : Nat) (e : PlanEntry)
    (last : Option AttemptResult) : s.requestAttempt (.prc t) c k e last = { s with
      bpl := { work := some { planner := .prc t, attempt := k, time := e.time, drive := e.drive, copies := c, last := last } }
      prc := (s.mapTile t (Tile.attempted k)).prc
      inFlight := s.inFlight ++ [.lightRequest e.drive, attemptRequest (.prc t) e.time e.drive] } := by
  unfold State.requestAttempt State.reportAttempt State.mapTile
  dsimp only
  split
  · simp only [State.emit, List.append_assoc]
    rfl
  · simp only [State.emit, List.append_assoc]
    rfl

theorem State.requestAttempt_cru (p f : Nat) (c : PlanCopies) (k : Nat) (e : PlanEntry) (last : Option AttemptResult) :
    s.requestAttempt (.cru p f) c k e last = { s with
      bpl := { work := some { planner := .cru p f, attempt := k, time := e.time, drive := e.drive, copies := c, last := last } }
      inFlight := s.inFlight ++ [.lightRequest e.drive, attemptRequest (.cru p f) e.time e.drive] } := by
  unfold State.requestAttempt State.reportAttempt
  simp only [State.emit, List.append_assoc]
  rfl

/-- An attempt counted in the record of its tile changes no other. -/
theorem Prc.attempted_spec {p : Prc} {t : TileRef} {x : Tile} (hx : p.tile? t = some x) (k : Nat) :
    (p.mapTile t (Tile.attempted k)).otherRecords p t
    ∧ (p.mapTile t (Tile.attempted k)).tile? t = some (if x.state.ended then x else { x with attempts := k }) :=
  ⟨.of_mapTile (Tile.attempted_seq k) rfl, Prc.tile?_mapTile_of hx (Tile.attempted_seq k)⟩

theorem State.ack_eq (s : State) (b : Block) :
    s.ack b = { s with inFlight := s.inFlight ++ if s.liu.resetWork = none then [] else [.quiesceAck b true] } := by
  unfold State.ack
  cases h : s.liu.resetWork with
  | none => rw [if_pos rfl, List.append_nil]
  | some w => rw [if_neg nofun]; rfl

/-! ## The requests -/

/-- Settles O35. -/
theorem planRequests : Obligations.PlanRequests := by
  intro s copies d hcopies
  have hplan : (s.planCopies d) = copies := hcopies.symm
  refine ⟨fun t j plan hw hj hp => ?_, fun t j x hw hj hp hr hx => ?_, fun p f hw hd => ?_, fun t w hw hne hreq => ?_,
    fun r w hw hr hres => ?_, fun r hno => ?_⟩
  · refine congrArg Host.Outcome.next ?_
    show (s.deliver (.planRequest (.prc t))).planRequested (.prc t) = _
    unfold State.planRequested
    rw [show (s.deliver (.planRequest (.prc t))).bpl.work = none from hw]
    dsimp only
    rw [show (s.deliver (.planRequest (.prc t))).prc.job? t.job = some j from hj]
    dsimp only
    rw [hp]
    rfl
  · intro e
    obtain ⟨hother, htile⟩ := Prc.attempted_spec hx 1
    have he : firstAttempt (.prc t) s.blu.throttle copies.meterTime = e := by
      simp only [e]
      cases s.blu.throttle <;> rfl
    refine ⟨{ s with
        bpl := { work := some { planner := .prc t, attempt := 1, time := e.time, drive := e.drive, copies := copies } }
        prc := s.prc.mapTile t (Tile.attempted 1)
        inFlight := s.inFlight.erase (.planRequest (.prc t)) ++ [.lightRequest e.drive, attemptRequest (.prc t) e.time e.drive] },
      congrArg Host.Outcome.next ?_, rfl, rfl, hother, htile⟩
    show (s.deliver (.planRequest (.prc t))).planRequested (.prc t) = _
    unfold State.planRequested
    rw [show (s.deliver (.planRequest (.prc t))).bpl.work = none from hw]
    dsimp only
    rw [show (s.deliver (.planRequest (.prc t))).prc.job? t.job = some j from hj]
    dsimp only
    rw [hp]
    show (s.deliver (.planRequest (.prc t))).requestAttempt (.prc t) (s.planCopies d) 1
      (firstAttempt (.prc t) s.blu.throttle (s.planCopies d).meterTime) none = _
    rw [hplan, he, State.requestAttempt_prc, State.mapTile_eq (by exact hr)]
    rfl
  · intro e
    subst hd
    have he : firstAttempt (.cru p f) s.blu.throttle copies.meterTime = e := by
      simp only [e]
      cases s.blu.throttle with
      | false => rfl
      | true =>
        show (if f ≤ throttleDrive then _ else _) = _
        by_cases hf : f ≤ 1024
        · rw [if_pos (show f ≤ throttleDrive from hf), if_neg fun k => absurd k.2 (Nat.not_lt.2 hf)]
        · rw [if_neg (show ¬ f ≤ throttleDrive from hf), if_pos ⟨rfl, Nat.not_le.1 hf⟩]
    refine congrArg Host.Outcome.next ?_
    show (s.deliver (.planRequest (.cru p f))).planRequested (.cru p f) = _
    unfold State.planRequested
    rw [show (s.deliver (.planRequest (.cru p f))).bpl.work = none from hw]
    show (s.deliver (.planRequest (.cru p f))).requestAttempt (.cru p f) (s.planCopies 0) 1
      (firstAttempt (.cru p f) s.blu.throttle (s.planCopies 0).meterTime) none = _
    rw [hplan, he, State.requestAttempt_cru]
    rfl
  · refine congrArg Host.Outcome.next ?_
    show (s.deliver (.planRequest (.prc t))).planRequested (.prc t) = _
    unfold State.planRequested
    rw [show (s.deliver (.planRequest (.prc t))).bpl.work = some w from hw]
    refine if_pos ⟨hreq, ?_⟩
    rw [show (s.deliver (.planRequest (.prc t))).bpl.work = some w from hw]
    exact fun h => hne (Option.some.inj h)
  · refine congrArg Host.Outcome.next ?_
    show (s.deliver (.planWithdraw r)).planWithdrawn r = _
    unfold State.planWithdrawn
    rw [show (s.deliver (.planWithdraw r)).bpl.work = some w from hw]
    dsimp only
    rw [if_pos hr]
    unfold State.bplIdle
    rw [State.ack_eq, if_pos (by exact hres), List.append_nil]
    rfl
  · refine congrArg Host.Outcome.next ?_
    show (s.deliver (.planWithdraw r)).planWithdrawn r = _
    unfold State.planWithdrawn
    cases hw : s.bpl.work with
    | none => rw [show (s.deliver (.planWithdraw r)).bpl.work = none from hw]; rfl
    | some w =>
      rw [show (s.deliver (.planWithdraw r)).bpl.work = some w from hw]
      exact if_neg (hno w hw)

/-- R47: an attempt that leads to a plan. -/
theorem State.attemptDone_plans {w : Metering} {a : AttemptResult} (m : Nat) (ha : evaluate w.copies s.sfe.hist = a)
    (h : (∃ c, a = .metered c) ∨ w.attempt = 4 ∨ w.next s.blu.throttle a = { time := w.time, drive := w.drive }) :
    s.attemptDone w m = s.planFrom w a m := by
  unfold State.attemptDone
  rw [ha]
  cases a with
  | metered c => rfl
  | overexposed => exact if_pos (h.resolve_left fun ⟨c, hc⟩ => by cases hc)
  | underexposed => exact if_pos (h.resolve_left fun ⟨c, hc⟩ => by cases hc)

/-- R49: an attempt that leads to the next. -/
theorem State.attemptDone_goes {w : Metering} {a : AttemptResult} (m : Nat) (ha : evaluate w.copies s.sfe.hist = a)
    (hno : ∀ c, a ≠ .metered c) (h4 : w.attempt ≠ 4)
    (hne : w.next s.blu.throttle a ≠ { time := w.time, drive := w.drive }) :
    s.attemptDone w m = s.requestAttempt w.planner w.copies (w.attempt + 1) (w.next s.blu.throttle a) (some a) := by
  unfold State.attemptDone
  rw [ha]
  cases a with
  | metered c => exact absurd rfl (hno c)
  | overexposed => exact if_neg fun h => h.elim h4 hne
  | underexposed => exact if_neg fun h => h.elim h4 hne

/-- Settles O36. -/
theorem attemptCompletion : Obligations.AttemptCompletion := by
  intro s r w m hw hr a eM e1 step next plan flags msgs acks
  have hexec : exec (.attemptCompletion r w.attempt m) s
      = .next ((s.deliver (.attemptCompletion r w.attempt m)).attemptDone w m) := by
    refine congrArg Host.Outcome.next ?_
    show (s.deliver (.attemptCompletion r w.attempt m)).attemptCompleted r w.attempt m = _
    unfold State.attemptCompleted
    rw [show (s.deliver (.attemptCompletion r w.attempt m)).bpl.work = some w from hw]
    exact if_pos ⟨hr, rfl⟩
  have ha : evaluate w.copies s.sfe.hist = a := rfl
  clear_value a
  have hnext : w.next s.blu.throttle a = next := by
    have hstep : nextAttempt a { time := w.time, drive := w.drive } = step := rfl
    unfold Metering.next
    rw [realise_eq, hstep]
  have he1 : planValue w.copies a (w.time * m) = e1 := by
    simp only [e1]
    cases a with
    | underexposed => simp [planValue, firstValue, eM]
    | overexposed => rfl
    | metered c => rfl
  obtain ⟨d, hd⟩ : ∃ d, d = s.deliver (.attemptCompletion r w.attempt m) := ⟨_, rfl⟩
  have hthrottle : d.blu.throttle = s.blu.throttle := by rw [hd]; rfl
  have hhist : evaluate w.copies d.sfe.hist = a := by rw [hd]; exact ha
  rw [← hd] at hexec
  refine ⟨fun h => ?_, fun hno h4 hne => ?_, fun k hk => ?_⟩
  · have hplans : exec (.attemptCompletion r w.attempt m) s = .next (d.sendPlan w plan flags) := by
      rw [hexec, State.attemptDone_plans m hhist (by rw [hthrottle, hnext]; exact h)]
      unfold State.planFrom
      dsimp only
      rw [he1, hr, hthrottle]
    refine ⟨fun t ht => hplans.trans (congrArg Host.Outcome.next ?_), fun p f e hp hplan =>
      hplans.trans (congrArg Host.Outcome.next ?_)⟩
    · unfold State.sendPlan
      rw [hr, ht]
      dsimp only
      unfold State.bplIdle
      rw [State.ack_eq, hd, ht]
      simp only [msgs, ht]
      rfl
    · unfold State.sendPlan
      rw [hr, hp, hplan]
      dsimp only
      unfold State.bplIdle
      rw [State.ack_eq, hd]
      simp only [msgs, hp]
      rfl
  · have hgoes : exec (.attemptCompletion r w.attempt m) s
        = .next (d.requestAttempt r w.copies (w.attempt + 1) next (some a)) := by
      rw [hexec, State.attemptDone_goes m hhist hno h4 (by rw [hthrottle, hnext]; exact hne), hthrottle, hnext, hr]
    clear_value next
    have hmsg : d.inFlight = msgs := by rw [hd]; rfl
    cases r with
    | prc t =>
      rw [State.requestAttempt_prc] at hgoes
      refine ⟨_, hgoes, ?_, ?_, (fun p f h => by cases h), fun u x hu hr hx => ?_⟩
      · rw [hmsg, hd]
        rfl
      · rw [hd]
        unfold State.mapTile
        split <;> rfl
      · cases hu
        obtain ⟨hother, htile⟩ := Prc.attempted_spec hx (w.attempt + 1)
        rw [hd, State.mapTile_eq (by exact hr)]
        exact ⟨hother, htile⟩
    | cru p f =>
      rw [State.requestAttempt_cru] at hgoes
      refine ⟨_, hgoes, ?_, by rw [hd]; rfl, fun _ _ _ => by rw [hd]; rfl, fun t x h => by cases h⟩
      rw [hmsg, hd]
      rfl
  · refine congrArg Host.Outcome.next ?_
    show (s.deliver (.attemptCompletion r k m)).attemptCompleted r k m = _
    unfold State.attemptCompleted
    rw [show (s.deliver (.attemptCompletion r k m)).bpl.work = some w from hw]
    exact if_neg fun h => hk h.2.symm

end Sys2Proof.Machine
end

section
/-! PROOFS. SFE: what ends the start of an exposure (R115, R121, log entry 28); the temperature mark and the
re-initialisation (R123, R124). -/

namespace Sys2Proof.Machine

variable {s : State}

/-! ## The asks withdrawn -/

theorem requestEnded_eq (l : List Instr) : requestEnded l = l.filter fun c => !ofRequest c := by
  unfold requestEnded
  rw [startEnded_eq, List.filter_filter]
  refine List.filter_congr fun c _ => ?_
  unfold ofRequest
  rw [Bool.not_or, Bool.and_comm, decide_not]

theorem startEnded_startEnded (l : List Instr) : startEnded (startEnded l) = startEnded l := by
  unfold startEnded
  rw [List.filter_filter]
  simp only [Bool.and_self]

theorem requestEnded_startEnded (l : List Instr) : requestEnded (startEnded l) = requestEnded l := by
  unfold requestEnded
  rw [startEnded_startEnded]

/-- R115: the interlock ask withdrawn and the grant given back. -/
theorem State.dropStage_given (s : State) :
    s.dropStage = { s with trs := s.stageGivenUp, inFlight := startEnded s.inFlight } := by
  rw [State.dropStage_eq, startEnded_eq]
  unfold State.stageGivenUp Trs.begin
  rcases s.trs.pendingMotion with _ | ⟨w⟩
  · cases s.trs.interlock <;> rfl
  · cases w <;> cases s.trs.interlock <;> rfl

theorem State.interlockRelease_given (hi : s.trs.interlock = .granted) :
    s.interlockRelease = { s with trs := s.stageGivenUp } := by
  unfold State.interlockRelease State.stageGivenUp State.tryInterlock State.beginMotion Trs.begin
  rw [hi]
  rcases hp : s.trs.pendingMotion with _ | ⟨w⟩
  · simp [hp, Interlock.held, Interlock.released, Interlock.waits]
  · cases w <;> simp [hp, Interlock.held, Interlock.released]

theorem State.stageGivenUp_congr {t : State} (ht : t.trs = s.trs) (hp : t.liu.params = s.liu.params) :
    t.stageGivenUp = s.stageGivenUp := by
  unfold State.stageGivenUp
  rw [ht, hp]

/-- The grant of lamp ready can be given back without a message: there is none, or BLU is not in FAULT. -/
def Blu.quietly (b : Blu) : Prop := b.grant = none ∨ ∀ f, b.state ≠ .fault f

theorem State.lampRelease_inFlight (h : s.blu.quietly) (n : Nat) : (s.lampRelease n).1.inFlight = s.inFlight := by
  have hsame := congrArg State.inFlight (State.lampRelease_congr s h n s.inFlight s.trs s.sfe)
  exact hsame

theorem State.lampRelease_ungranted (hg : s.blu.grant = none) (n : Nat) :
    (s.lampRelease n).1 = { s with blu := { s.blu with ask := none } } := by
  simp [State.lampRelease, hg]

theorem State.notice_params (s : State) (n : Notice) : (s.notice n).liu.params = s.liu.params :=
  ((State.noticesOnly.of_liu (s := s) rfl).notice n).params

theorem State.applyLight_params (s : State) (d : Nat) : (s.applyLight d).liu.params = s.liu.params := by
  unfold State.applyLight
  cases s.blu.state <;> dsimp only
  case standby => exact State.notice_params _ _
  case fault => rfl
  all_goals (repeat' split) <;> rfl

theorem State.tryStandby_params (s : State) : s.tryStandby.liu.params = s.liu.params := by
  unfold State.tryStandby
  split
  · exact State.notice_params _ _
  · rfl

theorem State.endGrant_params (s : State) (a : LampAsk) : (s.endGrant a).liu.params = s.liu.params := by
  unfold State.endGrant
  cases a.cond with
  | dark => exact State.tryStandby_params _
  | settled d =>
    dsimp only
    unfold State.afterGrant
    refine (State.tryStandby_params _).trans ?_
    dsimp only
    cases s.blu.pendingDrive with
    | none =>
      dsimp only
      split <;> rfl
    | some d =>
      dsimp only
      split
      · rfl
      · exact State.applyLight_params _ d

theorem State.lampRelease_params (s : State) (n : Nat) : (s.lampRelease n).1.liu.params = s.liu.params := by
  unfold State.lampRelease
  cases s.blu.grant with
  | none => rfl
  | some a =>
    dsimp only
    cases a.cond <;> exact State.endGrant_params _ a

theorem State.releaseLamp_eq (h : s.blu.quietly) (n : Nat) :
    s.releaseLamp n = { (s.lampRelease n).1 with inFlight := startEnded s.inFlight } := by
  unfold State.releaseLamp State.recall
  rw [State.lampRelease_inFlight h, startEnded_eq]

/-- R115: the asks of a start withdrawn, the grant of lamp ready given back. -/
theorem State.withdrawAsks_eq (h : s.blu.quietly) (hp : s.sfe.phase ≠ .goAhead) :
    s.withdrawAsks = { (s.lampRelease 0).1 with
      trs := if s.sfe.phase = .stage then s.stageGivenUp else s.trs
      inFlight := startEnded s.inFlight } := by
  unfold State.withdrawAsks
  cases hph : s.sfe.phase with
  | goAhead => exact absurd hph hp
  | lamp =>
    dsimp only
    rw [State.releaseLamp_eq h, if_neg nofun]
    exact congrArg (fun k => { (s.lampRelease 0).1 with trs := k, inFlight := startEnded s.inFlight })
      (State.lampRelease_frame s 0).2.2.2.2.1
  | stage =>
    dsimp only
    rw [State.dropStage_given, State.releaseLamp_eq h, if_pos rfl]
    dsimp only
    rw [startEnded_startEnded]
    exact congrArg (fun k => { (s.lampRelease 0).1 with trs := k, inFlight := startEnded s.inFlight })
      (State.stageGivenUp_congr (State.lampRelease_frame s 0).2.2.2.2.1 (State.lampRelease_params s 0))

theorem State.withdrawAsks_ungranted (hg : s.blu.grant = none) (hp : s.sfe.phase ≠ .goAhead) :
    s.withdrawAsks = { s with
      blu := { s.blu with ask := none }
      trs := if s.sfe.phase = .stage then s.stageGivenUp else s.trs
      inFlight := startEnded s.inFlight } := by
  rw [State.withdrawAsks_eq (.inl hg) hp, State.lampRelease_ungranted hg]

theorem State.withdrawAsks_goAhead (hp : s.sfe.phase = .goAhead) : s.withdrawAsks = s := by
  simp [State.withdrawAsks, hp]

/-- BLU, LIU and the counter of the values left free as LAMP_READY_RELEASE leaves them. -/
theorem exec_lampReadyRelease (h : s.blu.quietly) : ∃ released, exec (.lampReadyRelease 0) s = .next released ∧
    released.fst = s.fst ∧
    ∀ (q : Sfe) (k : Trs) (p : Prc) (c : Cru) (l : List Instr),
      { released with sfe := q, trs := k, prc := p, cru := c, inFlight := l }
        = { (s.lampRelease 0).1 with sfe := q, trs := k, prc := p, cru := c, inFlight := l } := by
  refine ⟨_, rfl, ?_, fun q k p c l => ?_⟩
  · exact (State.lampRelease_frame _ 0).2.2.1
  · exact congrArg (fun t : State => { t with sfe := q, trs := k, prc := p, cru := c, inFlight := l })
      (State.lampRelease_congr s h 0 (s.deliver (.lampReadyRelease 0)).inFlight s.trs s.sfe)

/-! ## The temperature mark -/

theorem State.sensorSample_eq (s : State) (t : Int) {mark : Bool}
    (hm : mark = hysteresis s.sfe.mark t s.liu.params.sensorLimit s.liu.params.sensorHyst) :
    s.sensorSample t = if mark = s.sfe.mark then { s with sfe := { s.sfe with temp := t } }
      else if mark then (State.holdHot { s with
        sfe := { s.sfe with temp := t, mark := true }
        liu := { s.liu with sticky := { s.liu.sticky with sensorHeldSeen := true } } }).sensorNotice
      else (State.releaseHot { s with sfe := { s.sfe with temp := t, mark := false } }).sensorNotice := by
  unfold State.sensorSample
  dsimp only
  rw [← hm]
  by_cases he : mark = s.sfe.mark
  · rw [if_pos he, if_pos he, he]
  · rw [if_neg he, if_neg he]
    cases mark <;> rfl

theorem State.holdHot_unarmed (h : s.sfe.state ≠ .armed) :
    s.holdHot = { s with sfe := { s.sfe with state := if s.sfe.state = .idle then .held else s.sfe.state } } := by
  by_cases hi : s.sfe.state = .idle
  · unfold State.holdHot
    rw [if_pos hi, hi]
  · rw [if_neg hi]
    unfold State.holdHot
    split
    · contradiction
    · contradiction
    all_goals rfl

theorem State.holdHot_armed (h : s.sfe.state = .armed) (hg : s.blu.grant = none) : s.holdHot = { s with
    sfe := { s.sfe with state := .held }
    blu := if s.sfe.phase = .goAhead then s.blu else { s.blu with ask := none }
    trs := if s.sfe.phase = .stage then s.stageGivenUp else s.trs
    inFlight := if s.sfe.phase = .goAhead then s.inFlight else startEnded s.inFlight } := by
  unfold State.holdHot
  rw [h]
  dsimp only
  by_cases hp : s.sfe.phase = .goAhead
  · rw [State.withdrawAsks_goAhead hp, if_pos hp, if_pos hp, if_neg (by rw [hp]; nofun)]
  · rw [State.withdrawAsks_ungranted hg hp, if_neg hp, if_neg hp]

theorem State.chooseNext_unheld (hh : s.sfe.held = none) :
    s.chooseNext = { s with sfe := { s.sfe with state := if s.sfe.mark then .held else .idle } } := by
  unfold State.chooseNext
  cases s.sfe.mark with
  | true => rfl
  | false => rw [if_neg nofun, hh]; rfl

theorem State.releaseHot_unheld (h : s.sfe.state ≠ .held) : s.releaseHot = s := by
  unfold State.releaseHot
  cases hs : s.sfe.state <;> dsimp only
  exact absurd hs h

theorem State.releaseHot_held (h : s.sfe.state = .held) : s.releaseHot = s.chooseNext := by
  unfold State.releaseHot
  rw [h]

theorem State.refuseHeld_unheld (hh : s.sfe.held = none) : s.refuseHeld = s := by
  unfold State.refuseHeld
  rw [hh]

/-- Settles O45. -/
theorem sensorConditions : Obligations.SensorConditions := by
  intro s t mark
  have hmark : mark = hysteresis s.sfe.mark t s.liu.params.sensorLimit s.liu.params.sensorHyst := by
    unfold hysteresis
    rw [← decide_not]
    simp only [Int.not_lt]
    rfl
  have hsample := State.sensorSample_eq s t hmark
  clear_value mark
  refine ⟨fun hm => ?_, fun hm hold hna => ?_, fun hm hold ha hg => ?_, fun hm hold => ⟨fun hnh => ?_,
    fun hst hh => ?_, fun h hst hh hre => ?_⟩, ?_, fun hr => ⟨?_, ?_⟩, fun hr hq hh => ?_⟩
  · exact congrArg Host.Outcome.next (hsample.trans (if_pos hm))
  · intro st
    refine congrArg Host.Outcome.next (hsample.trans ?_)
    rw [hm, hold, if_neg nofun, if_pos rfl, State.holdHot_unarmed (by exact hna)]
    rfl
  · refine congrArg Host.Outcome.next (hsample.trans ?_)
    rw [hm, hold, if_neg nofun, if_pos rfl]
    rw [State.holdHot_armed (by exact ha) (by exact hg)]
    cases hp : s.sfe.phase <;> rfl
  · refine congrArg Host.Outcome.next (hsample.trans ?_)
    rw [hm, hold, if_neg nofun, if_neg nofun, State.releaseHot_unheld (by exact hnh)]
    rfl
  · refine congrArg Host.Outcome.next (hsample.trans ?_)
    rw [hm, hold, if_neg nofun, if_neg nofun, State.releaseHot_held (by exact hst), State.chooseNext_unheld (by exact hh)]
    rfl
  · refine congrArg Host.Outcome.next (hsample.trans ?_)
    rw [hm, hold, if_neg nofun, if_neg nofun, State.releaseHot_held (by exact hst)]
    have hnext : State.chooseNext { s with sfe := { s.sfe with temp := t, mark := false } } = State.emit { s with
        sfe := { s.sfe with temp := t, mark := false, state := .armed, phase := .lamp } }
        (.lampReadyAsk h.req.lamp h.req.time) := by
      simp [State.chooseNext, hh, State.pursue, hre]
    rw [hnext]
    rfl
  · refine congrArg Host.Outcome.next ?_
    unfold State.startReinit
    by_cases hf : s.sfe.state = .fault
    · rw [if_pos (by exact hf), decide_eq_true hf, Bool.or_true]
      rfl
    · rw [if_neg (by exact hf), decide_eq_false hf, Bool.or_false]
      rfl
  · simp [exec, execReinitComplete, State.reinitDone, hr]
  · simp [exec, execReinitTimeout, State.reinitFailed, hr]
  · refine ⟨congrArg Host.Outcome.next ?_, congrArg Host.Outcome.next ?_⟩
    · unfold State.reinitDone
      rw [if_pos hr]
      dsimp only
      rw [State.chooseNext_unheld (by exact hh)]
      exact State.sfeSettled_eq_self (by exact hq)
    · unfold State.reinitFailed
      rw [if_pos hr]
      dsimp only
      unfold State.sensorFault
      rw [State.refuseHeld_unheld (by exact hh)]
      exact State.sfeSettled_eq_self (by exact hq)

end Sys2Proof.Machine
end

section
/-! PROOFS. SFE: a fault or the dark hold cuts an exposure short, or ends a request held (R40, R114 to R116, R133, R134,
R139). -/

namespace Sys2Proof.Machine

variable {s t : State}

/-! ## The end of a request held -/

theorem State.forgetHeld_eq (s : State) : s.forgetHeld = { s with
    sfe := { s.sfe with held := none }, inFlight := requestEnded s.inFlight } := by
  rw [requestEnded_eq]
  rfl

/-- SFE with the request in ARMED gone. -/
def Sfe.left (f : Sfe) : Sfe := { f with held := none, state := if f.mark then .held else .idle }

theorem State.endHeld_unarmed (h : s.sfe.state ≠ .armed) : s.endHeld = { s with
    sfe := { s.sfe with held := none }, inFlight := requestEnded s.inFlight } := by
  unfold State.endHeld
  rw [if_neg h, State.forgetHeld_eq]

theorem State.endHeld_goAhead (h : s.sfe.state = .armed) (hp : s.sfe.phase = .goAhead) :
    s.endHeld = { s with sfe := s.sfe.left, inFlight := requestEnded s.inFlight } := by
  unfold State.endHeld
  rw [if_pos h, State.withdrawAsks_goAhead hp, State.forgetHeld_eq, State.chooseNext_unheld rfl]
  rfl

theorem State.endHeld_asks (h : s.sfe.state = .armed) (hp : s.sfe.phase ≠ .goAhead) (hq : s.blu.quietly) :
    s.endHeld = { (s.lampRelease 0).1 with
      sfe := s.sfe.left
      trs := if s.sfe.phase = .stage then s.stageGivenUp else s.trs
      inFlight := requestEnded s.inFlight } := by
  unfold State.endHeld
  rw [if_pos h, State.withdrawAsks_eq hq hp, State.forgetHeld_eq, State.chooseNext_unheld rfl]
  dsimp only
  rw [requestEnded_startEnded, (State.lampRelease_frame s 0).2.2.2.1]
  rfl

/-! ## What PRC and CRU are told -/

/-- PRC has the request of `c` outstanding no more. -/
def Prc.requestGone (p : Prc) (c : ExposureClient) : Prc :=
  { p with expReq := if p.expReq.map ExposureClient.prc = some c then none else p.expReq }

/-- CRU has the frame of `c` outstanding no more. -/
def Cru.requestGone (r : Cru) (c : ExposureClient) : Cru := { r with frameReq := r.frameReq && decide (c ≠ .cru) }

theorem Prc.requestGone_own {p : Prc} {t : TileRef} (h : p.expReq = some t) :
    p.requestGone (.prc t) = { p with expReq := none } := by
  unfold Prc.requestGone
  rw [h]
  simp

theorem State.reportCut_eq (c : ExposureClient) (h : c = .cru → s.cru.state ≠ .cancelling) :
    s.reportCut c = { s with prc := s.prc.requestGone c, cru := s.cru.requestGone c } := by
  unfold State.reportCut Prc.requestGone Cru.requestGone
  cases c with
  | prc t =>
    have hmap : s.prc.expReq.map ExposureClient.prc = some (.prc t) ↔ s.prc.expReq = some t := by
      cases s.prc.expReq <;> simp
    dsimp only
    by_cases he : s.prc.expReq = some t
    · rw [if_pos he, if_pos (hmap.2 he)]
      simp
    · rw [if_neg he, if_neg (hmap.not.2 he)]
      simp
  | cru =>
    have hne := h rfl
    cases he : s.prc.expReq <;> simp [State.calFrameCut, hne, ← he]
  | bpl p => cases he : s.prc.expReq <;> simp [← he]

/-! ## An exposure cut short -/

/-- SFE with its exposure cut short: a flush runs. -/
def Sfe.cut (f : Sfe) : Sfe := { f with state := .reading, exposing := none, readout := some { kind := .flush 0 } }

theorem startEnded_interlockGrant (l : List Instr) : startEnded (l ++ [.interlockGrant]) = startEnded l := by
  simp [startEnded]

theorem startEnded_lampLost (l : List Instr) : startEnded (l ++ [.lampLost]) = startEnded l := by
  simp [startEnded]

theorem State.interlockRelease_messages (s : State) : startEnded s.interlockRelease.inFlight = startEnded s.inFlight := by
  unfold State.interlockRelease State.tryInterlock
  split
  · dsimp only
    cases s.trs.pendingMotion with
    | some w => rfl
    | none =>
      dsimp only
      split
      · exact startEnded_interlockGrant _
      · rfl
  · rfl

theorem State.interlockRelease_eq (s : State) : s.interlockRelease = { s with
    trs := s.interlockRelease.trs, inFlight := s.interlockRelease.inFlight } := by
  unfold State.interlockRelease State.tryInterlock
  split
  · dsimp only
    cases s.trs.pendingMotion with
    | some w => rfl
    | none =>
      dsimp only
      split <;> rfl
  · rfl

/-- R116: the interlock and the lamp ready are released, and a flush begins. -/
theorem State.cutShort_eq (e : Exposing) (hq : s.blu.quietly) : s.cutShort e = { (s.lampRelease 0).1 with
    sfe := s.sfe.cut
    trs := if e.req.stage then s.interlockRelease.trs else s.trs
    inFlight := startEnded s.inFlight } := by
  unfold State.cutShort State.releaseAll
  cases e.req.stage with
  | false =>
    rw [if_neg nofun, if_neg nofun, State.releaseLamp_eq hq]
    dsimp only
    rw [(State.lampRelease_frame s 0).2.2.2.1]
    exact congrArg (fun k => { (s.lampRelease 0).1 with sfe := s.sfe.cut, trs := k, inFlight := startEnded s.inFlight })
      (State.lampRelease_frame s 0).2.2.2.2.1
  | true =>
    have hrel := State.lampRelease_congr s hq 0 s.interlockRelease.inFlight s.interlockRelease.trs s.sfe
    rw [if_pos rfl, if_pos rfl, State.interlockRelease_eq, State.releaseLamp_eq (by exact hq)]
    dsimp only
    rw [State.interlockRelease_messages]
    dsimp only at hrel
    rw [hrel]
    rfl

theorem State.cutShort_ungranted (e : Exposing) (hg : s.blu.grant = none) : s.cutShort e = { s with
    sfe := s.sfe.cut
    blu := { s.blu with ask := none }
    trs := if e.req.stage then s.interlockRelease.trs else s.trs
    inFlight := startEnded s.inFlight } := by
  rw [State.cutShort_eq e (.inl hg), State.lampRelease_ungranted hg]

theorem State.interlockRelease_trs (hi : s.trs.interlock = .none ∨ s.trs.interlock = .granted)
    (hp : s.trs.pendingMotion = none) : s.interlockRelease.trs = { s.trs with interlock := .none } := by
  rcases hi with hi | hi
  · have hself : s.interlockRelease = s := by simp [State.interlockRelease, hi, Interlock.held]
    rw [hself]
    exact congrArg (fun i => { s.trs with interlock := i }) hi
  · rw [State.interlockRelease_granted hi hp]

/-- The exposure `e` is that of tile `r` into slot `n`, with the stage condition, and PRC waits for it. -/
structure State.exposesTile (s : State) (e : Exposing) (n : Nat) (r : TileRef) : Prop where
  target : e.req.target = .slot n r
  client : e.req.client = .prc r
  stage : e.req.stage = true
  slot : s.fst.slot n = some (.exposing r)
  awaited : s.prc.expReq = some r
  unmoved : s.trs.pendingMotion = none

theorem State.faultCut_tile {e : Exposing} {n : Nat} {r : TileRef} (h : s.exposesTile e n r) :
    s.faultCut e = { State.cutShort (s.setSlot n (.reserved r)) e with prc := { s.prc with expReq := none } } := by
  unfold State.faultCut
  rw [h.target, h.client]
  dsimp only
  have hprc : (State.cutShort (s.setSlot n (.reserved r)) e).prc = s.prc := (State.cutShort_frame _ e).1
  rw [State.changeSlot_sets (c := .exposingToReserved) h.slot nofun]
  unfold State.reportCut SlotChange.after
  dsimp only
  rw [hprc, if_pos h.awaited]

theorem State.faultCut_slot {e : Exposing} {n : Nat} {r : TileRef} (h : s.exposesTile e n r)
    (hi : s.trs.interlock = .none ∨ s.trs.interlock = .granted) (hg : s.blu.grant = none) (ha : s.blu.ask = none) :
    s.faultCut e = { s with
      fst := { s.fst with slots := s.fst.slots.setIfInBounds n (.reserved r) }
      sfe := s.sfe.cut
      trs := { s.trs with interlock := .none }
      prc := { s.prc with expReq := none }
      inFlight := startEnded s.inFlight } := by
  rw [State.faultCut_tile h, State.cutShort_ungranted e (by exact hg), h.stage, if_pos rfl,
    State.interlockRelease_trs (by exact hi) (by exact h.unmoved)]
  refine congrArg (fun a => { s with
    fst := { s.fst with slots := s.fst.slots.setIfInBounds n (.reserved r) }
    sfe := s.sfe.cut
    blu := { s.blu with ask := a }
    trs := { s.trs with interlock := .none }
    prc := { s.prc with expReq := none }
    inFlight := startEnded s.inFlight }) ha.symm

theorem State.exposesTile.congr {e : Exposing} {n : Nat} {r : TileRef} (h : s.exposesTile e n r) (hf : t.fst = s.fst)
    (hp : t.prc = s.prc) (ht : t.trs.pendingMotion = none) : t.exposesTile e n r :=
  ⟨h.target, h.client, h.stage, by rw [hf]; exact h.slot, by rw [hp]; exact h.awaited, ht⟩

/-! ## The faults of a lamp and of the stage, and the dark hold -/

theorem Sfe.exposesLit_of {f : Sfe} {e : Exposing} {d : Nat} (he : f.exposing = some e) (hl : e.req.lamp = .settled d) :
    f.exposesLit = true := by
  unfold Sfe.exposesLit
  rw [he]
  dsimp only
  rw [hl]

theorem State.lampFaulted_cuts {e : Exposing} (he : s.sfe.exposing = some e) : s.lampFaulted = s.faultCut e := by
  unfold State.lampFaulted
  rw [he]

theorem State.stageFaulted_cuts {e : Exposing} (hs : s.sfe.state = .exposing) (he : s.sfe.exposing = some e)
    (hst : e.req.stage = true) : s.stageFaulted = s.faultCut e := by
  unfold State.stageFaulted
  rw [hs, he]
  dsimp only
  rw [if_pos hst]

/-- What is left when the exposure `e` of tile `r` into slot `n` has been cut short. -/
structure State.tileCut (s : State) (n : Nat) (r : TileRef) (t : State) : Prop where
  sfe : t.sfe = s.sfe.cut
  fst : t.fst = { s.fst with slots := s.fst.slots.setIfInBounds n (.reserved r) }
  prc : t.prc = { s.prc with expReq := none }

theorem State.lampFault_cuts {e : Exposing} {n d : Nat} {r : TileRef} (h : s.exposesTile e n r)
    (he : s.sfe.exposing = some e) (hl : e.req.lamp = .settled d) (hi : s.trs.interlock = .granted) (cause : LampFault) :
    s.tileCut n r (s.lampFault cause) ∧ (s.lampFault cause).trs = { s.trs with interlock := .none }
      ∧ (s.lampFault cause).blu.state = .fault cause ∧ (s.lampFault cause).blu.grant = none
      ∧ (s.lampFault cause).blu.ask = none
      ∧ (s.lampFault cause).inFlight = startEnded s.inFlight ++ [.backlightFault cause, .calLampFault] := by
  obtain ⟨v, hv⟩ : ∃ v : State, v = { s with blu := { s.blu with
    state := .fault cause, requested := 0, commanded := 0, settleCount := 0, settleTimer := none, zeroCount := 0
    lit := 0, pendingDrive := none, ask := none, grant := none, driveChanged := false } } := ⟨_, rfl⟩
  have hreport : v.reportLampFault = v.faultCut e := by
    unfold State.reportLampFault
    rw [if_pos (by rw [hv]; exact Sfe.exposesLit_of he hl), State.lampFaulted_cuts (by rw [hv]; exact he)]
  have hcut := State.faultCut_slot (s := v) (h.congr (by rw [hv]) (by rw [hv]) (by rw [hv]; exact h.unmoved))
    (.inr (by rw [hv]; exact hi)) (by rw [hv]) (by rw [hv])
  have hfault : ∃ k : Sticky, s.lampFault cause
      = { (((v.faultCut e).emit (.backlightFault cause)).emit .calLampFault).lampNotice with
        liu := { (((v.faultCut e).emit (.backlightFault cause)).emit .calLampFault).lampNotice.liu with sticky := k } } := by
    unfold State.lampFault
    dsimp only
    rw [if_pos (by rw [Sfe.exposesLit_of he hl, Bool.or_true]), ← hv, hreport]
    cases cause with
    | unstable => exact ⟨_, rfl⟩
    | noLight => exact ⟨_, rfl⟩
  obtain ⟨k, hk⟩ := hfault
  rw [hk, hcut, hv]
  exact ⟨⟨rfl, rfl, rfl⟩, rfl, rfl, rfl, rfl, by simp [State.lampNotice, Instr.asMessage]⟩

/-- With no drive put off, the release of lamp ready sends nothing, whatever the state of BLU. -/
theorem State.lampRelease_undriven (hp : s.blu.pendingDrive = none) (n : Nat) :
    ∃ (b : Blu) (l : Liu) (k : Nat), (s.lampRelease n).1 = { s with blu := b, liu := l, freeCount := k }
      ∧ b.grant = none ∧ (s.blu.ask = none → b.ask = none) := by
  have hstandby : ∀ v : State, ∃ (b : Blu) (l : Liu), v.tryStandby = { v with blu := b, liu := l }
      ∧ b.grant = v.blu.grant ∧ b.ask = v.blu.ask := fun v => by
    unfold State.tryStandby
    split
    · exact ⟨_, _, rfl, rfl, rfl⟩
    · exact ⟨_, _, rfl, rfl, rfl⟩
  have hend : ∀ (v : State) (a : LampAsk), v.blu.pendingDrive = none → ∃ (b : Blu) (l : Liu),
      v.endGrant a = { v with blu := b, liu := l } ∧ b.grant = none ∧ b.ask = v.blu.ask := fun v a hv => by
    unfold State.endGrant
    cases a.cond with
    | dark => exact hstandby _
    | settled d =>
      dsimp only
      unfold State.afterGrant
      dsimp only
      rw [hv]
      dsimp only
      split
      · exact hstandby _
      · exact hstandby _
  unfold State.lampRelease
  cases hg : s.blu.grant with
  | none => exact ⟨_, _, _, rfl, hg, fun _ => rfl⟩
  | some a =>
    obtain ⟨b, l, h1, h2, h3⟩ := hend { s with freeCount := s.freeCount + 1 } a hp
    refine ⟨b, l, s.freeCount + 1, ?_, h2, fun ha => h3.trans ha⟩
    dsimp only
    cases a.cond <;> exact h1

theorem State.faultCut_undriven {e : Exposing} {n : Nat} {r : TileRef} (h : s.exposesTile e n r)
    (hi : s.trs.interlock = .none) (hd : s.blu.pendingDrive = none) (ha : s.blu.ask = none) :
    ∃ (b : Blu) (l : Liu) (k : Nat), s.faultCut e = { s with
        fst := { s.fst with slots := s.fst.slots.setIfInBounds n (.reserved r) }
        sfe := s.sfe.cut
        prc := { s.prc with expReq := none }
        inFlight := startEnded s.inFlight, blu := b, liu := l, freeCount := k }
      ∧ b.grant = none ∧ b.ask = none := by
  have hself : (s.setSlot n (.reserved r)).interlockRelease = s.setSlot n (.reserved r) := by
    simp [State.interlockRelease, hi, Interlock.held]
  obtain ⟨b, l, k, hrel, hb, hask⟩ := State.lampRelease_undriven (s := s.setSlot n (.reserved r)) hd 0
  refine ⟨b, l, k, ?_, hb, hask ha⟩
  rw [State.faultCut_tile h]
  unfold State.cutShort State.releaseAll State.releaseLamp State.recall
  rw [h.stage, if_pos rfl, hself, hrel, startEnded_eq]
  rfl

theorem State.trsFault_cuts {e : Exposing} {n : Nat} {r : TileRef} (h : s.exposesTile e n r)
    (hs : s.sfe.state = .exposing) (he : s.sfe.exposing = some e) (hi : s.trs.interlock = .granted)
    (hw : s.trs.work = none) (hq : s.trs.quiesce = false) (hact : s.prc.active ≠ none) (hcru : s.cru.state = .idle)
    (hheld : s.trs.heldLoad = none) (ha : s.blu.ask = none) (hp : s.blu.pendingDrive = none) (cause : TrsFault) (seen : Bool) :
    s.tileCut n r (s.trsFault cause seen) ∧ (s.trsFault cause seen).trs.state = .fault cause
      ∧ (s.trsFault cause seen).trs.interlock = .none ∧ (s.trsFault cause seen).blu.grant = none
      ∧ (s.trsFault cause seen).blu.ask = none
      ∧ (s.trsFault cause seen).inFlight = startEnded s.inFlight ++ [.transportFault] := by
  obtain ⟨k, hk⟩ : ∃ k : Trs, k = s.trs.settleRecord cause seen := ⟨_, rfl⟩
  have hkept : k.interlock = .granted ∧ k.quiesce = false := by
    rw [hk, ← hi, ← hq]
    unfold Trs.settleRecord Trs.setEntry
    (repeat' split) <;> exact ⟨rfl, rfl⟩
  obtain ⟨hki, hkq⟩ := hkept
  obtain ⟨v, hv⟩ : ∃ v : State, v = { s with trs := { k with
    state := .fault cause, pos := .unknown, motionTimer := none, settleTimer := none, work := none
    pendingMotion := none, heldLoad := none, interlock := .none } } := ⟨_, rfl⟩
  obtain ⟨b, l, c, hcut, hg, hask⟩ := State.faultCut_undriven (s := v)
    (h.congr (by rw [hv]) (by rw [hv]) (by rw [hv])) (by rw [hv]) (by rw [hv]; exact hp) (by rw [hv]; exact ha)
  have hprc : s.faultToPrc = true := by
    unfold State.faultToPrc
    rw [Option.isSome_iff_ne_none.2 hact, Bool.or_true, Bool.true_or]
  have hcruOff : s.faultToCru = false := by simp [State.faultToCru, hw, Cru.flatRunning, hcru, hheld]
  have hend : State.endInterlock { s with trs := { k with
    state := .fault cause, pos := .unknown, motionTimer := none, settleTimer := none, work := none
    pendingMotion := none, heldLoad := none } } = v.faultCut e := by
    unfold State.endInterlock
    dsimp only
    rw [hki]
    dsimp only
    rw [if_pos (show s.sfe.exposesStage = true by simp [Sfe.exposesStage, he, h.stage]), ← hv]
    exact State.stageFaulted_cuts (by rw [hv]; exact hs) (by rw [hv]; exact he) h.stage
  have hfault : s.trsFault cause seen = ((v.faultCut e).emit .transportFault).transportNotice false := by
    unfold State.trsFault
    dsimp only
    rw [← hk, hprc, hcruOff, hend, if_pos rfl, if_neg Bool.false_ne_true]
    have hquiet : (((v.faultCut e).emit .transportFault).transportNotice false).trs.quiesce = false := by
      rw [hcut, hv]
      exact hkq
    rw [if_neg (by rw [hquiet]; exact Bool.false_ne_true)]
  rw [hfault, hcut, hv]
  exact ⟨⟨rfl, rfl, rfl⟩, rfl, rfl, hg, hask, by simp [State.transportNotice, Instr.asMessage]⟩

theorem Sfe.wantsLight_lit {f : Sfe} {h : HeldReq} {d : Nat} (hh : f.held = some h) (hl : h.req.lamp = .settled d) :
    f.wantsLight = true := by
  unfold Sfe.wantsLight
  rw [hh]
  dsimp only
  rw [hl]

theorem Sfe.wantsLight_dark {f : Sfe} (hd : ∀ h, f.held = some h → h.req.lamp = .dark) : f.wantsLight = false := by
  unfold Sfe.wantsLight
  cases hh : f.held with
  | none => rfl
  | some h =>
    dsimp only
    rw [hd h hh]

theorem State.lampFaulted_held {h : HeldReq} (he : s.sfe.exposing = none) (hh : s.sfe.held = some h)
    (hw : s.sfe.wantsLight = true ∨ s.sfe.asksOut = true) : s.lampFaulted = s.cutHeld h := by
  unfold State.lampFaulted
  rw [he, hh]
  dsimp only
  rw [if_pos (Bool.or_eq_true_iff.2 hw)]

theorem State.lampFaulted_spared (he : s.sfe.exposing = none) (hw : s.sfe.wantsLight = false) (ha : s.sfe.asksOut = false) :
    s.lampFaulted = s := by
  unfold State.lampFaulted
  rw [he]
  cases s.sfe.held with
  | none => rfl
  | some h =>
    dsimp only
    rw [hw, ha, if_neg (by decide)]

theorem State.stageFaulted_held {h : HeldReq} (hs : s.sfe.state = .armed) (hh : s.sfe.held = some h)
    (hp : s.sfe.phase = .stage) : s.stageFaulted = s.cutHeld h := by
  unfold State.stageFaulted
  rw [hs, hh]
  dsimp only
  rw [if_pos hp]

theorem State.stageFaulted_spared (hs : s.sfe.state ≠ .exposing) (ha : s.sfe.state = .armed → s.sfe.phase ≠ .stage) :
    s.stageFaulted = s := by
  unfold State.stageFaulted
  split
  · contradiction
  · next h _ => rw [if_neg (ha h)]
  · rfl

/-- A request in ARMED that a fault ends: the asks are withdrawn, and PRC or CRU waits no more. -/
theorem State.cutHeld_asks {h : HeldReq} (hs : s.sfe.state = .armed) (hp : s.sfe.phase ≠ .goAhead) (hq : s.blu.quietly)
    (hc : h.req.client = .cru → s.cru.state ≠ .cancelling) : s.cutHeld h = { (s.lampRelease 0).1 with
      sfe := s.sfe.left
      prc := s.prc.requestGone h.req.client
      cru := s.cru.requestGone h.req.client
      trs := if s.sfe.phase = .stage then s.stageGivenUp else s.trs
      inFlight := requestEnded s.inFlight } := by
  unfold State.cutHeld
  have hend := State.endHeld_frame s
  obtain ⟨hprc, -, -, -, hcru, -⟩ := hend
  rw [State.reportCut_eq _ (by rw [hcru]; exact hc), hprc, hcru, State.endHeld_asks hs hp hq]

/-- R133, R134: what the dark hold leaves of BLU where there is no ask and no FAULT. -/
theorem State.enterDark_eq (hf : ∀ f, s.blu.state ≠ .fault f) (ha : s.blu.ask = none) : s.enterDark = { s with
    blu := { s.blu with
      state := .dark, commanded := 0, settleCount := 0, settleTimer := none, zeroCount := 0, lit := 0
      grant := none, driveChanged := false }
    inFlight := s.inFlight ++ if s.blu.grant.isSome then [Instr.lampLost] else [] } := by
  have hcause : s.blu.state.faultCause = none := by
    cases hs : s.blu.state with
    | fault c => exact absurd hs (hf c)
    | _ => rfl
  unfold State.enterDark State.tryLampGrant
  dsimp only
  rw [hcause]
  cases hg : s.blu.grant with
  | none => simp [ha]
  | some a => simp [ha, State.emit, Instr.asMessage]

/-- Settles O43. -/
theorem exposureCutShort : Obligations.ExposureCutShort := by
  intro s c hc
  have hmsg : c.asMessage = c := by rcases hc with rfl | rfl <;> rfl
  refine ⟨fun e n r d hs he ht hcl hl hst hslot hreq hi hpm hg ha => ?_, fun h r d he hs hh hcl hl hreq => ?_,
    fun h he hs hh hcan => ?_, fun he hs hd => ?_, fun hne hna => ?_,
    fun e n r d hs he ht hcl hl hst hslot hreq hi hpm => ?_, fun e k he hcl hl ht hst hcan hdark hrem hpd => ?_⟩
  · have hexp : (s.deliver c).exposesTile e n r := ⟨ht, hcl, hst, hslot, hreq, hpm⟩
    have hcut := State.faultCut_slot hexp (by exact hi) (by exact hg) (by exact ha)
    rw [State.deliver_inFlight, hmsg] at hcut
    rcases hc with rfl | rfl
    · exact congrArg Host.Outcome.next ((State.lampFaulted_cuts (by exact he)).trans hcut)
    · exact congrArg Host.Outcome.next ((State.stageFaulted_cuts (by exact hs) (by exact he) hst).trans hcut)
  · refine congrArg Host.Outcome.next ((State.lampFaulted_held (h := h) (by exact he) (by exact hh)
      (.inl (Sfe.wantsLight_lit (by exact hh) hl))).trans ?_)
    unfold State.cutHeld
    rw [State.endHeld_unarmed (by rcases hs with hs | hs <;> exact fun h => by cases hs.symm.trans h), hcl]
    exact if_pos hreq
  · intro left prc cru
    have hgone : ∀ v : State, v.sfe = s.sfe → v.prc = s.prc → v.cru = s.cru → v.sfe.phase = .goAhead →
        v.cutHeld h = { v with sfe := left, prc := prc, cru := cru, inFlight := requestEnded v.inFlight } :=
      fun v hsf hpr hcr hp => by
        unfold State.cutHeld
        rw [State.endHeld_goAhead (by rw [hsf]; exact hs) hp, State.reportCut_eq _ (by dsimp only; rw [hcr]; exact hcan)]
        dsimp only
        rw [hsf, hpr, hcr]
        rfl
    refine ⟨fun hp => ⟨fun d hl => ?_, fun hl => ?_⟩, fun hp hq => ?_, fun hp => ?_⟩
    · exact congrArg Host.Outcome.next ((State.lampFaulted_held (h := h) (by exact he) (by exact hh)
        (.inl (Sfe.wantsLight_lit (by exact hh) hl))).trans (hgone _ rfl rfl rfl hp))
    · refine congrArg Host.Outcome.next (State.lampFaulted_spared (by exact he) (Sfe.wantsLight_dark fun x hx => ?_) ?_)
      · rw [← Option.some.inj (hh.symm.trans hx)]
        exact hl
      · show s.sfe.asksOut = false
        simp [Sfe.asksOut, hp]
    · obtain ⟨released, hrel, -, hsame⟩ := exec_lampReadyRelease (s := s) hq
      refine ⟨released, hrel, ?_⟩
      have hasks : s.sfe.phase ≠ .goAhead := by
        rcases hp with ⟨hp, -⟩ | hp <;> exact fun h => by cases hp.symm.trans h
      have hcut := State.cutHeld_asks (s := s.deliver c) (h := h) (by exact hs) (by exact hasks) (by exact hq) (by exact hcan)
      have hlamp := State.lampRelease_congr s hq 0 (s.deliver c).inFlight s.trs s.sfe
      rw [show (s.deliver c).lampRelease 0 = State.lampRelease
        { s with inFlight := (s.deliver c).inFlight, trs := s.trs, sfe := s.sfe } 0 from rfl, hlamp,
        State.deliver_inFlight, hmsg] at hcut
      have hexec : exec c s = .next ((s.deliver c).cutHeld h) := by
        rcases hp with ⟨hp, rfl⟩ | hp
        · exact congrArg Host.Outcome.next (State.lampFaulted_held (by exact he) (by exact hh)
            (.inr (by show s.sfe.asksOut = true; simp [Sfe.asksOut, hs, hp])))
        · rcases hc with rfl | rfl
          · exact congrArg Host.Outcome.next (State.lampFaulted_held (by exact he) (by exact hh)
              (.inr (by show s.sfe.asksOut = true; simp [Sfe.asksOut, hs, hp])))
          · exact congrArg Host.Outcome.next (State.stageFaulted_held (by exact hs) (by exact hh) (by exact hp))
      rw [hexec, hcut]
      exact congrArg Host.Outcome.next (hsame _ _ _ _ _).symm
    · exact congrArg Host.Outcome.next (State.stageFaulted_spared (s := s.deliver .stageFaultReport)
        (by show s.sfe.state ≠ _; rw [hs]; nofun) (fun _ => hp))
  · refine congrArg Host.Outcome.next (State.lampFaulted_spared (by exact he) (Sfe.wantsLight_dark hd) ?_)
    show s.sfe.asksOut = false
    simp [Sfe.asksOut, hs]
  · exact congrArg Host.Outcome.next (State.stageFaulted_spared (s := s.deliver .stageFaultReport) hne
      (fun h => absurd h hna))
  · intro cut slots
    have hexp : s.exposesTile e n r := ⟨ht, hcl, hst, hslot, hreq, hpm⟩
    refine ⟨fun a cause hcase => ?_, fun htrs hw hq hact hcru hheld ha hpd => ?_, fun hnd hnf ha => ?_⟩
    · rcases hcase with ⟨rfl, rfl, hlit, hcom, hz⟩ | ⟨rfl, rfl, htm⟩
      · obtain ⟨⟨h1, h2, h3⟩, h4, h5, h6, h7, h8⟩ := State.lampFault_cuts
          (s := { s with blu := s.blu.takeSample 0 }) (hexp.congr rfl rfl hpm) he hl hi .noLight
        refine ⟨_, congrArg Host.Outcome.next ?_, h1, h2, h4, h3, h5, h6, h7, h8⟩
        show s.sample 0 = _
        unfold State.sample
        simp [Blu.takeSample, hlit, hcom, hz]
      · obtain ⟨⟨h1, h2, h3⟩, h4, h5, h6, h7, h8⟩ := State.lampFault_cuts hexp he hl hi .unstable
        exact ⟨_, congrArg Host.Outcome.next (if_pos (Option.isSome_iff_ne_none.2 htm)), h1, h2, h4, h3, h5, h6, h7, h8⟩
    · obtain ⟨⟨h1, h2, h3⟩, h4, h5, h6, h7, h8⟩ := State.trsFault_cuts hexp hs he hi hw hq (by rw [hact]; nofun) hcru hheld
        ha hpd .lostCarrier false
      refine ⟨_, ?_, h1, h2, h4, h5, h3, h6, h7, h8⟩
      show execLostCarrier s = _
      unfold execLostCarrier
      rw [htrs]
    · refine congrArg Host.Outcome.next ?_
      obtain ⟨v, hv⟩ : ∃ v : State, v = (s.deliver .darkHold).enterDark := ⟨_, rfl⟩
      have hdark := hv.trans (State.enterDark_eq (s := s.deliver .darkHold) hnf ha)
      have hcutLit : v.cutLit = v.faultCut e := by
        unfold State.cutLit
        rw [show v.sfe.exposing = some e by rw [hdark]; exact he]
        dsimp only
        rw [if_neg (by rw [hl]; nofun)]
      unfold State.darkHold
      rw [if_neg (by exact hnd), ← hv, hcutLit, State.faultCut_slot (s := v)
        (hexp.congr (by rw [hdark]; rfl) (by rw [hdark]; rfl) (by rw [hdark]; exact hpm)) (.inr (by rw [hdark]; exact hi))
        (by rw [hdark]) (by rw [hdark]; exact ha)]
      have hmessages : startEnded v.inFlight = startEnded (s.inFlight.erase .darkHold) := by
        rw [hdark]
        dsimp only
        split
        · exact startEnded_lampLost _
        · rw [List.append_nil]
          rfl
      rw [hmessages, hdark]
      rfl
  · obtain ⟨v, hv⟩ : ∃ v : State, v = ({ s.deliver .darkHoldRelease with
      blu := { s.blu with grant := none } } : State).enterStandby := ⟨_, rfl⟩
    have hleave : (s.deliver .darkHoldRelease).leaveDark = v := by
      rw [hv]
      unfold State.leaveDark
      rw [show (s.deliver .darkHoldRelease).blu.remembered = none from hrem,
        show (s.deliver .darkHoldRelease).blu.pendingDrive = none from hpd]
      rfl
    have hcut : v.faultCut e = { v with
        sfe := v.sfe.cut, blu := { v.blu with ask := none }, cru := { v.cru with frameReq := false }
        inFlight := startEnded v.inFlight } := by
      unfold State.faultCut
      rw [ht, hcl]
      dsimp only
      rw [State.cutShort_ungranted e (by rw [hv]; rfl), hst, if_neg nofun]
      unfold State.reportCut State.calFrameCut
      dsimp only
      rw [if_neg (by rw [hv]; exact fun h => hcan h.1)]
    refine ⟨v.faultCut e, congrArg Host.Outcome.next ?_, ?_⟩
    · unfold State.darkRelease
      rw [if_neg (by exact fun h => h hdark), hleave]
      unfold State.cutDark
      rw [show v.sfe.exposing = some e by rw [hv]; exact he]
      exact if_pos hl
    · rw [hcut, hv]
      exact ⟨rfl, rfl, rfl, rfl, rfl, rfl, rfl, rfl⟩

end Sys2Proof.Machine
end

section
/-! PROOFS. SFE: an exposure request from its taking to its start or its withdrawal (R113 to R115, R121, R122). -/

namespace Sys2Proof.Machine

variable {s t : State}

/-! ## What is shared by the ends of a start -/

/-- BLU, LIU and the counter as LAMP_READY_RELEASE leaves them, seen from the state in which a message has been taken. -/
theorem exec_lampReadyRelease_taken (h : s.blu.quietly) (c : Instr) :
    ∃ released, exec (.lampReadyRelease 0) s = .next released ∧ released.fst = s.fst ∧
      ∀ (q : Sfe) (k : Trs) (l : List Instr), ({ released with sfe := q, trs := k, inFlight := l } : State)
        = { ((s.deliver c).lampRelease 0).1 with sfe := q, trs := k, inFlight := l } := by
  refine ⟨_, rfl, (State.lampRelease_frame _ 0).2.2.1, fun q k l => ?_⟩
  have hr := State.lampRelease_congr s h 0 (s.deliver (.lampReadyRelease 0)).inFlight s.trs s.sfe
  have hc := State.lampRelease_congr s h 0 (s.deliver c).inFlight s.trs s.sfe
  have hboth := (congrArg (fun t : State => { t with sfe := q, trs := k, inFlight := l }) hr).trans
    (congrArg (fun t : State => { t with sfe := q, trs := k, inFlight := l }) hc).symm
  exact hboth

theorem State.interlockRelease_trs_congr (ht : t.trs = s.trs) (hp : t.liu.params = s.liu.params) :
    t.interlockRelease.trs = s.interlockRelease.trs := by
  unfold State.interlockRelease State.tryInterlock State.beginMotion
  rw [ht]
  by_cases hi : s.trs.interlock.held = true
  · rw [if_pos hi, if_pos hi]
    dsimp only
    cases s.trs.pendingMotion with
    | some w =>
      dsimp only
      rw [hp]
    | none =>
      dsimp only
      split <;> rfl
  · rw [if_neg hi, if_neg hi, ht]

/-- R115: a start is asked for again from the lamp on. -/
theorem State.askAgain_eq {h : HeldReq} (hs : s.sfe.state = .armed) (hp : s.sfe.phase ≠ .goAhead) (hq : s.blu.quietly) :
    s.askAgain h = { (s.lampRelease 0).1 with
      sfe := { s.sfe with phase := .lamp }
      trs := if s.sfe.phase = .stage then s.stageGivenUp else s.trs
      inFlight := startEnded s.inFlight ++ [.lampReadyAsk h.req.lamp h.req.time] } := by
  unfold State.askAgain State.pursue
  rw [if_neg (fun hc => Bool.noConfusion hc.2), State.withdrawAsks_eq hq hp]
  dsimp only
  rw [(State.lampRelease_frame s 0).2.2.2.1, ← hs]
  rfl

theorem Sfe.serves_iff {f : Sfe} {c : ExposureClient} : f.serves c = true ↔ (∃ h, f.held = some h ∧ h.req.client = c)
    ∨ (∃ e, f.exposing = some e ∧ e.req.client = c)
    ∨ (∃ q e m temp, f.readout = some q ∧ q.kind = .frame e m temp ∧ e.req.client = c) := by
  have hreadout : f.readout.bind Readout.client? = some c
      ↔ ∃ q e m temp, f.readout = some q ∧ q.kind = .frame e m temp ∧ e.req.client = c := by
    rw [Option.bind_eq_some_iff]
    refine exists_congr fun q => ⟨fun ⟨hq, hk⟩ => ?_, fun ⟨e, m, temp, hq, hk, hc⟩ => ⟨hq, ?_⟩⟩
    · unfold Readout.client? at hk
      cases hkind : q.kind with
      | frame e m temp =>
        simp only [hkind, Option.some.injEq] at hk
        exact ⟨e, m, temp, hq, rfl, hk⟩
      | flush k => simp [hkind] at hk
    · unfold Readout.client?
      simp only [hk, hc]
  unfold Sfe.serves
  rw [Bool.or_eq_true, Bool.or_eq_true, decide_eq_true_eq, decide_eq_true_eq, decide_eq_true_eq, hreadout,
    Option.map_eq_some_iff, Option.map_eq_some_iff, or_assoc]

theorem State.refuseBusy_prc {t : TileRef} (h : s.sfe.serves (.prc t) = false) : s.refuseBusy (.prc t)
    = { s with prc := { s.prc with expReq := if s.prc.expReq = some t then none else s.prc.expReq } } := by
  unfold State.refuseBusy
  rw [h, if_neg nofun]
  dsimp only
  split <;> rfl

theorem State.refuseBusy_cru (h : s.sfe.serves .cru = false) :
    s.refuseBusy .cru = { s with cru := { s.cru with frameReq := false } } := by
  unfold State.refuseBusy
  rw [h, if_neg nofun]

theorem State.exposureRequested_busy {r : ExposureReq} (h : s.sfe.held ≠ none ∨ s.sfe.state = .exposing) :
    s.exposureRequested r = s.refuseBusy r.client := by
  unfold State.exposureRequested
  by_cases hh : (s.sfe.quiesce || s.sfe.held.isSome) = true
  · rw [if_pos hh]
  · rw [if_neg hh]
    rcases h with h | h
    · exact absurd (by rw [Option.isSome_iff_ne_none.2 h, Bool.or_true]) hh
    · rw [h]

theorem State.exposureRequested_idle {r : ExposureReq} (hq : s.sfe.quiesce = false) (hh : s.sfe.held = none)
    (hs : s.sfe.state = .idle) :
    s.exposureRequested r = (s.holdRequest r).pursue { req := r, retry := 0, cleared := false } := by
  unfold State.exposureRequested
  rw [if_neg (by simp [hq, hh]), hs]

theorem State.exposureRequested_kept {r : ExposureReq} (hq : s.sfe.quiesce = false) (hh : s.sfe.held = none)
    (hs : s.sfe.state = .reading ∨ s.sfe.state = .held ∨ (s.sfe.state = .fault ∧ s.sfe.reinit = true)) :
    s.exposureRequested r = s.holdRequest r := by
  unfold State.exposureRequested
  rw [if_neg (by simp [hq, hh])]
  rcases hs with hs | hs | ⟨hs, hre⟩
  · rw [hs]
  · rw [hs]
  · rw [hs]
    exact if_pos hre

theorem State.exposureRequested_fault {r : ExposureReq} (hq : s.sfe.quiesce = false) (hh : s.sfe.held = none)
    (hs : s.sfe.state = .fault) (hre : s.sfe.reinit = false) : s.exposureRequested r = s.reportFailure r.client := by
  unfold State.exposureRequested
  rw [if_neg (by simp [hq, hh]), hs]
  exact if_neg (by rw [hre]; nofun)

/-! ## The start -/

theorem State.lampHeld_iff {h : HeldReq} :
    s.lampHeld h = true ↔ s.blu.grant = some { cond := h.req.lamp, time := h.req.time } := decide_eq_true_iff

theorem State.lampGranted_lamp {h : HeldReq} (hs : s.sfe.state = .armed) (hp : s.sfe.phase = .lamp) (hh : s.sfe.held = some h) :
    s.lampGranted = if s.blu.grant.isSome && !s.lampHeld h then s.askAgain h
      else if h.req.stage then ({ s with sfe := { s.sfe with phase := .stage } }).emit .interlockAsk
      else if s.lampHeld h then s.startExposure h
      else s := by
  unfold State.lampGranted
  rw [hs, hp, hh]

theorem State.stageGranted_stage {h : HeldReq} (hs : s.sfe.state = .armed) (hp : s.sfe.phase = .stage) (hh : s.sfe.held = some h) :
    s.stageGranted = if s.lampHeld h && s.trs.interlock.held then s.startExposure h
      else if s.blu.grant.isSome && !s.lampHeld h then s.askAgain h
      else s.interlockRelease := by
  unfold State.stageGranted
  rw [hs, hp, hh]

theorem State.lampGranted_idle (ha : s.sfe.state ≠ .armed) (he : s.sfe.state ≠ .exposing) :
    s.lampGranted = (s.lampRelease 0).1 := by
  unfold State.lampGranted
  split
  · contradiction
  · contradiction
  · contradiction
  · rfl

theorem State.stageGranted_idle (ha : s.sfe.state ≠ .armed) (he : s.sfe.state ≠ .exposing) :
    s.stageGranted = s.interlockRelease := by
  unfold State.stageGranted
  split
  · contradiction
  · contradiction
  · rfl

/-- The asked grant is held, and nothing else: nothing is asked again. -/
theorem Blu.grant_right {h : HeldReq} (hg : s.blu.grant = none ∨ s.blu.grant = some { cond := h.req.lamp, time := h.req.time }) :
    (s.blu.grant.isSome && !s.lampHeld h) = false := by
  rcases hg with hg | hg
  · rw [hg]
    rfl
  · rw [State.lampHeld_iff.2 hg, Bool.not_true, Bool.and_false]

theorem Blu.grant_wrong {h : HeldReq} {g : LampAsk} (hg : s.blu.grant = some g)
    (hne : g ≠ { cond := h.req.lamp, time := h.req.time }) : (s.blu.grant.isSome && !s.lampHeld h) = true := by
  have hnot : s.lampHeld h = false := by
    rw [← Bool.not_eq_true, State.lampHeld_iff, hg]
    exact fun h => hne (Option.some.inj h)
  rw [hnot, hg]
  rfl

theorem State.startExposure_slot {h : HeldReq} {n : Nat} {r : TileRef} (ht : h.req.target = .slot n r)
    (hs : s.fst.slot n = some (.reserved r)) : s.startExposure h = (s.setSlot n (.exposing r)).beginExposure h := by
  unfold State.startExposure
  rw [ht]
  exact if_pos (by simp [Fst.allows, SlotChange.before, hs])

theorem State.startExposure_refused {h : HeldReq} {n : Nat} {r : TileRef} (ht : h.req.target = .slot n r)
    (hs : s.fst.slot n ≠ some (.reserved r)) (hst : h.req.stage = true) (hi : s.trs.interlock = .granted)
    (hq : s.blu.quietly) : s.startExposure h = { (s.lampRelease 0).1 with
      sfe := s.sfe.left, trs := s.stageGivenUp, inFlight := requestEnded s.inFlight } := by
  unfold State.startExposure
  rw [ht]
  dsimp only
  rw [if_neg (by simp [Fst.allows, SlotChange.before, hs])]
  unfold State.releaseAll
  rw [hst, if_pos rfl, State.interlockRelease_given hi, State.releaseLamp_eq (by exact hq), State.forgetHeld_eq,
    State.chooseNext_unheld rfl]
  have hlamp := State.lampRelease_congr s hq 0 s.inFlight s.stageGivenUp s.sfe
  dsimp only at hlamp ⊢
  rw [hlamp, requestEnded_startEnded]
  rfl

/-! ## The withdrawal -/

theorem State.exposureWithdrawn_held {h : HeldReq} (hh : s.sfe.held = some h) :
    s.exposureWithdrawn h.req.client = s.endHeld := by
  unfold State.exposureWithdrawn
  rw [if_pos (by rw [hh]; rfl)]

/-- Settles O42. -/
theorem exposureStarts : Obligations.ExposureStarts := by
  intro s r hqs
  refine ⟨fun hh => ⟨fun hs => ?_, fun hs => ?_, fun hs hre => ⟨fun t hc => ?_, fun hc => ?_⟩⟩, fun hb => ?_,
    fun h hh hs => ?_, fun h hh hs => ⟨fun hre hcl => ?_, ?_⟩, fun hna hne => ⟨fun hi => ?_, fun hq => ?_⟩,
    fun e q hh he hq hk => ?_, fun e hs he hh hq => ?_, fun hs => ?_⟩
  · exact congrArg Host.Outcome.next (State.exposureRequested_idle (by exact hqs) (by exact hh) (by exact hs))
  · exact congrArg Host.Outcome.next (State.exposureRequested_kept (by exact hqs) (by exact hh) (by exact hs))
  · refine congrArg Host.Outcome.next ((State.exposureRequested_fault (by exact hqs) (by exact hh) (by exact hs)
      (by exact hre)).trans ?_)
    rw [hc]
    rfl
  · refine congrArg Host.Outcome.next ((State.exposureRequested_fault (by exact hqs) (by exact hh) (by exact hs)
      (by exact hre)).trans ?_)
    rw [hc]
    rfl
  · intro served
    have hserves : s.sfe.serves r.client = true ↔ served := Sfe.serves_iff
    have hbusy := State.exposureRequested_busy (s := s.deliver (.exposureRequest r)) (r := r) hb
    refine ⟨fun hc => congrArg Host.Outcome.next (hbusy.trans ?_), fun t hn hc => congrArg Host.Outcome.next (hbusy.trans ?_),
      fun hn hc => congrArg Host.Outcome.next (hbusy.trans ?_)⟩
    · rcases hc with hc | ⟨p, hc⟩
      · exact if_pos (hserves.2 hc)
      · rw [hc]
        exact ite_self _
    · rw [← hserves, Bool.not_eq_true, hc] at hn
      rw [hc]
      exact State.refuseBusy_prc (s := s.deliver (.exposureRequest r)) hn
    · rw [← hserves, Bool.not_eq_true, hc] at hn
      rw [hc]
      exact State.refuseBusy_cru (s := s.deliver (.exposureRequest r)) hn
  · intro wanted left
    refine ⟨fun hp hst hg => ?_, fun c hc => ?_, fun hp hg => ⟨fun hi => ?_, fun hi hg => ?_⟩, fun hp hst hg => ?_,
      fun c hq hc => ?_, fun hp hmem => ?_, fun hp hre hcl => ?_, fun hp hm hg => ?_, fun hp => ?_, fun hp hq => ?_⟩
    · refine congrArg Host.Outcome.next ((State.lampGranted_lamp (h := h) (by exact hs) (by exact hp) (by exact hh)).trans ?_)
      rw [Blu.grant_right (by exact hg), if_neg nofun, hst]
      rfl
    · intro begun hg
      have hheld : (s.deliver c).lampHeld h = true := State.lampHeld_iff.2 (by exact hg)
      have hexec : exec c s = .next ((s.deliver c).startExposure h) ∧ c.asMessage = c := by
        rcases hc with ⟨rfl, hp, hst⟩ | ⟨rfl, hp, hi⟩
        · refine ⟨congrArg Host.Outcome.next ((State.lampGranted_lamp (h := h) (by exact hs) (by exact hp)
            (by exact hh)).trans ?_), rfl⟩
          rw [Blu.grant_right (by exact .inr hg), if_neg nofun, hst, if_neg nofun, if_pos hheld]
        · refine ⟨congrArg Host.Outcome.next ((State.stageGranted_stage (h := h) (by exact hs) (by exact hp)
            (by exact hh)).trans ?_), rfl⟩
          rw [hheld, show (s.deliver .interlockGrant).trs.interlock = s.trs.interlock from rfl]
          rcases hi with hi | hi <;> rw [hi] <;> rfl
      obtain ⟨hexec, hmsg⟩ := hexec
      refine ⟨fun n ht => ?_, fun ht => ?_, fun n t ht hsl => ?_, fun n t ht hsl hcg hst hi hnf => ?_⟩
      · rw [hexec]
        unfold State.startExposure State.deliver
        rw [ht, hmsg]
        rfl
      · rw [hexec]
        unfold State.startExposure State.deliver
        rw [ht, hmsg]
        rfl
      · rw [hexec, State.startExposure_slot ht (by exact hsl)]
        unfold State.deliver
        rw [hmsg]
        rfl
      · obtain ⟨released, hrel, -, hsame⟩ := exec_lampReadyRelease_taken (s := s) (.inr hnf) c
        refine ⟨released, hrel, ?_⟩
        rw [hexec, State.startExposure_refused ht (by exact hsl) hst (by exact hi) (by exact .inr hnf), ← hsame,
          State.deliver_inFlight, hmsg]
        rfl
    · refine congrArg Host.Outcome.next ((State.stageGranted_stage (h := h) (by exact hs) (by exact hp) (by exact hh)).trans ?_)
      have hnot : s.trs.interlock.held = false := by rcases hi with hi | hi <;> rw [hi] <;> rfl
      rw [show (s.deliver .interlockGrant).trs.interlock.held = false from hnot, Bool.and_false, if_neg nofun,
        Blu.grant_right (by exact hg), if_neg nofun]
      exact if_neg (by rw [show (s.deliver .interlockGrant).trs.interlock.held = false from hnot]; nofun)
    · refine congrArg Host.Outcome.next ((State.stageGranted_stage (h := h) (by exact hs) (by exact hp) (by exact hh)).trans ?_)
      have hnot : (s.deliver .interlockGrant).lampHeld h = false := by
        rw [← Bool.not_eq_true, State.lampHeld_iff, show (s.deliver .interlockGrant).blu.grant = none from hg]
        nofun
      rw [hnot, Bool.false_and, if_neg nofun, show (s.deliver .interlockGrant).blu.grant = none from hg, if_neg nofun]
      exact State.interlockRelease_given (by exact hi)
    · refine congrArg Host.Outcome.next ((State.lampGranted_lamp (h := h) (by exact hs) (by exact hp) (by exact hh)).trans ?_)
      have hnot : (s.deliver .lampReadyGrant).lampHeld h = false := by
        rw [← Bool.not_eq_true, State.lampHeld_iff, show (s.deliver .lampReadyGrant).blu.grant = none from hg]
        nofun
      rw [Blu.grant_right (by exact .inl hg), if_neg nofun, hst, if_neg nofun, hnot]
      exact if_neg nofun
    · obtain ⟨released, hrel, -, hsame⟩ := exec_lampReadyRelease_taken (s := s) hq c
      refine ⟨released, hrel, ?_⟩
      have hexec : exec c s = .next ((s.deliver c).askAgain h) ∧ c.asMessage = c ∧ s.sfe.phase ≠ .goAhead := by
        rcases hc with ⟨hp, rfl⟩ | ⟨hp, rfl, hmem⟩ | ⟨g, hg, hne, ⟨hp, rfl⟩ | ⟨hp, rfl⟩⟩
        · refine ⟨congrArg Host.Outcome.next ?_, rfl, by rw [hp]; nofun⟩
          simp [State.lampLost, hs, hp, hh]
        · refine ⟨congrArg Host.Outcome.next ?_, rfl, by rw [hp]; nofun⟩
          have hin : .lampReadyGrant ∈ s.inFlight.erase .lampLost := (List.mem_erase_of_ne (by simp)).2 hmem
          simp [State.lampLost, hs, hp, hh, Instr.asMessage, hin]
        · refine ⟨congrArg Host.Outcome.next ((State.lampGranted_lamp (h := h) (by exact hs) (by exact hp)
            (by exact hh)).trans ?_), rfl, by rw [hp]; nofun⟩
          exact if_pos (Blu.grant_wrong (by exact hg) hne)
        · refine ⟨congrArg Host.Outcome.next ((State.stageGranted_stage (h := h) (by exact hs) (by exact hp)
            (by exact hh)).trans ?_), rfl, by rw [hp]; nofun⟩
          have hnot : (s.deliver .interlockGrant).lampHeld h = false := by
            rw [← Bool.not_eq_true, State.lampHeld_iff, show (s.deliver .interlockGrant).blu.grant = some g from hg]
            exact fun h => hne (Option.some.inj h)
          rw [hnot, Bool.false_and, if_neg nofun]
          exact if_pos (by rw [show (s.deliver .interlockGrant).blu.grant = some g from hg]; rfl)
      obtain ⟨hexec, hmsg, hp⟩ := hexec
      rw [hexec, State.askAgain_eq (by exact hs) (by exact hp) (by exact hq), ← hsame, State.deliver_inFlight, hmsg]
      rfl
    · refine congrArg Host.Outcome.next ?_
      have hin : .lampReadyGrant ∉ s.inFlight.erase .lampLost := fun h => hmem (List.mem_of_mem_erase h)
      simp [State.lampLost, hs, hp, hh, Instr.asMessage, hin, State.deliver]
    · refine congrArg Host.Outcome.next ?_
      simp [State.goneAhead, hh, hre, hcl, hs, State.pursue, State.emit, State.deliver, Instr.asMessage]
    · have hleft : s.sfe.left = { s.sfe with held := none, state := .idle } :=
        congrArg (fun x => { s.sfe with held := none, state := x }) (if_neg (by rw [hm]; nofun))
      refine congrArg Host.Outcome.next ((State.exposureWithdrawn_held (by exact hh)).trans ?_)
      rw [State.endHeld_asks (by exact hs) (by rw [show (s.deliver _).sfe.phase = s.sfe.phase from rfl, hp]; nofun)
        (by exact .inl hg), State.lampRelease_ungranted (by exact hg)]
      dsimp only
      rw [if_neg (by rw [show (s.deliver _).sfe.phase = s.sfe.phase from rfl, hp]; nofun),
        show (s.deliver _).sfe.left = s.sfe.left from rfl, hleft]
      rfl
    · exact congrArg Host.Outcome.next ((State.exposureWithdrawn_held (by exact hh)).trans
        (State.endHeld_goAhead (by exact hs) (by exact hp)))
    · obtain ⟨released, hrel, -, hsame⟩ := exec_lampReadyRelease_taken (s := s) hq (.exposureWithdraw h.req.client)
      refine ⟨released, hrel, congrArg Host.Outcome.next ((State.exposureWithdrawn_held (by exact hh)).trans ?_)⟩
      rw [State.endHeld_asks (by exact hs) (by exact hp) (by exact hq), ← hsame]
      rfl
  · have hna : s.sfe.state ≠ .armed := by rcases hs with hs | hs <;> rw [hs] <;> nofun
    refine congrArg Host.Outcome.next ?_
    simp [State.goneAhead, hh, hre, hcl, hna, State.deliver, Instr.asMessage]
  · have hna : s.sfe.state ≠ .armed := by rcases hs with hs | hs <;> rw [hs] <;> nofun
    exact congrArg Host.Outcome.next ((State.exposureWithdrawn_held (by exact hh)).trans (State.endHeld_unarmed (by exact hna)))
  · exact congrArg Host.Outcome.next ((State.stageGranted_idle (s := s.deliver .interlockGrant) hna hne).trans
      (State.interlockRelease_given (by exact hi)))
  · have hrel := State.lampRelease_congr s hq 0 (s.deliver (.lampReadyRelease 0)).inFlight s.trs s.sfe
    have hgrant := State.lampRelease_congr s hq 0 (s.deliver .lampReadyGrant).inFlight s.trs s.sfe
    refine ⟨_, rfl, congrArg Host.Outcome.next ((State.lampGranted_idle (s := s.deliver .lampReadyGrant) hna hne).trans ?_)⟩
    exact hgrant.trans (congrArg (fun t : State => { t with inFlight := s.inFlight.erase .lampReadyGrant }) hrel).symm
  · obtain ⟨m, temp, hk⟩ := hk
    refine congrArg Host.Outcome.next ?_
    unfold State.exposureWithdrawn
    rw [show (s.deliver (.exposureWithdraw e.req.client)).sfe.held = none from hh, if_neg nofun,
      show (s.deliver (.exposureWithdraw e.req.client)).sfe.exposing = none from he,
      show (s.deliver (.exposureWithdraw e.req.client)).sfe.readout = some q from hq]
    dsimp only
    rw [if_pos (by simp only [Readout.client?, hk]), Port.giveUpSfe_eq]
    rfl
  · obtain ⟨released, hrel, hfst, hsame⟩ := exec_lampReadyRelease_taken (s := s) hq (.exposureWithdraw e.req.client)
    refine ⟨released, (s.deliver .interlockRelease).interlockRelease, hrel, rfl, hfst, congrArg Host.Outcome.next ?_⟩
    have hcut := State.cutShort_eq (s := s.deliver (.exposureWithdraw e.req.client)) e (by exact hq)
    rw [← hsame] at hcut
    unfold State.exposureWithdrawn
    rw [show (s.deliver (.exposureWithdraw e.req.client)).sfe.held = none from hh, if_neg nofun,
      show (s.deliver (.exposureWithdraw e.req.client)).sfe.exposing = some e from he]
    dsimp only
    rw [if_pos rfl, hcut, State.interlockRelease_trs_congr
      (t := s.deliver (.exposureWithdraw e.req.client)) (s := s.deliver .interlockRelease) rfl rfl]
    rfl
  · refine congrArg Host.Outcome.next ?_
    simp [State.lampLost, hs, State.deliver, Instr.asMessage]

end Sys2Proof.Machine
end

section
/-! PROOFS. BLU: light requests, samples, settling, faults and the throttle (R127 to R130, R132, R134, R135). -/

namespace Sys2Proof.Machine

variable {s t : State}

theorem Blu.capped_eq (b : Blu) (d : Nat) : cappedDrive b.throttle d = b.capped d := rfl

/-! ## The grant and the standby that wait -/

theorem State.tryLampGrant_unasked (h : s.blu.ask = none) : s.tryLampGrant = s := by
  unfold State.tryLampGrant
  rw [h]

theorem State.tryLampGrant_unready (h : ∀ a, s.blu.ask = some a → s.blu.ready a.cond = false) : s.tryLampGrant = s := by
  unfold State.tryLampGrant
  cases ha : s.blu.ask with
  | none => rfl
  | some a =>
    dsimp only
    rw [if_neg (by rw [h a ha]; nofun)]

theorem State.tryLampGrant_grants {a : LampAsk} (h : s.blu.ask = some a) (hr : s.blu.ready a.cond = true) :
    s.tryLampGrant = { s with
      blu := { s.blu with ask := none, grant := some a, driveChanged := false }
      inFlight := s.inFlight ++ [.lampReadyGrant] } := by
  unfold State.tryLampGrant
  rw [h]
  exact if_pos hr

theorem Blu.ready_settled {b : Blu} {d : Nat} (hs : b.state = .settled) : b.ready (.settled d) = decide (b.requested = d) := by
  unfold Blu.ready
  rw [hs]
  rfl

/-- A standby put off that may be carried out (R135). -/
def Blu.standbyDue (b : Blu) : Prop := b.deferred = true ∧ b.state = .settled ∧ 5000 ≤ b.lit ∧ b.grant = none

theorem State.tryStandby_due (h : s.blu.standbyDue) : s.tryStandby = s.enterStandby := if_pos h

theorem State.tryStandby_undue (h : ¬ s.blu.standbyDue) : s.tryStandby = s := if_neg h

/-! ## A monitor sample -/

/-- BLU when a sample `v` has been taken, but for what settling and a standby do. -/
def Blu.sampled (b : Blu) (v : Nat) : Blu := { b with
  clock := b.clock + 10, lit := if b.state.lit then b.lit + 1 else b.lit
  zeroCount := if b.state.lit && decide (b.commanded ≠ 0 ∧ v = 0) then b.zeroCount + 1 else 0
  history := (b.clock + 10, min v 4096) :: b.history.filter fun p => decide (b.clock + 10 ≤ p.1 + 80000) }

theorem sample_zero (b : Blu) (v : Nat) : (b.state.lit && decide (b.commanded ≠ 0) && decide (min v maxDrive = 0))
    = (b.state.lit && decide (b.commanded ≠ 0 ∧ v = 0)) := by
  have hzero : min v maxDrive = 0 ↔ v = 0 := by simp only [maxDrive]; omega
  rw [Bool.and_assoc, Bool.decide_and, decide_eq_decide.2 hzero]

theorem Blu.sampled_eq (b : Blu) (v : Nat) : ({ b.takeSample (min v maxDrive) with
    zeroCount := if (b.state.lit && decide (b.commanded ≠ 0) && decide (min v maxDrive = 0)) = true
      then b.zeroCount + 1 else 0 } : Blu) = b.sampled v := by
  rw [sample_zero]
  rfl

theorem sample_unfaulted {b : Blu} {v : Nat}
    (h : (b.state.lit && decide (b.commanded ≠ 0 ∧ v = 0)) = true → b.zeroCount < 63) :
    ¬ (b.state.lit && decide (b.commanded ≠ 0) && decide (min v maxDrive = 0) && decide (63 ≤ b.zeroCount)) = true := by
  rw [sample_zero, Bool.and_eq_true, decide_eq_true_eq]
  exact fun hc => absurd (h hc.1) (Nat.not_lt.2 hc.2)

/-- A sample that is not the 64th zero in a row, where the lamp does not settle. -/
theorem State.sample_unsettling {v : Nat} (hg : settleGoal s.blu.state = none)
    (h : (s.blu.state.lit && decide (s.blu.commanded ≠ 0 ∧ v = 0)) = true → s.blu.zeroCount < 63) :
    s.sample v = State.tryStandby { s with blu := s.blu.sampled v } := by
  unfold State.sample
  dsimp only
  rw [if_neg (by exact sample_unfaulted h), show settleGoal (s.blu.takeSample (min v maxDrive)).state = none from hg]
  exact congrArg (fun b => State.tryStandby { s with blu := b }) (Blu.sampled_eq s.blu v)

/-- A sample that is not the 64th zero in a row, where the lamp settles. -/
theorem State.sample_settling {goal n v : Nat} (hg : settleGoal s.blu.state = some goal)
    (hn : n = settleAfter s.blu.settleCount s.liu.params.settleTolerance (min v 4096) (s.blu.history.head?.map (·.2)))
    (h : (s.blu.state.lit && decide (s.blu.commanded ≠ 0 ∧ v = 0)) = true → s.blu.zeroCount < 63) :
    s.sample v = if goal ≤ n then State.settleComplete { s with blu := { s.blu.sampled v with settleCount := n } }
      else { s with blu := { s.blu.sampled v with settleCount := n } } := by
  unfold State.sample
  dsimp only
  rw [if_neg (by exact sample_unfaulted h), show settleGoal (s.blu.takeSample (min v maxDrive)).state = some goal from hg]
  have hcount : settleAfter (s.blu.takeSample (min v maxDrive)).settleCount s.liu.params.settleTolerance (min v maxDrive)
      (s.blu.history.head?.map (·.2)) = n := hn.symm
  dsimp only
  rw [hcount]
  exact congrArg (fun b : Blu => if goal ≤ n then State.settleComplete { s with blu := { b with settleCount := n } }
      else { s with blu := { b with settleCount := n } }) (Blu.sampled_eq s.blu v)

theorem settleAfter_eq (count tolerance v : Nat) (history : List (Nat × Nat)) :
    settleAfter count tolerance (min v 4096) (history.head?.map (·.2))
      = if v ≠ 0 ∧ ∃ p, history.head? = some p ∧ max (min v 4096) p.2 - min (min v 4096) p.2 ≤ tolerance
        then count + 1 else 0 := by
  have hzero : min v 4096 ≠ 0 ↔ v ≠ 0 := by omega
  unfold settleAfter
  cases hh : history.head? with
  | none => simp
  | some p => simp [hzero]

theorem State.settleComplete_grants {a : LampAsk} (ha : s.blu.ask = some a) (hc : a.cond = .settled s.blu.requested) :
    s.settleComplete = { s with
      blu := { s.blu with
        state := .settled, settleTimer := none, settleCount := 0, ask := none, grant := some a, driveChanged := false }
      inFlight := s.inFlight ++ [.lampReadyGrant] } := by
  unfold State.settleComplete
  rw [State.tryLampGrant_grants (a := a) (by exact ha) (by rw [hc, Blu.ready_settled rfl]; exact decide_eq_true rfl)]
  exact State.tryStandby_undue fun h => by cases h.2.2.2

theorem State.settleComplete_unasked (ha : ∀ a, s.blu.ask = some a → a.cond ≠ .settled s.blu.requested) :
    s.settleComplete = State.tryStandby { s with
      blu := { s.blu with state := .settled, settleTimer := none, settleCount := 0 } } := by
  unfold State.settleComplete
  rw [State.tryLampGrant_unready fun a h => ?_]
  have hne := ha a h
  cases hc : a.cond with
  | settled d =>
    rw [Blu.ready_settled rfl]
    exact decide_eq_false fun hd => hne (by rw [hc]; exact congrArg LampCond.settled hd.symm)
  | dark => rfl

theorem Blu.sampled_lit {b : Blu} (h : b.state.lit = true) (v : Nat) : (b.sampled v).lit = b.lit + 1 := if_pos h

theorem State.applyLight_ask (s : State) (d : Nat) : (s.applyLight d).blu.ask = s.blu.ask := by
  unfold State.applyLight
  split
  · rfl
  · split <;> rfl
  · split <;> rfl
  · (repeat' split) <;> rfl
  · rfl
  · rfl

theorem State.startIdle_active (h : s.prc.active ≠ none) : s.startIdle = s :=
  if_neg (by simp [State.idleCondition, h])

theorem exec_lightRequest {d : Nat} (ha : s.blu.ask = none) (hq : s.blu.quiesce = false) (hact : s.prc.active ≠ none) :
    exec (.lightRequest d) s = .next ((s.deliver (.lightRequest d)).applyLight d) := by
  refine congrArg Host.Outcome.next ?_
  rw [if_neg (by rw [show (s.deliver (.lightRequest d)).blu.quiesce = false from hq]; nofun),
    State.startIdle_active (by exact hact)]
  exact State.tryLampGrant_unasked ((State.applyLight_ask _ d).trans ha)

theorem Liu.raise_lampUnstable (l : Liu) (n : Notice) : (l.raise n).sticky.lampUnstable = l.sticky.lampUnstable := by
  obtain ⟨-, e⟩ | ⟨-, -, -, e⟩ | ⟨-, -, e⟩ := l.raise_cases n <;> rw [e]

theorem Sfe.exposesLit_none {f : Sfe} (h : f.exposing = none) : f.exposesLit = false := by
  unfold Sfe.exposesLit
  rw [h]

/-- R134: a lamp fault with no exposure in progress. -/
theorem State.lampFault_unexposed (cause : LampFault) (he : s.sfe.exposing = none) (ha : s.blu.ask = none) :
    ∃ l : Liu, s.lampFault cause = { s with
        blu := { s.blu with
          state := .fault cause, requested := 0, commanded := 0, settleCount := 0, settleTimer := none
          zeroCount := 0, lit := 0, pendingDrive := none, ask := none, grant := none, driveChanged := false }
        inFlight := s.inFlight ++ (if s.blu.grant.isSome ∨ s.sfe.wantsLight = true then [.lampFaultReport] else [])
          ++ [.backlightFault cause, .calLampFault]
        liu := l }
      ∧ l.sticky.lampUnstable = (s.liu.sticky.lampUnstable || decide (cause = .unstable)) := by
  have hreport : ∀ b : Blu, State.reportLampFault { s with blu := b } = State.emit { s with blu := b } .lampFaultReport :=
    fun b => if_neg (by rw [show ({ s with blu := b } : State).sfe.exposesLit = false from Sfe.exposesLit_none he]; nofun)
  have hasked : (s.blu.grant.isSome || s.blu.ask.isSome || s.sfe.wantsLight || s.sfe.exposesLit)
      = (s.blu.grant.isSome || s.sfe.wantsLight) := by
    rw [ha, Sfe.exposesLit_none he, Bool.or_false]
    exact congrArg (· || s.sfe.wantsLight) (Bool.or_false _)
  unfold State.lampFault
  dsimp only
  rw [hasked, hreport]
  have hor : (s.blu.grant.isSome || s.sfe.wantsLight) = true ↔ s.blu.grant.isSome ∨ s.sfe.wantsLight = true :=
    Bool.or_eq_true_iff
  by_cases hr : (s.blu.grant.isSome || s.sfe.wantsLight) = true
  · rw [if_pos hr, if_pos (hor.1 hr)]
    cases cause with
    | unstable => exact ⟨_, by simp [State.emit, State.lampNotice, State.notice, Instr.asMessage]; rfl, by simp⟩
    | noLight => exact ⟨_, by simp [State.emit, State.lampNotice, State.notice, Instr.asMessage]; rfl,
        by simp [Liu.raise_lampUnstable]⟩
  · rw [if_neg hr, if_neg (mt hor.2 hr)]
    cases cause with
    | unstable => exact ⟨_, by simp [State.emit, State.lampNotice, State.notice, Instr.asMessage]; rfl, by simp⟩
    | noLight => exact ⟨_, by simp [State.emit, State.lampNotice, State.notice, Instr.asMessage]; rfl,
        by simp [Liu.raise_lampUnstable]⟩

/-! ## The throttle -/

theorem hysteresis_eq (mark : Bool) (t : Int) (limit hyst : Nat) : hysteresis mark t limit hyst
    = if mark then decide ((limit : Int) - hyst ≤ t) else decide ((limit : Int) < t) := by
  unfold hysteresis
  rw [← decide_not]
  simp only [Int.not_lt]

/-- The drive that the throttle flag `flag` has BLU command while the lamp is lit. -/
theorem Blu.recommand_commanded {b : Blu} (h : b.state.lit = true) :
    b.recommand.commanded = if b.throttle then min b.requested 1024 else b.requested := if_pos h

/-- A throttle flag that changes nothing of the commanded drive (R132). -/
theorem Blu.recommand_same {b : Blu} {flag : Bool} {t : Int} (hl : b.driveLaw)
    (h : b.state.lit = false ∨ b.requested ≤ 1024) :
    ({ b with panelTemp := t, throttle := flag } : Blu).recommand = { b with panelTemp := t, throttle := flag } := by
  have hcom : (if b.state.lit = true then cappedDrive flag b.requested else 0) = b.commanded := by
    rw [hl]
    rcases h with h | h
    · rw [h]
      rfl
    · have hmin : ∀ c : Bool, cappedDrive c b.requested = b.requested := fun c => by
        unfold cappedDrive throttleDrive
        rw [Nat.min_eq_left h, ite_self]
      rw [hmin, hmin]
  exact congrArg (fun c => { b with panelTemp := t, throttle := flag, commanded := c }) hcom

theorem Blu.recommand_changed {b : Blu} {flag : Bool} (hl : b.driveLaw) (hlit : b.state.lit = true)
    (hr : 1024 < b.requested) (hne : flag ≠ b.throttle) :
    (if flag then min b.requested 1024 else b.requested) ≠ b.commanded
      ∧ ((if flag then min b.requested 1024 else b.requested) < b.commanded ↔ flag = true) := by
  have hcom : b.commanded = if b.throttle then min b.requested 1024 else b.requested := hl.trans (if_pos hlit)
  rw [hcom, Nat.min_eq_right (Nat.le_of_lt hr)]
  cases flag with
  | true =>
    have hthr : b.throttle = false := Bool.eq_false_iff.2 fun h => hne h.symm
    simp only [hthr, if_true, Bool.false_eq_true, if_false, iff_true]
    omega
  | false =>
    have hthr : b.throttle = true := Bool.eq_true_of_not_eq_false fun h => hne h.symm
    simp only [hthr, if_true, Bool.false_eq_true, if_false, iff_false]
    omega

theorem State.throttleChanged_warming (hs : s.blu.state = .warming) (hc : s.blu.recommand.commanded ≠ s.blu.commanded) :
    s.throttleChanged = { s with blu := { s.blu.recommand with settleCount := 0 } } := by
  unfold State.throttleChanged
  dsimp only
  rw [if_neg hc]
  split
  · rfl
  all_goals
    rename_i h
    cases hs.symm.trans h

theorem State.throttleChanged_settling (hs : s.blu.state = .settling ∨ (s.blu.state = .settled ∧ s.blu.grant = none))
    (hc : s.blu.recommand.commanded ≠ s.blu.commanded) :
    s.throttleChanged = { s with blu := s.blu.recommand.startSettling } := by
  unfold State.throttleChanged
  dsimp only
  rw [if_neg hc]
  rcases hs with hs | ⟨hs, hg⟩
  · split
    case h_2 => rfl
    all_goals
      rename_i h
      cases hs.symm.trans h
  · split
    case h_3 => exact if_neg (by rw [show s.blu.recommand.grant = none from hg]; nofun)
    all_goals
      rename_i h
      cases hs.symm.trans h

theorem State.throttleChanged_granted (hs : s.blu.state = .settled) (hg : s.blu.grant ≠ none)
    (hc : s.blu.recommand.commanded ≠ s.blu.commanded) :
    s.throttleChanged = { s with
      blu := { s.blu.recommand with driveChanged := true }
      inFlight := s.inFlight ++ if s.blu.recommand.commanded < s.blu.commanded then [Instr.lampLost] else [] } := by
  unfold State.throttleChanged
  dsimp only
  rw [if_neg hc]
  split
  case h_3 =>
    rw [if_pos (show s.blu.recommand.grant.isSome = true from Option.isSome_iff_ne_none.2 hg)]
    split
    · rfl
    · rw [List.append_nil]
  all_goals
    rename_i h
    cases hs.symm.trans h

/-- A change of the throttle flag, by what it changes of BLU and what BLU sends (R132). -/
theorem State.panelSample_changed {t : Int} {flag : Bool} {x : Blu} {out : List Instr}
    (hf : flag = hysteresis s.blu.throttle t s.liu.params.lampLimit s.liu.params.lampHyst) (hne : flag ≠ s.blu.throttle)
    (hx : State.throttleChanged { s with blu := { s.blu with panelTemp := t, throttle := flag } }
      = { s with blu := x, inFlight := s.inFlight ++ out }) (hxf : x.throttle = flag) (hxt : x.panelTemp = t) :
    s.panelSample t = { s with
      blu := x
      liu := { s.liu with sticky := { s.liu.sticky with throttleSeen := s.liu.sticky.throttleSeen || flag } }
      sfe := { s.sfe with
        exposing := s.sfe.exposing.map fun (e : Exposing) => { e with throttled := e.throttled || flag } }
      inFlight := s.inFlight ++ out }.notice (.lampState x.state flag x.commanded t) := by
  unfold State.panelSample
  dsimp only
  rw [← hf, if_neg hne, hx]
  unfold State.lampNotice
  cases flag with
  | true =>
    rw [if_pos rfl, hxf, hxt]
    simp
  | false =>
    rw [if_neg nofun, hxf, hxt]
    simp

/-- Settles O46. -/
theorem lampDrive : Obligations.LampDrive := by
  refine ⟨fun s v => ?_, fun s ha hq hact hdef => ⟨fun d => ?_, fun c cause he hc => ?_, fun htm => ?_, fun t => ?_⟩⟩
  · intro w zero near b standby putOff hz
    have hexec : exec (.monitorSample v) s = .next (s.sample v) := rfl
    refine ⟨fun hnw hns => ?_, fun goal hg => ?_⟩
    · have hgoal : settleGoal s.blu.state = none := by
        cases hs : s.blu.state with
        | warming => exact absurd hs hnw
        | settling => exact absurd hs hns
        | _ => rfl
      rw [hexec, State.sample_unsettling hgoal hz]
      have hdue : s.blu.state = .settled → ((s.blu.sampled v).standbyDue ↔ putOff) := fun hs => by
        unfold Blu.standbyDue
        rw [Blu.sampled_lit (by rw [hs]; rfl)]
        exact ⟨fun ⟨h1, _, h3, h4⟩ => ⟨h1, h3, h4⟩, fun ⟨h1, h3, h4⟩ => ⟨h1, hs, h3, h4⟩⟩
      refine ⟨fun hn => congrArg Host.Outcome.next (State.tryStandby_undue fun h => ?_),
        fun hs hp => congrArg Host.Outcome.next (State.tryStandby_due ((hdue hs).2 hp))⟩
      have hs : s.blu.state = .settled := h.2.1
      exact hn.elim (fun hn => hn hs) fun hn => hn ((hdue hs).1 h)
    · intro rest
      have hgoal : settleGoal s.blu.state = some goal ∧ s.blu.state.lit = true := by
        rcases hg with ⟨hs, rfl⟩ | ⟨hs, rfl⟩ <;> rw [hs] <;> exact ⟨rfl, rfl⟩
      obtain ⟨hgoal, hlit⟩ := hgoal
      have hpos : 0 < goal := by rcases hg with ⟨-, rfl⟩ | ⟨-, rfl⟩ <;> decide
      rw [hexec, State.sample_settling hgoal (settleAfter_eq _ _ v _).symm hz]
      have hdue : ({ s.blu.sampled v with state := .settled, settleTimer := none, settleCount := 0 } : Blu).standbyDue
          ↔ putOff := by
        unfold Blu.standbyDue
        rw [show ({ s.blu.sampled v with state := .settled, settleTimer := none, settleCount := 0 } : Blu).lit
          = s.blu.lit + 1 from Blu.sampled_lit hlit v]
        exact ⟨fun ⟨h1, _, h3, h4⟩ => ⟨h1, h3, h4⟩, fun ⟨h1, h3, h4⟩ => ⟨h1, rfl, h3, h4⟩⟩
      refine ⟨fun hn => ?_, fun hn hlt => ?_, fun hn hle => ?_⟩
      · rw [if_neg hn, if_neg (Nat.not_le.2 hpos)]
        rfl
      · rw [if_pos hn, if_neg (Nat.not_le.2 hlt)]
        rfl
      · rw [if_pos hn, if_pos hle]
        refine ⟨fun a ha hc => congrArg Host.Outcome.next (State.settleComplete_grants (a := a) ha hc),
          fun ha => ⟨fun hp => ?_, fun hp => ?_⟩⟩
        · rw [State.settleComplete_unasked (by exact ha), State.tryStandby_undue (mt hdue.1 hp)]
          rfl
        · rw [State.settleComplete_unasked (by exact ha), State.tryStandby_due (hdue.2 hp)]
          rfl
  · intro out
    rw [exec_lightRequest ha hq hact]
    unfold State.applyLight
    refine ⟨fun hs => ?_, fun hs hne => ?_, fun hs hne => ?_, fun hs heq => ?_, fun hs hne => ⟨fun hg => ?_,
      fun hg hcap => ?_, fun hg hcap => ?_⟩, fun hs => ?_, fun f hs => ?_⟩
    · rw [show (s.deliver (.lightRequest d)).blu.state = _ from hs]
      rfl
    · rw [show (s.deliver (.lightRequest d)).blu.state = _ from hs]
      dsimp only
      rw [if_neg (by exact hne)]
      simp [Blu.recommand, hs, LampState.lit, Blu.capped_eq, State.deliver, Instr.asMessage]
      rfl
    · rw [show (s.deliver (.lightRequest d)).blu.state = _ from hs]
      dsimp only
      rw [if_neg (by exact hne)]
      exact congrArg (fun st => Host.Outcome.next ({ s with
        blu := { s.blu with
          state := st, requested := d, commanded := s.blu.capped d, settleCount := 0, settleTimer := some 2000 }
        inFlight := out } : State)) hs.symm
    · rcases hs with hs | hs | hs <;> rw [show (s.deliver (.lightRequest d)).blu.state = _ from hs]
      · exact congrArg Host.Outcome.next (if_pos heq)
      · exact congrArg Host.Outcome.next (if_pos heq)
      · exact congrArg Host.Outcome.next (if_pos heq)
    · rw [show (s.deliver (.lightRequest d)).blu.state = _ from hs]
      dsimp only
      rw [if_neg (by exact hne), if_pos (by exact Option.isSome_iff_ne_none.2 hg)]
      rfl
    · rw [show (s.deliver (.lightRequest d)).blu.state = _ from hs]
      dsimp only
      rw [if_neg (by exact hne), if_neg (by rw [show (s.deliver _).blu.grant = none from hg]; nofun),
        if_pos (by exact hcap)]
      rfl
    · rw [show (s.deliver (.lightRequest d)).blu.state = _ from hs]
      dsimp only
      rw [if_neg (by exact hne), if_neg (by rw [show (s.deliver _).blu.grant = none from hg]; nofun),
        if_neg (by exact hcap)]
      rfl
    · rw [show (s.deliver (.lightRequest d)).blu.state = _ from hs]
      rfl
    · rw [show (s.deliver (.lightRequest d)).blu.state = _ from hs]
      simp [State.emit, State.deliver, Instr.asMessage]
      rfl
  · obtain ⟨l, hfault, hstick⟩ := State.lampFault_unexposed cause he ha
    rcases hc with ⟨rfl, rfl, hlit, hcom, hz⟩ | ⟨rfl, rfl, htm⟩
    · obtain ⟨l, hfault, hstick⟩ := State.lampFault_unexposed (s := { s with blu := s.blu.takeSample 0 }) .noLight he ha
      have hexec : exec (.monitorSample 0) s = .next (State.lampFault { s with blu := s.blu.takeSample 0 } .noLight) := by
        refine congrArg Host.Outcome.next ?_
        unfold State.sample
        simp [Blu.takeSample, hlit, hcom, hz]
      exact ⟨_, hexec.trans (congrArg Host.Outcome.next hfault), rfl, hstick, rfl, rfl, rfl, rfl, rfl, rfl, rfl, rfl, rfl⟩
    · exact ⟨_, (congrArg Host.Outcome.next (if_pos (Option.isSome_iff_ne_none.2 htm))).trans
        (congrArg Host.Outcome.next hfault), rfl, hstick, rfl, rfl, rfl, rfl, rfl, rfl, rfl, rfl, rfl⟩
  · exact congrArg Host.Outcome.next (if_neg (by rw [htm]; nofun))
  · intro flag
    have hflag : flag = hysteresis s.blu.throttle t s.liu.params.lampLimit s.liu.params.lampHyst :=
      (hysteresis_eq _ _ _ _).symm
    clear_value flag
    refine ⟨fun hsame => congrArg Host.Outcome.next ?_, fun hne hlaw => ?_⟩
    · show s.panelSample t = _
      unfold State.panelSample
      dsimp only
      rw [← hflag, if_pos hsame, hsame]
    · intro b drive told
      have htold : ∀ x : Blu, ∀ out : List Instr, State.throttleChanged { s with blu := b }
          = { s with blu := x, inFlight := s.inFlight ++ out } → x.throttle = flag → x.panelTemp = t →
          exec (.panelTempSample t) s = .next (told x out) := fun x out hx hxf hxt =>
        congrArg Host.Outcome.next (State.panelSample_changed hflag hne hx hxf hxt)
      refine ⟨fun h => ?_, fun hr => ⟨fun hs => ?_, fun hs => ?_, fun hs hg => ?_⟩⟩
      · refine htold b [] ?_ rfl rfl
        unfold State.throttleChanged
        dsimp only
        rw [show b.recommand = b from Blu.recommand_same hlaw h, if_pos rfl, List.append_nil]
      · have hlit : s.blu.state.lit = true := by rw [hs]; rfl
        obtain ⟨hch, -⟩ := Blu.recommand_changed hlaw hlit hr hne
        have hcom : b.recommand.commanded = drive := Blu.recommand_commanded hlit
        refine htold { b with commanded := drive, settleCount := 0 } [] ?_ rfl rfl
        rw [State.throttleChanged_warming (by exact hs) (by rw [show Blu.commanded _ = drive from hcom]; exact hch),
          List.append_nil, ← hcom]
        rfl
      · have hlit : s.blu.state.lit = true := by rcases hs with hs | ⟨hs, -⟩ <;> rw [hs] <;> rfl
        obtain ⟨hch, -⟩ := Blu.recommand_changed hlaw hlit hr hne
        have hcom : b.recommand.commanded = drive := Blu.recommand_commanded hlit
        refine htold { b with state := .settling, commanded := drive, settleCount := 0, settleTimer := some 2000 } [] ?_ rfl rfl
        rw [State.throttleChanged_settling (by exact hs) (by rw [show Blu.commanded _ = drive from hcom]; exact hch),
          List.append_nil]
        rfl
      · have hlit : s.blu.state.lit = true := by rw [hs]; rfl
        obtain ⟨hch, hless⟩ := Blu.recommand_changed hlaw hlit hr hne
        have hcom : b.recommand.commanded = drive := Blu.recommand_commanded hlit
        refine htold { b with commanded := drive, driveChanged := true } _ ?_ rfl rfl
        rw [State.throttleChanged_granted (by exact hs) (by exact hg)
          (by rw [show Blu.commanded _ = drive from hcom]; exact hch), ← hcom]
        refine congrArg (fun l => ({ s with
          blu := { b.recommand with driveChanged := true }, inFlight := s.inFlight ++ l } : State)) ?_
        refine if_congr ?_ rfl rfl
        rw [show Blu.commanded _ = drive from hcom]
        exact hless

end Sys2Proof.Machine
end

section
/-! PROOFS. BLU: lamp ready, the drive put off, the measured intensity, the dark hold, FAULT and standby (R130, R131, R133
to R135). -/

namespace Sys2Proof.Machine

variable {s t : State}

/-! ## The ask and the release -/

theorem State.lampAsk_waits {a : LampAsk} (hg : s.blu.grant = none)
    (h : a.cond = .dark ∨ ∀ f, s.blu.state ≠ .fault f) :
    s.lampAsk a = State.tryLampGrant { s with blu := { s.blu with ask := some a } } := by
  unfold State.lampAsk
  rw [hg]
  dsimp only
  split
  · next f d hs hc =>
    rcases h with h | h
    · cases h.symm.trans hc
    · exact absurd hs (h f)
  · rfl

theorem State.lampAsk_grants {a : LampAsk} (hg : s.blu.grant = none) (hr : s.blu.ready a.cond = true) :
    s.lampAsk a = { s with
      blu := { s.blu with ask := none, grant := some a, driveChanged := false }
      inFlight := s.inFlight ++ [.lampReadyGrant] } := by
  have hquiet : a.cond = .dark ∨ ∀ f, s.blu.state ≠ .fault f := by
    cases hc : a.cond with
    | dark => exact .inl rfl
    | settled d =>
      refine .inr fun f hf => ?_
      simp [hc, Blu.ready, hf] at hr
  rw [State.lampAsk_waits hg hquiet]
  exact State.tryLampGrant_grants (a := a) rfl hr

theorem State.lampAsk_holds {a : LampAsk} (hg : s.blu.grant = none) (h : a.cond = .dark ∨ ∀ f, s.blu.state ≠ .fault f)
    (hr : s.blu.ready a.cond = false) : s.lampAsk a = { s with blu := { s.blu with ask := some a } } := by
  rw [State.lampAsk_waits hg h]
  refine State.tryLampGrant_unready fun b hb => ?_
  rw [← Option.some.inj hb]
  exact hr

theorem State.lampRelease_of_settled {a : LampAsk} {d : Nat} (hg : s.blu.grant = some a) (hc : a.cond = .settled d) (n : Nat) :
    (s.lampRelease n).1 = State.afterGrant { s with
      freeCount := s.freeCount + 1, blu := { s.blu with grant := none } } := by
  unfold State.lampRelease State.endGrant
  rw [hg]
  dsimp only
  rw [hc]

theorem Blu.undeferred {b : Blu} (h : b.deferred = false) : ¬ b.standbyDue := fun hd => by
  rw [Blu.standbyDue, h] at hd
  cases hd.1

theorem State.afterGrant_undriven (hs : s.blu.state = .settled) (hd : s.blu.deferred = false) (hp : s.blu.pendingDrive = none) :
    s.afterGrant = { s with
      blu := if s.blu.driveChanged then { s.blu with driveChanged := false }.startSettling
        else { s.blu with driveChanged := false } } := by
  unfold State.afterGrant
  dsimp only
  rw [hp]
  dsimp only
  cases s.blu.driveChanged with
  | true =>
    rw [if_pos (by rw [hs]; rfl), if_pos rfl]
    exact State.tryStandby_undue (Blu.undeferred hd)
  | false =>
    rw [Bool.false_and, if_neg nofun, if_neg nofun]
    exact State.tryStandby_undue (Blu.undeferred hd)

theorem State.afterGrant_driven {x : Nat} (hp : s.blu.pendingDrive = some x) : s.afterGrant = State.tryStandby
    (if s.blu.quiesce then { s with blu := { s.blu with pendingDrive := none, driveChanged := false } }
      else State.applyLight { s with blu := { s.blu with pendingDrive := none, driveChanged := false } } x) := by
  unfold State.afterGrant
  dsimp only
  rw [hp]

theorem State.applyLight_settled {d : Nat} (hs : s.blu.state = .settled) (hg : s.blu.grant = none) :
    s.applyLight d = if s.blu.requested = d then s
      else if s.blu.capped d = s.blu.commanded then { s with blu := { s.blu with requested := d } }
      else { s with blu := { s.blu with
        state := .settling, requested := d, commanded := s.blu.capped d, settleCount := 0, settleTimer := some 2000 } } := by
  unfold State.applyLight
  rw [hs]
  dsimp only
  rw [hg, if_neg (show ¬ (none : Option LampAsk).isSome = true from nofun), Blu.capped_eq]
  rfl

/-! ## The measured intensity -/

theorem windowSamples_eq (h : List (Nat × Nat)) (now t : Nat) :
    windowSamples h now t = (h.filter fun p => decide (now < p.1 + t ∧ p.1 ≤ now)).map (·.2) := by
  unfold windowSamples
  simp only [Bool.decide_and]

/-! ## The dark hold -/

/-- BLU in the dark hold, but for its ask, its grant and the fault remembered. -/
def Blu.darkened (b : Blu) : Blu := { b with
  state := .dark, commanded := 0, settleCount := 0, settleTimer := none, zeroCount := 0, lit := 0
  driveChanged := false, grant := none }

theorem LampState.faultCause_none {x : LampState} (h : ∀ f, x ≠ .fault f) : x.faultCause = none := by
  cases x with
  | fault f => exact absurd rfl (h f)
  | _ => rfl

theorem State.enterDark_unfaulted (h : ∀ f, s.blu.state ≠ .fault f) : s.enterDark = State.tryLampGrant { s with
    blu := s.blu.darkened
    inFlight := s.inFlight ++ if s.blu.grant.isSome then [Instr.lampLost] else [] } := by
  unfold State.enterDark
  dsimp only
  rw [LampState.faultCause_none h]
  cases hg : s.blu.grant with
  | none =>
    simp only [Option.isSome_none, Bool.false_eq_true, if_false, List.append_nil]
    rfl
  | some a => rfl

theorem State.enterDark_faulted {f : LampFault} (h : s.blu.state = .fault f) (hg : s.blu.grant = none) :
    s.enterDark = State.tryLampGrant ({ s with blu := { s.blu.darkened with remembered := some f } }.notice
      (.lampState .dark s.blu.throttle 0 s.blu.panelTemp)) := by
  unfold State.enterDark
  dsimp only
  rw [h, hg]
  rfl

theorem Blu.ready_dark {b : Blu} (hs : b.state = .dark) {c : LampCond} (hc : c ≠ .dark) : b.ready c = false := by
  cases c with
  | dark => exact absurd rfl hc
  | settled d =>
    unfold Blu.ready
    rw [hs]
    rfl

theorem State.enterDark_unasked (h : ∀ f, s.blu.state ≠ .fault f) (ha : ∀ a, s.blu.ask = some a → a.cond ≠ .dark) :
    s.enterDark = { s with
      blu := s.blu.darkened
      inFlight := s.inFlight ++ if s.blu.grant.isSome then [Instr.lampLost] else [] } :=
  (State.enterDark_unfaulted h).trans (State.tryLampGrant_unready fun a hask => Blu.ready_dark rfl (ha a hask))

theorem State.enterDark_asked {a : LampAsk} (h : ∀ f, s.blu.state ≠ .fault f) (hg : s.blu.grant = none)
    (ha : s.blu.ask = some a) (hc : a.cond = .dark) : s.enterDark = { s with
      blu := { s.blu.darkened with ask := none, grant := some a }
      inFlight := s.inFlight ++ [.lampReadyGrant] } := by
  rw [State.enterDark_unfaulted h, hg, if_neg nofun, List.append_nil]
  exact State.tryLampGrant_grants ha (by rw [hc]; rfl)

theorem exec_darkHold (hs : s.blu.state ≠ .dark) (he : ∀ e, s.sfe.exposing = some e → e.req.lamp = .dark) :
    exec .darkHold s = .next (s.deliver .darkHold).enterDark := by
  refine congrArg Host.Outcome.next ?_
  unfold State.darkHold
  rw [if_neg (by exact hs)]
  exact State.cutLit_none _ (by rw [(State.enterDark_frame (s.deliver .darkHold)).2.2.2.1]; exact he)

theorem exec_darkHoldRelease (hs : s.blu.state = .dark) (he : ∀ e, s.sfe.exposing = some e → e.req.lamp ≠ .dark) :
    exec .darkHoldRelease s = .next (s.deliver .darkHoldRelease).leaveDark := by
  refine congrArg Host.Outcome.next ?_
  unfold State.darkRelease
  rw [if_neg (by exact fun h => h hs)]
  exact State.cutDark_none _ (by rw [(State.leaveDark_frame (s.deliver .darkHoldRelease)).2.2.2.1]; exact he)

/-- Settles O47. -/
theorem lampReady : Obligations.LampReady := by
  intro s
  refine ⟨fun t hg => ?_, fun since hg => ?_, fun since a d hg hc hs hd hp => ⟨?_, ?_⟩, fun since a d x hg hc hs hd hp => ?_,
    fun h now t free inside hin => ⟨fun hne => ?_, fun p hnil hf => ?_⟩, fun hs => ?_, fun hs he => ?_, fun hs => ?_,
    fun f hs hr he => ?_, fun hs hr he => ⟨fun hp => ?_, fun d hp => ?_⟩, fun f hs => ?_, fun hnf => ?_,
    fun c x hc => ?_⟩
  · intro ask
    refine ⟨fun d hs hr => ?_, fun hs => ?_, fun d hnf hor => ?_, fun d f hs => ?_⟩
    · refine congrArg Host.Outcome.next (State.lampAsk_grants (by exact hg) ?_)
      exact (Blu.ready_settled (by exact hs)).trans (decide_eq_true hr)
    · exact congrArg Host.Outcome.next (State.lampAsk_grants (by exact hg) (by exact decide_eq_true hs))
    · refine congrArg Host.Outcome.next (State.lampAsk_holds (by exact hg) (.inr hnf) ?_)
      show (decide (s.blu.state = .settled) && decide (s.blu.requested = d)) = false
      rcases hor with h | h
      · rw [decide_eq_false h, Bool.false_and]
      · rw [decide_eq_false h, Bool.and_false]
    · refine congrArg Host.Outcome.next ?_
      unfold State.lampAsk
      rw [show (s.deliver _).blu.grant = none from hg]
      dsimp only
      split
      · rfl
      · next hno => exact absurd rfl (hno f d hs)
  · exact congrArg Host.Outcome.next (State.lampRelease_ungranted (by exact hg) since)
  · unfold State.lampRelease
    rw [hg]
    dsimp only
    rw [hc]
  · refine congrArg Host.Outcome.next ((State.lampRelease_of_settled (by exact hg) hc since).trans
      ((State.afterGrant_undriven (by exact hs) (by exact hd) (by exact hp)).trans ?_))
    refine congrArg (fun b => ({ s with
      blu := b, freeCount := s.freeCount + 1, inFlight := s.inFlight.erase (.lampReadyRelease since) } : State)) ?_
    exact if_congr Iff.rfl rfl rfl
  · intro done left
    obtain ⟨v, hv⟩ : ∃ v : State, v = left done := ⟨_, rfl⟩
    have hdue : ∀ b : Blu, b.deferred = s.blu.deferred → State.tryStandby { v with blu := b } = { v with blu := b } :=
      fun b hb => State.tryStandby_undue (Blu.undeferred (hb.trans hd))
    have hexec : exec (.lampReadyRelease since) s
        = .next (State.tryStandby (if s.blu.quiesce then v else v.applyLight x)) := by
      rw [hv]
      exact congrArg Host.Outcome.next ((State.lampRelease_of_settled (by exact hg) hc since).trans
        (State.afterGrant_driven (by exact hp)))
    have hlight : v.applyLight x = if s.blu.requested = x then v
        else if s.blu.capped x = s.blu.commanded then { v with blu := { v.blu with requested := x } }
        else { v with blu := { v.blu with
          state := .settling, requested := x, commanded := s.blu.capped x, settleCount := 0, settleTimer := some 2000 } } := by
      rw [hv]
      exact State.applyLight_settled hs rfl
    have hself : v.tryStandby = v := by
      have := hdue v.blu (by rw [hv])
      exact this
    refine ⟨fun hq => ?_, fun hq hne => ⟨fun hcap => ?_, fun hcap => ?_⟩⟩
    · rw [hexec, ← hv]
      refine congrArg Host.Outcome.next ?_
      rcases hq with hq | hq
      · rw [hq, if_pos rfl, hself]
      · rw [hlight, if_pos hq.symm, ite_self, hself]
    · rw [hexec, if_neg (by rw [hq]; nofun), hlight, if_neg (Ne.symm hne), if_pos hcap, hdue _ (by rw [hv]), hv]
    · rw [hexec, if_neg (by rw [hq]; nofun), hlight, if_neg (Ne.symm hne), if_neg hcap, hdue _ (by rw [hv]), hv]
  · unfold measuredIntensity windowIntensity
    rw [windowSamples_eq, ← hin]
    cases inside with
    | nil => exact absurd rfl hne
    | cons x l => rfl
  · unfold measuredIntensity windowIntensity sampleBefore
    rw [windowSamples_eq, ← hin, hnil]
    dsimp only
    rw [hf]
    rfl
  · exact congrArg Host.Outcome.next (if_pos (by exact hs))
  · intro dark out
    rw [exec_darkHold hs he]
    refine ⟨fun hna => ⟨fun hnf => ⟨fun hg => ?_, fun hg => ?_⟩, fun f hf hg => ?_⟩, fun t ha hg hnf => ?_⟩
    · rw [State.enterDark_unasked (by exact hnf) (by exact hna), show (s.deliver .darkHold).blu.grant = none from hg]
      exact congrArg (fun l => Host.Outcome.next ({ s with blu := dark, inFlight := l } : State)) (List.append_nil out)
    · rw [State.enterDark_unasked (by exact hnf) (by exact hna), if_pos (Option.isSome_iff_ne_none.2 (by exact hg))]
      rfl
    · rw [State.enterDark_faulted (by exact hf) (by exact hg)]
      exact congrArg Host.Outcome.next (State.tryLampGrant_unready fun a ha => Blu.ready_dark rfl (hna a ha))
    · rw [State.enterDark_asked (a := { cond := .dark, time := t }) (by exact hnf) (by exact hg) (by exact ha) rfl]
      rfl
  · exact congrArg Host.Outcome.next (if_pos (by exact hs))
  · rw [exec_darkHoldRelease hs he]
    unfold State.leaveDark
    rw [show (s.deliver .darkHoldRelease).blu.remembered = some f from hr]
    rfl
  · rw [exec_darkHoldRelease hs he]
    unfold State.leaveDark
    rw [show (s.deliver .darkHoldRelease).blu.remembered = none from hr,
      show (s.deliver .darkHoldRelease).blu.pendingDrive = none from hp]
    rfl
  · rw [exec_darkHoldRelease hs he]
    unfold State.leaveDark
    rw [show (s.deliver .darkHoldRelease).blu.remembered = none from hr,
      show (s.deliver .darkHoldRelease).blu.pendingDrive = some d from hp]
    rfl
  · refine congrArg Host.Outcome.next ?_
    unfold State.leaveFault
    rw [show (s.deliver .leaveFault).blu.state = .fault f from hs]
    rfl
  · refine congrArg Host.Outcome.next ?_
    unfold State.leaveFault
    split
    · next f h => exact absurd h (hnf f)
    · rfl
  · have hexec : exec c s = .next (State.tryStandby { s with blu := { s.blu with idleTimer := none, deferred := true } })
        ∨ s.blu.state.lit = false := by
      rcases hc with ⟨rfl, hi⟩ | ⟨rfl, hd, hi⟩
      · by_cases hl : s.blu.state.lit = true
        · refine .inl (congrArg Host.Outcome.next ?_)
          rw [hi]
          exact if_pos hl
        · exact .inr (Bool.eq_false_iff.2 hl)
      · refine .inl (congrArg (fun b => Host.Outcome.next (State.tryStandby { s with blu := b })) ?_)
        rw [← hd, ← hi]
    refine ⟨fun hs hlit hg => ?_, fun hs => ?_⟩
    · rw [hexec.resolve_right (by rw [hs]; nofun)]
      exact congrArg Host.Outcome.next (State.tryStandby_due ⟨rfl, hs, hlit, hg⟩)
    · rw [hexec.resolve_right (by rcases hs with hs | hs | ⟨hs, -⟩ <;> rw [hs] <;> nofun)]
      refine congrArg Host.Outcome.next (State.tryStandby_undue fun hdue => ?_)
      obtain ⟨-, hst, hlit, hg⟩ := hdue
      rcases hs with hs | hs | ⟨-, hs⟩
      · cases hs.symm.trans hst
      · cases hs.symm.trans hst
      · exact hs.elim (fun h => absurd hlit (Nat.not_le.2 h)) (fun h => h hg)

end Sys2Proof.Machine
end

section
/-! PROOFS. TRS: loads, moves, unloads and the stage interlock (R139 to R143). -/

namespace Sys2Proof.Machine

variable {s t : State}

/-! ## What is shared by the motions -/

theorem State.tryInterlock_unasked (h : s.trs.interlock.waits = false) : s.tryInterlock = s :=
  if_neg (by rw [h]; nofun)

theorem State.trsSettled_eq_self (h : s.trs.quiesce = false) : s.trsSettled = s :=
  if_neg (by rw [h]; nofun)

/-- A motion begins where none is pending. -/
theorem State.beginMotion_unpended (w : TrsWork) (hp : s.trs.pendingMotion = none) : s.beginMotion w = { s with
    trs := { s.trs with
      state := (s.trs.begin w 0).state, work := some w, motionTimer := some s.liu.params.motionTimeoutMs } } :=
  congrArg (fun p => ({ s with trs := { s.trs with
    state := (s.trs.begin w 0).state, work := some w, motionTimer := some s.liu.params.motionTimeoutMs
    pendingMotion := p } } : State)) hp.symm

theorem Interlock.unheld {i : Interlock} (h : i = .none ∨ i = .asked) : i.held = false := by
  rcases h with rfl | rfl <;> rfl

theorem Interlock.held_of {i : Interlock} (h : i = .granted ∨ i = .grantedAsked) : i.held = true := by
  rcases h with rfl | rfl <;> rfl

theorem State.motionAtRest_begins (w : TrsWork) (hp : s.trs.pendingMotion = none)
    (hi : s.trs.interlock = .none ∨ s.trs.interlock = .asked) : s.motionAtRest w = s.beginMotion w := by
  unfold State.motionAtRest
  rw [hp, if_neg nofun, Interlock.unheld hi, if_neg nofun]

theorem State.motionAtRest_pends (w : TrsWork) (hp : s.trs.pendingMotion = none)
    (hi : s.trs.interlock = .granted ∨ s.trs.interlock = .grantedAsked) :
    s.motionAtRest w = { s with trs := { s.trs with pendingMotion := some w } } := by
  unfold State.motionAtRest
  rw [hp, if_neg nofun, Interlock.held_of hi, if_pos rfl]

theorem State.motionAtRest_refused (w : TrsWork) {x : TrsWork} (hp : s.trs.pendingMotion = some x) :
    s.motionAtRest w = s.trsRefuse w.client := by
  unfold State.motionAtRest
  rw [hp]
  exact if_pos rfl

theorem State.takeMove_rest (c : TrsClient) (g : StageTarget) (hq : s.trs.quiesce = false) (hs : s.trs.state = .atRest) :
    s.takeMove c g = s.motionAtRest (.move c g) := by
  unfold State.takeMove
  rw [hq, if_neg nofun, if_pos hs]

theorem State.takeMove_refused (c : TrsClient) (g : StageTarget) (hs : s.trs.state ≠ .atRest) :
    s.takeMove c g = s.trsRefuse c := by
  unfold State.takeMove
  rw [if_neg hs, ite_self]

theorem State.takeUnload_rest {p : Nat} (c : TrsClient) (seen : Bool) (hq : s.trs.quiesce = false)
    (hs : s.trs.state = .atRest) (hst : s.trs.stage = .carrier p) : s.takeUnload c seen = s.motionAtRest (.unload c) := by
  unfold State.takeUnload
  rw [hq, if_neg nofun, hs, hst]
  rfl

theorem State.takeUnload_fault {p : Nat} (c : TrsClient) (hq : s.trs.quiesce = false)
    (hs : s.trs.state = .fault .timeout) (hst : s.trs.stage = .carrier p) :
    s.takeUnload c true = (s.beginMotion (.unload c)).transportNotice false := by
  unfold State.takeUnload
  rw [hq, if_neg nofun, hs]
  dsimp only
  rw [hst]
  rfl

theorem State.takeUnload_unknown {f : TrsFault} (c : TrsClient) (seen : Bool) (hs : s.trs.state = .fault f)
    (hst : ∀ p, s.trs.stage ≠ .carrier p) : s.takeUnload c seen = s.trsRefuse c := by
  have hknown : s.trs.stage.known = false := by
    cases h : s.trs.stage with
    | carrier p => exact absurd h (hst p)
    | _ => rfl
  unfold State.takeUnload
  rw [hs]
  split
  · rfl
  · cases f with
    | timeout =>
      dsimp only
      rw [hknown, Bool.false_and, if_neg nofun]
    | _ => rfl

theorem State.takeLoad_empty {p : Nat} (c : TrsClient) (hq : s.trs.quiesce = false) (hs : s.trs.state = .empty) (hp : p < 20) :
    s.takeLoad c p = if s.trs.magazine[p]? = some .vacant then
        s.emit (match c with | .prc => .noCarrier | .cru => .calTransportFault .noCarrier)
      else s.beginMotion (.load c p) := by
  have hget : s.trs.magazine[p]? = some s.trs.magazine[p] := Vector.getElem?_eq_getElem hp
  unfold State.takeLoad
  rw [hq, if_neg nofun, hs]
  dsimp only
  rw [hget]
  refine (if_congr (Option.some_inj (a := s.trs.magazine[p])).symm ?_ rfl)
  cases c <;> rfl

/-! ## What a fault of TRS does where no exposure in progress has the stage -/

theorem State.endInterlock_unexposed (h : s.trs.interlock = .none ∨ s.sfe.exposing = none) : s.endInterlock = { s with
    trs := { s.trs with interlock := .none }
    inFlight := s.inFlight ++ if s.trs.interlock = Interlock.none then [] else [Instr.stageFaultReport] } := by
  unfold State.endInterlock
  have hexp : s.sfe.exposing = none → s.sfe.exposesStage = false := fun he => by
    unfold Sfe.exposesStage
    rw [he]
  cases hi : s.trs.interlock with
  | none =>
    dsimp only
    rw [if_pos rfl, List.append_nil, ← hi]
  | asked => rfl
  | granted =>
    dsimp only
    rw [if_neg (by rw [hexp (h.resolve_left (by rw [hi]; nofun))]; nofun)]
    rfl
  | grantedAsked =>
    dsimp only
    rw [if_neg (by rw [hexp (h.resolve_left (by rw [hi]; nofun))]; nofun)]
    rfl

theorem Trs.settleRecord_kept (t : Trs) (cause : TrsFault) (seen : Bool) :
    t.settleRecord cause seen = { t with
      stage := (t.settleRecord cause seen).stage, magazine := (t.settleRecord cause seen).magazine } := by
  unfold Trs.settleRecord Trs.setEntry
  cases cause with
  | lostCarrier => cases t.stage <;> rfl
  | _ =>
    dsimp only
    split
    · split <;> rfl
    · rfl

theorem State.emit_ite (b : Bool) (c : Instr) : (if b = true then s.emit c else s)
    = { s with inFlight := s.inFlight ++ if b then [c.asMessage] else [] } := by
  cases b with
  | true => rfl
  | false =>
    rw [if_neg nofun, if_neg nofun, List.append_nil]

/-- A fault of TRS with no exposure in progress on the stage (R143). -/
theorem State.trsFault_unexposed (h : s.trs.interlock = .none ∨ s.sfe.exposing = none) (hq : s.trs.quiesce = false)
    (cause : TrsFault) (seen : Bool) : s.trsFault cause seen = { s with
      trs := { s.trs.settleRecord cause seen with
        state := .fault cause, pos := .unknown, motionTimer := none, settleTimer := none, work := none
        pendingMotion := none, heldLoad := none, interlock := .none }
      inFlight := s.inFlight ++ (if s.trs.interlock = Interlock.none then [] else [Instr.stageFaultReport])
        ++ (if s.faultToPrc then [Instr.transportFault] else [])
        ++ (if s.faultToCru then [Instr.calTransportFault .fault] else []) }.notice
          (.transportState (.fault cause) s.trs.homed (s.trs.settleRecord cause seen).stage none) := by
  obtain ⟨k, hk⟩ : ∃ k : Trs, k = s.trs.settleRecord cause seen := ⟨_, rfl⟩
  have hkept := Trs.settleRecord_kept s.trs cause seen
  rw [← hk] at hkept
  have hki : k.interlock = s.trs.interlock := by rw [hkept]
  have hkq : k.quiesce = false := by rw [hkept]; exact hq
  have hkh : k.homed = s.trs.homed := by rw [hkept]
  unfold State.trsFault
  dsimp only
  rw [← hk, State.endInterlock_unexposed (by rw [hki]; exact h), hki]
  rw [State.emit_ite, State.emit_ite, ← hkh]
  exact if_neg (by rw [show Trs.quiesce _ = k.quiesce from rfl, hkq]; exact Bool.false_ne_true)

/-! ## The ends of the legs -/

theorem State.reportLoad_eq (s : State) (c : TrsClient) :
    s.reportLoad c = { s with inFlight := s.inFlight ++ [c.report .loadComplete .flatLoadComplete] } := by cases c <;> rfl

theorem State.reportSettle_eq (s : State) (c : TrsClient) :
    s.reportSettle c = { s with inFlight := s.inFlight ++ [c.report .settleCompletion .flatSettleComplete] } := by
  cases c <;> rfl

theorem State.reportUnload_eq (s : State) (c : TrsClient) :
    s.reportUnload c = { s with inFlight := s.inFlight ++ [c.report .unloadComplete .flatUnloadComplete] } := by
  cases c <;> rfl

theorem Interlock.waits_none {i : Interlock} (h : i = .none) : i.waits = false := by
  rw [h]
  rfl

theorem State.settleDone_unasked (c : TrsClient) (hq : s.trs.quiesce = false) (hi : s.trs.interlock = .none) :
    s.settleDone c = { s with
      trs := { s.trs with state := .atRest, motionTimer := none, settleTimer := none, work := none }
      inFlight := s.inFlight ++ [c.report .settleCompletion .flatSettleComplete] } := by
  unfold State.settleDone
  dsimp only
  rw [State.reportSettle_eq, State.tryInterlock_unasked (Interlock.waits_none (by exact hi))]
  exact State.trsSettled_eq_self (by exact hq)

/-- Where the stage is when it has moved to a target. -/
def StageTarget.reached (g : StageTarget) : StagePos :=
  match g with
  | .point x y => .point x y
  | .aperture => .aperture

theorem State.moveLegDone_moving {c : TrsClient} {g : StageTarget} (hs : s.trs.state = .moving)
    (hw : s.trs.work = some (.move c g)) : s.moveLegDone
      = if s.liu.params.settleMs = 0 then State.settleDone { s with trs := { s.trs with
          state := .settling, pos := g.reached, motionTimer := none, settleTimer := some s.liu.params.settleMs } } c
        else { s with trs := { s.trs with
          state := .settling, pos := g.reached, motionTimer := none, settleTimer := some s.liu.params.settleMs } } := by
  unfold State.moveLegDone
  rw [hs, hw]
  cases g <;> rfl

theorem State.unloadLegDone_unloading {c : TrsClient} {p : Nat} (hs : s.trs.state = .unloading)
    (hw : s.trs.work = some (.unload c)) (hst : s.trs.stage = .carrier p) (hi : s.trs.interlock = .none)
    (hq : s.trs.quiesce = false) : s.unloadLegDone = { s with
      trs := { s.trs with
        state := .empty, stage := .none, pos := .transfer, motionTimer := none, work := none
        magazine := s.trs.magazine.setIfInBounds p .present }
      inFlight := s.inFlight ++ [c.report .unloadComplete .flatUnloadComplete] }.notice
        (.transportState .empty s.trs.homed .none none) := by
  have hback : s.trs.returnCarrier = { s.trs with magazine := s.trs.magazine.setIfInBounds p .present, stage := .none } := by
    unfold Trs.returnCarrier
    rw [hst]
    rfl
  unfold State.unloadLegDone
  rw [hs, hw]
  dsimp only
  rw [hback, State.reportUnload_eq]
  unfold State.endInterlock
  dsimp only [Trs.endLeg]
  rw [hi]
  exact State.trsSettled_eq_self (by exact hq)

theorem exec_interlockAsk (h : s.trs.state = .loading ∨ s.trs.state = .atRest ∨ s.trs.state = .moving
    ∨ s.trs.state = .settling ∨ s.trs.state = .unloading) :
    exec .interlockAsk s = .next (s.deliver .interlockAsk).interlockAsked := by
  refine congrArg Host.Outcome.next ?_
  rcases h with h | h | h | h | h <;> simp only [State.deliver_frame, h]

theorem Interlock.withAsk_unheld {i : Interlock} (h : i = .none ∨ i = .asked) : i.withAsk = .asked := by
  rcases h with rfl | rfl <;> rfl

theorem Interlock.withAsk_held {i : Interlock} (h : i = .granted ∨ i = .grantedAsked) : i.withAsk = .grantedAsked := by
  rcases h with rfl | rfl <;> rfl

theorem State.interlockAsked_waits (h : s.trs.state = .loading ∨ s.trs.state = .moving ∨ s.trs.state = .settling
    ∨ s.trs.state = .unloading ∨ (s.trs.state = .atRest ∧ s.trs.pendingMotion ≠ none)) :
    s.interlockAsked = { s with trs := { s.trs with interlock := s.trs.interlock.withAsk } } := by
  have hwait : ¬ (s.trs.state = .atRest ∧ s.trs.pendingMotion = none) := fun ⟨h1, h2⟩ => by
    rcases h with h | h | h | h | ⟨-, h⟩
    iterate 4 cases h.symm.trans h1
    exact h h2
  unfold State.interlockAsked State.tryInterlock
  exact if_neg fun hw => hwait hw.2

theorem exec_interlockRelease_begins {w : TrsWork} (hi : s.trs.interlock.held = true)
    (hp : s.trs.pendingMotion = some w) : exec .interlockRelease s = .next { s with
      trs := { s.trs with
        interlock := s.trs.interlock.released, state := (s.trs.begin w 0).state, work := some w
        motionTimer := some s.liu.params.motionTimeoutMs, pendingMotion := none }
      inFlight := s.inFlight.erase .interlockRelease } := by
  refine congrArg Host.Outcome.next ?_
  unfold State.interlockRelease
  rw [if_pos (by exact hi)]
  dsimp only
  rw [show (s.deliver .interlockRelease).trs.pendingMotion = some w from hp]
  rfl

/-- Settles O48. -/
theorem transportMotions : Obligations.TransportMotions := by
  intro s c hq leg
  refine ⟨fun p hp hs => ⟨fun hm => ?_, fun hm => ?_⟩, fun p hs hw hi => ?_, fun p hs hw hi => ?_, fun f seen hs hst => ?_,
    fun g hs hp => ⟨fun hi => ?_, fun hi => ?_⟩, fun g w hs hp => ⟨?_, ?_⟩, fun g hs => ?_, fun g hs hw => ?_,
    fun g hs hw hp => ?_, fun p seen hst => ⟨fun hs hp => ⟨fun hi => ?_, fun hi => ?_⟩, fun hs => ?_, fun hs hw hi => ?_⟩,
    fun hs hp => ?_, fun hs => ⟨fun hi => ?_, fun hi => ?_⟩, fun hs => ?_, fun hi => ⟨fun hp => ?_, fun g hp => ?_, fun hp => ?_⟩,
    fun g hi hp => ?_, fun hi => ?_, ?_⟩
  · refine congrArg Host.Outcome.next ((State.takeLoad_empty c (by exact hq) (by exact hs) hp).trans ((if_pos hm).trans ?_))
    cases c <;> rfl
  · exact congrArg Host.Outcome.next ((State.takeLoad_empty c (by exact hq) (by exact hs) hp).trans (if_neg hm))
  · refine congrArg Host.Outcome.next ?_
    show s.loadLegDone true = _
    unfold State.loadLegDone
    rw [hs, hw]
    dsimp only
    rw [if_pos rfl, State.reportLoad_eq, State.tryInterlock_unasked (Interlock.waits_none (by exact hi))]
    exact State.trsSettled_eq_self (by exact hq)
  · refine congrArg Host.Outcome.next ?_
    show s.loadLegDone false = _
    have hrecord : s.trs.settleRecord .noCarrierSeen false
        = { s.trs with magazine := s.trs.magazine.setIfInBounds p .unknown, stage := .none } := by
      unfold Trs.settleRecord
      rw [hs, hw]
      rfl
    unfold State.loadLegDone
    rw [hs, hw]
    dsimp only
    rw [if_neg nofun, State.trsFault_unexposed (.inl hi) hq, hrecord, hi, if_pos rfl]
    cases c <;> simp [State.faultToPrc, State.faultToCru, hw, TrsWork.client]
  · refine congrArg Host.Outcome.next ((State.takeUnload_unknown c seen (by exact hs) (by exact hst)).trans ?_)
    cases c <;> rfl
  · refine congrArg Host.Outcome.next ((State.takeMove_rest c g (by exact hq) (by exact hs)).trans
      ((State.motionAtRest_begins _ (by exact hp) (by exact hi)).trans (State.beginMotion_unpended _ (by exact hp))))
  · exact congrArg Host.Outcome.next ((State.takeMove_rest c g (by exact hq) (by exact hs)).trans
      (State.motionAtRest_pends _ (by exact hp) (by exact hi)))
  · rintro rfl
    exact congrArg Host.Outcome.next ((State.takeMove_rest _ g (by exact hq) (by exact hs)).trans
      (State.motionAtRest_refused _ (by exact hp)))
  · rintro rfl
    exact congrArg Host.Outcome.next ((State.takeMove_rest _ g (by exact hq) (by exact hs)).trans
      (State.motionAtRest_refused _ (by exact hp)))
  · rintro rfl
    exact congrArg Host.Outcome.next (State.takeMove_refused _ g (by exact hs))
  · intro pos
    have hpos : pos = g.reached := by cases g <;> rfl
    have hmove := State.moveLegDone_moving hs hw
    rw [hpos]
    refine ⟨fun hne => congrArg Host.Outcome.next (hmove.trans (if_neg hne)), fun hz hi => congrArg Host.Outcome.next ?_⟩
    refine hmove.trans ((if_pos hz).trans ((State.settleDone_unasked c (by exact hq) (by exact hi)).trans ?_))
    rfl
  · intro rest out
    have hexec : exec .settleTimerExpiry s = .next (s.settleDone c) := by
      refine congrArg Host.Outcome.next ?_
      show s.settleExpired = _
      unfold State.settleExpired
      rw [hs, hw]
    refine ⟨fun hi => ?_, fun hi => ?_⟩
    · rw [hexec]
      exact congrArg Host.Outcome.next (State.settleDone_unasked c hq hi)
    · rw [hexec]
      refine congrArg Host.Outcome.next ?_
      unfold State.settleDone State.tryInterlock
      dsimp only
      rw [State.reportSettle_eq, if_pos ⟨by show s.trs.interlock.waits = true; rw [hi]; rfl, rfl, hp⟩]
      exact State.trsSettled_eq_self hq
  · exact congrArg Host.Outcome.next ((State.takeUnload_rest c seen (by exact hq) (by exact hs) (by exact hst)).trans
      ((State.motionAtRest_begins _ (by exact hp) (by exact hi)).trans (State.beginMotion_unpended _ (by exact hp))))
  · exact congrArg Host.Outcome.next ((State.takeUnload_rest c seen (by exact hq) (by exact hs) (by exact hst)).trans
      (State.motionAtRest_pends _ (by exact hp) (by exact hi)))
  · rintro rfl
    refine congrArg Host.Outcome.next ((State.takeUnload_fault c (by exact hq) (by exact hs) (by exact hst)).trans ?_)
    rw [← hst]
    rfl
  · exact congrArg Host.Outcome.next (State.unloadLegDone_unloading hs hw hst hi hq)
  · rw [exec_interlockAsk (.inr (.inl hs))]
    refine congrArg Host.Outcome.next ?_
    unfold State.interlockAsked State.tryInterlock
    rw [if_pos ⟨by cases hi : s.trs.interlock <;> simp [hi, Interlock.withAsk, Interlock.waits], hs, hp⟩]
    rfl
  · rw [exec_interlockAsk (by rcases hs with h | h | h | h | ⟨h, -⟩ <;> simp [h])]
    refine congrArg Host.Outcome.next ((State.interlockAsked_waits (by exact hs)).trans ?_)
    rw [show (s.deliver .interlockAsk).trs.interlock.withAsk = _ from Interlock.withAsk_unheld hi]
    rfl
  · rw [exec_interlockAsk (by rcases hs with h | h | h | h | ⟨h, -⟩ <;> simp [h])]
    refine congrArg Host.Outcome.next ((State.interlockAsked_waits (by exact hs)).trans ?_)
    rw [show (s.deliver .interlockAsk).trs.interlock.withAsk = _ from Interlock.withAsk_held hi]
    rfl
  · refine congrArg Host.Outcome.next ?_
    rcases hs with h | h | ⟨l, h⟩ | ⟨f, h⟩ <;>
      simp [h, State.emit, State.deliver, Instr.asMessage]
  · exact congrArg Host.Outcome.next (State.interlockRelease_granted (by exact hi) (by exact hp))
  · rw [exec_interlockRelease_begins (by rw [hi]; rfl) hp, hi]
    rfl
  · rw [exec_interlockRelease_begins (by rw [hi]; rfl) hp, hi]
    rfl
  · rw [exec_interlockRelease_begins (by rw [hi]; rfl) hp, hi]
    rfl
  · refine congrArg Host.Outcome.next ?_
    exact if_neg (by rw [show (s.deliver .interlockRelease).trs.interlock.held = false from Interlock.unheld hi]; nofun)
  · refine congrArg Host.Outcome.next ?_
    unfold State.interlockWithdraw Interlock.withoutAsk
    cases hi : s.trs.interlock <;> simp [hi, State.deliver, Instr.asMessage]

end Sys2Proof.Machine
end

section
/-! PROOFS. TRS: HOME leg by leg, timeouts, a lost carrier and CLEAR_STAGE (R41, R139, R143 to R146). -/

namespace Sys2Proof.Machine

variable {s t : State}

/-! ## Faults -/

/-- A fault of TRS with no interlock asked or granted. -/
theorem State.trsFault_unlocked {k : Trs} {cause : TrsFault} {seen : Bool} (hk : s.trs.settleRecord cause seen = k)
    (hi : s.trs.interlock = .none) (hq : s.trs.quiesce = false) : s.trsFault cause seen = { s with
      trs := { k with
        state := .fault cause, pos := .unknown, motionTimer := none, settleTimer := none, work := none
        pendingMotion := none, heldLoad := none }
      inFlight := s.inFlight ++ (if s.faultToPrc then [Instr.transportFault] else [])
        ++ (if s.faultToCru then [Instr.calTransportFault .fault] else []) }.notice
          (.transportState (.fault cause) s.trs.homed k.stage none) := by
  have hki : k.interlock = .none := by rw [← hk, Trs.settleRecord_kept]; exact hi
  have hsame : ({ k with
      state := .fault cause, pos := .unknown, motionTimer := none, settleTimer := none, work := none
      pendingMotion := none, heldLoad := none, interlock := .none } : Trs) = { k with
        state := .fault cause, pos := .unknown, motionTimer := none, settleTimer := none, work := none
        pendingMotion := none, heldLoad := none } :=
    congrArg (fun i => ({ k with
      state := .fault cause, pos := .unknown, motionTimer := none, settleTimer := none, work := none
      pendingMotion := none, heldLoad := none, interlock := i } : Trs)) hki.symm
  rw [State.trsFault_unexposed (.inl hi) hq, hk, hsame, hi, if_pos rfl, List.append_nil]

theorem Trs.settleRecord_unloaded {t : Trs} {cause : TrsFault} {seen : Bool} (hc : cause ≠ .lostCarrier)
    (hs : t.state ≠ .loading) : t.settleRecord cause seen = t := by
  unfold Trs.settleRecord
  cases cause with
  | lostCarrier => exact absurd rfl hc
  | _ =>
    dsimp only
    split
    · next h _ => exact absurd h hs
    · rfl

theorem Trs.settleRecord_loading {t : Trs} {cause : TrsFault} {seen : Bool} {c : TrsClient} {p : Nat} (hc : cause ≠ .lostCarrier)
    (hs : t.state = .loading) (hw : t.work = some (.load c p)) : t.settleRecord cause seen = { t with
      stage := if seen then .carrier p else .none
      magazine := t.magazine.setIfInBounds p (if seen then .out else .unknown) } := by
  unfold Trs.settleRecord
  cases cause with
  | lostCarrier => exact absurd rfl hc
  | _ =>
    dsimp only
    rw [hs, hw]
    cases seen <;> simp [Trs.setEntry, ← hs, ← hw]

theorem Trs.settleRecord_lost {t : Trs} {p : Nat} (seen : Bool) (hst : t.stage = .carrier p) :
    t.settleRecord .lostCarrier seen = { t with stage := .none, magazine := t.magazine.setIfInBounds p .unknown } := by
  unfold Trs.settleRecord
  dsimp only
  rw [hst]
  rfl

/-- Settles O50. -/
theorem carrierLostOrCleared : Obligations.CarrierLostOrCleared := by
  refine ⟨fun s hq => ⟨fun p hs hst he => ?_, fun h1 h2 h3 => ?_⟩, fun h seen s ht => ⟨fun hf => ?_, fun hf hor => ?_,
    fun f hf hs hseen => ?_⟩⟩
  · intro toPrc toCru
    have hhome : s.trs.state.inHome = false := by rcases hs with h | h | h <;> rw [h] <;> rfl
    have hprc : s.faultToPrc = toPrc := by
      unfold State.faultToPrc
      rw [hhome, Bool.or_false]
    have hcru : s.faultToCru = toCru := by
      unfold State.faultToCru
      cases hw : s.trs.work <;> simp only [toCru, hw]
    have hexec : exec .lostCarrier s = .next (s.trsFault .lostCarrier false) := by
      refine congrArg Host.Outcome.next ?_
      rcases hs with h | h | h <;> rw [h]
    rw [hexec, State.trsFault_unexposed (.inr he) hq, hprc, hcru, Trs.settleRecord_lost _ hst]
  · refine congrArg Host.Outcome.next ?_
    split
    · contradiction
    · contradiction
    · contradiction
    all_goals rfl
  · refine (exec_command rfl ht).trans ?_
    unfold State.clearStage
    rw [hf]
    rfl
  · refine (exec_command rfl ht).trans ?_
    have hno : (!s.trs.state.faulted || seen) = true := by
      rcases hor with hn | rfl
      · cases hs : s.trs.state with
        | fault f => exact absurd hs (hn f)
        | _ => rfl
      · exact Bool.or_true _
    unfold State.clearStage
    rw [hf, if_neg nofun, hno]
    rfl
  · intro st
    refine (exec_command rfl ht).trans ?_
    have hclear : s.trs.cleared = { s.trs with
        state := st, stage := .none
        magazine := match s.trs.stage with
          | .carrier p => s.trs.magazine.setIfInBounds p .vacant
          | .unknownCarrier | .none => s.trs.magazine } := by
      unfold Trs.cleared
      cases hst : s.trs.stage <;> rfl
    unfold State.clearStage
    rw [hf, if_neg nofun, hs, hseen, if_neg nofun, hclear]
    dsimp only
    have hemit : ∀ u : State, u.trs.homed = s.trs.homed → (if u.trs.homed = true then u.emit .trsEmptyReport else u)
        = { u with inFlight := u.inFlight ++ if s.trs.homed then [Instr.trsEmptyReport] else [] } := fun u hu => by
      rw [hu]
      exact State.emit_ite _ _
    exact congrArg (fun u : State => Host.Outcome.next (u.replied h .clearStage .ok .none)) (hemit _ rfl)

/-! ## The scan -/

/-- What the scan records of a position that is not OUT. -/
def MagEntry.scanned (present : Bool) : MagEntry := if present then .present else .vacant

theorem Trs.scanEntry_magazine (t : Trs) (p : Nat) (b : Bool) {q : Nat} (hq : q < 20) :
    (t.scanEntry p b).magazine[q]? = if q = p ∧ t.magazine[q]? ≠ some .out then some (MagEntry.scanned b)
      else t.magazine[q]? := by
  unfold Trs.scanEntry
  by_cases he : q = p
  · subst he
    have hget : t.magazine[q]? = some t.magazine[q] := Vector.getElem?_eq_getElem hq
    rw [hget]
    cases hv : t.magazine[q] with
    | out => simp [hget, hv]
    | _ => simp [Trs.setEntry, hq, MagEntry.scanned]
  · rw [if_neg (fun hc : q = p ∧ _ => he hc.1)]
    split
    · rfl
    · rfl
    · exact Vector.getElem?_setIfInBounds_ne (Ne.symm he)

theorem Trs.scanEntries_cons (t : Trs) (p : Nat) (b : Bool) (l : List (Nat × Bool)) :
    t.scanEntries ((p, b) :: l) = (t.scanEntry p b).scanEntries l := rfl

theorem Trs.scanEntries_kept (t : Trs) (l : List (Nat × Bool)) :
    t.scanEntries l = { t with magazine := (t.scanEntries l).magazine } := by
  induction l generalizing t with
  | nil => rfl
  | cons x l ih =>
    have hentry : t.scanEntry x.1 x.2 = { t with magazine := (t.scanEntry x.1 x.2).magazine } := by
      unfold Trs.scanEntry
      split <;> rfl
    rw [Trs.scanEntries_cons, ih, hentry]

theorem Trs.scanEntries_out {t : Trs} {q : Nat} (hq : q < 20) (l : List (Nat × Bool)) (h : t.magazine[q]? = some .out) :
    (t.scanEntries l).magazine[q]? = some .out := by
  induction l generalizing t with
  | nil => exact h
  | cons x l ih =>
    rw [Trs.scanEntries_cons]
    refine ih ?_
    rw [Trs.scanEntry_magazine _ _ _ hq, if_neg fun hc => hc.2 h, h]

theorem Trs.scanEntries_unseen {t : Trs} {q : Nat} (hq : q < 20) (l : List (Nat × Bool)) (h : ∀ b, (q, b) ∉ l) :
    (t.scanEntries l).magazine[q]? = t.magazine[q]? := by
  induction l generalizing t with
  | nil => rfl
  | cons x l ih =>
    rw [Trs.scanEntries_cons, ih fun b hb => h b (List.mem_cons_of_mem _ hb), Trs.scanEntry_magazine _ _ _ hq]
    exact if_neg fun hc => h x.2 (by rw [hc.1]; exact List.mem_cons_self)

theorem Trs.scanEntries_seen {t : Trs} {q : Nat} {b : Bool} (hq : q < 20) (l : List (Nat × Bool))
    (hout : t.magazine[q]? ≠ some .out) (hone : ∀ b', (q, b') ∈ l → b' = b)
    (h : (q, b) ∈ l ∨ t.magazine[q]? = some (MagEntry.scanned b)) :
    (t.scanEntries l).magazine[q]? = some (MagEntry.scanned b) := by
  induction l generalizing t with
  | nil => exact h.resolve_left (List.not_mem_nil)
  | cons x l ih =>
    rw [Trs.scanEntries_cons]
    have hrest : ∀ b', (q, b') ∈ l → b' = b := fun b' hb => hone b' (List.mem_cons_of_mem _ hb)
    by_cases hx : q = x.1
    · have hb : x.2 = b := hone x.2 (by rw [hx]; exact List.mem_cons_self)
      have hnew : (t.scanEntry x.1 x.2).magazine[q]? = some (MagEntry.scanned b) := by
        rw [Trs.scanEntry_magazine _ _ _ hq, if_pos ⟨hx, hout⟩, hb]
      refine ih ?_ hrest (.inr hnew)
      rw [hnew]
      cases b <;> nofun
    · have hold : (t.scanEntry x.1 x.2).magazine[q]? = t.magazine[q]? := by
        rw [Trs.scanEntry_magazine _ _ _ hq, if_neg fun hc => hx hc.1]
      refine ih (by rw [hold]; exact hout) hrest ?_
      rw [hold]
      exact h.imp_left fun hm => (List.mem_cons.1 hm).resolve_left fun he => hx (by rw [← he])

/-- R145: what a scan leaves of a position, of which all that it saw agrees. -/
theorem Trs.scanEntries_get {t : Trs} {q : Nat} {b : Bool} (hq : q < 20) {l : List (Nat × Bool)}
    (hone : ∀ b', (q, b') ∈ l → b' = b) (h : (q, b) ∈ l) : (t.scanEntries l).magazine[q]?
      = if t.magazine[q]? = some .out then some .out else some (if b then .present else .vacant) := by
  by_cases hout : t.magazine[q]? = some .out
  · rw [if_pos hout, Trs.scanEntries_out hq l hout]
  · rw [if_neg hout, Trs.scanEntries_seen hq l hout hone (.inl h)]
    rfl

theorem mem_allPositions {present : BitVec 20} {p : Nat} {b : Bool} :
    (p, b) ∈ allPositions present ↔ p < 20 ∧ present.getLsbD p = b := by
  simp [allPositions]

/-! ## HOME -/

theorem Liu.raise_params (l : Liu) (n : Notice) : (l.raise n).params = l.params := by
  obtain ⟨-, e⟩ | ⟨-, -, -, e⟩ | ⟨-, -, e⟩ := l.raise_cases n <;> rw [e]

theorem State.jobEnded_params (j : Job) (c : FailCause) : (s.jobEnded j c).liu.params = s.liu.params := by
  have hfold : ∀ (l : List Tile) (n : Tile → Notice) (u : Liu), (l.foldl (fun l x => l.raise (n x)) u).params = u.params := by
    intro l n
    induction l with
    | nil => exact fun _ => rfl
    | cons x l ih => exact fun u => (ih _).trans (Liu.raise_params _ _)
  unfold State.jobEnded
  rw [(State.startIdle_frame _).1]
  exact (Liu.raise_params _ _).trans (hfold _ _ _)

/-- PRC with its requests to TRS gone (R41). -/
def Prc.unasked (p : Prc) : Prc := { p with trsReq := none, unloadNext := none, recoveryJob := none, retryBack := none }

theorem State.homeEndsJob_idle (h : s.prc.active = none) : s.homeEndsJob = { s with prc := s.prc.unasked } := by
  unfold State.homeEndsJob
  rw [show s.prc.activeJob? = none by simp [Prc.activeJob?, h]]
  rfl

theorem State.homeEndsJob_active {j : Job} (h : s.prc.activeJob? = some j) (he : s.endJob j .command = s.jobEnded j .command) :
    s.homeEndsJob = { s.jobEnded j .command with prc := (s.jobEnded j .command).prc.unasked } := by
  unfold State.homeEndsJob
  rw [h]
  dsimp only
  rw [he]
  rfl

/-- What ends of a motion, and of the interlock, when HOME begins. -/
def Trs.halted (t : Trs) : Trs := { t with pendingMotion := none, work := none, settleTimer := none, interlock := .none }

theorem State.startHome_carrier {p : Nat} (hst : s.trs.stage = .carrier p)
    (h : s.trs.interlock = .none ∨ s.sfe.exposing = none) : s.startHome = { s with
      trs := { s.trs.halted with state := .homing .unload, motionTimer := some s.liu.params.motionTimeoutMs }
      inFlight := s.inFlight ++ if s.trs.interlock = Interlock.none then [] else [Instr.stageFaultReport] }.notice
        (.transportState (.homing .unload) s.trs.homed (.carrier p) none) := by
  unfold State.startHome
  dsimp only
  rw [State.endInterlock_unexposed (by exact h), if_pos (by rw [show Trs.stage _ = s.trs.stage from rfl, hst]; rfl), ← hst]
  rfl

theorem State.startHome_axis (hst : ∀ p, s.trs.stage ≠ .carrier p)
    (h : s.trs.interlock = .none ∨ s.sfe.exposing = none) : s.startHome = { s with
      trs := { s.trs.halted with
        state := .homing .axis, homed := false, motionTimer := some s.liu.params.motionTimeoutMs }
      inFlight := s.inFlight ++ if s.trs.interlock = Interlock.none then [] else [Instr.stageFaultReport] }.notice
        (.transportState (.homing .axis) false s.trs.stage none) := by
  have hknown : s.trs.stage.known = false := by
    cases hs : s.trs.stage with
    | carrier p => exact absurd hs (hst p)
    | _ => rfl
  unfold State.startHome
  dsimp only
  rw [State.endInterlock_unexposed (by exact h), if_neg (by rw [show Trs.stage _ = s.trs.stage from rfl, hknown]; nofun)]
  rfl

/-- With no interlock asked or granted, nothing of it ends. -/
theorem Trs.halted_unlocked {t : Trs} (h : t.interlock = .none) :
    t.halted = { t with pendingMotion := none, work := none, settleTimer := none } :=
  congrArg (fun i => ({ t with pendingMotion := none, work := none, settleTimer := none, interlock := i } : Trs)) h.symm

theorem State.startHome_carrier_unlocked {p : Nat} (hst : s.trs.stage = .carrier p) (hi : s.trs.interlock = .none) :
    s.startHome = { s with trs := { s.trs with
      pendingMotion := none, work := none, settleTimer := none, state := .homing .unload
      motionTimer := some s.liu.params.motionTimeoutMs } }.notice
        (.transportState (.homing .unload) s.trs.homed (.carrier p) none) := by
  refine (State.startHome_carrier hst (.inl hi)).trans ?_
  rw [Trs.halted_unlocked hi, if_pos hi, List.append_nil]

theorem State.startHome_axis_unlocked (hst : ∀ p, s.trs.stage ≠ .carrier p) (hi : s.trs.interlock = .none) :
    s.startHome = { s with trs := { s.trs with
      pendingMotion := none, work := none, settleTimer := none, state := .homing .axis, homed := false
      motionTimer := some s.liu.params.motionTimeoutMs } }.notice
        (.transportState (.homing .axis) false s.trs.stage none) := by
  refine (State.startHome_axis hst (.inl hi)).trans ?_
  rw [Trs.halted_unlocked hi, if_pos hi, List.append_nil]

theorem exec_home_refused {h : Hdr} {e : Status} (ht : s.takes h) (hr : s.homeRefusal = some e) :
    exec (.home h) s = .next (s.replied h .home e .none) := by
  refine (exec_command rfl ht).trans ?_
  unfold State.home
  rw [hr]
  rfl

theorem exec_home_accepted {h : Hdr} (ht : s.takes h) (hr : s.homeRefusal = none) :
    exec (.home h) s = .next (s.homeEndsJob.startHome.replied h .home .ok .none) := by
  refine (exec_command rfl ht).trans ?_
  unfold State.home
  rw [hr]
  rfl

theorem State.homeRefusal_busy (h : s.cru.flatRunning = true ∨ s.trs.state.occupied = true) : s.homeRefusal = some .busy := by
  unfold State.homeRefusal
  rcases h with h | h
  · rw [if_pos h]
  · rw [if_pos h, ite_self]

theorem State.homeRefusal_running (hf : s.cru.flatRunning = false) (ho : s.trs.state.occupied = false)
    (hr : s.prc.run = .running ∨ s.prc.run = .holding) : s.homeRefusal = some .wrongState := by
  unfold State.homeRefusal
  rw [hf, ho, if_neg nofun, if_neg nofun]
  rcases hr with hr | hr <;> rw [hr]

theorem State.homeRefusal_still (hf : s.cru.flatRunning = false) (ho : s.trs.state.occupied = false)
    (hr : s.prc.run = .idle ∨ ∃ c, s.prc.run = .held c) (he : s.prc.activeExposing = false) : s.homeRefusal = none := by
  unfold State.homeRefusal
  rw [hf, ho, if_neg nofun, if_neg nofun]
  rcases hr with hr | ⟨c, hr⟩
  · rw [hr]
  · rw [hr]
    exact if_neg (by rw [he]; nofun)

theorem State.homeRefusal_exposing {c : HoldCause} (hf : s.cru.flatRunning = false) (ho : s.trs.state.occupied = false)
    (hr : s.prc.run = .held c) (he : s.prc.activeExposing = true) : s.homeRefusal = some .wrongState := by
  unfold State.homeRefusal
  rw [hf, ho, if_neg nofun, if_neg nofun, hr]
  exact if_pos he

theorem TrsState.unoccupied {x : TrsState} (h : x = .unhomed ∨ x = .empty ∨ x = .atRest ∨ ∃ f, x = .fault f) :
    x.occupied = false := by
  rcases h with rfl | rfl | rfl | ⟨f, rfl⟩ <;> rfl

theorem Prc.activeExposing_inactive {p : Prc} (h : p.active = none) : p.activeExposing = false := by
  simp [Prc.activeExposing, Prc.activeJob?, h]

/-! ## The scan ends -/

theorem State.homeScanDone_empty {present : BitVec 20} (hs : s.trs.state = .homing .scan) (hst : s.trs.stage = .none)
    (hl : s.trs.heldLoad = none) (hq : s.trs.quiesce = false) : s.homeScanDone present = { s with
      trs := { s.trs with
        state := .empty, homed := true, motionTimer := none
        magazine := (s.trs.scanEntries (allPositions present)).magazine }
      inFlight := s.inFlight ++ [Instr.trsEmptyReport] }.notice
        (.transportState .empty true .none (some (s.trs.scanEntries (allPositions present)).magazine)) := by
  obtain ⟨m, hm⟩ : ∃ m, m = (s.trs.scanEntries (allPositions present)).magazine := ⟨_, rfl⟩
  unfold State.homeScanDone
  dsimp only
  rw [if_pos hs, Trs.scanEntries_kept, ← hm]
  dsimp only
  rw [hst, hl]
  dsimp only
  exact State.trsSettled_eq_self hq

theorem State.homeScanDone_orphan {present : BitVec 20} (hs : s.trs.state = .homing .scan)
    (hst : s.trs.stage = .unknownCarrier) (hl : s.trs.heldLoad = none) (hq : s.trs.quiesce = false)
    (hf : s.cru.flatRunning = false) : s.homeScanDone present = { s with
      trs := { s.trs with
        state := .fault .orphan, homed := true, pos := .unknown, motionTimer := none
        magazine := (s.trs.scanEntries (allPositions present)).magazine }
      inFlight := s.inFlight ++ [Instr.transportFault] }.notice
        (.transportState (.fault .orphan) true .unknownCarrier
          (some (s.trs.scanEntries (allPositions present)).magazine)) := by
  obtain ⟨m, hm⟩ : ∃ m, m = (s.trs.scanEntries (allPositions present)).magazine := ⟨_, rfl⟩
  unfold State.homeScanDone
  dsimp only
  rw [if_pos hs, Trs.scanEntries_kept, ← hm]
  dsimp only
  rw [hst, hl, hf]
  dsimp only
  exact State.trsSettled_eq_self hq

/-- Settles O49. -/
theorem homeAndFaults : Obligations.HomeAndFaults := by
  refine ⟨fun s h p ht hf hs hst hr ha he hi => ?_, fun s hi hq => ?_⟩
  · rw [exec_home_accepted ht (State.homeRefusal_still hf (by rw [hs]; rfl) hr (Prc.activeExposing_inactive ha)),
      State.homeEndsJob_idle ha, State.startHome_carrier (s := { s with prc := s.prc.unasked }) hst (.inr he)]
    refine congrArg (fun l => Host.Outcome.next (State.replied (State.notice { s with
      prc := s.prc.unasked
      trs := { s.trs.halted with state := .homing .unload, motionTimer := some s.liu.params.motionTimeoutMs }
      inFlight := s.inFlight ++ l } _) h .home .ok .none)) (if_neg hi)
  · intro leg
    refine ⟨fun h ht => ⟨fun hb => ?_, fun hf hst => ⟨fun hr => ?_, fun hr ha => ⟨fun p hc => ?_, fun hc => ?_⟩,
      fun c j hr htab hcount hj => ⟨fun hx => ?_, fun hjs hx => ?_⟩⟩⟩, fun p hs hst => ?_, fun hs => ?_, fun present hs => ?_,
      fun hm seen l => ?_, fun t0 l seen scanned hm hw hs => ?_, fun t0 seen w hm hw => ?_⟩
    · refine exec_home_refused ht (State.homeRefusal_busy ?_)
      exact hb.imp_right fun hb => by rcases hb with ⟨l, h⟩ | h | h | h | h <;> rw [h] <;> rfl
    · exact exec_home_refused ht (State.homeRefusal_running hf (TrsState.unoccupied hst) hr)
    · rw [exec_home_accepted ht (State.homeRefusal_still hf (TrsState.unoccupied hst) hr (Prc.activeExposing_inactive ha)),
        State.homeEndsJob_idle ha, State.startHome_carrier_unlocked (s := { s with prc := s.prc.unasked }) hc hi]
      rfl
    · rw [exec_home_accepted ht (State.homeRefusal_still hf (TrsState.unoccupied hst) hr (Prc.activeExposing_inactive ha)),
        State.homeEndsJob_idle ha, State.startHome_axis_unlocked (s := { s with prc := s.prc.unasked })
          (fun p => by rw [show State.trs _ = s.trs from rfl, hc]; nofun) hi, ← hc]
      rfl
    · exact exec_home_refused ht (State.homeRefusal_exposing hf (TrsState.unoccupied hst) hr ((Prc.activeExposing_iff hj).2 hx))
    · intro e prc
      obtain ⟨hact, hjob⟩ := Prc.activeJob?_eq_some hj
      have hend : s.endJob j .command = e := State.endJob_eq _ _ _ (by rw [hr]; nofun) htab.2.1 (Prc.job?_mem hjob)
        (hcount j (Prc.job?_mem hjob)).nodup_seq (by rcases hjs with h | h | h <;> rw [h] <;> rfl)
      have hstill : s.homeRefusal = none := State.homeRefusal_still hf (TrsState.unoccupied hst) (.inr ⟨c, hr⟩)
        (Bool.eq_false_iff.2 fun hexp => by
          obtain ⟨x, hxm, hxs⟩ := (Prc.activeExposing_iff hj).1 hexp
          exact hx x hxm hxs)
      have hprc : e.prc = (s.jobRecorded j .command).prc := (State.startIdle_frame (s.jobRecorded j .command)).2.1
      have htrs : e.trs = s.trs := by
        rw [← hend]
        simp
      have hhome : s.homeEndsJob = { e with prc := prc } := State.homeEndsJob_active hj hend
      have hparams : e.liu.params = s.liu.params := State.jobEnded_params j .command
      refine ⟨?_, ?_, fun p hc => ?_, fun hc => ?_⟩
      · show e.prc.active = none
        rw [hprc]
        rfl
      · show e.prc.run = .held c
        rw [hprc]
        exact hr
      · rw [exec_home_accepted ht hstill, hhome,
          State.startHome_carrier_unlocked (s := { e with prc := prc }) (by rw [← hc]; exact congrArg Trs.stage htrs)
            (by rw [← hi]; exact congrArg Trs.interlock htrs)]
        dsimp only
        rw [htrs, hparams]
      · rw [exec_home_accepted ht hstill, hhome,
          State.startHome_axis_unlocked (s := { e with prc := prc })
            (fun p => by rw [show State.trs _ = e.trs from rfl, htrs]; exact hc p)
            (by rw [← hi]; exact congrArg Trs.interlock htrs)]
        dsimp only
        rw [htrs, hparams]
    · refine congrArg Host.Outcome.next ?_
      show s.homeUnloadDone = _
      have hback : s.trs.returnCarrier
          = { s.trs with magazine := s.trs.magazine.setIfInBounds p .present, stage := .none } := by
        unfold Trs.returnCarrier
        rw [hst]
        rfl
      unfold State.homeUnloadDone
      rw [if_pos hs, hback]
      exact if_neg (by rw [show Trs.quiesce _ = s.trs.quiesce from rfl, hq]; nofun)
    · refine congrArg Host.Outcome.next ?_
      show s.homeAxisDone = _
      unfold State.homeAxisDone
      rw [if_pos hs]
      exact if_neg (by rw [show Trs.quiesce _ = s.trs.quiesce from rfl, hq]; nofun)
    · refine ⟨(s.trs.scanEntries (allPositions present)).magazine, fun p hp => ?_, fun hst hl => ?_, fun hst hl hf => ?_⟩
      · exact Trs.scanEntries_get hp (fun b hb => (mem_allPositions.1 hb).2.symm) (mem_allPositions.2 ⟨hp, rfl⟩)
      · exact congrArg Host.Outcome.next (State.homeScanDone_empty hs hst hl hq)
      · exact congrArg Host.Outcome.next (State.homeScanDone_orphan hs hst hl hq hf)
    · refine congrArg Host.Outcome.next ?_
      show s.motionExpired seen l = s
      unfold State.motionExpired
      rw [hm]
    · obtain ⟨k, hk⟩ : ∃ k : Trs, k = if l = .scan then s.trs.scanEntries scanned else s.trs := ⟨_, rfl⟩
      have hkept : k = { s.trs with magazine := k.magazine } := by
        rw [hk]
        split
        · exact Trs.scanEntries_kept _ _
        · rfl
      have hexec : exec (.motionTimeout seen scanned) s = .next (State.trsFault { s with trs := k } .timeout seen) := by
        refine congrArg Host.Outcome.next ?_
        show s.motionExpired seen scanned = _
        unfold State.motionExpired
        rw [hm, hs, hk]
        cases l <;> rfl
      refine ⟨k.magazine, ?_, fun hl => ?_, fun p hp => ?_, fun p b hl hp hmem hone => ?_⟩
      · have hsame : Trs.settleRecord k .timeout seen = k :=
          Trs.settleRecord_unloaded nofun (by rw [hkept]; dsimp only; rw [hs]; nofun)
        rw [hexec, State.trsFault_unlocked (s := { s with trs := k }) hsame (by rw [hkept]; exact hi) (by rw [hkept]; exact hq)]
        have hprc : State.faultToPrc { s with trs := k } = true := by
          unfold State.faultToPrc
          rw [hkept]
          dsimp only
          rw [hs]
          simp [TrsState.inHome]
        have hcru : State.faultToCru { s with trs := k } = true ↔ s.cru.flatRunning = true ∨ s.trs.heldLoad ≠ none := by
          unfold State.faultToCru
          rw [hkept]
          dsimp only
          rw [hw]
          simp [Option.isSome_iff_ne_none]
        rw [hprc, if_pos rfl, if_congr hcru rfl rfl, hkept]
        dsimp only
        rw [hw]
      · rw [hk, if_neg hl]
      · by_cases hlt : p < 20
        · rw [hk]
          split
          · exact Trs.scanEntries_unseen hlt scanned hp
          · rfl
        · rw [Vector.getElem?_eq_none (Nat.not_lt.1 hlt), Vector.getElem?_eq_none (Nat.not_lt.1 hlt)]
      · rw [hk, if_pos hl]
        exact Trs.scanEntries_get hp hone hmem
    · intro out fallen
      have hexec : (∀ l, s.trs.state ≠ .homing l) → exec (.motionTimeout seen []) s = .next (s.trsFault .timeout seen) :=
        fun hl => by
          refine congrArg Host.Outcome.next ?_
          show s.motionExpired seen [] = _
          unfold State.motionExpired
          rw [hm]
          dsimp only
          split
          · next h => exact absurd h (hl _)
          · rfl
      have hout : s.inFlight ++ (if s.faultToPrc = true then [Instr.transportFault] else [])
          ++ (if s.faultToCru = true then [Instr.calTransportFault .fault] else []) = s.inFlight ++ out := by
        have hprc : s.faultToPrc = true := by simp [State.faultToPrc, hw]
        have hcru : s.faultToCru = decide (w.client = .cru) := by simp [State.faultToCru, hw]
        rw [hprc, hcru, if_pos rfl, List.append_assoc]
        refine congrArg (s.inFlight ++ ·) ?_
        by_cases hc : w.client = .cru
        · rw [if_pos (decide_eq_true hc), show out = _ from if_pos hc]
          rfl
        · rw [if_neg (by rw [decide_eq_false hc]; nofun), show out = _ from if_neg hc, List.append_nil]
      refine ⟨fun hs => ?_, fun c p hs hwl => ?_⟩
      · have hloaded : s.trs.state ≠ .loading := by rcases hs with h | h <;> rw [h] <;> nofun
        rw [hexec (fun l => by rcases hs with h | h <;> rw [h] <;> nofun),
          State.trsFault_unlocked (Trs.settleRecord_unloaded (cause := .timeout) nofun hloaded) hi hq, hout]
      · intro record
        rw [hexec (fun l => by rw [hs]; nofun), State.trsFault_unlocked
          (Trs.settleRecord_loading (cause := .timeout) nofun hs (by rw [hw, hwl])) hi hq, hout]

end Sys2Proof.Machine
end

section
/-! PROOFS. CRU: the ends of a calibration (R95 to R97) and CALIBRATE (R84 to R86). -/

namespace Sys2Proof.Machine

variable {s t : State}

/-! ## The end of a calibration -/

theorem State.calEnd_eq {k : CalKind} (hk : s.cru.request = some k) (r : CalResult) :
    s.calEnd r = s.calOver (s.cru.doneNotice k r) [] := by
  unfold State.calEnd State.calOver
  rw [hk, List.append_nil]
  rfl

/-- The end of a calibration asks of CRU's record only what it keeps. -/
theorem State.calOver_of {c : Cru} (hq : c.quiesce = s.cru.quiesce) (hd : c.dark = s.cru.dark)
    (hp : c.profiles = s.cru.profiles) (n : Notice) (out : List Instr) :
    State.calOver { s with cru := c, inFlight := s.inFlight ++ out } n [] = s.calOver n out := by
  unfold State.calOver
  dsimp only
  rw [hq, hd, hp, List.append_nil]
  rfl

theorem State.calEnd_over {c : Cru} {k : CalKind} (hq : c.quiesce = s.cru.quiesce) (hd : c.dark = s.cru.dark)
    (hp : c.profiles = s.cru.profiles) (hk : c.request = some k) (r : CalResult) (out : List Instr) :
    State.calEnd { s with cru := c, inFlight := s.inFlight ++ out } r = s.calOver (c.doneNotice k r) out :=
  (State.calEnd_eq (s := { s with cru := c, inFlight := s.inFlight ++ out }) hk r).trans (State.calOver_of hq hd hp _ out)

theorem Cru.doneNotice_dark (c : Cru) {r : CalResult} (hr : r ≠ .ok) :
    c.doneNotice .dark r = .calDone .dark r none none none := by
  unfold Cru.doneNotice
  rw [if_neg fun h => hr h.2, if_pos rfl]

theorem Cru.doneNotice_flat (c : Cru) (p : Nat) {r : CalResult} (hr : r ≠ .ok) :
    c.doneNotice (.flat p) r = .calDone (.flat p) r none c.mean none := by
  unfold Cru.doneNotice
  rw [if_neg nofun, if_neg nofun]
  cases r with
  | ok => exact absurd rfl hr
  | _ => rfl

/-- A calibration that has measured no mean. -/
theorem Cru.doneNotice_unmeasured (c : Cru) (k : CalKind) {r : CalResult} (hr : r ≠ .ok) (hm : c.mean = none) :
    c.doneNotice k r = .calDone k r none none none := by
  cases k with
  | dark => exact c.doneNotice_dark hr
  | flat p => rw [c.doneNotice_flat p hr, hm]

/-- R95, R96: a dark calibration gives everything back and ends. -/
theorem State.calGiveUp_dark (out : List Instr) {r : CalResult} (hk : s.cru.request = some .dark) (hr : r ≠ .ok) :
    State.calGiveUp { s with inFlight := s.inFlight ++ out } r = s.calOver (.calDone .dark r none none none)
      (out ++ [.calRelease, .calworkReturn (s.cru.work.map Prod.fst), .darkHoldRelease]) := by
  refine Eq.trans ?_ ((State.calEnd_over (c := { s.cru with pend := some r, frameReq := false, work := [] }) rfl rfl rfl hk r
    (out ++ [.calRelease, .calworkReturn (s.cru.work.map Prod.fst), .darkHoldRelease])).trans
    (congrArg (s.calOver · _) (Cru.doneNotice_dark _ hr)))
  unfold State.calGiveUp
  dsimp only
  rw [hk]
  dsimp only
  unfold State.calFreeWork State.emit
  simp [Instr.asMessage]

/-- R95, R96: a flat calibration gives back BME and its slots, and asks for the unload of the reference carrier. -/
theorem State.calGiveUp_flat (out : List Instr) {p : Nat} (hk : s.cru.request = some (.flat p)) (r : CalResult) :
    State.calGiveUp { s with inFlight := s.inFlight ++ out } r = s.calBack out r := by
  unfold State.calGiveUp State.calBack
  dsimp only
  rw [hk]
  simp [State.calFreeWork, State.calUnload, State.emit, Instr.asMessage]

/-- R94: a calibration without a carrier gives everything back and ends. -/
theorem State.calStop_eq {k : CalKind} {r : CalResult} (hk : s.cru.request = some k) (hr : r ≠ .ok)
    (hm : s.cru.mean = none) : s.calStop r = s.calOver (.calDone k r none none none)
      [.calRelease, .calworkReturn (s.cru.work.map Prod.fst)] := by
  refine Eq.trans ?_ ((State.calEnd_over (c := { s.cru with work := [] }) rfl rfl rfl hk r
    [.calRelease, .calworkReturn (s.cru.work.map Prod.fst)]).trans
    (congrArg (s.calOver · _) (Cru.doneNotice_unmeasured _ k hr hm)))
  simp [State.calStop, State.calFreeWork, State.emit, Instr.asMessage]

/-- R95, R97: what of a calibration's slots is still held goes back. -/
theorem State.calFinish_eq {k : CalKind} (hk : s.cru.request = some k) (r : CalResult) :
    s.calFinish r = s.calOver (s.cru.doneNotice k r)
      (if s.cru.work = [] then [] else [.calworkReturn (s.cru.work.map Prod.fst)]) := by
  refine Eq.trans ?_ (State.calEnd_over (c := { s.cru with work := [] }) rfl rfl rfl hk r
    (if s.cru.work = [] then [] else [.calworkReturn (s.cru.work.map Prod.fst)]))
  unfold State.calFinish
  dsimp only
  by_cases hw : s.cru.work = []
  · rw [if_pos hw, if_pos (by rw [hw]; rfl), List.append_nil]
  · rw [if_neg hw, if_neg (by rw [List.map_eq_nil_iff]; exact hw)]
    rfl

/-! ## The frame of a series -/

/-- SFE exposes or reads a frame of CRU, and none of it is held for the repeat. -/
def Sfe.calFrameRuns (f : Sfe) : Prop := f.held.map (·.req.client) ≠ some .cru
  ∧ ((∃ e, f.exposing = some e ∧ e.req.client = .cru)
    ∨ ∃ q e m temp, f.readout = some q ∧ q.kind = .frame e m temp ∧ e.req.client = .cru ∧ q.dropped = false)

theorem State.calWithdrawFrame_eq (s : State) : s.calWithdrawFrame
    = { s with inFlight := s.inFlight ++ if s.cru.frameReq then [.exposureWithdraw .cru] else [] } :=
  State.emit_ite s.cru.frameReq (.exposureWithdraw .cru)

theorem State.calWithdrawPlan_flat {p : Nat} (hk : s.cru.request = some (.flat p)) : s.calWithdrawPlan
    = { s with inFlight := s.inFlight ++ [.planWithdraw (.cru p s.cru.flatDrive)] } := by
  unfold State.calWithdrawPlan Cru.planner?
  rw [hk]
  rfl

theorem State.calCancelSeries_waits (hf : s.cru.frameReq = true) (hr : s.sfe.calFrameRuns) : s.calCancelSeries
    = { s with cru := { s.cru with state := .cancelling, pend := some .cancelled, trsReq := none } } :=
  if_pos (by rw [hf, (Sfe.hasCalFrame_iff _).2 hr]; rfl)

theorem State.calCancelSeries_ends (h : s.cru.frameReq = false ∨ ¬ s.sfe.calFrameRuns) :
    s.calCancelSeries = s.calWithdrawFrame.calGiveUp .cancelled := by
  refine if_neg ?_
  rw [Bool.and_eq_true, Sfe.hasCalFrame_iff]
  rintro ⟨hf, hr⟩
  rcases h with h | h
  · rw [h] at hf
    cases hf
  · exact h hr

theorem exec_answered {h : Hdr} {c : Instr} {k : CommandKind} {owner : State → Answer} {a : Answer}
    (hc : exec c s = .next (command h k owner s)) (ht : s.takes h) (ha : owner s = a) :
    exec c s = .next (a.state.replied h k a.status a.body) := by
  rw [← ha]
  exact exec_command hc ht

theorem State.calibrateDark_busy (hs : s.cru.state ≠ .idle) : s.calibrateDark = .refuse s .busy := if_pos hs

theorem State.calibrateDark_running (hs : s.cru.state = .idle) (ha : s.prc.active ≠ none) (hr : ∀ c, s.prc.run ≠ .held c) :
    s.calibrateDark = .refuse s .wrongState := by
  unfold State.calibrateDark
  rw [if_neg fun h => h hs]
  refine if_pos ?_
  rw [Option.isSome_iff_ne_none.2 ha]
  cases hrun : s.prc.run with
  | held c => exact absurd hrun (hr c)
  | _ => rfl

theorem State.calibrateDark_exposing (hs : s.cru.state = .idle) (he : s.prc.activeExposing = true) :
    s.calibrateDark = .refuse s .wrongState := by
  unfold State.calibrateDark
  rw [if_neg fun h => h hs, if_pos he, ite_self]

theorem State.calibrateDark_accepts (hs : s.cru.state = .idle) (hr : s.prc.active = none ∨ ∃ c, s.prc.run = .held c)
    (he : s.prc.activeExposing = false) : s.calibrateDark = .okay (s.calAccept .dark) := by
  unfold State.calibrateDark
  rw [if_neg fun h => h hs]
  refine (if_neg ?_).trans (if_neg (by rw [he]; nofun))
  rcases hr with ha | ⟨c, hc⟩
  · rw [ha]
    exact nofun
  · rw [hc, Bool.and_false]
    exact nofun

/-- Settles O30. -/
theorem calibrateCommands : Obligations.CalibrateCommands := by
  refine ⟨fun h s ht => ?_, fun h s ht => ?_⟩
  · intro waiting
    refine ⟨fun hs => ?_, fun hs hor => ?_, fun hs hrun hexp => ?_, fun k => ?_, fun p => ?_⟩
    · exact exec_answered rfl ht (State.calibrateDark_busy hs)
    · rcases hor with ⟨ha, hnh⟩ | ⟨j, hj, hx⟩
      · exact exec_answered rfl ht (State.calibrateDark_running hs ha hnh)
      · exact exec_answered rfl ht (State.calibrateDark_exposing hs ((Prc.activeExposing_iff hj).2 hx))
    · refine exec_answered rfl ht (State.calibrateDark_accepts hs hrun ?_)
      unfold Prc.activeExposing
      cases hj : s.prc.activeJob? with
      | none => rfl
      | some j => simpa using hexp j hj
    · have hcru : (waiting k).cruTest.cru = { (waiting k).cru with work := (waiting k).cruTest.cru.work } := by
        unfold State.cruTest
        (repeat' split) <;> rfl
      rw [hcru]
      obtain ⟨hl, hp, -⟩ := State.cruTest_frame (waiting k)
      exact ⟨rfl, rfl, hl, hp⟩
    · rw [exec_answered (owner := fun s => s.calibrateFlat p) rfl ht rfl]
      refine congrArg Host.Outcome.next ?_
      unfold State.calibrateFlat
      by_cases h1 : 3 < p
      · rw [if_pos h1, if_pos h1]
        rfl
      rw [if_neg h1, if_neg h1]
      by_cases h2 : s.cru.state ≠ .idle
      · rw [if_pos h2, if_pos h2]
        rfl
      rw [if_neg h2, if_neg h2]
      by_cases h3 : s.prc.active ≠ none
      · rw [if_pos (Option.isSome_iff_ne_none.2 h3), if_pos h3]
        rfl
      rw [if_neg (mt Option.isSome_iff_ne_none.1 h3), if_neg h3]
      by_cases h4 : s.trs.state = .unhomed
      · rw [if_pos h4, if_pos h4]
        rfl
      rw [if_neg h4, if_neg h4]
      by_cases h5 : s.trs.state ≠ .empty
      · rw [if_pos h5, if_pos h5]
        rfl
      rw [if_neg h5, if_neg h5]
      by_cases h6 : s.cru.dark.valid = false
      · rw [if_pos h6, if_pos h6]
        rfl
      rw [if_neg h6, if_neg h6]
      rfl
  · intro frame
    have hcancel : ∀ {a : Answer}, s.calCancel = a →
        exec (.calibrateCancel h) s = .next (a.state.replied h .calibrate a.status a.body) := fun ha =>
      exec_answered rfl ht ha
    refine ⟨fun hs => ?_, fun k hs hk hw hm => ?_, fun hs hk => ⟨fun hf hr => ?_, fun hor => ?_⟩, fun hs => ?_,
      fun p hs hk => ?_, fun p hs hk => ⟨fun hf hr => ?_, fun hor => ?_⟩, fun hs => ⟨fun hp => ?_, fun hp => ?_⟩,
      fun hs => ?_⟩
    · exact hcancel (a := .refuse s .wrongState) (by simp [State.calCancel, hs])
    · have ha : s.calCancel = .okay (s.calOver (.calDone k .cancelled none none none) []) := by
        unfold State.calCancel
        rw [hs]
        dsimp only
        rw [State.calFinish_eq hk, if_pos hw, Cru.doneNotice_unmeasured _ k (r := .cancelled) nofun hm]
      exact hcancel ha
    · have ha : s.calCancel = .okay { s with cru := { s.cru with state := .cancelling, pend := some .cancelled, trsReq := none } } := by
        unfold State.calCancel
        rw [← State.calCancelSeries_waits hf hr]
        rcases hs with hs | hs <;> rw [hs]
      exact hcancel ha
    · have hgive := State.calGiveUp_dark (r := .cancelled) (if s.cru.frameReq then [.exposureWithdraw .cru] else []) hk nofun
      rw [← State.calWithdrawFrame_eq, ← State.calCancelSeries_ends hor] at hgive
      have ha : s.calCancel = .okay s.calCancelSeries := by
        unfold State.calCancel
        rcases hs with hs | hs <;> rw [hs]
      rw [hcancel ha, hgive]
      rfl
    · exact hcancel (a := .okay { s with cru := { s.cru with state := .cancelling, pend := some .cancelled } })
        (by simp [State.calCancel, hs])
    · have ha : s.calCancel = .okay (s.calBack [.planWithdraw (.cru p s.cru.flatDrive)] .cancelled) := by
        unfold State.calCancel
        rw [hs]
        dsimp only
        rw [State.calWithdrawPlan_flat hk, State.calGiveUp_flat _ hk]
      exact hcancel ha
    · have ha : s.calCancel = .okay { s with cru := { s.cru with state := .cancelling, pend := some .cancelled, trsReq := none } } := by
        unfold State.calCancel
        rw [← State.calCancelSeries_waits hf hr, hs]
      exact hcancel ha
    · have hgive := State.calGiveUp_flat (if s.cru.frameReq then [.exposureWithdraw .cru] else []) hk .cancelled
      rw [← State.calWithdrawFrame_eq, ← State.calCancelSeries_ends hor] at hgive
      have ha : s.calCancel = .okay s.calCancelSeries := by
        unfold State.calCancel
        rw [hs]
      rw [hcancel ha, hgive]
      rfl
    · obtain ⟨c, hp⟩ := hp
      exact hcancel (a := .okay s) (by simp [State.calCancel, hs, hp])
    · exact hcancel (a := .okay { s with cru := { s.cru with pend := some .cancelled } }) (by simp [State.calCancel, hs, hp])
    · exact hcancel (a := .okay s) (by simp [State.calCancel, hs])

end Sys2Proof.Machine
end

section
/-! PROOFS. CRU: the frames of a series, the commits and the failures (R86, R88 to R97). -/

namespace Sys2Proof.Machine

variable {s t : State}

/-! ## The frames -/

theorem State.calFrame_dark {r : ExposureReq} (h : s.cru.frameRequest = some r) (hl : r.lamp = .dark) : s.calFrame
    = { s with cru := { s.cru with frameReq := true }, inFlight := s.inFlight ++ [.exposureRequest r] } := by
  unfold State.calFrame
  rw [h]
  dsimp only
  rw [hl]
  rfl

theorem State.calFrame_lit {r : ExposureReq} {d : Nat} (h : s.cru.frameRequest = some r) (hl : r.lamp = .settled d) :
    s.calFrame = { s with
      cru := { s.cru with frameReq := true }
      inFlight := s.inFlight ++ [.lightRequest d, .exposureRequest r] } := by
  unfold State.calFrame
  rw [h]
  dsimp only
  rw [hl]
  simp [State.emit, Instr.asMessage]

theorem Cru.frameRequest_bias {c : Cru} {n : Nat} (hs : c.state = .darkBias) (hn : c.slotOf .exposure = some n) :
    c.frameRequest = some { client := .cru, time := 1, target := .calwork n, lamp := .dark, stage := false } := by
  unfold Cru.frameRequest
  rw [hn, hs]

theorem Cru.frameRequest_rate {c : Cru} {n : Nat} (hs : c.state = .darkRate) (hn : c.slotOf .exposure = some n) :
    c.frameRequest = some { client := .cru, time := c.darkTime, target := .calwork n, lamp := .dark, stage := false } := by
  unfold Cru.frameRequest
  rw [hn, hs]

theorem Cru.frameRequest_flat {c : Cru} {n : Nat} {e : PlanEntry} (hs : c.state = .flatFrames) (hp : c.plan = some e)
    (hn : c.slotOf .exposure = some n) : c.frameRequest
      = some { client := .cru, time := e.time, target := .calwork n, lamp := .settled e.drive, stage := true } := by
  unfold Cru.frameRequest
  rw [hn, hs, hp]

theorem Cru.awaits_of {c : Cru} {lo hi : Nat} (hs : c.state = .waiting) (hl : c.slotOf .workLow = some lo)
    (hh : c.slotOf .workHigh = some hi) : c.awaits lo hi = true := by
  simp [Cru.awaits, hs, hl, hh]

theorem State.calFrameDone_dark {temp : Int} {m : Option Nat} {n : Nat} (hf : s.cru.frameReq = true)
    (hq : s.cru.quiesce = false) (hs : s.cru.state = .darkBias ∨ s.cru.state = .darkRate)
    (hn : s.cru.slotOf .exposure = some n) : s.calFrameDone temp m = { s with
      cru := { s.cru with frameReq := false, tempSum := s.cru.tempSum + temp }
      inFlight := s.inFlight ++ [.accumulateRequest n .raw] } := by
  unfold State.calFrameDone
  rw [hf, if_neg nofun]
  dsimp only
  rw [if_neg (by rw [hq]; nofun)]
  have hn' : ({ s.cru with frameReq := false } : Cru).slotOf .exposure = some n := hn
  rw [hn']
  rcases hs with hs | hs
  · simp [hs, State.emit, Instr.asMessage]
  · simp [hs, State.emit, Instr.asMessage]

theorem State.calFrameDone_flat {temp : Int} {v n : Nat} {e : PlanEntry} (hf : s.cru.frameReq = true)
    (hq : s.cru.quiesce = false) (hs : s.cru.state = .flatFrames) (hp : s.cru.plan = some e)
    (hn : s.cru.slotOf .exposure = some n) : s.calFrameDone temp (some v) = { s with
      cru := { s.cru with frameReq := false, mSum := s.cru.mSum + v }
      inFlight := s.inFlight ++ [.accumulateRequest n (.darkCorrected e.time)] } := by
  unfold State.calFrameDone
  rw [hf, if_neg nofun]
  dsimp only
  rw [if_neg (by rw [hq]; nofun)]
  have hn' : ({ s.cru with frameReq := false } : Cru).slotOf .exposure = some n := hn
  rw [hn']
  simp [hs, hp, State.emit, Instr.asMessage]

theorem State.calFrameDone_cancelling {temp : Int} {m : Option Nat} (hf : s.cru.frameReq = true)
    (hq : s.cru.quiesce = false) (hs : s.cru.state = .cancelling) : s.calFrameDone temp m
      = State.calGiveUp { s with cru := { s.cru with frameReq := false } } (s.cru.pend.getD .cancelled) := by
  unfold State.calFrameDone
  rw [hf, if_neg nofun]
  dsimp only
  rw [if_neg (by rw [hq]; nofun)]
  simp [hs]

theorem State.calAccumulated_next {k : Nat} (hq : s.cru.quiesce = false) (hf : s.cru.frameReq = false)
    (hs : s.cru.state.series = true) (hk : s.cru.frames = k) (hlt : k < 15) :
    s.calAccumulated = State.calFrame { s with cru := { s.cru with frames := k + 1 } } := by
  unfold State.calAccumulated
  rw [hq, hf, hs, hk, if_neg (by rw [decide_eq_false (by omega)]; nofun)]
  exact if_pos (by show k + 1 < 16; omega)

theorem State.calAccumulated_last {c : Instr} (hq : s.cru.quiesce = false) (hf : s.cru.frameReq = false)
    (hs : s.cru.state.series = true) (hk : s.cru.frames = 15) (hc : s.cru.finishRequest = some c) :
    s.calAccumulated = State.emit { s with cru := { s.cru with frames := 16 } } c := by
  unfold State.calAccumulated
  rw [hq, hf, hs, hk, if_neg nofun]
  dsimp only
  rw [if_neg (by omega)]
  have hc' : ({ s.cru with frames := 15 + 1 } : Cru).finishRequest = some c := hc
  rw [hc']

/-- The end of a dark series cancelled, at its last frame. -/
theorem State.calGiveUp_framed_dark {r : CalResult} (hk : s.cru.request = some .dark) (hr : r ≠ .ok) :
    State.calGiveUp { s with cru := { s.cru with frameReq := false } } r = s.calOver (.calDone .dark r none none none)
      [.calRelease, .calworkReturn (s.cru.work.map Prod.fst), .darkHoldRelease] := by
  have hgive := State.calGiveUp_dark (s := { s with cru := { s.cru with frameReq := false } }) [] hk hr
  rw [List.append_nil] at hgive
  exact hgive

/-- The end of a flat series cancelled, at its last frame. -/
theorem State.calGiveUp_framed_flat {p : Nat} (hk : s.cru.request = some (.flat p)) (r : CalResult) :
    State.calGiveUp { s with cru := { s.cru with frameReq := false } } r = s.calBack [] r := by
  have hgive := State.calGiveUp_flat (s := { s with cru := { s.cru with frameReq := false } }) [] hk r
  rw [List.append_nil] at hgive
  exact hgive

theorem Cru.series_dark {c : Cru} (hs : c.state = .darkBias ∨ c.state = .darkRate) : c.state.series = true := by
  rcases hs with hs | hs
  · exact congrArg CruState.series hs
  · exact congrArg CruState.series hs

/-- Settles O31. -/
theorem calibrationFrames : Obligations.CalibrationFrames := by
  intro s lo hi n hq hn dark lit
  refine ⟨fun hs hl hh => ?_, fun temp m hf => ⟨fun hs => ?_, fun e v hs hp hm => ?_, fun hs hp => ?_⟩,
    fun hf hlt => ⟨fun hs => ?_, fun e hs hp => ?_⟩, fun hf hk b r f => ⟨fun hs hb => ?_, fun hs hb hr => ?_, fun hs hfl => ?_⟩⟩
  · have haw : s.cru.awaits lo hi = true := Cru.awaits_of hs hl hh
    refine ⟨fun hk => congrArg Host.Outcome.next ?_, fun p hk => congrArg Host.Outcome.next ?_, congrArg Host.Outcome.next ?_⟩
    · unfold State.calAnswered
      rw [if_pos (by exact haw), if_pos rfl, show (s.deliver _).cru.request = some .dark from hk]
      dsimp only
      rw [State.calFrame_dark (Cru.frameRequest_bias rfl (by exact hn)) rfl]
      simp [State.emit, State.deliver, Instr.asMessage, dark]
    · unfold State.calAnswered
      rw [if_pos (by exact haw), if_pos rfl, show (s.deliver _).cru.request = some (.flat p) from hk]
      rfl
    · unfold State.calAnswered
      rw [if_pos (by exact haw), if_neg nofun]
      rfl
  · exact congrArg Host.Outcome.next (State.calFrameDone_dark (by exact hf) (by exact hq) (by exact hs) (by exact hn))
  · rw [hm]
    exact congrArg Host.Outcome.next (State.calFrameDone_flat (by exact hf) (by exact hq) (by exact hs) (by exact hp) (by exact hn))
  · intro u
    have hdone : exec (.calFrameComplete temp m) s
        = .next (State.calGiveUp { u with cru := { u.cru with frameReq := false } } .cancelled) := by
      refine congrArg Host.Outcome.next ((State.calFrameDone_cancelling (by exact hf) (by exact hq) (by exact hs)).trans ?_)
      rw [show (s.deliver _).cru.pend = some .cancelled from hp]
      rfl
    refine ⟨fun hk => ?_, fun p hk => ?_⟩
    · exact hdone.trans (congrArg Host.Outcome.next (State.calGiveUp_framed_dark (s := u) (r := .cancelled) hk nofun))
    · exact hdone.trans (congrArg Host.Outcome.next (State.calGiveUp_framed_flat (s := u) hk .cancelled))
  · refine congrArg Host.Outcome.next ((State.calAccumulated_next (s := s.deliver .accumulationComplete) hq hf
      (Cru.series_dark hs) rfl hlt).trans ?_)
    rcases hs with hs | hs
    · rw [State.calFrame_dark (Cru.frameRequest_bias (by exact hs) (by exact hn)) rfl, hs, if_pos rfl]
      rfl
    · rw [State.calFrame_dark (Cru.frameRequest_rate (by exact hs) (by exact hn)) rfl, hs, if_neg nofun]
      rfl
  · refine congrArg Host.Outcome.next ((State.calAccumulated_next (s := s.deliver .accumulationComplete) hq hf
      (congrArg CruState.series hs) rfl hlt).trans ?_)
    rw [State.calFrame_lit (Cru.frameRequest_flat (by exact hs) (by exact hp) (by exact hn)) rfl]
    rfl
  · refine congrArg Host.Outcome.next (State.calAccumulated_last (c := .biasFinish b) (s := s.deliver .accumulationComplete)
      hq hf (congrArg CruState.series hs) hk ?_)
    show s.cru.finishRequest = _
    simp [Cru.finishRequest, hs, hb]
  · refine congrArg Host.Outcome.next (State.calAccumulated_last (c := .rateFinish s.cru.darkTime b r)
      (s := s.deliver .accumulationComplete) hq hf (congrArg CruState.series hs) hk ?_)
    show s.cru.finishRequest = _
    simp [Cru.finishRequest, hs, hb, hr]
  · refine congrArg Host.Outcome.next (State.calAccumulated_last (c := .flatMean f) (s := s.deliver .accumulationComplete)
      hq hf (congrArg CruState.series hs) hk ?_)
    show s.cru.finishRequest = _
    simp [Cru.finishRequest, hs, hfl]

end Sys2Proof.Machine
end

section
/-! PROOFS. CRU: the commits of a calibration and its failures (R89 to R97). -/

namespace Sys2Proof.Machine

variable {s t : State}

/-! ## The commit of a dark calibration -/

/-- A slot that is CALWORK is under no name, so a commit of another slot leaves it as it is. -/
theorem Fst.slot_commitRef_calwork {f : Fst} {i k : Nat} {name : RefName} {role own : CalRole}
    (hi : f.slot i = some (.calwork role)) (hn : name.valid = true) (hk : f.slot k = some (.calwork own)) (hne : k ≠ i) :
    (f.commitRef i name).slot k = some (.calwork own) := by
  rw [Fst.slot_commitRef hi hn, if_neg hne, hk, if_neg nofun]

/-- The frame store after the commit of a dark calibration: its results become the dark references, and its working
slots are FREE (R90). -/
def Fst.darkCommitted (f : Fst) (b r : Nat) (rest : List Nat) : Fst :=
  (f.commit [(b, .bias), (r, .rate)]).setSlots (rest.filter (f.commit [(b, .bias), (r, .rate)]).isCalwork) .free

theorem Fst.darkCommitted_eq (f : Fst) (b r : Nat) (rest : List Nat) :
    f.darkCommitted b r rest = { f with slots := (f.darkCommitted b r rest).slots } := by
  obtain ⟨g, hg⟩ : ∃ g : Fst, g = f.commit [(b, .bias), (r, .rate)] := ⟨_, rfl⟩
  have hkeeps := f.commit_eq [(b, .bias), (r, .rate)]
  unfold Fst.darkCommitted
  rw [← hg] at hkeeps ⊢
  rw [Fst.setSlots_eq, hkeeps]

theorem Fst.slot_darkCommitted {f : Fst} {b r : Nat} {rest : List Nat} (hb : f.slot b = some (.calwork .biasResult))
    (hr : f.slot r = some (.calwork .rateResult)) (hrest : ∀ i ∈ rest, ∃ role, f.slot i = some (.calwork role))
    (hne : r ≠ b) (hbr : b ∉ rest) (hrr : r ∉ rest) (i : Nat) : (f.darkCommitted b r rest).slot i
      = if i = b then some (.ref .bias) else if i = r then some (.ref .rate) else if i ∈ rest then some .free
        else if f.slot i = some (.ref .bias) ∨ f.slot i = some (.ref .rate) then some .free else f.slot i := by
  have hr' := Fst.slot_commitRef_calwork hb (name := .bias) rfl hr hne
  have hcommit : ∀ k, (f.commit [(b, .bias), (r, .rate)]).slot k = if k = r then some (.ref .rate)
      else if (f.commitRef b .bias).slot k = some (.ref .rate) then some .free else (f.commitRef b .bias).slot k :=
    fun k => Fst.slot_commitRef hr' rfl k
  have hcal : ∀ k ∈ rest, (f.commit [(b, .bias), (r, .rate)]).isCalwork k = true := by
    intro k hk
    obtain ⟨role, hrole⟩ := hrest k hk
    have hkb := Fst.slot_commitRef_calwork hb (name := .bias) rfl hrole (ne_of_mem_of_not_mem hk hbr)
    exact Fst.isCalwork_iff.2 ⟨role, Fst.slot_commitRef_calwork hr' (name := .rate) rfl hkb (ne_of_mem_of_not_mem hk hrr)⟩
  unfold Fst.darkCommitted
  rw [Fst.slot_setSlots, List.filter_eq_self.2 hcal]
  by_cases hi : i ∈ rest
  · obtain ⟨role, hrole⟩ := hrest i hi
    rw [if_pos ⟨hi, Fst.lt_of_slot hrole⟩, if_neg (ne_of_mem_of_not_mem hi hbr),
      if_neg (ne_of_mem_of_not_mem hi hrr), if_pos hi]
  · rw [if_neg fun h => hi h.1, hcommit, Fst.slot_commitRef hb rfl]
    by_cases hib : i = b
    · rw [if_pos hib, if_pos hib, if_neg fun h => hne (h.symm.trans hib), if_neg nofun]
    · rw [if_neg hib, if_neg hib, if_neg hi]
      refine if_congr Iff.rfl rfl ?_
      by_cases hbias : f.slot i = some (.ref .bias)
      · simp [hbias]
      · simp [hbias]

theorem State.calRateDone_commits {lo hi n b r : Nat} (hd : s.cru.seriesDone .darkRate = true) (hk : s.cru.request = some .dark)
    (hw : s.cru.work = [(lo, .workLow), (hi, .workHigh), (n, .exposure), (b, .biasResult), (r, .rateResult)])
    (hs : s.cru.state = .darkRate) (hwait : s.fst.wait = none) : s.calRateDone = State.calOver { s with
      fst := s.fst.darkCommitted b r [lo, hi, n]
      cru := { s.cru with dark :=
        { biasSlot := some b, rateSlot := some r, b0 := s.cru.newB0, temp := darkTemp s.cru.tempSum, valid := true } } }
    (.calDone .dark .ok (some (s.cru.newB0, darkTemp s.cru.tempSum)) none none) [.calRelease, .darkHoldRelease] := by
  have hb : s.cru.slotOf .biasResult = some b := by simp [Cru.slotOf, hw]
  have hr : s.cru.slotOf .rateResult = some r := by simp [Cru.slotOf, hw]
  have hrest : s.cru.slotsOf [.workLow, .workHigh, .exposure] = [lo, hi, n] := by simp [Cru.slotsOf, Cru.slotOf, hw]
  unfold State.calRateDone
  rw [hd, hb, hr]
  dsimp only
  rw [hrest, State.afterFree_of_idle]
  · obtain ⟨v, hv⟩ : ∃ v : State, v = { s with
      fst := s.fst.darkCommitted b r [lo, hi, n]
      cru := { s.cru with dark :=
        { biasSlot := some b, rateSlot := some r, b0 := s.cru.newB0, temp := darkTemp s.cru.tempSum, valid := true } } } :=
      ⟨_, rfl⟩
    have hend := State.calEnd_over (s := v) (c := { v.cru with work := [] }) (k := .dark) rfl rfl rfl (by rw [hv]; exact hk)
      .ok [.calRelease, .darkHoldRelease]
    rw [hv] at hend
    refine Eq.trans ?_ hend
    simp [State.emit, Instr.asMessage, Fst.darkCommitted]
  · exact (congrArg Fst.wait (s.fst.darkCommitted_eq b r [lo, hi, n])).trans hwait
  · exact fun h => nomatch hs.symm.trans h

/-- Settles O32. -/
theorem darkCalibrationCommits : Obligations.DarkCalibrationCommits := by
  intro s lo hi n b r b0 hq hfr hk hw
  have hdone : ∀ st, s.cru.state = st → s.cru.seriesDone st = true := fun st hst => by
    simp [Cru.seriesDone, hst, hfr, hq]
  have hn : s.cru.slotOf .exposure = some n := by simp [Cru.slotOf, hw]
  refine ⟨fun hs => congrArg Host.Outcome.next ?_, fun hs => congrArg Host.Outcome.next ?_, fun hs hwait hnd hcal => ?_⟩
  · exact if_pos (by exact hdone _ hs)
  · refine (if_pos (by exact hdone _ hs)).trans ((State.calFrame_dark (Cru.frameRequest_rate rfl (by exact hn)) rfl).trans ?_)
    rfl
  · intro temp
    rw [hw] at hcal
    have hslots : ∀ i ∈ [lo, hi, n], ∃ role, s.fst.slot i = some (.calwork role) := by
      intro i hi'
      simp only [List.mem_cons, List.not_mem_nil, or_false] at hi'
      rcases hi' with rfl | rfl | rfl
      · exact ⟨_, hcal (_, .workLow) (by simp)⟩
      · exact ⟨_, hcal (_, .workHigh) (by simp)⟩
      · exact ⟨_, hcal (_, .exposure) (by simp)⟩
    have hb := hcal (b, .biasResult) (by simp)
    have hr := hcal (r, .rateResult) (by simp)
    have hbr : b ∉ [lo, hi, n] := by simp at hnd ⊢; omega
    have hrr : r ∉ [lo, hi, n] := by simp at hnd ⊢; omega
    have hne : r ≠ b := by simp at hnd; omega
    refine ⟨s.fst.darkCommitted b r [lo, hi, n], congrArg Host.Outcome.next ?_, s.fst.darkCommitted_eq b r _, fun i => ?_⟩
    · exact State.calRateDone_commits (s := s.deliver .rateFinishComplete) (hdone _ hs) hk hw hs hwait
    · rw [Fst.slot_darkCommitted hb hr hslots hne hbr hrr]
      simp

/-! ## The commit of a flat calibration -/

theorem Cru.planner?_flat {c : Cru} {p : Nat} (hk : c.request = some (.flat p)) : c.planner? = some (.cru p c.flatDrive) := by
  unfold Cru.planner?
  rw [hk]

/-- A flat calibration gives up, with nothing of its own to withdraw. -/
theorem State.calGiveUp_back {p : Nat} (hk : s.cru.request = some (.flat p)) (r : CalResult) :
    s.calGiveUp r = s.calBack [] r := by
  have hgive := State.calGiveUp_flat [] hk r
  rw [List.append_nil] at hgive
  exact hgive

theorem State.calLoaded_load (hq : s.cru.quiesce = false) (hs : s.cru.state = .flatLoad) (ht : s.cru.trsReq = some .load) :
    s.calLoaded = { s with
      cru := { s.cru with trsReq := some .move }, inFlight := s.inFlight ++ [.moveRequest .cru .aperture] } := by
  unfold State.calLoaded
  rw [if_neg (by rw [hq]; nofun), hs, ht]
  rfl

theorem State.calLoaded_cancelling (hq : s.cru.quiesce = false) (hs : s.cru.state = .cancelling)
    (ht : s.cru.trsReq = some .load) : s.calLoaded = s.calGiveUp (s.cru.pend.getD .cancelled) := by
  unfold State.calLoaded
  rw [if_neg (by rw [hq]; nofun), hs, ht]

theorem State.calSettled_move {p : Nat} (hq : s.cru.quiesce = false) (hs : s.cru.state = .flatLoad)
    (ht : s.cru.trsReq = some .move) (hk : s.cru.request = some (.flat p)) : s.calSettled = { s with
      cru := { s.cru with state := .flatMeter, trsReq := none }
      inFlight := s.inFlight ++ [.planRequest (.cru p s.cru.flatDrive)] } := by
  unfold State.calSettled
  rw [if_neg (by rw [hq]; nofun), hs, ht, Cru.planner?_flat hk]
  rfl

theorem State.calSettled_cancelling (hq : s.cru.quiesce = false) (hs : s.cru.state = .cancelling)
    (ht : s.cru.trsReq = some .move) : s.calSettled = s.calGiveUp (s.cru.pend.getD .cancelled) := by
  unfold State.calSettled
  rw [if_neg (by rw [hq]; nofun), hs, ht]

theorem State.calMeanDone_low {f mean : Nat} {e : PlanEntry} (hd : s.cru.seriesDone .flatFrames = true)
    (hf : s.cru.slotOf .flatResult = some f) (hp : s.cru.plan = some e) (hlow : mean < 2048) :
    s.calMeanDone mean = State.calGiveUp { s with cru := { s.cru with mean := some mean } } (.failed .flatLow) := by
  unfold State.calMeanDone
  rw [hd, hf, hp]
  exact if_pos hlow

theorem State.calMeanDone_gain {f mean : Nat} {e : PlanEntry} (hd : s.cru.seriesDone .flatFrames = true)
    (hf : s.cru.slotOf .flatResult = some f) (hp : s.cru.plan = some e) (hlow : 2048 ≤ mean) :
    s.calMeanDone mean = { s with
      cru := { s.cru with
        mean := some mean
        mFlat := (s.cru.mSum + 8) / 16
        newYClear := clearIntensity mean (e.time * ((s.cru.mSum + 8) / 16)) }
      inFlight := s.inFlight ++ [.flatGain f mean (clearIntensity mean (e.time * ((s.cru.mSum + 8) / 16)))] } := by
  unfold State.calMeanDone
  rw [hd, hf, hp]
  exact if_neg (by omega)

theorem clearIntensity_pos (mean : Nat) {e : Nat} (he : 0 < e) :
    clearIntensity mean e = min 4294967295 ((2 * mean * 16777216 + e) / (2 * e)) := if_neg (by omega)

/-- R93, R94: the gain of a flat calibration is in its slot, and all but it is given back. -/
theorem State.calGainDone_done {lo hi n f : Nat} (defects lClear : Nat) (hd : s.cru.seriesDone .flatFrames = true)
    (hm : s.cru.mean.isSome = true)
    (hw : s.cru.work = [(lo, .workLow), (hi, .workHigh), (n, .exposure), (f, .flatResult)]) :
    s.calGainDone defects lClear = { s with
      cru := { s.cru with
        state := .flatUnload, defects := defects, newLClear := lClear, work := [(f, .flatResult)]
        trsReq := some .unload, frameReq := false }
      inFlight := s.inFlight ++ [.calRelease, .calworkReturn [lo, hi, n], .unloadRequest .cru true] } := by
  have hrest : s.cru.slotsOf [.workLow, .workHigh, .exposure] = [lo, hi, n] := by simp [Cru.slotsOf, Cru.slotOf, hw]
  unfold State.calGainDone
  rw [hd, hm, if_pos (by rfl), hrest]
  simp [hw, State.calUnload, State.emit, Instr.asMessage]

theorem State.calUnloaded_pending {r : CalResult} (hq : s.cru.quiesce = false) (hs : s.cru.state = .flatUnload)
    (hp : s.cru.pend = some r) : s.calUnloaded = s.calFinish r := by
  unfold State.calUnloaded
  rw [if_pos ⟨hs, hq⟩, hp]

theorem State.calUnloaded_commits {p f : Nat} (hq : s.cru.quiesce = false) (hs : s.cru.state = .flatUnload)
    (hp : s.cru.pend = none) (hk : s.cru.request = some (.flat p)) (hf : s.cru.slotOf .flatResult = some f) :
    s.calUnloaded = s.calCommitFlat p f := by
  unfold State.calUnloaded
  rw [if_pos ⟨hs, hq⟩, hp, hk, hf]

theorem State.calCommitFlat_eq {p f : Nat} {e : PlanEntry} (hk : s.cru.request = some (.flat p)) (hp : s.cru.plan = some e)
    (hs : s.cru.state = .flatUnload) (hwait : s.fst.wait = none) : s.calCommitFlat p f = State.calOver { s with
      fst := s.fst.commit [(f, .flat p)]
      cru := { s.cru with profiles := (s.cru.profiles.setIfInBounds p
        { flatSlot := some f, yClear := s.cru.newYClear, lClear := s.cru.newLClear, valid := true }) } }
    (.calDone (.flat p) .ok none s.cru.mean
      (some (e, s.cru.mFlat, s.cru.newYClear, s.cru.newLClear, s.cru.defects, s.cru.planFlags))) [] := by
  obtain ⟨v, hv⟩ : ∃ v : State, v = { s with
      fst := s.fst.commit [(f, .flat p)]
      cru := { s.cru with profiles := (s.cru.profiles.setIfInBounds p
        { flatSlot := some f, yClear := s.cru.newYClear, lClear := s.cru.newLClear, valid := true }) } } := ⟨_, rfl⟩
  have hend := State.calEnd_over (s := v) (c := { v.cru with work := [] }) (k := .flat p) rfl rfl rfl (by rw [hv]; exact hk)
    .ok []
  have hdone : ({ v.cru with work := [] } : Cru).doneNotice (.flat p) .ok = .calDone (.flat p) .ok none s.cru.mean
      (some (e, s.cru.mFlat, s.cru.newYClear, s.cru.newLClear, s.cru.defects, s.cru.planFlags)) := by
    simp [Cru.doneNotice, hv, hp]
  rw [hdone, hv, List.append_nil] at hend
  unfold State.calCommitFlat
  dsimp only
  rw [State.afterFree_of_idle]
  · exact hend
  · exact (congrArg Fst.wait (s.fst.commit_eq [(f, .flat p)])).trans hwait
  · exact fun h => nomatch hs.symm.trans h

/-- Settles O33. -/
theorem flatCalibrationCommits : Obligations.FlatCalibrationCommits := by
  intro s p hq hk
  refine ⟨fun hs ht => congrArg Host.Outcome.next (State.calLoaded_load (by exact hq) (by exact hs) (by exact ht)),
    fun hs ht => congrArg Host.Outcome.next (State.calSettled_move (by exact hq) (by exact hs) (by exact ht) (by exact hk)),
    fun hs hp => ⟨fun ht => congrArg Host.Outcome.next ?_, fun ht => congrArg Host.Outcome.next ?_⟩,
    fun e flags n hs hn => congrArg Host.Outcome.next ?_, fun lo hi n f e hfr hs hp hw => ?_,
    fun f e hs hp hw he hlt hwait hf => ?_, fun r hs hp hr => congrArg Host.Outcome.next ?_⟩
  · refine (State.calLoaded_cancelling (by exact hq) (by exact hs) (by exact ht)).trans ?_
    rw [show (s.deliver .flatLoadComplete).cru.pend = _ from hp]
    exact State.calGiveUp_back (by exact hk) .cancelled
  · refine (State.calSettled_cancelling (by exact hq) (by exact hs) (by exact ht)).trans ?_
    rw [show (s.deliver .flatSettleComplete).cru.pend = _ from hp]
    exact State.calGiveUp_back (by exact hk) .cancelled
  · refine (if_pos (by exact ⟨hs, hq⟩)).trans ?_
    exact (State.calFrame_lit (Cru.frameRequest_flat rfl (by rfl) (by exact hn)) rfl)
  · have hd : s.cru.seriesDone .flatFrames = true := by simp [Cru.seriesDone, hs, hfr, hq]
    have hf : s.cru.slotOf .flatResult = some f := by simp [Cru.slotOf, hw]
    refine ⟨fun mean hlow => congrArg Host.Outcome.next ?_, fun mean hlow => ?_, fun defects lClear hm =>
      congrArg Host.Outcome.next (State.calGainDone_done (s := s.deliver (.flatGainComplete defects lClear)) _ _ hd hm hw)⟩
    · exact (State.calMeanDone_low (s := s.deliver (.flatMeanComplete mean)) hd hf hp hlow).trans (State.calGiveUp_back (by exact hk) _)
    · intro mf ef hef y
      refine congrArg Host.Outcome.next ((State.calMeanDone_gain (s := s.deliver (.flatMeanComplete mean)) hd hf hp hlow).trans ?_)
      have hy : clearIntensity mean (e.time * ((s.cru.mSum + 8) / 16)) = y := clearIntensity_pos mean hef
      rw [show (s.deliver (.flatMeanComplete mean)).cru = s.cru from rfl, hy]
      rfl
  · have hslot : s.cru.slotOf .flatResult = some f := by simp [Cru.slotOf, hw]
    refine ⟨s.fst.commit [(f, .flat p)], congrArg Host.Outcome.next ((State.calUnloaded_commits (s := s.deliver .flatUnloadComplete)
      hq hs hp hk hslot).trans (State.calCommitFlat_eq (by exact hk) (by exact he) (by exact hs) (by exact hwait))),
      s.fst.commit_eq _, fun i => Fst.slot_commitRef hf (RefName.valid_of ?_) i⟩
    rintro q ⟨⟩
    exact hlt
  · refine (State.calUnloaded_pending (by exact hq) (by exact hs) (by exact hp)).trans
      ((State.calFinish_eq (s := s.deliver .flatUnloadComplete) hk r).trans ?_)
    rw [Cru.doneNotice_flat _ p hr]
    rfl

/-! ## Failures of a calibration -/

theorem State.calSensorFailed_series (hq : s.cru.quiesce = false) (hs : s.cru.state = .darkBias ∨ s.cru.state = .darkRate
    ∨ s.cru.state = .flatMeter ∨ s.cru.state = .flatFrames) :
    s.calSensorFailed = s.calGiveUp (failResult s.cru.pend .sensor) := by
  unfold State.calSensorFailed
  rw [if_neg (by rw [hq]; nofun)]
  rcases hs with hs | hs | hs | hs <;> rw [hs]

theorem State.calSensorFailed_cancelling (hq : s.cru.quiesce = false) (hs : s.cru.state = .cancelling)
    (ht : s.cru.trsReq = none) : s.calSensorFailed = s.calGiveUp (failResult s.cru.pend .sensor) := by
  unfold State.calSensorFailed
  rw [if_neg (by rw [hq]; nofun), hs]
  exact if_pos ht

theorem State.calLampFailed_meter (hq : s.cru.quiesce = false) (hs : s.cru.state = .flatMeter) :
    s.calLampFailed = s.calWithdrawPlan.calGiveUp (failResult s.cru.pend .lamp) := by
  unfold State.calLampFailed
  rw [if_neg (by rw [hq]; nofun), hs]

theorem State.calLampFailed_frames (hq : s.cru.quiesce = false) (hs : s.cru.state = .flatFrames) :
    s.calLampFailed = s.calWithdrawFrame.calGiveUp (failResult s.cru.pend .lamp) := by
  unfold State.calLampFailed
  rw [if_neg (by rw [hq]; nofun), hs]

/-- R134: a lamp fault touches a flat calibration at its metering and its frames only. -/
theorem State.calLampFailed_eq_self (hm : s.cru.state ≠ .flatMeter) (hf : s.cru.state ≠ .flatFrames) : s.calLampFailed = s := by
  unfold State.calLampFailed
  split
  · rfl
  · split
    · next h => exact absurd h hm
    · next h => exact absurd h hf
    all_goals rfl

theorem State.calTransportFailed_meter (r : CalTrsReport) (hq : s.cru.quiesce = false) (hs : s.cru.state = .flatMeter) :
    s.calTransportFailed r = s.calWithdrawPlan.calGiveUp (failResult s.cru.pend .transport) := by
  unfold State.calTransportFailed
  rw [if_neg (by rw [hq]; nofun), hs]

theorem State.calTransportFailed_frames (r : CalTrsReport) (hq : s.cru.quiesce = false) (hs : s.cru.state = .flatFrames) :
    s.calTransportFailed r = s.calWithdrawFrame.calGiveUp (failResult s.cru.pend .transport) := by
  unfold State.calTransportFailed
  rw [if_neg (by rw [hq]; nofun), hs]

theorem State.calTransportFailed_load (r : CalTrsReport) (hq : s.cru.quiesce = false) (hs : s.cru.state = .flatLoad)
    (ht : s.cru.trsReq = some .load) : s.calTransportFailed r = s.calStop (.failed .transport) := by
  unfold State.calTransportFailed
  rw [if_neg (by rw [hq]; nofun), hs, ht]

theorem State.calTransportFailed_move (r : CalTrsReport) (hq : s.cru.quiesce = false) (hs : s.cru.state = .flatLoad)
    (ht : s.cru.trsReq = some .move) : s.calTransportFailed r = s.calGiveUp (failResult s.cru.pend .transport) := by
  unfold State.calTransportFailed
  rw [if_neg (by rw [hq]; nofun), hs, ht]

theorem State.calTransportFailed_unload (r : CalTrsReport) (hq : s.cru.quiesce = false) (hs : s.cru.state = .flatUnload) :
    s.calTransportFailed r = s.calFinish (failResult s.cru.pend .transport) := by
  unfold State.calTransportFailed
  rw [if_neg (by rw [hq]; nofun), hs]

theorem State.calTransportFailed_cancelling (r : CalTrsReport) (hq : s.cru.quiesce = false) (hs : s.cru.state = .cancelling)
    (ht : s.cru.trsReq ≠ some .load) :
    s.calTransportFailed r = s.calWithdrawFrame.calGiveUp (failResult s.cru.pend .transport) := by
  unfold State.calTransportFailed
  rw [if_neg (by rw [hq]; nofun), hs]
  split
  all_goals simp_all

theorem State.calTransportFailed_cancelled_fault (hq : s.cru.quiesce = false) (hs : s.cru.state = .cancelling)
    (ht : s.cru.trsReq = some .load) :
    s.calTransportFailed .fault = s.calStop (failResult s.cru.pend .transport) := by
  unfold State.calTransportFailed
  rw [if_neg (by rw [hq]; nofun), hs, ht]

theorem State.calTransportFailed_cancelled_missing (hq : s.cru.quiesce = false) (hs : s.cru.state = .cancelling)
    (ht : s.cru.trsReq = some .load) :
    s.calTransportFailed .noCarrier = s.calStop (s.cru.pend.getD .cancelled) := by
  unfold State.calTransportFailed
  rw [if_neg (by rw [hq]; nofun), hs, ht]

/-- A dark calibration gives up, with nothing of its own to withdraw. -/
theorem State.calGiveUp_over {r : CalResult} (hk : s.cru.request = some .dark) (hr : r ≠ .ok) :
    s.calGiveUp r = s.calOver (.calDone .dark r none none none)
      [.calRelease, .calworkReturn (s.cru.work.map Prod.fst), .darkHoldRelease] := by
  have hgive := State.calGiveUp_dark [] hk hr
  rw [List.append_nil] at hgive
  exact hgive

theorem State.calWithdrawPlan_giveUp {p : Nat} (hk : s.cru.request = some (.flat p)) (r : CalResult) :
    s.calWithdrawPlan.calGiveUp r = s.calBack [.planWithdraw (.cru p s.cru.flatDrive)] r := by
  rw [State.calWithdrawPlan_flat hk, State.calGiveUp_flat _ hk]

theorem State.calWithdrawFrame_giveUp {p : Nat} (hk : s.cru.request = some (.flat p)) (r : CalResult) :
    s.calWithdrawFrame.calGiveUp r = s.calBack (if s.cru.frameReq then [.exposureWithdraw .cru] else []) r := by
  rw [State.calWithdrawFrame_eq, State.calGiveUp_flat _ hk]

/-- Table 5.2: a transport fault of the unload decides over any pending result. -/
theorem failResult_transport (pend : Option CalResult) : failResult pend .transport = .failed .transport := by
  cases pend with
  | none => rfl
  | some r => cases r <;> rfl

/-- Settles O34. -/
theorem calibrationFails : Obligations.CalibrationFails := by
  intro s hq
  refine ⟨fun hs hk hp => congrArg Host.Outcome.next ?_, fun p hk hp => ⟨fun hs => congrArg Host.Outcome.next ?_,
    fun hs => ⟨congrArg Host.Outcome.next ?_, congrArg Host.Outcome.next ?_⟩,
    fun hs => ⟨congrArg Host.Outcome.next ?_, congrArg Host.Outcome.next ?_⟩,
    fun hs hm => ⟨fun ht r _ => congrArg Host.Outcome.next ?_, fun ht => congrArg Host.Outcome.next ?_⟩⟩,
    fun p r hs hk _ => congrArg Host.Outcome.next ?_,
    fun hs hp => ⟨fun ht => ⟨fun hk => congrArg Host.Outcome.next ?_, fun p hk => congrArg Host.Outcome.next ?_⟩,
      fun p hk => ⟨fun ht => congrArg Host.Outcome.next ?_, fun ht hm r result hr => ?_⟩⟩,
    fun hs => congrArg Host.Outcome.next ?_⟩
  · rw [State.calSensorFailed_series (by exact hq) (by tauto), show (s.deliver .calSensorFailure).cru.pend = _ from hp]
    exact State.calGiveUp_over (s := s.deliver .calSensorFailure) hk nofun
  · rw [State.calSensorFailed_series (by exact hq) (by tauto), show (s.deliver .calSensorFailure).cru.pend = _ from hp]
    exact State.calGiveUp_back (by exact hk) _
  · rw [State.calLampFailed_meter (by exact hq) (by exact hs), show (s.deliver .calLampFault).cru.pend = _ from hp]
    exact State.calWithdrawPlan_giveUp (by exact hk) _
  · rw [State.calTransportFailed_meter _ (by exact hq) (by exact hs), failResult_transport]
    exact State.calWithdrawPlan_giveUp (by exact hk) _
  · rw [State.calLampFailed_frames (by exact hq) (by exact hs), show (s.deliver .calLampFault).cru.pend = _ from hp]
    exact State.calWithdrawFrame_giveUp (by exact hk) _
  · rw [State.calTransportFailed_frames _ (by exact hq) (by exact hs), failResult_transport]
    exact State.calWithdrawFrame_giveUp (by exact hk) _
  · rw [State.calTransportFailed_load _ (by exact hq) (by exact hs) (by exact ht)]
    exact State.calStop_eq (s := s.deliver (.calTransportFault r)) hk nofun hm
  · rw [State.calTransportFailed_move _ (by exact hq) (by exact hs) (by exact ht), failResult_transport]
    exact State.calGiveUp_back (by exact hk) _
  · rw [State.calTransportFailed_unload _ (by exact hq) (by exact hs), failResult_transport]
    refine (State.calFinish_eq (s := s.deliver (.calTransportFault r)) hk _).trans ?_
    rw [Cru.doneNotice_flat (r := .failed .transport) _ p nofun]
    rfl
  · rw [State.calSensorFailed_cancelling (by exact hq) (by exact hs) (by exact ht),
      show (s.deliver .calSensorFailure).cru.pend = _ from hp]
    exact State.calGiveUp_over (s := s.deliver .calSensorFailure) hk nofun
  · rw [State.calSensorFailed_cancelling (by exact hq) (by exact hs) (by exact ht),
      show (s.deliver .calSensorFailure).cru.pend = _ from hp]
    exact State.calGiveUp_back (by exact hk) _
  · rw [State.calTransportFailed_cancelling _ (by exact hq) (by exact hs) (by exact ht), failResult_transport]
    exact State.calWithdrawFrame_giveUp (by exact hk) _
  · rcases hr with ⟨rfl, rfl⟩ | ⟨rfl, rfl⟩
    · refine congrArg Host.Outcome.next ((State.calTransportFailed_cancelled_fault (by exact hq) (by exact hs)
        (by exact ht)).trans ?_)
      rw [failResult_transport]
      exact State.calStop_eq (s := s.deliver (.calTransportFault .fault)) hk nofun hm
    · refine congrArg Host.Outcome.next ((State.calTransportFailed_cancelled_missing (by exact hq) (by exact hs)
        (by exact ht)).trans ?_)
      rw [show (s.deliver (.calTransportFault .noCarrier)).cru.pend = _ from hp]
      exact State.calStop_eq (s := s.deliver (.calTransportFault .noCarrier)) hk nofun hm
  · refine State.calLampFailed_eq_self ?_ ?_
    · rintro h
      rw [show s.cru.state = _ from h] at hs
      simp at hs
    · rintro h
      rw [show s.cru.state = _ from h] at hs
      simp at hs

end Sys2Proof.Machine
end

section
/-! PROOFS. BME: calibration work (R77 to R82). -/

namespace Sys2Proof.Machine

variable {s t : State} {f g : Fst}

/-! ## What the work changes of FST -/

/-- `f` is `g` but for its planes. -/
def Fst.samePlaces (f g : Fst) : Prop := f = { g with planes := f.planes }

theorem Fst.samePlaces.trans {h : Fst} (hf : f.samePlaces g) (hg : g.samePlaces h) : f.samePlaces h := by
  unfold Fst.samePlaces at hf hg ⊢
  rw [hf]
  show ({ g with planes := f.planes } : Fst) = { h with planes := f.planes }
  rw [hg]

theorem Fst.writeCal_samePlaces (f : Fst) (slot start : Nat) (new : Runs Nat) : (f.writeCal slot start new).samePlaces f := by
  unfold Fst.writeCal
  split
  · rfl
  · rfl

theorem Fst.writeSums_samePlaces (f : Fst) (w : CalWork) (sums : Runs Nat) : (f.writeSums w sums).samePlaces f :=
  (Fst.writeCal_samePlaces _ w.high _ _).trans (f.writeCal_samePlaces w.low _ _)

theorem Fst.calBand_samePlaces (f : Fst) (dark : DarkEntry) (w : CalWork) : (f.calBand dark w).1.samePlaces f := by
  unfold Fst.calBand
  split
  · unfold Fst.calBandRead
    cases w.op with
    | none => rfl
    | some op =>
      cases op with
      | accumulate n k => exact f.writeSums_samePlaces w _
      | clear => exact f.writeSums_samePlaces w _
      | biasFinish r => exact f.writeCal_samePlaces r _ _
      | rateFinish x b r => exact f.writeCal_samePlaces r _ _
      | flatMean r => exact f.writeCal_samePlaces r _ _
      | flatGain r mean y => exact f.writeCal_samePlaces r _ _
  · rfl

theorem Fst.blank_samePlaces (f : Fst) (slot : Nat) : (f.blank slot).samePlaces f := by
  unfold Fst.blank
  split
  · rfl
  · rfl

theorem Fst.blank_isCalwork (f : Fst) (slot n : Nat) : (f.blank slot).isCalwork n = f.isCalwork n := by
  rw [f.blank_samePlaces slot]
  rfl

/-- R77: a work plane begins cleared. -/
theorem Fst.plane_blank (f : Fst) (slot n : Nat) :
    (f.blank slot).plane n = if n = slot ∧ f.isCalwork n = true then blankPlane else f.plane n := by
  unfold Fst.blank
  by_cases hn : n = slot
  · subst hn
    by_cases hc : f.isCalwork n = true
    · rw [if_pos hc, if_pos ⟨rfl, hc⟩]
      simp [Fst.plane, Fst.calwork_lt hc]
    · rw [if_neg hc, if_neg fun h => hc h.2]
  · rw [if_neg (c := n = slot ∧ f.isCalwork n = true) fun h => hn h.1]
    split
    · simp [Fst.plane, Ne.symm hn]
    · rfl

/-! ## The operations -/

theorem State.calOp_ready {w : CalWork} (op : CalOp) (hs : s.bme.state = .calReady) (hw : s.bme.cal = some w)
    (hq : s.bme.quiesce = false) : s.calOp op = { s with bme := { s.bme with
      state := .calBusy, cal := some { w with op := some op, band := 0, total := 0, defects := 0 } } } := by
  unfold State.calOp
  rw [hs, hw]
  exact if_neg (by rw [hq]; nofun)

theorem State.calOp_eq_self (op : CalOp) (hs : s.bme.state ≠ .calReady) : s.calOp op = s := by
  unfold State.calOp
  split
  · next h _ => exact absurd h hs
  · rfl

theorem State.bandDone_calBusy {w : CalWork} (hs : s.bme.state = .calBusy) (hw : s.bme.cal = some w) :
    s.bandDone = s.calBandDone w := by
  unfold State.bandDone
  rw [hs, hw]

theorem State.calBandDone_goes {w : CalWork} {op : CalOp} (hq : s.bme.quiesce = false) (hr : w.released = false)
    (ho : w.op = some op) (hb : w.band < 59) : s.calBandDone w = { s with
      fst := (s.fst.calBand s.cru.dark w).1, bme := { s.bme with cal := some (s.fst.calBand s.cru.dark w).2 } } := by
  unfold State.calBandDone
  dsimp only
  rw [if_neg (by rw [hq]; nofun), if_neg (by rw [hr]; nofun),
    if_pos (by rw [(s.fst.calBand_work s.cru.dark ho).1]; exact Nat.succ_lt_succ hb)]

theorem State.calBandDone_ends {w : CalWork} {op : CalOp} (hq : s.bme.quiesce = false) (hr : w.released = false)
    (ho : w.op = some op) (hb : w.band = 59) : s.calBandDone w
      = State.calOpDone { s with fst := (s.fst.calBand s.cru.dark w).1 } (s.fst.calBand s.cru.dark w).2 := by
  unfold State.calBandDone
  dsimp only
  rw [if_neg (by rw [hq]; nofun), if_neg (by rw [hr]; nofun),
    if_neg (by rw [(s.fst.calBand_work s.cru.dark ho).1, hb]; exact Nat.lt_irrefl 60)]

theorem State.calBandDone_released {w : CalWork} (hq : s.bme.quiesce = false) (hr : w.released = true) :
    s.calBandDone w = State.bmeIdle { s with fst := (s.fst.calBand s.cru.dark w).1 } := by
  unfold State.calBandDone
  dsimp only
  rw [if_neg (by rw [hq]; nofun), if_pos hr]

theorem State.calOpDone_eq {w : CalWork} {c : Instr} (hc : w.report = some c) : s.calOpDone w = { s with
    bme := { s.bme with state := .calReady, cal := some { w with op := none, band := 0, total := 0, defects := 0 } }
    inFlight := s.inFlight ++ [c.asMessage] } := by
  unfold State.calOpDone
  rw [hc]
  rfl

theorem State.calReleased_ready (hs : s.bme.state = .calReady) : s.calReleased = s.bmeIdle := by
  unfold State.calReleased
  rw [hs]

theorem State.calReleased_busy {w : CalWork} (hs : s.bme.state = .calBusy) (hw : s.bme.cal = some w) :
    s.calReleased = { s with bme := { s.bme with cal := some { w with released := true } } } := by
  unfold State.calReleased
  rw [hs, hw]

/-- R60, R86: BME, idle again, takes up its next head, and CRU tests. -/
theorem State.execAll_takeUp (hno : ∀ d ∈ [Instr.mergeTakeUp, .calworkGrant], d ∉ s.inFlight) :
    execAll [.mergeTakeUp, .calworkGrant] s = .next s.takeUp.cruTest := by
  have hcal : .calworkGrant ∉ s.takeUp.inFlight := by
    rw [State.takeUp_messages]
    exact hno _ (by simp)
  have h1 : exec .mergeTakeUp s = .next s.takeUp :=
    congrArg (fun u : State => Host.Outcome.next u.takeUp) (State.deliver_eq_self (hno .mergeTakeUp List.mem_cons_self))
  have h2 : exec .calworkGrant s.takeUp = .next s.takeUp.cruTest :=
    congrArg (fun u : State => Host.Outcome.next u.cruTest) (State.deliver_eq_self (s := s.takeUp) hcal)
  rw [execAll_cons h1, execAll_cons h2, execAll_nil]

/-- The report of an operation, from its sums (Table 4.6). -/
def CalOp.report (op : CalOp) (w : CalWork) : Instr :=
  match op with
  | .accumulate _ _ => .accumulationComplete
  | .clear => .clearComplete
  | .biasFinish _ => .biasFinishComplete (tileMean w.total)
  | .rateFinish _ _ _ => .rateFinishComplete
  | .flatMean _ => .flatMeanComplete (tileMean w.total)
  | .flatGain _ _ y => .flatGainComplete w.defects (logValue y)

theorem CalWork.report_eq {w : CalWork} {op : CalOp} (h : w.op = some op) : w.report = some (op.report w) := by
  unfold CalWork.report
  rw [h]
  cases op with
  | accumulate n k => rfl
  | clear => rfl
  | biasFinish r => rfl
  | rateFinish x b r => rfl
  | flatMean r => rfl
  | flatGain r mean y => rfl

theorem CalOp.report_message (op : CalOp) (w : CalWork) : (op.report w).asMessage = op.report w := by
  cases op with
  | accumulate n k => rfl
  | clear => rfl
  | biasFinish r => rfl
  | rateFinish x b r => rfl
  | flatMean r => rfl
  | flatGain r mean y => rfl

/-- Settles O55. -/
theorem calibrationWork : Obligations.CalibrationWork := by
  intro s aside putBack
  refine ⟨fun lo hi hs hqu hq => ?_, fun lo hi h => ?_, fun c op hc => ?_, fun hs hqu hcru => ?_,
    fun w hs hw => ?_, fun w op hs hw ho hr hq => ?_, fun w hs hw hr hq hqu hcru => ?_, fun c hc => ?_⟩
  · refine ⟨(s.fst.blank lo).blank hi, congrArg Host.Outcome.next ?_, ?_, fun n => ?_⟩
    · exact if_pos (by show s.bme.free = true; simp [Bme.free, hs, hqu, hq])
    · exact (Fst.blank_samePlaces _ hi).trans (s.fst.blank_samePlaces lo)
    · rw [Fst.plane_blank, Fst.plane_blank, Fst.blank_isCalwork, ← ite_or]
      exact if_congr (by tauto) rfl rfl
  · refine congrArg Host.Outcome.next (if_neg ?_)
    show ¬ s.bme.free = true
    rcases h with h | h | h <;> simp [Bme.free, h]
  · have hexec : exec c s = .next (State.calOp { s with inFlight := s.inFlight.erase c } op) := by
      rcases hc with ⟨n, k, rfl, rfl⟩ | ⟨r, rfl, rfl⟩ | ⟨x, b, r, rfl, rfl⟩ | ⟨rfl, rfl⟩ | ⟨r, rfl, rfl⟩ | ⟨r, m, y, rfl, rfl⟩ <;> rfl
    exact ⟨fun w hs hw hq => hexec.trans (congrArg Host.Outcome.next (State.calOp_ready op (by exact hs) hw hq)),
      fun hs => hexec.trans (congrArg Host.Outcome.next (State.calOp_eq_self op (by exact hs)))⟩
  · exact congrArg Host.Outcome.next ((State.calReleased_ready (by exact hs)).trans
      (State.bmeIdle_of_idle (s := s.deliver .calRelease) hqu hcru))
  · exact congrArg Host.Outcome.next (State.calReleased_busy (s := s.deliver .calRelease) hs hw)
  · intro after
    have hwork := (s.fst.calBand_work s.cru.dark ho).1
    refine ⟨s.fst.calBand_samePlaces s.cru.dark w, fun hb => congrArg Host.Outcome.next ?_, fun hb =>
      congrArg Host.Outcome.next ?_⟩
    · refine (State.bandDone_calBusy hs hw).trans ((State.calBandDone_goes hq hr ho hb).trans ?_)
      exact congrArg (fun x => { s with fst := after.1, bme := { s.bme with cal := some x } }) hwork
    · refine (State.bandDone_calBusy hs hw).trans ((State.calBandDone_ends hq hr ho hb).trans ?_)
      refine (State.calOpDone_eq (c := op.report after.2) ?_).trans ?_
      · exact CalWork.report_eq ((congrArg CalWork.op hwork).trans ho)
      · have hcal : ({ after.2 with op := none, band := 0, total := 0, defects := 0 } : CalWork)
            = { w with op := none, band := 0, total := 0, defects := 0 } :=
          congrArg (fun x : CalWork => { x with op := none, band := 0, total := 0, defects := 0 }) hwork
        refine congrArg₂ (fun (x : CalWork) (c : Instr) => { s with
          fst := after.1, bme := { s.bme with state := .calReady, cal := some x }, inFlight := s.inFlight ++ [c] }) hcal
          ((op.report_message after.2).trans ?_)
        cases op with
        | accumulate n k => rfl
        | clear => rfl
        | biasFinish r => rfl
        | rateFinish x b r => rfl
        | flatMean r => rfl
        | flatGain r mean y => rfl
  · refine congrArg Host.Outcome.next ((State.bandDone_calBusy hs hw).trans ((State.calBandDone_released hq hr).trans ?_))
    exact State.bmeIdle_of_idle (by exact hqu) (by exact hcru)
  · rcases hc with ⟨rfl, hs⟩ | ⟨rfl, hq, hs, w, hw, hr⟩
    · have haside : exec .calRelease aside = .next { aside.deliver .calRelease with
          bme := { aside.bme with state := .idle, merge := none, cal := none } } :=
        congrArg Host.Outcome.next ((State.calReleased_ready (by exact hs)).trans
          (State.bmeIdle_of_idle (s := aside.deliver .calRelease) rfl nofun))
      refine ⟨_, haside, fun hno => ?_⟩
      refine (congrArg Host.Outcome.next (State.calReleased_ready (by exact hs))).trans ?_
      exact (State.execAll_takeUp (by exact hno)).symm
    · have haside : exec .bandCompletion aside = .next { aside with
          fst := (s.fst.calBand s.cru.dark w).1, bme := { aside.bme with state := .idle, merge := none, cal := none } } :=
        congrArg Host.Outcome.next ((State.bandDone_calBusy (s := aside) hs hw).trans
          ((State.calBandDone_released (by exact hq) hr).trans (State.bmeIdle_of_idle (by rfl) nofun)))
      refine ⟨_, haside, fun hno => ?_⟩
      refine (congrArg Host.Outcome.next ((State.bandDone_calBusy hs hw).trans (State.calBandDone_released hq hr))).trans ?_
      exact (State.execAll_takeUp (by exact hno)).symm

end Sys2Proof.Machine
end

section
/-! PROOFS. SOU: stripes, and what follows in their events (R29, R156 to R158). -/

namespace Sys2Proof.Machine

variable {s t v : State}

/-! ## What an event of SOU leaves aside -/

/-- `s` with other records and another output; freeing a slot looks at none of them. -/
def State.withRecords (s : State) (p : Prc) (l : Liu) (q : Sou) : State := { s with prc := p, liu := l, sou := q }

theorem State.grantWait_withRecords (s : State) (p : Prc) (l : Liu) (q : Sou) :
    (s.withRecords p l q).grantWait = s.grantWait.withRecords p l q := by
  unfold State.grantWait
  rw [show (s.withRecords p l q).fst = s.fst from rfl]
  cases s.fst.wait with
  | none => rfl
  | some w =>
    dsimp only
    split
    · rfl
    · rfl

theorem State.cruTest_withRecords (s : State) (p : Prc) (l : Liu) (q : Sou) :
    (s.withRecords p l q).cruTest = s.cruTest.withRecords p l q := by
  unfold State.cruTest
  rw [show (s.withRecords p l q).cru = s.cru from rfl, show (s.withRecords p l q).fst = s.fst from rfl,
    show (s.withRecords p l q).bme = s.bme from rfl]
  split
  · split
    · split
      · rfl
      · rfl
    · rfl
  · rfl

theorem State.afterFree_withRecords (s : State) (p : Prc) (l : Liu) (q : Sou) :
    (s.withRecords p l q).afterFree = s.afterFree.withRecords p l q := by
  unfold State.afterFree
  rw [State.grantWait_withRecords, State.cruTest_withRecords]

theorem State.changeSlot_withRecords (s : State) (p : Prc) (l : Liu) (q : Sou) (i : Nat) (c : SlotChange) (r : TileRef) :
    (s.withRecords p l q).changeSlot i c r = (s.changeSlot i c r).withRecords p l q := by
  by_cases h : s.fst.slot i = some (c.before r)
  · by_cases hc : c.after r = .free
    · rw [State.changeSlot_frees h hc, State.changeSlot_frees (s := s.withRecords p l q) h hc]
      exact State.afterFree_withRecords { s with fst := s.fst.setSlots [i] .free } p l q
    · rw [State.changeSlot_sets h hc, State.changeSlot_sets (s := s.withRecords p l q) h hc]
      rfl
  · rw [State.changeSlot_refused h, State.changeSlot_refused (s := s.withRecords p l q) h]

/-- `s` with another FST, CRU and output, and other messages; the end of a tile at PRC looks at none of them. -/
def State.besides (s : State) (f : Fst) (c : Cru) (q : Sou) (m : List Instr) : State :=
  { s with fst := f, cru := c, sou := q, inFlight := m }

theorem State.endTile_besides (s : State) (f : Fst) (c : Cru) (q : Sou) (m : List Instr) (r : TileRef) (b : Bool) :
    (s.besides f c q m).endTile r b = (s.endTile r b).besides f c q m := by
  unfold State.endTile
  rw [show (s.besides f c q m).prc = s.prc from rfl]
  cases s.prc.tile? r with
  | none => rfl
  | some x =>
    dsimp only
    unfold State.mapTile
    rw [show (s.besides f c q m).prc = s.prc from rfl]
    split
    · rfl
    · split
      · rfl
      · rfl

theorem State.setJob_besides (s : State) (f : Fst) (c : Cru) (q : Sou) (m : List Instr) (id : Nat) (st : JobState)
    (out : Option JobOutcome) : (s.besides f c q m).setJob id st out = (s.setJob id st out).besides f c q m := by
  unfold State.setJob
  rw [show (s.besides f c q m).prc = s.prc from rfl]
  cases s.prc.job? id with
  | none => rfl
  | some j =>
    dsimp only
    split
    · rfl
    · rfl

theorem State.drainJob_besides (s : State) (f : Fst) (c : Cru) (q : Sou) (m : List Instr) (id : Nat) :
    (s.besides f c q m).drainJob id = (s.drainJob id).besides f c q m := by
  unfold State.drainJob
  rw [show (s.besides f c q m).prc = s.prc from rfl]
  cases s.prc.job? id with
  | none => rfl
  | some j =>
    dsimp only
    split
    · split
      · exact s.setJob_besides ..
      · exact s.setJob_besides ..
      · exact s.setJob_besides ..
      · exact s.setJob_besides ..
    · rfl

/-- R29: the last stripe of a tile is taken: the tile is SENT, and its job may be drained. -/
def State.tileSent (s : State) (r : TileRef) : State := (s.endTile r true).drainJob r.job

theorem State.tileSent_besides (s : State) (f : Fst) (c : Cru) (q : Sou) (m : List Instr) (r : TileRef) :
    (s.besides f c q m).tileSent r = (s.tileSent r).besides f c q m := by
  unfold State.tileSent
  rw [State.endTile_besides, State.drainJob_besides]

theorem State.setJob_records (s : State) (id : Nat) (st : JobState) (out : Option JobOutcome) :
    s.setJob id st out = s.withRecords (s.setJob id st out).prc (s.setJob id st out).liu s.sou := by
  unfold State.setJob
  split
  · rfl
  · split
    · rfl
    · rfl

theorem State.tileSent_records (s : State) (r : TileRef) :
    s.tileSent r = s.withRecords (s.tileSent r).prc (s.tileSent r).liu s.sou := by
  have hend : s.endTile r true = s.withRecords (s.endTile r true).prc (s.endTile r true).liu s.sou := by
    unfold State.endTile
    split
    · rfl
    · split
      · rfl
      · unfold State.mapTile
        dsimp only
        by_cases hr : s.prc.run = .quiescing
        · rw [if_pos hr]
          rfl
        · rw [if_neg hr]
          rfl
  have hdrain : ∀ u : State, u.drainJob r.job = u.withRecords (u.drainJob r.job).prc (u.drainJob r.job).liu u.sou := fun u => by
    unfold State.drainJob
    split
    · rfl
    · split
      · split
        · exact u.setJob_records ..
        · exact u.setJob_records ..
        · exact u.setJob_records ..
        · exact u.setJob_records ..
      · rfl
  have hsent := hdrain (s.endTile r true)
  have hsou : (s.endTile r true).sou = s.sou := by simp
  rw [hsou] at hsent
  exact hsent.trans ((congrArg (State.withRecords · _ _ s.sou) hend).trans rfl)

theorem State.afterFree_besides (v : State) :
    v.afterFree = v.besides v.afterFree.fst v.afterFree.cru v.sou v.afterFree.inFlight := by
  have hgrant : v.grantWait = v.besides v.grantWait.fst v.cru v.sou v.grantWait.inFlight := by
    unfold State.grantWait
    split
    · rfl
    · split
      · rfl
      · rfl
  have htest : ∀ u : State, u.cruTest = u.besides u.cruTest.fst u.cruTest.cru u.sou u.cruTest.inFlight := fun u => by
    unfold State.cruTest
    split
    · split
      · split
        · rfl
        · rfl
      · rfl
    · rfl
  have hsou : v.grantWait.sou = v.sou := by simp
  have hafter := htest v.grantWait
  rw [hsou] at hafter
  exact hafter.trans ((congrArg (State.besides · _ _ v.sou _) hgrant).trans rfl)

/-- What a freed slot is used for looks at nothing that the end of a tile changes, and the end of a tile at nothing of
that. -/
theorem State.tileSent_afterFree (v : State) (r : TileRef) : v.afterFree.tileSent r = (v.tileSent r).afterFree := by
  have hkeep := v.afterFree_besides
  rw [v.tileSent_records, State.afterFree_withRecords]
  conv_lhs => rw [hkeep, State.tileSent_besides, v.tileSent_records]
  conv_rhs => rw [hkeep]
  rfl

/-! ## Credits -/

def State.withCredits (s : State) (n : Nat) : State := { s with sou := { s.sou with credits := n } }

theorem State.withCredits_self (s : State) : s.withCredits s.sou.credits = s := rfl

theorem State.changeSlot_withCredits (s : State) (n i : Nat) (c : SlotChange) (r : TileRef) :
    (s.withCredits n).changeSlot i c r = (s.changeSlot i c r).withCredits n := by
  refine (s.changeSlot_withRecords s.prc s.liu { s.sou with credits := n } i c r).trans ?_
  simp [State.withRecords, State.withCredits]

theorem State.tileSent_withCredits (s : State) (n : Nat) (r : TileRef) :
    (s.withCredits n).tileSent r = (s.tileSent r).withCredits n := by
  refine (s.tileSent_besides s.fst s.cru { s.sou with credits := n } s.inFlight r).trans ?_
  simp [State.tileSent, State.besides, State.withCredits]

/-! ## The end of a stripe and the abandonment of a tile, before SOU looks at its conditions -/

theorem State.removeHead_eq {e : OutEntry} {rest : List OutEntry} (h : s.sou.queue = e :: rest) :
    s.removeHead = State.changeSlot { s with sou := s.sou.dropFirst } e.slot .streamingToFree e.tile := by
  unfold State.removeHead
  rw [h]

theorem State.removeHead_withCredits (s : State) (n : Nat) : (s.withCredits n).removeHead = s.removeHead.withCredits n := by
  unfold State.removeHead
  rw [show (s.withCredits n).sou.queue = s.sou.queue from rfl]
  cases s.sou.queue with
  | nil => rfl
  | cons e rest => exact State.changeSlot_withCredits { s with sou := s.sou.dropFirst } n ..

/-- SOU once a stripe of the head has been taken. -/
def State.stripeOver (s : State) (h : StripeHeader) (e : OutEntry) : State :=
  let u : State := { s with sou := { s.sou with
    transfer := none, taken := some { header := h, payload := s.fst.readStripe e.slot h.index } } }
  if s.sou.dropHead then u.removeHead
  else if h.index = 59 then u.removeHead.tileSent e.tile
  else { u with sou := { u.sou with index := u.sou.index + 1 } }

theorem State.stripeOver_withCredits (s : State) (n : Nat) (h : StripeHeader) (e : OutEntry) :
    (s.withCredits n).stripeOver h e = (s.stripeOver h e).withCredits n := by
  have hremove := State.removeHead_withCredits { s with sou := { s.sou with
    transfer := none, taken := some { header := h, payload := s.fst.readStripe e.slot h.index } } } n
  unfold State.stripeOver
  rw [show (s.withCredits n).sou.dropHead = s.sou.dropHead from rfl]
  dsimp only
  by_cases hdrop : s.sou.dropHead = true
  · rw [if_pos hdrop, if_pos hdrop]
    exact hremove
  · rw [if_neg hdrop, if_neg hdrop]
    by_cases hlast : h.index = 59
    · rw [if_pos hlast, if_pos hlast, ← State.tileSent_withCredits]
      exact congrArg (State.tileSent · e.tile) hremove
    · rw [if_neg hlast, if_neg hlast]
      rfl

theorem State.removeHead_credits (s : State) : s.removeHead.sou.credits = s.sou.credits
    ∧ s.removeHead.sou.quiesce = s.sou.quiesce := by
  unfold State.removeHead
  split
  · exact ⟨rfl, rfl⟩
  · simp [Sou.dropFirst]

theorem State.stripeOver_credits (s : State) (h : StripeHeader) (e : OutEntry) :
    (s.stripeOver h e).sou.credits = s.sou.credits ∧ (s.stripeOver h e).sou.quiesce = s.sou.quiesce := by
  unfold State.stripeOver
  dsimp only
  split
  · exact State.removeHead_credits _
  · split
    · have hsou : ∀ u : State, (u.tileSent e.tile).sou = u.sou := fun u => by simp [State.tileSent]
      rw [hsou]
      exact State.removeHead_credits _
    · exact ⟨rfl, rfl⟩

theorem State.stripeTaken_eq {h : StripeHeader} {e : OutEntry} {rest : List OutEntry} (htr : s.sou.transfer = some h)
    (hqueue : s.sou.queue = e :: rest) (hq : s.sou.quiesce = false) : s.stripeTaken = (s.stripeOver h e).tryStripe := by
  have hquiet := (s.stripeOver_credits h e).2.trans hq
  unfold State.stripeTaken
  rw [htr, hqueue]
  refine if_neg ?_
  show ¬ (s.stripeOver h e).sou.quiesce = true
  rw [hquiet]
  nofun

/-- SOU once a tile in its queue has been abandoned. -/
def State.leftOut (s : State) (r : TileRef) : State :=
  if s.sou.isHead r && s.sou.started then
    if s.sou.transfer.isSome then { s with sou := { s.sou with dropHead := true, restart := false } } else s.removeHead
  else
    match s.sou.queue.find? fun e => decide (e.tile = r) with
    | none => s
    | some e =>
      State.changeSlot { s with sou := { s.sou with
        queue := s.sou.queue.filter fun x => decide (x.tile ≠ r)
        restart := if s.sou.isHead r then false else s.sou.restart } } e.slot .mergedToFree r

theorem State.leftOut_withCredits (s : State) (n : Nat) (r : TileRef) :
    (s.withCredits n).leftOut r = (s.leftOut r).withCredits n := by
  unfold State.leftOut
  rw [show (s.withCredits n).sou.queue = s.sou.queue from rfl, show (s.withCredits n).sou.isHead r = s.sou.isHead r from rfl,
    show (s.withCredits n).sou.started = s.sou.started from rfl, show (s.withCredits n).sou.transfer = s.sou.transfer from rfl]
  split
  · split
    · rfl
    · exact s.removeHead_withCredits n
  · split
    · rfl
    · next e _ => exact State.changeSlot_withCredits { s with sou := { s.sou with
        queue := s.sou.queue.filter fun x => decide (x.tile ≠ r)
        restart := if s.sou.isHead r then false else s.sou.restart } } n ..

theorem State.leftOut_credits (s : State) (r : TileRef) : (s.leftOut r).sou.credits = s.sou.credits := by
  unfold State.leftOut
  split
  · split
    · rfl
    · exact s.removeHead_credits.1
  · split
    · rfl
    · simp

/-- With a stripe in transfer no other one starts. -/
theorem State.tryStripe_busy (h : s.sou.transfer ≠ none) : s.tryStripe = s := by
  unfold State.tryStripe State.stripeReady
  rw [if_neg (by simp [h])]

theorem State.souAbandoned_eq {r : TileRef} (hmem : ∃ e ∈ s.sou.queue, e.tile = r) :
    s.souAbandoned r = (s.leftOut r).tryStripe := by
  have hfound : (s.sou.queue.find? fun e => decide (e.tile = r)).isSome = true := by simpa using hmem
  obtain ⟨e, hfind⟩ := Option.isSome_iff_exists.1 hfound
  unfold State.souAbandoned State.leftOut
  rw [hfind]
  split
  · split
    · next h => exact (State.tryStripe_busy (by simpa [Option.isSome_iff_ne_none] using h)).symm
    · rfl
  · rfl

/-! ## The last stripe of a tile at PRC -/

/-- R14, R29: how a drained job ends. -/
def Job.drained (j : Job) : JobState × Option JobOutcome :=
  match j.outcome with
  | some (.failed c) => (.failed, some (.failed c))
  | some .aborted => (.aborted, some .aborted)
  | some .done | none => (.done, some .done)

theorem State.drainJob_ends {id : Nat} {j : Job} (hj : s.prc.job? id = some j)
    (h : j.state = .draining ∧ j.ended = j.cols * j.rows) :
    s.drainJob id = s.setJob id j.drained.1 j.drained.2 := by
  unfold State.drainJob Job.drained
  rw [hj]
  refine (if_pos h).trans ?_
  cases j.outcome with
  | none => rfl
  | some o =>
    cases o with
    | failed c => rfl
    | aborted => rfl
    | done => rfl

theorem State.drainJob_eq_self {id : Nat} {j : Job} (hj : s.prc.job? id = some j)
    (h : ¬(j.state = .draining ∧ j.ended = j.cols * j.rows)) : s.drainJob id = s := by
  unfold State.drainJob
  rw [hj]
  exact if_neg h

/-- A record whose tile `n` is SENT, and counted so. -/
def Job.withSent (j : Job) (n : Nat) : Job :=
  { j.withTile n (fun x => { x with state := .sent }) with sent := j.sent + 1 }

/-- The table with tile `r` SENT, and counted so. -/
def Prc.withSent (p : Prc) (r : TileRef) : Prc :=
  (p.mapTile r fun x => { x with state := .sent }).mapJob r.job fun j => { j with sent := j.sent + 1 }

theorem Prc.withSent_job? {p : Prc} {r : TileRef} {j : Job} (hj : p.job? r.job = some j) :
    (p.withSent r).job? r.job = some (j.withSent r.seq) := by
  unfold Prc.withSent
  rw [Prc.job?_mapJob_self (hf := by intro _; rfl), Prc.job?_mapTile_self, hj]
  rfl

theorem Prc.withSent_tile? {p : Prc} {r : TileRef} {x : Tile} (hx : p.tile? r = some x) :
    (p.withSent r).tile? r = some { x with state := .sent } := by
  unfold Prc.withSent
  rw [Prc.tile?_mapJob _ _ _ _ (by intro _; rfl) (by intro _; rfl), Prc.tile?_mapTile_of hx (by intro _; rfl)]

/-- A change of a record that keeps its tiles keeps the other records. -/
theorem Prc.otherRecords.of_mapJob {p q : Prc} {r : TileRef} {f : Job → Job} (hid : ∀ j, (f j).id = j.id)
    (ht : ∀ j, (f j).tiles = j.tiles) (h : q.jobs = (p.mapJob r.job f).jobs) : q.otherRecords p r :=
  ⟨fun k hk => by rw [Prc.job?_congr h, Prc.job?_mapJob_ne _ _ _ _ hid hk],
    fun n _ => by rw [Prc.tile?_congr h, Prc.tile?_mapJob _ _ _ _ hid ht]⟩

theorem Prc.withSent_otherRecords (p : Prc) (r : TileRef) : (p.withSent r).otherRecords p r :=
  (Prc.otherRecords.of_mapJob (p := p.mapTile r fun x => { x with state := .sent }) (by intro _; rfl) (by intro _; rfl) rfl).trans
    (.of_mapTile (by intro _; rfl) rfl)

theorem State.endTile_sent {r : TileRef} {x : Tile} (hr : s.prc.run ≠ .quiescing) (hx : s.prc.tile? r = some x)
    (he : x.state.ended = false) : s.endTile r true
      = State.notice { s with prc := s.prc.withSent r } (.tileDone r.job x.row x.col x.seq .sent x.flags x.stats) := by
  unfold State.endTile
  rw [hx]
  dsimp only
  rw [if_neg (by simp [he, hr]), State.mapTile_eq hr]
  rfl

/-- R29: the tile is SENT and counted, and a job that it was the last to drain ends. -/
theorem State.tileSent_spec {r : TileRef} {j : Job} {x : Tile} (hr : s.prc.run ≠ .quiescing) (hj : s.prc.job? r.job = some j)
    (hx : s.prc.tile? r = some x) (he : x.state.ended = false) (hopen : j.state.finished = false) :
    (s.tileSent r).prc.otherRecords s.prc r ∧ (s.tileSent r).prc.tile? r = some { x with state := .sent }
    ∧ (∃ k, (s.tileSent r).prc.job? r.job = some k ∧ (k.sent, k.abandoned) = (j.sent + 1, j.abandoned)
      ∧ (k.state, k.outcome) = if j.state = .draining ∧ j.sent + 1 + j.abandoned + j.masked = j.cols * j.rows then j.drained
        else (j.state, j.outcome))
    ∧ (s.tileSent r).prc = { s.prc with jobs := (s.tileSent r).prc.jobs } ∧ s.noticesOnly (s.tileSent r) := by
  obtain ⟨u, hu⟩ : ∃ u : State, u = s.endTile r true := ⟨_, rfl⟩
  have hend := hu.trans (State.endTile_sent hr hx he)
  have hprc : u.prc = s.prc.withSent r := by rw [hend]; rfl
  have hjob : u.prc.job? r.job = some (j.withSent r.seq) := by rw [hprc]; exact Prc.withSent_job? hj
  have hrun : u.prc.run ≠ .quiescing := by rw [hprc]; exact hr
  have hnotice : s.noticesOnly u := by rw [hend]; exact .of_raise rfl
  have hsent : s.tileSent r = u.drainJob r.job := by rw [hu]; rfl
  rw [hsent]
  by_cases hd : j.state = .draining ∧ j.sent + 1 + j.abandoned + j.masked = j.cols * j.rows
  · rw [State.drainJob_ends hjob hd]
    have hset := State.setJob_job?_self (st := (j.withSent r.seq).drained.1) (out := (j.withSent r.seq).drained.2) hjob hopen hrun
    have hmap := congrArg State.prc (State.setJob_notice (st := (j.withSent r.seq).drained.1)
      (out := (j.withSent r.seq).drained.2) hjob hopen hrun)
    have hkeep := State.setJob_prc u r.job (j.withSent r.seq).drained.1 (j.withSent r.seq).drained.2
    refine ⟨?_, ?_, ⟨_, hset, rfl, ?_⟩, ?_, hnotice.setJob ..⟩
    · refine (Prc.otherRecords.of_mapJob (p := u.prc) (by intro _; rfl) (by intro _; rfl) (congrArg Prc.jobs hmap)).trans ?_
      rw [hprc]
      exact s.prc.withSent_otherRecords r
    · rw [hmap]
      show (u.prc.mapJob r.job _).tile? r = _
      rw [Prc.tile?_mapJob _ _ _ _ (by intro _; rfl) (by intro _; rfl)]
      rw [hprc]
      exact Prc.withSent_tile? hx
    · rw [if_pos hd]
      rfl
    · rw [hkeep, hprc]
      rfl
  · rw [State.drainJob_eq_self hjob hd]
    refine ⟨?_, ?_, ⟨_, hjob, rfl, ?_⟩, ?_, hnotice⟩
    · rw [hprc]
      exact s.prc.withSent_otherRecords r
    · rw [hprc]
      exact Prc.withSent_tile? hx
    · rw [if_neg hd]
      rfl
    · rw [hprc]
      rfl

/-! ## The start of a stripe -/

/-- R158: SOU starts no stripe. -/
theorem State.tryStripe_unready (h : s.sou.queue = [] ∨ s.sou.credits = 0 ∨ s.sou.transfer ≠ none ∨ s.liu.attached = false) :
    s.tryStripe = s := by
  rcases h with h | h | h | h
  · exact State.tryStripe_eq_self h
  · exact State.tryStripe_of_credits h
  · exact State.tryStripe_busy h
  · unfold State.tryStripe State.stripeReady
    rw [if_neg (by simp [h])]

theorem State.tryStripe_starts {e : OutEntry} {rest : List OutEntry} {j : Job} {x : Tile} (hq : s.sou.quiesce = false)
    (hqueue : s.sou.queue = e :: rest) (htr : s.sou.transfer = none) (hcr : 0 < s.sou.credits) (hatt : s.liu.attached = true)
    (hj : s.prc.job? e.tile.job = some j) (hx : s.prc.tile? e.tile = some x) : s.tryStripe = s.startStripe e j x := by
  unfold State.tryStripe
  rw [if_pos (by simp [State.stripeReady, hq, htr, hcr, hatt]), hqueue]
  dsimp only
  rw [hj, hx]

theorem State.startStripe_started {e : OutEntry} (j : Job) (x : Tile) (h : s.sou.started = true) : s.startStripe e j x = { s with
    sou := { s.sou with
      credits := s.sou.credits - 1, restart := false, transfer := some (stripeHeader j x s.sou.index s.sou.restart) } } := by
  unfold State.startStripe State.startTile
  rw [if_pos h]

/-- R158: the first stripe of a tile makes its slot STREAMING and the tile SENDING. -/
theorem State.startStripe_first {e : OutEntry} (j : Job) (x : Tile) (h : s.sou.started = false)
    (hs : s.fst.slot e.slot = some (.merged e.tile)) (hr : s.prc.run ≠ .quiescing) : s.startStripe e j x = { s with
    sou := { s.sou with
      credits := s.sou.credits - 1, restart := false, transfer := some (stripeHeader j x s.sou.index s.sou.restart)
      started := true }
    fst := s.fst.setSlot e.slot .streaming
    prc := s.prc.mapTile e.tile (Tile.moved .sending) } := by
  unfold State.startStripe State.startTile
  rw [if_neg (by rw [h]; nofun), State.changeSlot_sets hs (by simp [SlotChange.after]),
    State.moveTile_eq (s := s.setSlot e.slot (SlotChange.after .mergedToStreaming e.tile)) hr]
  rfl

/-! ## What is freed at the output -/

theorem Fst.readStripe_eq (f : Fst) (slot index : Nat) : f.readStripe slot index
    = if f.slot slot = some .streaming then runsSlice (index * 327680) 327680 (f.plane slot) else [] := by
  unfold Fst.readStripe
  refine if_congr ?_ rfl rfl
  unfold Fst.portAllows
  cases f.slot slot with
  | none => simp
  | some y => cases y <;> simp [portTable]

theorem State.removeHead_frees {e : OutEntry} {rest : List OutEntry} (hqueue : s.sou.queue = e :: rest)
    (hs : s.fst.slot e.slot = some .streaming) : s.removeHead
      = State.afterFree { s with sou := s.sou.dropFirst, fst := s.fst.setSlots [e.slot] .free } :=
  (State.removeHead_eq hqueue).trans (State.changeSlot_frees (by exact hs) rfl)

theorem State.removeHead_unwaited {e : OutEntry} {rest : List OutEntry} (hqueue : s.sou.queue = e :: rest)
    (hs : s.fst.slot e.slot = some .streaming) : s.unwaited.removeHead
      = State.unwaited { s with sou := s.sou.dropFirst, fst := s.fst.setSlots [e.slot] .free } := by
  rw [State.removeHead_frees (s := s.unwaited) hqueue hs, State.afterFree_of_idle (by simp [State.unwaited])
    (by simp [State.unwaited]), show s.unwaited.fst = s.fst.unwaited from rfl, Fst.setSlots_unwaited]
  rfl

/-- The tiles behind the head and an unstarted head leave the queue with their slots. -/
theorem State.leftOut_frees {r : TileRef} {e : OutEntry} (hhead : (s.sou.isHead r && s.sou.started) = false)
    (hfind : (s.sou.queue.find? fun x => decide (x.tile = r)) = some e) (hs : s.fst.slot e.slot = some (.merged r)) :
    s.leftOut r = State.afterFree { s with
      sou := { s.sou with
        queue := s.sou.queue.filter fun x => decide (x.tile ≠ r)
        restart := if s.sou.isHead r then false else s.sou.restart }
      fst := s.fst.setSlots [e.slot] .free } := by
  unfold State.leftOut
  rw [if_neg (by rw [hhead]; nofun), hfind]
  exact State.changeSlot_frees (by exact hs) rfl

theorem State.leftOut_head {r : TileRef} (hhead : s.sou.isHead r = true) (hst : s.sou.started = true)
    (htr : s.sou.transfer = none) : s.leftOut r = s.removeHead := by
  unfold State.leftOut
  rw [if_pos (by rw [hhead, hst]; rfl), if_neg (by rw [htr]; nofun)]

theorem Sou.isHead_of {q : Sou} {e : OutEntry} {rest : List OutEntry} (h : q.queue = e :: rest) (r : TileRef) :
    q.isHead r = decide (e.tile = r) := by
  unfold Sou.isHead
  rw [h]

theorem State.cruTest_messages {d : Instr} (h : d ∉ s.inFlight) (hd : ∀ lo hi, d ≠ .calWorkRequest lo hi) :
    d ∉ s.cruTest.inFlight := by
  unfold State.cruTest
  split
  · split
    · split
      · refine fun hm => (List.mem_append.1 hm).elim h fun hm => ?_
        exact hd _ _ (List.mem_singleton.1 hm)
      · exact h
    · exact h
  · exact h

/-- R102, R86, R158: what waits asks again, CRU tests, and SOU looks at its conditions. -/
theorem State.execAll_afterStripe (h : v.fst.wait = none ∨ v.fst.quiesce = false)
    (hno : ∀ d ∈ v.fst.asksAgain ++ [.calworkGrant, .stripeStart], d ∉ v.inFlight) :
    execAll (v.fst.asksAgain ++ [.calworkGrant, .stripeStart]) { v with fst := { v.fst with wait := none } }
      = .next v.afterFree.tryStripe := by
  have hfree := State.execAll_afterFree h fun d hd => hno d (by
    simp only [List.mem_append, List.mem_cons, List.not_mem_nil, or_false] at hd ⊢
    tauto)
  have hstart : .stripeStart ∉ v.afterFree.inFlight := by
    refine State.cruTest_messages (State.grantWait_messages (hno _ ?_) nofun) nofun
    exact List.mem_append_right _ (List.mem_cons_of_mem _ List.mem_cons_self)
  have hexec : exec .stripeStart v.afterFree = .next v.afterFree.tryStripe :=
    congrArg (fun u : State => Host.Outcome.next u.tryStripe) (State.deliver_eq_self (s := v.afterFree) hstart)
  rw [show v.fst.asksAgain ++ [Instr.calworkGrant, .stripeStart] = (v.fst.asksAgain ++ [.calworkGrant]) ++ [.stripeStart] by simp,
    execAll_append hfree, execAll_cons hexec, execAll_nil]

theorem State.goesOn_of_stripe {c : Instr} (h1 : exec c s = .next v.afterFree.tryStripe)
    (h2 : exec c { s.unwaited with sou := { s.sou with credits := 0 } } = .next (v.unwaited.withCredits 0))
    (hwait : v.fst.wait = s.fst.wait) (hq : v.fst.quiesce = s.fst.quiesce) (hcru : v.cru = s.cru)
    (hcred : v.sou.credits = s.sou.credits) (h : s.fst.wait = none ∨ s.fst.quiesce = false) :
    s.goesOn c { s.unwaited with sou := { s.sou with credits := 0 } }
      (fun u => { u with cru := s.cru, sou := { u.sou with credits := s.sou.credits } })
      (s.fst.asksAgain ++ [.calworkGrant, .stripeStart]) := by
  have hasks : s.fst.asksAgain = v.fst.asksAgain := by simp only [Fst.asksAgain, hwait]
  refine ⟨_, h2, fun hno => ?_⟩
  rw [h1, hasks, ← hcru, ← hcred]
  exact (State.execAll_afterStripe (by rw [hwait, hq]; exact h) (by rw [← hasks]; exact hno)).symm

theorem State.tileSent_unwaited (s : State) (r : TileRef) : s.unwaited.tileSent r = (s.tileSent r).unwaited := by
  refine (s.tileSent_besides { s.fst with wait := none } { s.cru with state := .idle } s.sou s.inFlight r).trans ?_
  simp [State.tileSent, State.besides, State.unwaited]

/-- What frees a slot at the output, of a state in which nothing waits too. -/
def State.freesTo (s u t : State) (v : State) : Prop :=
  u = v.afterFree ∧ t = v.unwaited ∧ v.fst.wait = s.fst.wait ∧ v.fst.quiesce = s.fst.quiesce ∧ v.cru = s.cru
  ∧ v.sou.credits = s.sou.credits

theorem State.removeHead_freesTo {e : OutEntry} {rest : List OutEntry} (hqueue : s.sou.queue = e :: rest)
    (hs : s.fst.slot e.slot = some .streaming) : s.freesTo s.removeHead s.unwaited.removeHead
      { s with sou := s.sou.dropFirst, fst := s.fst.setSlots [e.slot] .free } :=
  ⟨State.removeHead_frees hqueue hs, State.removeHead_unwaited hqueue hs, by simp, by simp, rfl, rfl⟩

theorem State.stripeOver_freesTo {h : StripeHeader} {e : OutEntry} {rest : List OutEntry} (hqueue : s.sou.queue = e :: rest)
    (hs : s.fst.slot e.slot = some .streaming) (hover : s.sou.dropHead = true ∨ h.index = 59) :
    ∃ v, s.freesTo (s.stripeOver h e) (s.unwaited.stripeOver h e) v := by
  obtain ⟨u, hu⟩ : ∃ u : State, u = { s with sou := { s.sou with
    transfer := none, taken := some { header := h, payload := s.fst.readStripe e.slot h.index } } } := ⟨_, rfl⟩
  obtain ⟨v, hv⟩ : ∃ v, u.freesTo u.removeHead u.unwaited.removeHead v :=
    ⟨_, State.removeHead_freesTo (by rw [hu]; exact hqueue) (by rw [hu]; exact hs)⟩
  obtain ⟨h1, h2, hwait, hquiet, hcru, hcred⟩ := hv
  rw [hu] at h1 h2 hwait hquiet hcru hcred
  by_cases hdrop : s.sou.dropHead = true
  · exact ⟨v, (if_pos hdrop).trans h1, (if_pos (by exact hdrop)).trans h2, hwait, hquiet, hcru, hcred⟩
  · have hlast := hover.resolve_left hdrop
    refine ⟨v.tileSent e.tile, ?_, ?_, ?_, ?_, ?_, ?_⟩
    · refine (if_neg hdrop).trans ((if_pos hlast).trans ?_)
      rw [h1, State.tileSent_afterFree]
    · refine (if_neg (by exact hdrop)).trans ((if_pos hlast).trans ?_)
      rw [← State.tileSent_unwaited, ← h2]
      rfl
    · simpa [State.tileSent] using hwait
    · simpa [State.tileSent] using hquiet
    · simpa [State.tileSent] using hcru
    · simpa [State.tileSent] using hcred

theorem State.leftOut_freesTo {r : TileRef} {e : OutEntry} (hhead : (s.sou.isHead r && s.sou.started) = false)
    (hfind : (s.sou.queue.find? fun x => decide (x.tile = r)) = some e) (hs : s.fst.slot e.slot = some (.merged r)) :
    ∃ v, s.freesTo (s.leftOut r) (s.unwaited.leftOut r) v := by
  refine ⟨_, State.leftOut_frees hhead hfind hs, ?_, ?_, ?_, rfl, rfl⟩
  · rw [State.leftOut_frees (s := s.unwaited) hhead hfind hs, State.afterFree_of_idle (by simp [State.unwaited])
      (by simp [State.unwaited]), show s.unwaited.fst = s.fst.unwaited from rfl, Fst.setSlots_unwaited]
    rfl
  · simp
  · simp

theorem exec_stripeEnd {h : StripeHeader} {e : OutEntry} {rest : List OutEntry} (htr : s.sou.transfer = some h)
    (hqueue : s.sou.queue = e :: rest) (hq : s.sou.quiesce = false) :
    exec .stripeEnd s = .next (s.stripeOver h e).tryStripe :=
  congrArg Host.Outcome.next (State.stripeTaken_eq htr hqueue hq)

theorem exec_souAbandon {r : TileRef} (hmem : ∃ e ∈ s.sou.queue, e.tile = r) :
    exec (.souAbandon r) s = .next ((s.deliver (.souAbandon r)).leftOut r).tryStripe :=
  congrArg Host.Outcome.next (State.souAbandoned_eq (s := s.deliver (.souAbandon r)) hmem)

theorem State.stripeOver_next {h : StripeHeader} {e : OutEntry} (hdrop : s.sou.dropHead = false) (hidx : h.index ≠ 59) :
    s.stripeOver h e = { s with sou := { s.sou with
      transfer := none, taken := some { header := h, payload := s.fst.readStripe e.slot h.index }
      index := s.sou.index + 1 } } :=
  (if_neg (by rw [hdrop]; nofun)).trans (if_neg hidx)

theorem State.stripeOver_last {h : StripeHeader} {e : OutEntry} {rest : List OutEntry} (hdrop : s.sou.dropHead = false)
    (hidx : h.index = 59) (hqueue : s.sou.queue = e :: rest) (hs : s.fst.slot e.slot = some .streaming) :
    s.stripeOver h e = (State.afterFree { s with
      sou := { s.sou with
        queue := s.sou.queue.drop 1, transfer := none, index := 0, started := false, dropHead := false, restart := false
        taken := some { header := h, payload := s.fst.readStripe e.slot h.index } }
      fst := s.fst.setSlots [e.slot] .free }).tileSent e.tile :=
  (if_neg (by rw [hdrop]; nofun)).trans ((if_pos hidx).trans
    (congrArg (State.tileSent · e.tile) (State.removeHead_frees (by exact hqueue) (by exact hs))))

theorem find?_of_unique {α : Type} {l : List α} {p : α → Bool} {x : α} (hx : x ∈ l) (hp : p x = true)
    (huniq : ∀ y ∈ l, p y = true → y = x) : l.find? p = some x := by
  obtain ⟨y, hy⟩ := Option.isSome_iff_exists.1 (List.find?_isSome.2 ⟨x, hx, hp⟩)
  rw [hy, huniq y (List.mem_of_find?_eq_some hy) (List.find?_some hy)]

/-- R158: SOU looks at its conditions at the end of an event. -/
theorem State.looksAgain {c : Instr} (h1 : exec c s = .next v.tryStripe)
    (h2 : exec c (s.withCredits 0) = .next (v.withCredits 0).tryStripe) (hcred : v.sou.credits = s.sou.credits) :
    ∃ u, exec c { s with sou := { s.sou with credits := 0 } } = .next u ∧ (.stripeStart ∉ u.inFlight →
      exec c s = exec .stripeStart { u with sou := { u.sou with credits := s.sou.credits } }) := by
  rw [State.tryStripe_of_credits rfl] at h2
  refine ⟨_, h2, fun hno => ?_⟩
  have hback : { v.withCredits 0 with sou := { (v.withCredits 0).sou with credits := s.sou.credits } } = v := by
    rw [← hcred]
    rfl
  rw [hback, h1]
  have hself : v.deliver .stripeStart = v := State.deliver_eq_self (by exact hno)
  exact (congrArg (fun u : State => Host.Outcome.next u.tryStripe) hself).symm

theorem State.goesOn_stripeEnd {h : StripeHeader} {e : OutEntry} {rest : List OutEntry} (htr : s.sou.transfer = some h)
    (hqueue : s.sou.queue = e :: rest) (hq : s.sou.quiesce = false) (hw : s.fst.wait = none ∨ s.fst.quiesce = false)
    (hfree : ∃ v, s.freesTo (s.stripeOver h e) (s.unwaited.stripeOver h e) v) :
    s.goesOn .stripeEnd { s.unwaited with sou := { s.sou with credits := 0 } }
      (fun u => { u with cru := s.cru, sou := { u.sou with credits := s.sou.credits } })
      (s.fst.asksAgain ++ [.calworkGrant, .stripeStart]) := by
  obtain ⟨v, h1, h2, hwait, hquiet, hcru, hcred⟩ := hfree
  refine State.goesOn_of_stripe (v := v) ?_ ?_ hwait hquiet hcru hcred hw
  · rw [exec_stripeEnd htr hqueue hq, h1]
  · refine (exec_stripeEnd (s := s.unwaited.withCredits 0) htr hqueue hq).trans (congrArg Host.Outcome.next ?_)
    rw [State.stripeOver_withCredits, h2, State.tryStripe_of_credits rfl]

theorem State.goesOn_souAbandon {r : TileRef} (hmem : ∃ e ∈ s.sou.queue, e.tile = r)
    (hw : s.fst.wait = none ∨ s.fst.quiesce = false)
    (hfree : ∃ v, (s.deliver (.souAbandon r)).freesTo ((s.deliver (.souAbandon r)).leftOut r)
      ((s.deliver (.souAbandon r)).unwaited.leftOut r) v) :
    s.goesOn (.souAbandon r) { s.unwaited with sou := { s.sou with credits := 0 } }
      (fun u => { u with cru := s.cru, sou := { u.sou with credits := s.sou.credits } })
      (s.fst.asksAgain ++ [.calworkGrant, .stripeStart]) := by
  obtain ⟨v, h1, h2, hwait, hquiet, hcru, hcred⟩ := hfree
  refine State.goesOn_of_stripe (v := v) ?_ ?_ hwait hquiet hcru hcred hw
  · rw [exec_souAbandon hmem, h1]
  · refine (exec_souAbandon (s := s.unwaited.withCredits 0) hmem).trans (congrArg Host.Outcome.next ?_)
    rw [show (s.unwaited.withCredits 0).deliver (.souAbandon r) = ((s.deliver (.souAbandon r)).unwaited).withCredits 0 from rfl,
      State.leftOut_withCredits, h2, State.tryStripe_of_credits rfl]

/-- Settles O56. -/
theorem stripesGoOut : Obligations.StripesGoOut := by
  intro s hq hr
  refine ⟨fun e rest j x hqueue htr hcr hatt hj hx => ?_, fun h => ?_, fun e rest h hqueue htr hdrop hcr => ?_,
    fun e rest h j x hqueue htr hdrop hidx hcr hatt hst hj hx => ?_, fun c hc => ?_, fun c e rest hqueue hw hc => ?_,
    fun e rest h hqueue htr hdrop hcr hs hw hcru => ?_, fun e rest r hqueue htile hst htr => ?_,
    fun e rest r hqueue htile htr hcr hw hcru => ⟨fun hst hs => ?_, fun hst hs hrest => ?_⟩,
    fun e rest r x hqueue htile hrest hx htr hs hw hcru => ?_⟩
  · intro header
    have hstart := State.tryStripe_starts (s := s.deliver .stripeStart) hq hqueue htr hcr hatt hj hx
    refine ⟨fun hst => congrArg Host.Outcome.next (hstart.trans (State.startStripe_started j x hst)), fun hst hs hm =>
      ⟨_, congrArg Host.Outcome.next (hstart.trans (State.startStripe_first j x hst hs hr)), rfl,
        .of_mapTile (Tile.moved_seq .sending) rfl, Prc.tile?_moved hx (by rw [hm]; rfl) rfl⟩⟩
  · exact congrArg Host.Outcome.next (State.tryStripe_unready (s := s.deliver .stripeStart) h)
  · intro taken
    have htaken : taken = { header := h, payload := s.fst.readStripe e.slot h.index } :=
      congrArg (Stripe.mk h) (s.fst.readStripe_eq e.slot h.index).symm
    have hexec := (exec_stripeEnd htr hqueue hq).trans (congrArg Host.Outcome.next
      (State.tryStripe_of_credits ((s.stripeOver_credits h e).1.trans hcr)))
    rw [htaken]
    refine ⟨fun hidx => ?_, fun j x hidx _ hj hx _ hxs hjs hs hw hcru => ?_⟩
    · exact hexec.trans (congrArg Host.Outcome.next (State.stripeOver_next hdrop hidx))
    · obtain ⟨v, hv⟩ : ∃ v : State, v = { s with
          sou := { s.sou with
            queue := rest, transfer := none, index := 0, started := false, dropHead := false, restart := false
            taken := some { header := h, payload := s.fst.readStripe e.slot h.index } }
          fst := s.fst.setSlots [e.slot] .free } := ⟨_, rfl⟩
      have hover : s.stripeOver h e = v.tileSent e.tile := by
        rw [State.stripeOver_last hdrop hidx hqueue hs, State.afterFree_of_idle (by simpa using hw) (by exact hcru), hqueue, hv]
        rfl
      have hprc : v.prc = s.prc := by rw [hv]
      obtain ⟨hother, htile, ⟨k, hk, hcount, hstate⟩, hkeep, hnotice⟩ := State.tileSent_spec (s := v) (j := j) (x := x)
        (by rw [hprc]; exact hr) (by rw [hprc]; exact hj) (by rw [hprc]; exact hx) (by rw [hxs]; rfl)
        (by rcases hjs with h | h | h <;> rw [h] <;> rfl)
      rw [hprc] at hother hkeep
      refine ⟨v.tileSent e.tile, hexec.trans (congrArg Host.Outcome.next hover), ?_, ?_, hother, htile, ?_, ?_, hkeep, ?_⟩
      · simp [State.tileSent, hv]
      · simp only [State.tileSent, State.drainJob_frame, State.endTile_frame, hv]
        rfl
      · rw [hk]
        exact congrArg some hcount
      · rw [hk]
        refine congrArg some (hstate.trans ?_)
        rfl
      · refine ⟨?_, ?_, ?_, ?_, ?_, ?_, ?_, (State.noticesOnly.of_liu (by rw [hv])).trans hnotice⟩
        all_goals simp [State.tileSent, hv]
  · refine (exec_stripeEnd htr hqueue hq).trans (congrArg Host.Outcome.next ?_)
    rw [State.stripeOver_next hdrop hidx, State.tryStripe_starts (by exact hq) (by exact hqueue) (by rfl) (by exact hcr)
      (by exact hatt) (by exact hj) (by exact hx), State.startStripe_started _ _ (by exact hst), Fst.readStripe_eq]
    rfl
  · rcases hc with ⟨rfl, htr, hqueue⟩ | ⟨e, he, rfl⟩
    · obtain ⟨h, htr⟩ := Option.ne_none_iff_exists'.1 htr
      obtain ⟨e, rest, hqueue⟩ := List.exists_cons_of_ne_nil hqueue
      refine State.looksAgain (exec_stripeEnd htr hqueue hq) ?_ (s.stripeOver_credits h e).1
      rw [← State.stripeOver_withCredits]
      exact exec_stripeEnd (s := s.withCredits 0) htr hqueue hq
    · refine State.looksAgain (exec_souAbandon ⟨e, he, rfl⟩) ?_ (State.leftOut_credits _ _)
      rw [← State.leftOut_withCredits]
      exact exec_souAbandon (s := s.withCredits 0) ⟨e, he, rfl⟩
  · rcases hc with ⟨rfl, hs, h, htr, hover⟩ | ⟨rfl, hst, htr, hs⟩ | ⟨rfl, hst, hs⟩ | ⟨x, hx, rfl, hne, huniq, hs⟩
    · exact State.goesOn_stripeEnd htr hqueue hq hw (State.stripeOver_freesTo hqueue hs hover)
    · refine State.goesOn_souAbandon ⟨e, by rw [hqueue]; exact List.mem_cons_self, rfl⟩ hw ?_
      have hhead : s.sou.isHead e.tile = true := by rw [Sou.isHead_of hqueue]; simp
      rw [State.leftOut_head (s := s.deliver (.souAbandon e.tile)) hhead hst htr,
        State.leftOut_head (s := (s.deliver (.souAbandon e.tile)).unwaited) hhead hst htr]
      exact ⟨_, State.removeHead_freesTo (s := s.deliver (.souAbandon e.tile)) hqueue hs⟩
    · refine State.goesOn_souAbandon ⟨e, by rw [hqueue]; exact List.mem_cons_self, rfl⟩ hw ?_
      refine State.leftOut_freesTo (s := s.deliver (.souAbandon e.tile)) (by simp [State.deliver, hst]) ?_ hs
      show s.sou.queue.find? _ = _
      rw [hqueue, List.find?_cons_of_pos (by simp)]
    · refine State.goesOn_souAbandon ⟨x, by rw [hqueue]; exact List.mem_cons_of_mem _ hx, rfl⟩ hw ?_
      refine State.leftOut_freesTo (s := s.deliver (.souAbandon x.tile)) ?_ ?_ hs
      · show (s.sou.isHead x.tile && s.sou.started) = false
        rw [Sou.isHead_of hqueue, decide_eq_false (Ne.symm hne)]
        rfl
      · show s.sou.queue.find? _ = _
        rw [hqueue, List.find?_cons_of_neg (by simpa using Ne.symm hne)]
        exact find?_of_unique hx (by simp) fun y hy h => huniq y hy (of_decide_eq_true h)
  · refine (exec_stripeEnd htr hqueue hq).trans (congrArg Host.Outcome.next ?_)
    have hover : s.stripeOver h e = State.afterFree { s with
        sou := { s.sou with
          queue := s.sou.queue.drop 1, transfer := none, index := 0, started := false, dropHead := false, restart := false
          taken := some { header := h, payload := s.fst.readStripe e.slot h.index } }
        fst := s.fst.setSlots [e.slot] .free } :=
      (if_pos hdrop).trans (State.removeHead_frees (by exact hqueue) (by exact hs))
    rw [hover, State.afterFree_of_idle (by simpa using hw) (by exact hcru), hqueue, Fst.readStripe_eq, if_pos hs]
    refine State.tryStripe_unready ?_
    exact hcr.elim (fun h => .inr (.inl h)) .inl
  · have hhead : s.sou.isHead r = true := by rw [Sou.isHead_of hqueue, htile]; simp
    refine congrArg Host.Outcome.next ((if_pos (by simp [State.deliver, hhead, hst])).trans (if_pos ?_))
    exact Option.isSome_iff_ne_none.2 htr
  · have hhead : s.sou.isHead r = true := by rw [Sou.isHead_of hqueue, htile]; simp
    refine (exec_souAbandon ⟨e, by rw [hqueue]; exact List.mem_cons_self, htile⟩).trans (congrArg Host.Outcome.next ?_)
    rw [State.leftOut_head (s := s.deliver (.souAbandon r)) hhead hst htr,
      State.removeHead_frees (s := s.deliver (.souAbandon r)) hqueue hs, State.afterFree_of_idle (by simpa using hw) (by exact hcru)]
    have hdrop : (s.deliver (.souAbandon r)).sou.dropFirst
        = { s.sou with queue := rest, index := 0, started := false, dropHead := false, restart := false } := by
      simp [Sou.dropFirst, State.deliver, hqueue]
    rw [hdrop]
    refine State.tryStripe_unready ?_
    exact hcr.elim (fun h => .inr (.inl h)) .inl
  · have hhead : s.sou.isHead r = true := by rw [Sou.isHead_of hqueue, htile]; simp
    refine (exec_souAbandon ⟨e, by rw [hqueue]; exact List.mem_cons_self, htile⟩).trans (congrArg Host.Outcome.next ?_)
    rw [State.leftOut_frees (s := s.deliver (.souAbandon r)) (e := e) (by simp [State.deliver, hst])
      (by simp [State.deliver, hqueue, htile]) hs, State.afterFree_of_idle (by simpa using hw) (by exact hcru)]
    have hleft : { s.sou with
        queue := s.sou.queue.filter fun x => decide (x.tile ≠ r)
        restart := if s.sou.isHead r then false else s.sou.restart } = { s.sou with queue := rest, restart := false } := by
      rw [if_pos hhead, hqueue, List.filter_cons_of_neg (by simp [htile]), List.filter_eq_self.2 (by simpa using hrest)]
    rw [show (s.deliver (.souAbandon r)).sou = s.sou from rfl, hleft]
    refine State.tryStripe_unready ?_
    exact hcr.elim (fun h => .inr (.inl h)) .inl
  · have hhead : s.sou.isHead r = false := by rw [Sou.isHead_of hqueue]; simpa using htile
    rw [hrest] at hqueue
    refine (exec_souAbandon ⟨x, by rw [hqueue]; simp, hx⟩).trans (congrArg Host.Outcome.next ?_)
    rw [State.leftOut_frees (s := s.deliver (.souAbandon r)) (e := x) (by simp [State.deliver, hhead])
      (by simp [State.deliver, hqueue, htile, hx]) hs, State.afterFree_of_idle (by simpa using hw) (by exact hcru)]
    have hleft : { s.sou with
        queue := s.sou.queue.filter fun x => decide (x.tile ≠ r)
        restart := if s.sou.isHead r then false else s.sou.restart } = { s.sou with queue := [e] } := by
      rw [if_neg (by rw [hhead]; nofun), hqueue]
      simp [htile, hx]
    rw [show (s.deliver (.souAbandon r)).sou = s.sou from rfl, hleft]
    exact State.tryStripe_busy (by exact htr)

end Sys2Proof.Machine
end

section
/-! PROOFS. How each block stops under the quiesce mark, and the RESET handshake (R160, R66, R125, R147). -/

namespace Sys2Proof.Machine

variable {s t u : State}

/-! ## What a block that stops leaves alone -/

theorem State.noticesOnly.resetWork (h : s.noticesOnly t) : t.liu.resetWork = s.liu.resetWork := by
  obtain ⟨n, o, k, e⟩ := h
  rw [e]

/-- From `s` to `t` a block has stopped: LIU has raised notices at most, TRS is in the same motion, BLU and TRS are under
the same mark, and every acknowledgement on its way is still on its way. -/
structure State.stopping (s t : State) : Prop where
  notices : s.noticesOnly t
  blu : t.blu.quiesce = s.blu.quiesce
  trs : (t.trs.quiesce, t.trs.state, t.trs.work, t.trs.pendingMotion)
    = (s.trs.quiesce, s.trs.state, s.trs.work, s.trs.pendingMotion)
  acks : ∀ b, .quiesceAck b true ∈ s.inFlight → .quiesceAck b true ∈ t.inFlight

theorem State.stopping.of_append {l : List Instr} (hl : t.liu = s.liu) (hb : t.blu = s.blu) (ht : t.trs = s.trs)
    (hm : t.inFlight = s.inFlight ++ l) : s.stopping t :=
  ⟨.of_liu hl, by rw [hb], by rw [ht], fun b hmem => by rw [hm]; exact List.mem_append_left _ hmem⟩

theorem State.stopping.trans (h1 : s.stopping t) (h2 : t.stopping u) : s.stopping u :=
  ⟨h1.notices.trans h2.notices, h2.blu.trans h1.blu, h2.trs.trans h1.trs, fun b hm => h2.acks b (h1.acks b hm)⟩

theorem State.stopping.refl (s : State) : s.stopping s := ⟨.of_liu rfl, rfl, rfl, fun _ h => h⟩

/-- The messages of a start are recalled; an acknowledgement is none of them. -/
theorem State.stopping.recall {f : Instr → Bool} (h : s.stopping t) (hf : ∀ b, f (.quiesceAck b true) = false) :
    s.stopping (t.recall f) :=
  ⟨h.notices, h.blu, h.trs, fun b hm => List.mem_filter.2 ⟨h.acks b hm, by rw [hf]; rfl⟩⟩

theorem State.tryStandby_stopping (s : State) : s.stopping s.tryStandby := by
  unfold State.tryStandby
  split
  · exact ⟨(State.noticesOnly.of_liu rfl).notice _, rfl, rfl, fun _ h => h⟩
  · exact .refl s

/-- R136: under its mark BLU applies no drive at the end of a grant. -/
theorem State.endGrant_stopping (hq : s.blu.quiesce = true) (a : LampAsk) : s.stopping (s.endGrant a) := by
  have hblu : ∀ b : Blu, b.quiesce = s.blu.quiesce → s.stopping { s with blu := b } := fun b hb =>
    ⟨.of_liu rfl, hb, rfl, fun _ h => h⟩
  unfold State.endGrant
  cases a.cond with
  | dark => exact (hblu { s.blu with grant := none } rfl).trans (State.tryStandby_stopping _)
  | settled d =>
    dsimp only
    unfold State.afterGrant
    refine State.stopping.trans ?_ (State.tryStandby_stopping _)
    dsimp only
    cases s.blu.pendingDrive with
    | none =>
      dsimp only
      split
      · exact hblu _ rfl
      · exact hblu _ rfl
    | some d =>
      dsimp only
      rw [if_pos hq]
      exact hblu _ rfl

theorem State.releaseLamp_stopping (hq : s.blu.quiesce = true) (n : Nat) : s.stopping (s.releaseLamp n) := by
  unfold State.releaseLamp
  refine State.stopping.recall ?_ fun _ => rfl
  unfold State.lampRelease
  cases s.blu.grant with
  | none => exact ⟨.of_liu rfl, rfl, rfl, fun _ h => h⟩
  | some a =>
    have hcount : s.stopping { s with freeCount := s.freeCount + 1 } := ⟨.of_liu rfl, rfl, rfl, fun _ h => h⟩
    have hend := hcount.trans (State.endGrant_stopping (s := { s with freeCount := s.freeCount + 1 }) hq a)
    dsimp only
    cases a.cond with
    | dark => exact hend
    | settled d => exact hend

theorem State.tryInterlock_stopping (s : State) : s.stopping s.tryInterlock := by
  unfold State.tryInterlock
  split
  · exact ⟨.of_liu rfl, rfl, rfl, fun b h => List.mem_append_left _ h⟩
  · exact .refl s

theorem State.interlockRelease_stopping (hp : s.trs.pendingMotion = none) : s.stopping s.interlockRelease := by
  unfold State.interlockRelease
  split
  · have hset : s.stopping { s with trs := { s.trs with interlock := s.trs.interlock.released } } :=
      ⟨.of_liu rfl, rfl, rfl, fun _ h => h⟩
    dsimp only
    split
    · next w hw => exact absurd (hp.symm.trans hw) nofun
    · exact hset.trans (State.tryInterlock_stopping _)
  · exact .refl s

theorem State.forgetHeld_stopping (s : State) : s.stopping s.forgetHeld := by
  unfold State.forgetHeld
  exact State.stopping.recall ⟨.of_liu rfl, rfl, rfl, fun _ h => h⟩ fun _ => rfl

theorem State.withdrawAsks_stopping (hq : s.blu.quiesce = true) (hp : s.trs.pendingMotion = none) :
    s.stopping s.withdrawAsks := by
  have hlamp := State.releaseLamp_stopping hq 0
  unfold State.withdrawAsks
  cases s.sfe.phase with
  | goAhead => exact .refl s
  | lamp => exact hlamp
  | stage =>
    refine hlamp.trans (.recall ?_ fun _ => rfl)
    have hpend : (s.releaseLamp 0).trs.pendingMotion = none := by simpa using hp
    have hask : (s.releaseLamp 0).stopping (s.releaseLamp 0).interlockWithdraw := ⟨.of_liu rfl, rfl, rfl, fun _ h => h⟩
    exact hask.trans (State.interlockRelease_stopping (s := (s.releaseLamp 0).interlockWithdraw) hpend)

theorem State.endHeld_stopping (hq : s.blu.quiesce = true) (hp : s.trs.pendingMotion = none) : s.stopping s.endHeld := by
  unfold State.endHeld
  split
  · refine ((State.withdrawAsks_stopping hq hp).trans (State.forgetHeld_stopping _)).trans ?_
    rw [State.chooseNext_unheld rfl]
    exact ⟨.of_liu rfl, rfl, rfl, fun _ h => h⟩
  · exact s.forgetHeld_stopping

theorem State.cutShort_stopping (hq : s.blu.quiesce = true) (hp : s.trs.pendingMotion = none) (e : Exposing) :
    s.stopping (s.cutShort e) := by
  have hall : s.stopping (s.releaseAll e.req) := by
    unfold State.releaseAll
    cases e.req.stage with
    | false => exact State.releaseLamp_stopping hq 0
    | true =>
      have hrel := State.interlockRelease_stopping hp
      exact hrel.trans (State.releaseLamp_stopping (by rw [hrel.blu]; exact hq) 0)
  have hset : (s.releaseAll e.req).stopping (s.cutShort e) := ⟨.of_liu rfl, rfl, rfl, fun _ h => h⟩
  exact hall.trans hset

/-! ## The acknowledgement, and each block at RESET -/

theorem State.ack_stopping (s : State) (b : Block) : s.stopping (s.ack b) := by
  rw [State.ack_eq]
  exact .of_append rfl rfl rfl rfl

theorem State.ack_sent (h : s.liu.resetWork ≠ none) (b : Block) : .quiesceAck b true ∈ (s.ack b).inFlight := by
  rw [State.ack_eq, if_neg h]
  exact List.mem_append_right _ (List.mem_singleton_self _)

theorem State.endHeld_sfe (s : State) : s.endHeld.sfe = if s.sfe.state = .armed then s.sfe.left else { s.sfe with held := none } := by
  unfold State.endHeld
  by_cases h : s.sfe.state = .armed
  · rw [if_pos h, if_pos h, State.chooseNext_unheld rfl]
    show s.withdrawAsks.sfe.left = s.sfe.left
    simp
  · rw [if_neg h, if_neg h]
    rfl

theorem State.cutShort_sfe (s : State) (e : Exposing) : (s.cutShort e).sfe = s.sfe.cut := by
  unfold State.cutShort State.releaseAll
  cases e.req.stage <;> simp [Sfe.cut]

/-- `s` with SFE under its mark. -/
def State.sfeMarked (s : State) : State := { s with sfe := { s.sfe with quiesce := true } }

theorem State.sfeQuiesce_exposing {e : Exposing} (hs : s.sfe.state = .exposing) (he : s.sfe.exposing = some e) :
    s.sfeQuiesce = s.sfeMarked.cutShort e := by
  unfold State.sfeQuiesce
  dsimp only
  split
  · next x _ hx =>
    cases he.symm.trans hx
    rfl
  all_goals simp_all

theorem State.sfeQuiesce_waits (hs : s.sfe.state = .idle ∨ s.sfe.state = .held ∨ s.sfe.state = .armed) :
    s.sfeQuiesce = s.sfeMarked.endHeld.ack .sfe := by
  unfold State.sfeQuiesce
  dsimp only
  split
  · simp_all
  · simp_all
  · rfl
  · rfl
  · rfl
  · simp_all
  · simp_all

theorem State.sfeQuiesce_reading (hs : s.sfe.state = .reading) : s.sfeQuiesce = s.sfeMarked.forgetHeld := by
  unfold State.sfeQuiesce
  dsimp only
  split
  case h_6 => rfl
  all_goals simp_all

/-- The ways in which SFE stops. -/
theorem State.sfeQuiesce_cases (s : State) : (∃ e, s.sfeQuiesce = s.sfeMarked.cutShort e)
    ∨ s.sfeQuiesce = s.sfeMarked.endHeld.ack .sfe ∨ s.sfeQuiesce = s.sfeMarked.forgetHeld
    ∨ s.sfeQuiesce = s.sfeMarked.forgetHeld.ack .sfe := by
  unfold State.sfeQuiesce
  dsimp only
  split
  · exact .inl ⟨_, rfl⟩
  · exact .inr (.inl rfl)
  · exact .inr (.inl rfl)
  · exact .inr (.inl rfl)
  · exact .inr (.inl rfl)
  · exact .inr (.inr (.inl rfl))
  · split
    · exact .inr (.inr (.inl rfl))
    · exact .inr (.inr (.inr rfl))

theorem State.sfeQuiesce_stopping (hq : s.blu.quiesce = true) (hp : s.trs.pendingMotion = none) : s.stopping s.sfeQuiesce := by
  have hset : s.stopping s.sfeMarked := ⟨.of_liu rfl, rfl, rfl, fun _ h => h⟩
  have hend : s.stopping s.sfeMarked.endHeld := hset.trans (State.endHeld_stopping (s := s.sfeMarked) hq hp)
  have hforget := hset.trans s.sfeMarked.forgetHeld_stopping
  obtain ⟨e, h⟩ | h | h | h := s.sfeQuiesce_cases
  · rw [h]
    exact hset.trans (State.cutShort_stopping (s := s.sfeMarked) hq hp e)
  · rw [h]
    exact hend.trans (State.ack_stopping _ _)
  · rw [h]
    exact hforget
  · rw [h]
    exact hforget.trans (State.ack_stopping _ _)

theorem State.sfeQuiesce_quiesce (s : State) : s.sfeQuiesce.sfe.quiesce = true := by
  obtain ⟨e, h⟩ | h | h | h := s.sfeQuiesce_cases
  · rw [h, State.cutShort_sfe]
    rfl
  · rw [h, (State.ack_frame _ _).2.2.2.2.1, State.endHeld_sfe]
    split
    · rfl
    · rfl
  · rw [h]
    rfl
  · rw [h, (State.ack_frame _ _).2.2.2.2.1]
    rfl

/-! ## RESET -/

theorem State.prcQuiesce_spec (s : State) : s.stopping s.prcQuiesce
    ∧ s.prcQuiesce.prc.run = .quiescing ∧ s.prcQuiesce.prc.jobs = s.prc.jobs ∧ s.prcQuiesce.prc.admReq = none
    ∧ (s.liu.resetWork ≠ none → .quiesceAck .prc true ∈ s.prcQuiesce.inFlight) := by
  have hplan : s.stopping s.withdrawPlan ∧ s.withdrawPlan.prc.jobs = s.prc.jobs := by
    unfold State.withdrawPlan
    split
    · exact ⟨.of_append rfl rfl rfl rfl, rfl⟩
    · exact ⟨.refl s, rfl⟩
  have hadm : s.withdrawPlan.stopping s.withdrawPlan.withdrawAdmissionReq
      ∧ s.withdrawPlan.withdrawAdmissionReq.prc.jobs = s.withdrawPlan.prc.jobs
      ∧ s.withdrawPlan.withdrawAdmissionReq.prc.admReq = none := by
    unfold State.withdrawAdmissionReq
    split
    · exact ⟨.of_append rfl rfl rfl rfl, rfl, rfl⟩
    · next h => exact ⟨.refl _, rfl, h⟩
  obtain ⟨v, hv⟩ : ∃ v : State, v = { s.withdrawPlan.withdrawAdmissionReq with
    prc := { s.withdrawPlan.withdrawAdmissionReq.prc with run := .quiescing } } := ⟨_, rfl⟩
  have hset : s.withdrawPlan.withdrawAdmissionReq.stopping v := by rw [hv]; exact ⟨.of_liu rfl, rfl, rfl, fun _ h => h⟩
  have hstop := (hplan.1.trans hadm.1).trans hset
  have hack : s.prcQuiesce = v.ack .prc := by rw [hv]; rfl
  have hprc : s.prcQuiesce.prc = v.prc := by rw [hack]; simp
  refine ⟨?_, ?_, ?_, ?_, fun h => ?_⟩
  · rw [hack]
    exact hstop.trans (State.ack_stopping _ _)
  · rw [hprc, hv]
  · rw [hprc, hv]
    exact hadm.2.1.trans hplan.2
  · rw [hprc, hv]
    exact hadm.2.2
  · rw [hack]
    exact State.ack_sent (by rw [hstop.notices.resetWork]; exact h) .prc

theorem State.calWithdrawPlan_stopping (s : State) : s.stopping s.calWithdrawPlan := by
  unfold State.calWithdrawPlan
  split
  · exact .of_append rfl rfl rfl rfl
  · exact .refl s

theorem State.calQuiesce_spec (s : State) : s.stopping s.calQuiesce ∧ s.calQuiesce.cru.quiesce = true
    ∧ (s.liu.resetWork ≠ none → .quiesceAck .cru true ∈ s.calQuiesce.inFlight) := by
  have hcru : ∀ {x : State} (c : Cru), s.stopping x → s.stopping { x with cru := c } := fun c h =>
    ⟨h.notices, h.blu, h.trs, h.acks⟩
  have hack : ∃ v : State, s.stopping v ∧ v.cru.quiesce = true ∧ s.calQuiesce = v.ack .cru := by
    refine ⟨_, hcru _ ?_, rfl, rfl⟩
    split
    · exact hcru _ (.refl s)
    · exact hcru _ (.refl s)
    · exact s.calWithdrawPlan_stopping
    all_goals exact .refl s
  obtain ⟨v, hstop, hquiet, hack⟩ := hack
  rw [hack]
  exact ⟨hstop.trans (State.ack_stopping _ _), by simpa using hquiet, fun h =>
    State.ack_sent (by rw [hstop.notices.resetWork]; exact h) .cru⟩

theorem State.bplQuiesce_spec (s : State) : s.stopping s.bplQuiesce
    ∧ (s.liu.resetWork ≠ none → s.bpl.work = none → .quiesceAck .bpl true ∈ s.bplQuiesce.inFlight) := by
  unfold State.bplQuiesce
  split
  · exact ⟨State.ack_stopping _ _, fun h _ => State.ack_sent h .bpl⟩
  · next w hw => exact ⟨.refl s, fun _ hn => nomatch hw.symm.trans hn⟩

theorem State.fstQuiesce_spec (s : State) : s.stopping s.fstQuiesce
    ∧ s.fstQuiesce.fst = { s.fst with quiesce := true, wait := none }
    ∧ (s.liu.resetWork ≠ none → .quiesceAck .fst true ∈ s.fstQuiesce.inFlight) := by
  have hset : s.stopping { s with fst := { s.fst with quiesce := true, wait := none } } := ⟨.of_liu rfl, rfl, rfl, fun _ h => h⟩
  exact ⟨hset.trans (State.ack_stopping _ _), by simp [State.fstQuiesce], fun h =>
    State.ack_sent (s := { s with fst := { s.fst with quiesce := true, wait := none } }) h .fst⟩

/-- TRS keeps its motion, gives up the motion that waits, and acknowledges unless a leg is in progress. -/
theorem State.trsQuiesce_spec (s : State) : s.noticesOnly s.trsQuiesce ∧ s.trsQuiesce.blu = s.blu
    ∧ (s.trsQuiesce.trs.quiesce, s.trsQuiesce.trs.state, s.trsQuiesce.trs.work, s.trsQuiesce.trs.pendingMotion)
      = (true, s.trs.state, s.trs.work, none)
    ∧ (∀ b, .quiesceAck b true ∈ s.inFlight → .quiesceAck b true ∈ s.trsQuiesce.inFlight)
    ∧ (s.liu.resetWork ≠ none → s.trs.state.occupied = false → .quiesceAck .trs true ∈ s.trsQuiesce.inFlight) := by
  obtain ⟨v, hv⟩ : ∃ v : State, v = { s with trs := { s.trs with quiesce := true, pendingMotion := none } } := ⟨_, rfl⟩
  have hstop := v.tryInterlock_stopping
  have hocc : v.tryInterlock.trs.state.occupied = s.trs.state.occupied := by
    have hstate : v.tryInterlock.trs.state = v.trs.state := congrArg (fun p => p.2.1) hstop.trs
    rw [hstate, hv]
  have hwork : v.tryInterlock.liu.resetWork = s.liu.resetWork := hstop.notices.resetWork.trans (by rw [hv])
  have heq : s.trsQuiesce = if s.trs.state.occupied then v.tryInterlock else v.tryInterlock.ack .trs := by
    rw [← hocc, hv]
    rfl
  have hend : v.stopping s.trsQuiesce := by
    rw [heq]
    split
    · exact hstop
    · exact hstop.trans (State.ack_stopping _ _)
  refine ⟨(State.noticesOnly.of_liu (by rw [hv])).trans hend.notices, by simp, hend.trs.trans (by rw [hv]), fun b h =>
    hend.acks b (by rw [hv]; exact h), fun h ho => ?_⟩
  rw [heq, ho, if_neg nofun]
  exact State.ack_sent (by rw [hwork]; exact h) .trs

theorem State.bluQuiesce_spec (s : State) : s.bluQuiesce.blu.quiesce = true
    ∧ (∀ b, .quiesceAck b true ∈ s.inFlight → .quiesceAck b true ∈ s.bluQuiesce.inFlight)
    ∧ (s.liu.resetWork ≠ none → .quiesceAck .blu true ∈ s.bluQuiesce.inFlight) := by
  have hack := State.ack_stopping (State.stopIdle { s with blu := { s.blu with quiesce := true } }) .blu
  exact ⟨hack.blu, hack.acks, fun h =>
    State.ack_sent (s := State.stopIdle { s with blu := { s.blu with quiesce := true } }) h .blu⟩

theorem State.bmeQuiesce_spec (s : State) : s.stopping s.bmeQuiesce ∧ s.bmeQuiesce.bme.quiesce = true
    ∧ (s.liu.resetWork ≠ none → s.bme.state = .idle ∨ s.bme.state = .calReady →
      .quiesceAck .bme true ∈ s.bmeQuiesce.inFlight) := by
  obtain ⟨v, hv⟩ : ∃ v : State, v = { s with bme := { s.bme with quiesce := true } } := ⟨_, rfl⟩
  have hset : s.stopping v := by rw [hv]; exact ⟨.of_liu rfl, rfl, rfl, fun _ h => h⟩
  have hquiet : v.bme.quiesce = true := by rw [hv]
  have hsent : s.liu.resetWork ≠ none → .quiesceAck .bme true ∈ (v.ack .bme).inFlight := fun h =>
    State.ack_sent (by rw [hset.notices.resetWork]; exact h) .bme
  have heq : s.bmeQuiesce = v.ack .bme ∨ (s.bmeQuiesce = v ∧ s.bme.state ≠ .idle ∧ s.bme.state ≠ .calReady) := by
    unfold State.bmeQuiesce
    rw [← hv]
    have hstate : v.bme.state = s.bme.state := by rw [hv]
    dsimp only
    rw [hstate]
    cases s.bme.state with
    | idle => exact .inl rfl
    | calReady => exact .inl rfl
    | merging => exact .inr ⟨rfl, nofun, nofun⟩
    | abandoning => exact .inr ⟨rfl, nofun, nofun⟩
    | calBusy => exact .inr ⟨rfl, nofun, nofun⟩
  obtain heq | ⟨heq, h1, h2⟩ := heq
  · rw [heq]
    exact ⟨hset.trans (State.ack_stopping _ _), by simpa using hquiet, fun h _ => hsent h⟩
  · rw [heq]
    exact ⟨hset, hquiet, fun _ h => absurd h (not_or.2 ⟨h1, h2⟩)⟩

theorem State.souQuiesce_spec (s : State) : s.stopping s.souQuiesce ∧ s.souQuiesce.sou.quiesce = true
    ∧ (s.liu.resetWork ≠ none → s.sou.transfer = none → .quiesceAck .sou true ∈ s.souQuiesce.inFlight) := by
  obtain ⟨v, hv⟩ : ∃ v : State, v = { s with sou := { s.sou with quiesce := true } } := ⟨_, rfl⟩
  have hset : s.stopping v := by rw [hv]; exact ⟨.of_liu rfl, rfl, rfl, fun _ h => h⟩
  have hquiet : v.sou.quiesce = true := by rw [hv]
  have heq : s.souQuiesce = if s.sou.transfer = none then v.ack .sou else v := by rw [hv]; rfl
  rw [heq]
  by_cases h : s.sou.transfer = none
  · rw [if_pos h]
    exact ⟨hset.trans (State.ack_stopping _ _), by simpa using hquiet, fun hw _ =>
      State.ack_sent (by rw [hset.notices.resetWork]; exact hw) .sou⟩
  · rw [if_neg h]
    exact ⟨hset, hquiet, fun _ hn => absurd hn h⟩

/-- The blocks at RESET, one after another. -/
structure State.quiesced (s u t : State) : Prop where
  /-- SFE stops from `u` on. -/
  sfe : u.sfe = s.sfe
  stopped : t.sfe = u.sfeQuiesce.sfe
  resetWork : t.liu.resetWork = s.liu.resetWork
  prc : t.prc.run = .quiescing ∧ t.prc.jobs = s.prc.jobs ∧ t.prc.admReq = none
  fst : t.fst = { s.fst with quiesce := true, wait := none }
  marks : t.blu.quiesce = true ∧ t.bme.quiesce = true ∧ t.cru.quiesce = true ∧ t.sou.quiesce = true
  trs : (t.trs.quiesce, t.trs.state, t.trs.work, t.trs.pendingMotion) = (true, s.trs.state, s.trs.work, none)
  acks : .quiesceAck .prc true ∈ t.inFlight ∧ .quiesceAck .fst true ∈ t.inFlight ∧ .quiesceAck .blu true ∈ t.inFlight
    ∧ .quiesceAck .cru true ∈ t.inFlight
  sfeAck : .quiesceAck .sfe true ∈ u.sfeQuiesce.inFlight → .quiesceAck .sfe true ∈ t.inFlight
  stops : u.liu.resetWork ≠ none ∧ u.blu.quiesce = true ∧ u.trs.pendingMotion = none
  trsAck : s.trs.state.occupied = false → .quiesceAck .trs true ∈ t.inFlight
  bmeAck : s.bme.state = .idle ∨ s.bme.state = .calReady → .quiesceAck .bme true ∈ t.inFlight
  bplAck : s.bpl.work = none → .quiesceAck .bpl true ∈ t.inFlight
  souAck : s.sou.transfer = none → .quiesceAck .sou true ∈ t.inFlight

/-- R160: RESET asks every block but LIU to quiesce. -/
theorem State.quiesceAll_spec (hw : s.liu.resetWork ≠ none) : ∃ u, s.quiesced u s.quiesceAll := by
  obtain ⟨u1, h1⟩ : ∃ u, u = s.prcQuiesce := ⟨_, rfl⟩
  obtain ⟨u2, h2⟩ : ∃ u, u = u1.calQuiesce := ⟨_, rfl⟩
  obtain ⟨u3, h3⟩ : ∃ u, u = u2.bplQuiesce := ⟨_, rfl⟩
  obtain ⟨u4, h4⟩ : ∃ u, u = u3.fstQuiesce := ⟨_, rfl⟩
  obtain ⟨u5, h5⟩ : ∃ u, u = u4.trsQuiesce := ⟨_, rfl⟩
  obtain ⟨u6, h6⟩ : ∃ u, u = u5.bluQuiesce := ⟨_, rfl⟩
  obtain ⟨u7, h7⟩ : ∃ u, u = u6.sfeQuiesce := ⟨_, rfl⟩
  obtain ⟨u8, h8⟩ : ∃ u, u = u7.bmeQuiesce := ⟨_, rfl⟩
  obtain ⟨t, ht⟩ : ∃ u, u = u8.souQuiesce := ⟨_, rfl⟩
  have hall : s.quiesceAll = t := by rw [ht, h8, h7, h6, h5, h4, h3, h2, h1]; rfl
  obtain ⟨s1, hrun, hjobs, hadm, a1⟩ := s.prcQuiesce_spec
  obtain ⟨s2, hcru, a2⟩ := u1.calQuiesce_spec
  obtain ⟨s3, a3⟩ := u2.bplQuiesce_spec
  obtain ⟨s4, hfst, a4⟩ := u3.fstQuiesce_spec
  obtain ⟨n5, hblu5, htrs5, k5, a5⟩ := u4.trsQuiesce_spec
  obtain ⟨hblu, k6, a6⟩ := u5.bluQuiesce_spec
  obtain ⟨s8, hbme, a8⟩ := u7.bmeQuiesce_spec
  obtain ⟨s9, hsou, a9⟩ := u8.souQuiesce_spec
  rw [← h1] at s1 hrun hjobs hadm a1
  rw [← h2] at s2 hcru a2
  rw [← h3] at s3 a3
  rw [← h4] at s4 hfst a4
  rw [← h5] at n5 hblu5 htrs5 k5 a5
  rw [← h6] at hblu k6 a6
  rw [← h8] at s8 hbme a8
  rw [← ht] at s9 hsou a9
  have htrs6 : u6.trs = u5.trs := by rw [h6]; simp
  have hpend : u6.trs.pendingMotion = none := by rw [htrs6]; exact congrArg (fun p => p.2.2.2) htrs5
  have s7 : u6.stopping u7 := by
    rw [h7]
    exact State.sfeQuiesce_stopping hblu hpend
  have k8 := s9.acks
  have k7 := fun b h => k8 b (s8.acks b h)
  have k6' := fun b h => k7 b (s7.acks b h)
  have k5' := fun b h => k6' b (k6 b h)
  have k4 := fun b h => k5' b (k5 b h)
  have k3 := fun b h => k4 b (s4.acks b h)
  have k2 := fun b h => k3 b (s3.acks b h)
  have k1 := fun b h => k2 b (s2.acks b h)
  have w1 := s1.notices.resetWork
  have w2 := s2.notices.resetWork.trans w1
  have w3 := s3.notices.resetWork.trans w2
  have w4 := s4.notices.resetWork.trans w3
  have w5 := n5.resetWork.trans w4
  have w6 : u6.liu.resetWork = s.liu.resetWork := by rw [← w5, h6]; simp
  have w7 := s7.notices.resetWork.trans w6
  have w8 := s8.notices.resetWork.trans w7
  have w9 := s9.notices.resetWork.trans w8
  have hlive : ∀ {v : State}, v.liu.resetWork = s.liu.resetWork → v.liu.resetWork ≠ none := fun h => by rw [h]; exact hw
  refine ⟨u6, ?_⟩
  rw [hall]
  have hprc : t.prc = u1.prc := by simp [ht, h8, h7, h6, h5, h4, h3, h2]
  have htrs9 := (s8.trans s9).trs.trans s7.trs
  refine ⟨by simp [h6, h5, h4, h3, h2, h1], by simp [ht, h8, h7], w9, ?_, ?_, ⟨?_, ?_, ?_, hsou⟩, ?_,
    ⟨k1 _ (a1 hw), k4 _ (a4 (hlive w3)), k6' _ (a6 (hlive w5)), k2 _ (a2 (hlive w1))⟩, fun h => k7 _ (by rw [h7]; exact h),
    ⟨hlive w6, hblu, hpend⟩, fun h => k5' _ (a5 (hlive w4) ?_), fun h => k8 _ (a8 (hlive w7) ?_), fun h => k3 _ (a3 (hlive w2) ?_),
    fun h => a9 (hlive w8) ?_⟩
  · rw [hprc]
    exact ⟨hrun, hjobs, hadm⟩
  · have h : t.fst = u4.fst := by simp [ht, h8, h7, h6, h5]
    rw [h, hfst]
    simp [h3, h2, h1]
  · rw [s9.blu, s8.blu, s7.blu, hblu]
  · have h : t.bme = u8.bme := by simp [ht]
    rw [h, hbme]
  · have h : t.cru = u2.cru := by simp [ht, h8, h7, h6, h5, h4, h3]
    rw [h, hcru]
  · refine htrs9.trans ?_
    rw [htrs6]
    refine htrs5.trans ?_
    simp [h4, h3, h2, h1]
  · simpa [h4, h3, h2, h1] using h
  · simpa [h7, h6, h5, h4, h3, h2, h1] using h
  · simpa [h2, h1] using h
  · simpa [h8, h7, h6, h5, h4, h3, h2, h1] using h

/-- R160: what RESET leaves of SFE, by what it was doing. -/
theorem State.quiesced.sfe_cases (h : s.quiesced u t) : t.sfe.quiesce = true
    ∧ (s.sfe.state = .idle ∨ s.sfe.state = .held ∨ s.sfe.state = .armed →
      t.sfe.held = none ∧ .quiesceAck .sfe true ∈ t.inFlight)
    ∧ (∀ e, s.sfe.state = .exposing → s.sfe.exposing = some e →
      t.sfe.state = .reading ∧ t.sfe.exposing = none ∧ t.sfe.readout = some { kind := .flush 0 })
    ∧ (s.sfe.state = .reading → t.sfe.state = .reading ∧ t.sfe.held = none ∧ t.sfe.readout = s.sfe.readout) := by
  rw [h.stopped]
  refine ⟨u.sfeQuiesce_quiesce, fun hs => ⟨?_, h.sfeAck ?_⟩, fun e hs he => ?_, fun hs => ?_⟩
  · rw [State.sfeQuiesce_waits (by rw [h.sfe]; exact hs), (State.ack_frame _ _).2.2.2.2.1, State.endHeld_sfe]
    split
    · rfl
    · rfl
  · rw [State.sfeQuiesce_waits (by rw [h.sfe]; exact hs)]
    obtain ⟨hwork, hblu, hpend⟩ := h.stops
    have hend := State.endHeld_stopping (s := u.sfeMarked) hblu hpend
    exact State.ack_sent (by rw [hend.notices.resetWork]; exact hwork) .sfe
  · rw [State.sfeQuiesce_exposing (by rw [h.sfe]; exact hs) (by rw [h.sfe]; exact he), State.cutShort_sfe]
    exact ⟨rfl, rfl, rfl⟩
  · rw [State.sfeQuiesce_reading (by rw [h.sfe]; exact hs)]
    have hreading : u.sfe.state = .reading := by rw [h.sfe]; exact hs
    exact ⟨hreading, rfl, (congrArg Sfe.readout h.sfe :)⟩

end Sys2Proof.Machine
end

section
/-! PROOFS. How each block ends what it has in progress under the quiesce mark (R66, R125, R147, R160). -/

namespace Sys2Proof.Machine

variable {s t u : State}

theorem State.trsSettled_acks (hw : s.liu.resetWork ≠ none) (hq : s.trs.quiesce = true) :
    s.trsSettled = { s with inFlight := s.inFlight ++ [.quiesceAck .trs true] } := by
  unfold State.trsSettled
  rw [if_pos hq, State.ack_eq, if_neg hw]

theorem State.notice_resetting {n : Notice} (hw : s.liu.resetWork ≠ none) : (s.notice n).liu.resetWork ≠ none := by
  rwa [((State.noticesOnly.of_liu (s := s) rfl).notice n).resetWork]

/-! ## SFE -/

theorem State.sfeSettled_acks (hw : s.liu.resetWork ≠ none) (hq : s.sfe.quiesce = true) :
    s.sfeSettled = { s with inFlight := s.inFlight ++ [.quiesceAck .sfe true] } := by
  unfold State.sfeSettled
  rw [if_pos hq, State.ack_eq, if_neg hw]

/-- R125: the end of a readout or a flush under the mark. -/
theorem State.readoutStopped (hw : s.liu.resetWork ≠ none) (hq : s.sfe.quiesce = true) (hh : s.sfe.held = none) :
    ((s.endReadout).chooseNext).sfeSettled = { s with
      sfe := { s.sfe with readout := none, state := if s.sfe.mark then .held else .idle }
      fst := { s.fst with port := s.fst.port.withoutSfe }
      inFlight := s.inFlight ++ [.quiesceAck .sfe true] } := by
  rw [State.endReadout_eq, State.chooseNext_unheld (by exact hh)]
  exact State.sfeSettled_acks (by exact hw) (by exact hq)

theorem State.refuseBusy_eq (s : State) (c : ExposureClient) :
    s.refuseBusy c = { s with prc := (s.refuseBusy c).prc, cru := (s.refuseBusy c).cru }
    ∧ (s.refuseBusy c).prc = { s.prc with expReq := (s.refuseBusy c).prc.expReq }
    ∧ (s.refuseBusy c).cru = { s.cru with frameReq := (s.refuseBusy c).cru.frameReq } := by
  unfold State.refuseBusy
  split
  · exact ⟨rfl, rfl, rfl⟩
  · cases c with
    | prc r =>
      dsimp only
      split
      · exact ⟨rfl, rfl, rfl⟩
      · exact ⟨rfl, rfl, rfl⟩
    | cru => exact ⟨rfl, rfl, rfl⟩
    | bpl r => exact ⟨rfl, rfl, rfl⟩

/-- R125: a readout or a flush whose timer expires under the mark. -/
theorem State.readoutExpired_stopped {q : Readout} (hw : s.liu.resetWork ≠ none) (hq : s.sfe.quiesce = true)
    (hh : s.sfe.held = none) (hr : s.sfe.readout = some q) : ∃ u, s.readoutExpired = u ∧ s.noticesOnly u ∧ u = { s with
      liu := u.liu
      sfe := { s.sfe with readout := none, state := .fault, cause := some .readout }
      fst := { s.fst with port := s.fst.port.withoutSfe }
      inFlight := s.inFlight ++ [.quiesceAck .sfe true] } := by
  refine ⟨_, rfl, ?_⟩
  have heq : s.readoutExpired = { s with
      sfe := { s.sfe with readout := none, state := .fault, cause := some .readout }
      fst := { s.fst with port := s.fst.port.withoutSfe }
      inFlight := s.inFlight ++ [Instr.quiesceAck .sfe true] }.notice
        (.sensorState .fault (some .readout) s.sfe.temp s.sfe.mark) := by
    unfold State.readoutExpired
    rw [hr]
    dsimp only
    rw [if_pos hq, State.endReadout_eq]
    unfold State.sensorFault State.sensorNotice
    rw [State.refuseHeld_unheld (by exact hh), State.sfeSettled_acks (by exact State.notice_resetting (by exact hw)) (by exact hq)]
    rfl
  rw [heq]
  exact ⟨.of_raise rfl, rfl⟩

/-! ## TRS -/

theorem State.loadLegDone_loading {c : TrsClient} {p : Nat} (hs : s.trs.state = .loading) (hwk : s.trs.work = some (.load c p))
    (hi : s.trs.interlock = .none) : s.loadLegDone true = State.trsSettled { s with
      trs := { s.trs with
        state := .atRest, stage := .carrier p, pos := .transfer, work := none, motionTimer := none
        magazine := s.trs.magazine.setIfInBounds p .out }
      inFlight := s.inFlight ++ [c.report .loadComplete .flatLoadComplete] } := by
  unfold State.loadLegDone
  rw [hs, hwk]
  dsimp only
  rw [if_pos rfl, State.reportLoad_eq, State.tryInterlock_unasked (Interlock.waits_none (by exact hi))]
  rfl

theorem State.settleDone_settled (c : TrsClient) (hi : s.trs.interlock = .none) : s.settleDone c = State.trsSettled { s with
    trs := { s.trs with state := .atRest, motionTimer := none, settleTimer := none, work := none }
    inFlight := s.inFlight ++ [c.report .settleCompletion .flatSettleComplete] } := by
  unfold State.settleDone
  dsimp only
  rw [State.reportSettle_eq, State.tryInterlock_unasked (Interlock.waits_none (by exact hi))]
  rfl

theorem State.unloadLegDone_settled {c : TrsClient} {p : Nat} (hs : s.trs.state = .unloading)
    (hwk : s.trs.work = some (.unload c)) (hst : s.trs.stage = .carrier p) (hi : s.trs.interlock = .none) :
    s.unloadLegDone = State.trsSettled ({ s with
      trs := { s.trs with
        state := .empty, stage := .none, pos := .transfer, motionTimer := none, work := none
        magazine := s.trs.magazine.setIfInBounds p .present }
      inFlight := s.inFlight ++ [c.report .unloadComplete .flatUnloadComplete] }.notice
        (.transportState .empty s.trs.homed .none none)) := by
  have hback : s.trs.returnCarrier = { s.trs with magazine := s.trs.magazine.setIfInBounds p .present, stage := .none } := by
    unfold Trs.returnCarrier
    rw [hst]
    rfl
  unfold State.unloadLegDone
  rw [hs, hwk]
  dsimp only
  rw [hback, State.reportUnload_eq]
  unfold State.endInterlock
  dsimp only [Trs.endLeg]
  rw [hi]
  rfl

/-! ## A motion that times out -/

theorem State.applyLight_notices (s : State) (d : Nat) : s.noticesOnly (s.applyLight d) := by
  unfold State.applyLight
  cases s.blu.state <;> dsimp only
  case standby => exact (State.noticesOnly.of_liu rfl).notice _
  case fault => exact .of_liu rfl
  all_goals (repeat' split) <;> exact .of_liu rfl

theorem State.tryStandby_notices (s : State) : s.noticesOnly s.tryStandby := s.tryStandby_stopping.notices

theorem State.endGrant_notices (s : State) (a : LampAsk) : s.noticesOnly (s.endGrant a) := by
  unfold State.endGrant
  cases a.cond with
  | dark => exact (State.noticesOnly.of_liu rfl).trans (State.tryStandby_notices _)
  | settled d =>
    dsimp only
    unfold State.afterGrant
    refine State.noticesOnly.trans ?_ (State.tryStandby_notices _)
    dsimp only
    cases s.blu.pendingDrive with
    | none =>
      dsimp only
      split
      · exact .of_liu rfl
      · exact .of_liu rfl
    | some d =>
      dsimp only
      split
      · exact .of_liu rfl
      · exact (State.noticesOnly.of_liu rfl).trans (State.applyLight_notices _ d)

theorem State.releaseLamp_notices (s : State) (n : Nat) : s.noticesOnly (s.releaseLamp n) := by
  have hlamp : s.noticesOnly (s.lampRelease n).1 := by
    unfold State.lampRelease
    cases s.blu.grant with
    | none => exact .of_liu rfl
    | some a =>
      have hend := State.endGrant_notices { s with freeCount := s.freeCount + 1 } a
      dsimp only
      cases a.cond with
      | dark => exact hend
      | settled d => exact hend
  exact hlamp

/-- From `s` to `t` LIU has raised notices at most, and TRS is as it was. -/
def State.spares (s t : State) : Prop := s.noticesOnly t ∧ t.trs = s.trs

theorem State.spares.trans (h1 : s.spares t) (h2 : t.spares u) : s.spares u := ⟨h1.1.trans h2.1, h2.2.trans h1.2⟩

theorem State.releaseLamp_spares (s : State) (n : Nat) : s.spares (s.releaseLamp n) := ⟨s.releaseLamp_notices n, by simp⟩

/-- The interlock given back a second time. -/
theorem State.interlockRelease_none (hi : s.trs.interlock = .none) : s.interlockRelease = s := by
  simp [State.interlockRelease, hi, Interlock.held]

theorem State.cutShort_spares (hi : s.trs.interlock = .none) (e : Exposing) : s.spares (s.cutShort e) := by
  have hset : (s.releaseAll e.req).spares (s.cutShort e) := ⟨.of_liu rfl, rfl⟩
  refine State.spares.trans ?_ hset
  unfold State.releaseAll
  rw [State.interlockRelease_none hi, ite_self]
  exact s.releaseLamp_spares 0

theorem State.endHeld_spares (hi : s.trs.interlock = .none) : s.spares s.endHeld := by
  have hforget : ∀ v : State, v.spares v.forgetHeld := fun v => ⟨.of_liu rfl, rfl⟩
  have hlamp := s.releaseLamp_spares 0
  have hasks : s.spares s.withdrawAsks := by
    unfold State.withdrawAsks
    cases s.sfe.phase with
    | goAhead => exact ⟨.of_liu rfl, rfl⟩
    | lamp => exact hlamp
    | stage =>
      refine hlamp.trans ?_
      have hnone : (s.releaseLamp 0).trs.interlock = .none := by rw [hlamp.2]; exact hi
      have hself : (s.releaseLamp 0).interlockWithdraw = s.releaseLamp 0 :=
        congrArg (fun i => { s.releaseLamp 0 with trs := { (s.releaseLamp 0).trs with interlock := i } })
          ((congrArg Interlock.withoutAsk hnone).trans hnone.symm)
      show (s.releaseLamp 0).spares (((s.releaseLamp 0).interlockWithdraw.interlockRelease).recall ofStart)
      rw [hself, State.interlockRelease_none hnone]
      exact ⟨.of_liu rfl, rfl⟩
  unfold State.endHeld
  split
  · have hboth := hasks.trans (hforget s.withdrawAsks)
    rw [State.chooseNext_unheld rfl]
    exact ⟨hboth.1, hboth.2⟩
  · exact hforget s

theorem State.calEnd_notices (s : State) (r : CalResult) : s.noticesOnly (s.calEnd r) := by
  unfold State.calEnd
  split
  · next k _ =>
    have hnotice : s.noticesOnly (s.notice (s.cru.doneNotice k r)) := (State.noticesOnly.of_liu rfl).notice _
    refine hnotice.trans ?_
    dsimp only
    unfold State.startIdle
    split
    · exact .of_liu rfl
    · exact .of_liu rfl
  · exact .of_liu rfl

theorem State.reportCut_spares (s : State) (c : ExposureClient) : s.spares (s.reportCut c) := by
  refine ⟨?_, by simp⟩
  unfold State.reportCut
  cases c with
  | prc r =>
    dsimp only
    split
    · exact .of_liu rfl
    · exact .of_liu rfl
  | bpl r => exact .of_liu rfl
  | cru =>
    show s.noticesOnly s.calFrameCut
    unfold State.calFrameCut
    dsimp only
    split
    · unfold State.calGiveUp
      dsimp only
      split
      · exact (State.noticesOnly.of_liu rfl).trans (State.calEnd_notices _ _)
      · exact .of_liu rfl
      · exact .of_liu rfl
    · exact .of_liu rfl

theorem State.stageFaulted_spares (hi : s.trs.interlock = .none) : s.spares s.stageFaulted := by
  have hcut : ∀ e, s.spares (s.faultCut e) := fun e => by
    have hslot : ∃ v : State, s.spares v ∧ s.faultCut e = (v.cutShort e).reportCut e.req.client := by
      unfold State.faultCut
      cases e.req.target with
      | slot n r => exact ⟨_, ⟨.of_liu (by simp), by simp⟩, rfl⟩
      | calwork n => exact ⟨s, ⟨.of_liu rfl, rfl⟩, rfl⟩
      | histogram => exact ⟨s, ⟨.of_liu rfl, rfl⟩, rfl⟩
    obtain ⟨v, hv, heq⟩ := hslot
    rw [heq]
    exact (hv.trans (State.cutShort_spares (by rw [hv.2]; exact hi) e)).trans (State.reportCut_spares _ _)
  unfold State.stageFaulted
  split
  · split
    · exact hcut _
    · exact ⟨.of_liu rfl, rfl⟩
  · split
    · exact (State.endHeld_spares hi).trans (State.reportCut_spares _ _)
    · exact ⟨.of_liu rfl, rfl⟩
  · exact ⟨.of_liu rfl, rfl⟩

theorem State.endInterlock_spares (s : State) : s.noticesOnly s.endInterlock
    ∧ s.endInterlock.trs = { s.trs with interlock := .none } := by
  unfold State.endInterlock
  split
  · next h => exact ⟨.of_liu rfl, by rw [← h]⟩
  · exact ⟨.of_liu rfl, rfl⟩
  all_goals
    dsimp only
    split
    · have hspares := State.stageFaulted_spares (s := { s with trs := { s.trs with interlock := .none } }) rfl
      exact ⟨hspares.1, hspares.2⟩
    · exact ⟨.of_liu rfl, rfl⟩

/-- R143, R147: a fault is taken under the mark, and acknowledged. -/
theorem State.trsFault_stopped (hw : s.liu.resetWork ≠ none) (hq : s.trs.quiesce = true) (cause : TrsFault) (seen : Bool) :
    (s.trsFault cause seen).trs.state = .fault cause ∧ .quiesceAck .trs true ∈ (s.trsFault cause seen).inFlight := by
  obtain ⟨v, hv⟩ : ∃ v : State, v = { s with trs := { s.trs.settleRecord cause seen with
    state := .fault cause, pos := .unknown, motionTimer := none, settleTimer := none, work := none
    pendingMotion := none, heldLoad := none } } := ⟨_, rfl⟩
  obtain ⟨hnotice, htrs⟩ := v.endInterlock_spares
  obtain ⟨w, hwn, hwt, heq⟩ : ∃ w : State, v.noticesOnly w ∧ w.trs = v.endInterlock.trs
      ∧ s.trsFault cause seen = if w.trs.quiesce then w.ack .trs else w := by
    subst hv
    refine ⟨_, ?_, ?_, rfl⟩
    · refine (hnotice.trans ?_).notice _
      split
      · split
        · exact .of_liu rfl
        · exact .of_liu rfl
      · split
        · exact .of_liu rfl
        · exact .of_liu rfl
    · split
      · split
        · rfl
        · rfl
      · split
        · rfl
        · rfl
  have hquiet : w.trs.quiesce = true := by
    rw [hwt, htrs, hv, Trs.settleRecord_kept]
    exact hq
  have hstate : w.trs.state = .fault cause := by rw [hwt, htrs, hv]
  have hwork : w.liu.resetWork ≠ none := by
    rw [hwn.resetWork, hv]
    exact hw
  rw [heq, if_pos hquiet]
  exact ⟨by simpa using hstate, State.ack_sent hwork .trs⟩

theorem State.trsRefuse_stopped (hq : s.trs.quiesce = true) (c : TrsClient) :
    (∀ p, s.takeLoad c p = s.trsRefuse c) ∧ (∀ g, s.takeMove c g = s.trsRefuse c)
    ∧ ∀ seen, s.takeUnload c seen = s.trsRefuse c :=
  ⟨fun _ => if_pos hq, fun _ => if_pos hq, fun _ => if_pos hq⟩

/-! ## RESET -/

theorem exec_reset {c : Instr} {h : Hdr} {kind : ResetKind}
    (hc : (c = .resetSoft h ∧ kind = .soft) ∨ (c = .resetFull h ∧ kind = .full)) (ht : s.takes h) :
    exec c s = .next (s.startReset kind h.tag) := by
  obtain ⟨hatt, hnone, hfits⟩ := ht
  have hstart : s.resetCommand h kind = s.startReset kind h.tag := by
    unfold State.resetCommand
    rw [if_neg (by rw [hatt]; nofun), hnone]
    exact if_pos hfits
  rcases hc with ⟨rfl, rfl⟩ | ⟨rfl, rfl⟩
  · exact congrArg Host.Outcome.next hstart
  · exact congrArg Host.Outcome.next hstart

theorem State.homeScanDone_settled {present : BitVec 20} (hs : s.trs.state = .homing .scan) (hst : s.trs.stage = .none)
    (hl : s.trs.heldLoad = none) : s.homeScanDone present = State.trsSettled ({ s with
      trs := { s.trs with
        state := .empty, homed := true, motionTimer := none
        magazine := (s.trs.scanEntries (allPositions present)).magazine }
      inFlight := s.inFlight ++ [Instr.trsEmptyReport] }.notice
        (.transportState .empty true .none (some (s.trs.scanEntries (allPositions present)).magazine))) := by
  obtain ⟨m, hm⟩ : ∃ m, m = (s.trs.scanEntries (allPositions present)).magazine := ⟨_, rfl⟩
  unfold State.homeScanDone
  dsimp only
  rw [if_pos hs, Trs.scanEntries_kept, ← hm]
  dsimp only
  rw [hst, hl]
  rfl

/-- R143: a motion whose timer expires is a fault, the scan leg of HOME with the entries it has seen. -/
theorem State.motionExpired_faults (hm : s.trs.motionTimer ≠ none) (seen : Bool) (l : List (Nat × Bool)) :
    ∃ v : State, v.liu = s.liu ∧ v.trs.quiesce = s.trs.quiesce ∧ s.motionExpired seen l = v.trsFault .timeout seen := by
  obtain ⟨n, hn⟩ := Option.ne_none_iff_exists'.1 hm
  unfold State.motionExpired
  rw [hn]
  dsimp only
  split
  · exact ⟨{ s with trs := s.trs.scanEntries l }, rfl, (congrArg Trs.quiesce (s.trs.scanEntries_kept l) :), rfl⟩
  · exact ⟨s, rfl, rfl, rfl⟩

theorem State.bmeDiscard_acks (hw : s.liu.resetWork ≠ none) : s.bmeDiscard = { s with
    bme := { s.bme with state := .idle, merge := none, cal := none }
    inFlight := s.inFlight ++ [.quiesceAck .bme true] } := by
  unfold State.bmeDiscard
  rw [State.ack_eq, if_neg (by exact hw)]

theorem State.mergingBandDone_stopped {w : MergeWork} (hq : s.bme.quiesce = true) :
    s.mergingBandDone w = State.bmeDiscard { s with fst := s.fst.afterBand w } := by
  unfold State.mergingBandDone
  dsimp only
  rw [State.mergeBandDone_fst]
  exact if_pos hq

theorem State.abandoningBandDone_stopped {w : MergeWork} (hq : s.bme.quiesce = true) :
    s.abandoningBandDone w = State.bmeDiscard { s with fst := s.fst.afterBand w } := by
  unfold State.abandoningBandDone
  dsimp only
  rw [State.mergeBandDone_fst]
  exact if_pos hq

/-- R66: under its mark BME takes up no tile. -/
theorem State.takeUp_quiet (hq : s.bme.quiesce = true) : s.takeUp = s := by
  unfold State.takeUp
  split
  · rfl
  · exact if_neg fun h => by
      rw [hq] at h
      exact nomatch h.2

/-- Settles O58. -/
theorem resetHandshake : Obligations.ResetHandshake := by
  intro s
  refine ⟨fun h c kind hc ht => ?_, fun b seen hw => ⟨?_, ?_⟩, fun b w seen hw hb hrest => ?_, fun hw hq => ⟨fun r => ?_, fun q hh hr => ?_⟩,
    fun hw hq => ⟨fun c k hc => ?_, fun c k hc => ?_, fun c p hs hwk hi => ?_, fun c g hs hwk => ?_, fun c g hs hwk hi => ?_,
      fun c p hs hwk hi hst => ?_, fun p hs hst => ?_, fun hs => ?_, fun present hs hst hheld => ?_, fun hm seen l => ?_⟩,
    fun hw hq => ⟨?_, fun r hr => ?_, fun w d hs hm hd hslot hmem hb hread => ?_, fun w hs hwk => ?_⟩,
    fun hw => ⟨fun r w hwk hpl => ?_, fun e rest h hq hqueue htr hdrop hidx => ?_⟩⟩
  · obtain ⟨v, hv⟩ : ∃ v : State, v = { s with liu := { s.liu with
      resetWork := some { kind := kind, tag := h.tag, waiting := quiescedBlocks } } } := ⟨_, rfl⟩
    obtain ⟨t, htq⟩ : ∃ t, t = v.quiesceAll := ⟨_, rfl⟩
    obtain ⟨u, hu⟩ : ∃ u, v.quiesced u t := by
      rw [htq]
      exact State.quiesceAll_spec (by rw [hv]; nofun)
    obtain ⟨hsfeq, hwaits, hexposing, hreading⟩ := hu.sfe_cases
    obtain ⟨hrun, hjobs, hadm⟩ := hu.prc
    obtain ⟨hblu, hbme, hcru, hsou⟩ := hu.marks
    obtain ⟨hprcAck, hfstAck, hbluAck, hcruAck⟩ := hu.acks
    have hfst := hu.fst
    have htrs := hu.trs
    have hwork := hu.resetWork
    have htrsAck := hu.trsAck
    have hbmeAck := hu.bmeAck
    have hbplAck := hu.bplAck
    have hsouAck := hu.souAck
    have hexec : exec c s = .next t := by rw [htq, hv]; exact exec_reset hc ht
    rw [hv] at hwaits hexposing hreading hjobs hfst htrs hwork htrsAck hbmeAck hbplAck hsouAck
    refine ⟨t, _, hexec, hwork, rfl, rfl, fun b => ?_, rfl, hrun, hjobs, hadm, by rw [hfst], by rw [hfst], hsfeq, hblu,
      congrArg (fun p => p.1) htrs, congrArg (fun p => p.2.2.2) htrs, hbme, hcru, hsou, by rw [hfst], by rw [hfst], hprcAck, hfstAck,
      hbluAck, hcruAck, hwaits, hexposing, hreading, congrArg (fun p => p.2.1) htrs, congrArg (fun p => p.2.2.1) htrs,
      fun hs => htrsAck ?_, hbmeAck, hbplAck, hsouAck⟩
    · cases b <;> simp [quiescedBlocks]
    · show s.trs.state.occupied = false
      rcases hs with hs | hs | hs | ⟨f, hs⟩ <;> rw [hs] <;> rfl
  · refine congrArg Host.Outcome.next ?_
    show (s.deliver (.quiesceAck b seen)).acknowledged b seen = _
    unfold State.acknowledged
    rw [show (s.deliver (.quiesceAck b seen)).liu.resetWork = none from hw]
    rfl
  · refine congrArg Host.Outcome.next ?_
    show s.resetExpired seen = s
    unfold State.resetExpired
    rw [hw]
  · refine congrArg Host.Outcome.next ?_
    show (s.deliver (.quiesceAck b seen)).acknowledged b seen = _
    unfold State.acknowledged
    rw [show (s.deliver (.quiesceAck b seen)).liu.resetWork = some w from hw]
    refine (if_pos hb).trans (if_neg ?_)
    obtain ⟨a, ha, hne⟩ := hrest
    exact List.ne_nil_of_mem (List.mem_filter.2 ⟨ha, by simpa using hne⟩)
  · have hrefuse : (s.deliver (.exposureRequest r)).exposureRequested r = (s.deliver (.exposureRequest r)).refuseBusy r.client :=
      if_pos (by show (s.sfe.quiesce || _) = true; rw [hq]; rfl)
    exact ⟨_, congrArg Host.Outcome.next hrefuse, State.refuseBusy_eq _ r.client⟩
  · intro stopped
    refine ⟨fun k hk => congrArg Host.Outcome.next ?_, fun e m temp frame hk => congrArg Host.Outcome.next ?_, ?_⟩
    · refine Eq.trans ?_ (State.readoutStopped hw hq hh)
      show s.flushDone = _
      unfold State.flushDone
      rw [hr]
      dsimp only
      rw [hk]
    · have hover : s.readoutDone frame = (((s.clearHistogram e).endReadout).chooseNext).sfeSettled := by
        unfold State.readoutDone
        rw [hr]
        dsimp only
        rw [hk]
        dsimp only
        rw [if_pos (by rw [hq, Bool.or_true])]
      refine hover.trans ?_
      rw [State.clearHistogram_eq]
      exact State.readoutStopped (by exact hw) (by exact hq) (by exact hh)
    · obtain ⟨u, hu, hnotice, heq⟩ := State.readoutExpired_stopped hw hq hh hr
      exact ⟨u, congrArg Host.Outcome.next hu, hnotice, heq⟩
  · obtain ⟨hload, hmove, hunload⟩ := State.trsRefuse_stopped (s := s.deliver k) hq .prc
    rcases hc with ⟨rfl, ⟨p, rfl⟩ | ⟨g, rfl⟩⟩ | ⟨rfl, seen, rfl⟩
    · exact congrArg Host.Outcome.next (hload p)
    · exact congrArg Host.Outcome.next (hmove g)
    · exact congrArg Host.Outcome.next (hunload seen)
  · obtain ⟨hload, hmove, hunload⟩ := State.trsRefuse_stopped (s := s.deliver k) hq .cru
    rcases hc with ⟨rfl, ⟨p, rfl⟩ | ⟨g, rfl⟩⟩ | ⟨rfl, seen, rfl⟩
    · exact congrArg Host.Outcome.next (hload p)
    · exact congrArg Host.Outcome.next (hmove g)
    · exact congrArg Host.Outcome.next (hunload seen)
  · refine congrArg Host.Outcome.next ((State.loadLegDone_loading hs hwk hi).trans
      ((State.trsSettled_acks (by exact hw) (by exact hq)).trans ?_))
    cases c <;> rfl
  · intro pos
    have hreach : StageTarget.reached g = pos := by
      cases g <;> rfl
    have hleg := State.moveLegDone_moving hs hwk
    rw [hreach] at hleg
    refine ⟨fun hms => congrArg Host.Outcome.next (hleg.trans (if_neg hms)), fun hms hi => congrArg Host.Outcome.next
      (hleg.trans ((if_pos hms).trans ((State.settleDone_settled c (by exact hi)).trans
        ((State.trsSettled_acks (by exact hw) (by exact hq)).trans ?_))))⟩
    cases c <;> rfl
  · have hexpired : s.settleExpired = s.settleDone c := by
      unfold State.settleExpired
      rw [hs, hwk]
    refine congrArg Host.Outcome.next (hexpired.trans ((State.settleDone_settled c hi).trans
      ((State.trsSettled_acks (by exact hw) (by exact hq)).trans ?_)))
    cases c <;> rfl
  · refine ⟨_, congrArg Host.Outcome.next ((State.unloadLegDone_settled hs hwk hst hi).trans
      (State.trsSettled_acks (State.notice_resetting (by exact hw)) (by exact hq))), .of_raise rfl, ?_⟩
    cases c <;> rfl
  · refine congrArg Host.Outcome.next ?_
    show s.homeUnloadDone = _
    unfold State.homeUnloadDone State.stopHome Trs.returnCarrier
    rw [if_pos hs, hst]
    dsimp only
    rw [if_pos (by exact hq), State.ack_eq, if_neg (by exact hw)]
    rfl
  · refine congrArg Host.Outcome.next ?_
    show s.homeAxisDone = _
    unfold State.homeAxisDone State.stopHome
    rw [if_pos hs]
    dsimp only
    rw [if_pos (by exact hq), State.ack_eq, if_neg (by exact hw)]
  · refine ⟨(s.trs.scanEntries (allPositions present)).magazine, fun p hp => Trs.scanEntries_get hp ?_ (mem_allPositions.2 ⟨hp, rfl⟩),
      congrArg Host.Outcome.next ?_⟩
    · intro b hb
      exact (mem_allPositions.1 hb).2.symm
    · refine (State.homeScanDone_settled hs hst hheld).trans
        ((State.trsSettled_acks (State.notice_resetting (by exact hw)) (by exact hq)).trans ?_)
      simp [State.notice]
  · obtain ⟨v, hwork, hquiet, hexp⟩ := State.motionExpired_faults hm seen l
    have hfault := State.trsFault_stopped (s := v) (by rw [hwork]; exact hw) (hquiet.trans hq) .timeout seen
    rw [← hexp] at hfault
    exact ⟨_, rfl, hfault⟩
  · exact congrArg Host.Outcome.next (State.takeUp_quiet (s := s.deliver .mergeTakeUp) hq)
  · refine congrArg Host.Outcome.next ((if_pos (by exact hr)).trans (if_pos ?_))
    exact hq
  · have hband : exec .bandCompletion s = .next (State.bmeDiscard { s with fst := s.fst.afterBand w }) := by
      rcases hs with hs | hs
      · rw [State.bandDone_merging hs hm, State.mergingBandDone_stopped hq]
      · rw [State.bandDone_abandoning hs hm, State.abandoningBandDone_stopped hq]
    refine ⟨s.fst.afterBand w, hband.trans (congrArg Host.Outcome.next (State.bmeDiscard_acks (by exact hw))), s.fst.afterBand_eq w,
      fun i row col hcol => Fst.pixel_afterBand hmem hb hread (fun e he => ?_) i row col hcol⟩
    rw [hd] at he
    cases he
    exact hslot
  · refine congrArg Host.Outcome.next ((State.bandDone_calBusy hs hwk).trans (Eq.trans ?_
      (State.bmeDiscard_acks (s := { s with fst := (s.fst.calBand s.cru.dark w).1 }) hw)))
    exact if_pos hq
  · refine congrArg Host.Outcome.next ?_
    show (s.deliver (.planWithdraw r)).planWithdrawn r = _
    unfold State.planWithdrawn
    rw [show (s.deliver (.planWithdraw r)).bpl.work = some w from hwk]
    refine (if_pos hpl).trans ?_
    unfold State.bplIdle
    rw [State.ack_eq, if_neg (by exact hw)]
    simp [State.emit, State.deliver, Instr.asMessage]
  · refine congrArg Host.Outcome.next ?_
    have htaken : s.stripeTaken = (s.stripeOver h e).ack .sou := by
      have hquiet := (s.stripeOver_credits h e).2.trans hq
      unfold State.stripeTaken
      rw [htr, hqueue]
      exact if_pos hquiet
    refine htaken.trans ?_
    rw [State.stripeOver_next hdrop hidx, State.ack_eq, if_neg (by exact hw), Fst.readStripe_eq]

end Sys2Proof.Machine
end

section
/-! PROOFS. The application of a reset (R160, R161), power-on, attach and detach (R42, R159). -/

namespace Sys2Proof.Machine

variable {s t u : State}

/-! ## TRS at a soft reset -/

/-- R160: what TRS keeps where it has acknowledged. -/
theorem Trs.softened_keeps (t : Trs) : t.softened.magazine = t.magazine ∧ t.softened.stage = t.stage ∧ t.softened.pos = t.pos
    ∧ t.softened.interlock = .none ∧ t.softened.quiesce = false := by
  unfold Trs.softened
  dsimp only
  split
  all_goals exact ⟨rfl, rfl, rfl, rfl, rfl⟩

theorem Trs.softened_settled {t : Trs}
    (h : t.state = .empty ∨ t.state = .atRest ∨ t.state = .unhomed ∨ ∃ f, t.state = .fault f) :
    t.softened.state = t.state ∧ t.softened.homed = t.homed := by
  unfold Trs.softened
  rcases h with h | h | h | ⟨f, h⟩
  · simp [h]
  · simp [h]
  · simp [h]
  · simp [h]

theorem Trs.sensedStage_unseen (t : Trs) : t.sensedStage false = .none := rfl

theorem Trs.forced_stage (t : Trs) (seen : Bool) : (t.forced seen).stage = t.sensedStage seen := by
  unfold Trs.forced
  dsimp only
  split
  all_goals rfl

theorem Trs.forced_keeps (t : Trs) (seen : Bool) :
    (t.forced seen).state = .unhomed ∧ (t.forced seen).homed = false ∧ (t.forced seen).pos = .unknown := by
  unfold Trs.forced
  dsimp only
  split
  all_goals exact ⟨rfl, rfl, rfl⟩

/-- R160: of a TRS that was forced the entry of the carrier on the stage alone is known. -/
theorem Trs.forced_magazine (t : Trs) (seen : Bool) {p : Nat} (hp : p < 20) :
    (t.forced seen).magazine[p]? = some (if (t.forced seen).stage = .carrier p then .out else .unknown) := by
  rw [Trs.forced_stage]
  unfold Trs.forced
  dsimp only
  split
  · next q h =>
    rw [h]
    by_cases hq : q = p
    · subst hq
      simp [Trs.setEntry, Trs.reset, hp]
    · simp [Trs.setEntry, Trs.reset, hp, hq]
  · next h =>
    rw [h]
    simp [Trs.reset, hp]
  · next h =>
    rw [h]
    simp [Trs.reset, hp]

/-- R160: a soft reset keeps the references with their slots. -/
theorem Fst.slot_applied_ref {f : Fst} {i : Nat} {n : RefName} (h : f.slot i = some (.ref n)) :
    (f.applied .soft).slot i = some (.ref n) := by
  unfold Fst.slot Fst.applied
  rw [Vector.getElem?_map, show f.slots[i]? = some _ from h]
  rfl

theorem Fst.slot_applied_free {f : Fst} {i : Nat} {x : SlotState} (h : f.slot i = some x) (hx : ∀ n, x ≠ .ref n) :
    (f.applied .soft).slot i = some .free := by
  unfold Fst.slot Fst.applied
  rw [Vector.getElem?_map, show f.slots[i]? = some _ from h]
  cases x with
  | ref n => exact absurd rfl (hx n)
  | _ => rfl

theorem exec_resetApplied {c : Instr} {w : ResetWork} {forced : List Block} {seen : Bool} (hw : s.liu.resetWork = some w)
    (hc : (∃ b, c = .quiesceAck b seen ∧ w.waiting = [b] ∧ forced = []) ∨ (c = .resetTimeout seen ∧ forced = w.waiting)) :
    exec c s = .next (s.applyReset w forced seen) := by
  rcases hc with ⟨b, rfl, hwait, rfl⟩ | ⟨rfl, rfl⟩
  · refine congrArg Host.Outcome.next ?_
    show (s.deliver (.quiesceAck b seen)).acknowledged b seen = _
    unfold State.acknowledged
    rw [show (s.deliver (.quiesceAck b seen)).liu.resetWork = some w from hw]
    dsimp only
    rw [hwait, if_pos (List.mem_singleton_self b), if_pos (by simp)]
    rfl
  · refine congrArg Host.Outcome.next ?_
    show s.resetExpired seen = _
    unfold State.resetExpired
    rw [hw]

/-- Settles O59. -/
theorem resetApplied : Obligations.ResetApplied := by
  intro s c w forced seen hw hc lamp
  have hexec := exec_resetApplied hw hc
  obtain ⟨kind, tag, waiting, busy, lost⟩ := w
  refine ⟨_, hexec, rfl, rfl, rfl, rfl, rfl, rfl, rfl, rfl, rfl, rfl, rfl, rfl, rfl, rfl, rfl, rfl, rfl, rfl, ?_, ?_, ?_, ?_, ?_,
    fun hfull => ?_, fun hsoft => ?_⟩
  · cases kind <;> rfl
  · cases kind <;> rfl
  · cases kind <;> rfl
  · cases kind <;> rfl
  · cases kind <;> cases lost <;> simp [State.applyReset, Liu.applied, ResetWork.replies, ResetWork.reply]
  · cases hfull
    refine ⟨rfl, rfl, rfl, rfl, rfl, rfl, rfl, rfl, rfl, fun i hi => ?_⟩
    simp [State.applyReset, Fst.applied, Fst.slot, hi]
  · cases hsoft
    refine ⟨rfl, rfl, rfl, rfl, rfl, rfl, rfl, rfl, fun i x hx => ?_, fun hnot => ?_, fun hin => ?_⟩
    · cases x with
      | ref n => exact Fst.slot_applied_ref hx
      | _ => exact Fst.slot_applied_free hx nofun
    · have htrs : (s.applyReset ⟨.soft, tag, waiting, busy, lost⟩ forced seen).trs = s.trs.softened := by
        show s.trs.applied .soft (decide (Block.trs ∈ forced)) seen = _
        rw [decide_eq_false hnot]
        rfl
      rw [htrs]
      obtain ⟨hmag, hstage, hpos, hlock, hquiet⟩ := s.trs.softened_keeps
      refine ⟨hmag, hstage, hpos, hlock, hquiet, fun hs => Trs.softened_settled hs, fun hs => ?_, fun hs => ?_, fun hs => ?_⟩
      · simp [Trs.softened, hs]
      · simp [Trs.softened, hs]
      · simp [Trs.softened, hs]
    · have htrs : (s.applyReset ⟨.soft, tag, waiting, busy, lost⟩ forced seen).trs = s.trs.forced seen := by
        show s.trs.applied .soft (decide (Block.trs ∈ forced)) seen = _
        rw [decide_eq_true hin]
        rfl
      rw [htrs]
      obtain ⟨hstate, hhomed, hpos⟩ := s.trs.forced_keeps seen
      refine ⟨hstate, hhomed, hpos, fun hseen => ?_, fun hseen => ?_, fun p hp => s.trs.forced_magazine seen hp⟩
      · rw [Trs.forced_stage, hseen]
        unfold Trs.sensedStage
        rw [if_pos rfl]
        cases s.trs.stage with
        | carrier p => rfl
        | unknownCarrier => rfl
        | none =>
          cases s.trs.work with
          | none => rfl
          | some x => cases x <;> rfl
      · rw [Trs.forced_stage, hseen]
        rfl

end Sys2Proof.Machine
end

section
/-! PROOFS. Power-on, attach and detach (R42, R156, R159). -/

namespace Sys2Proof.Machine

variable {s v : State}

/-! ## Notices queued where there is room -/

/-- R155: with nothing dropped and room in the queue an enabled notice is queued. -/
theorem State.notice_of_room (n : Notice) (ho : s.liu.overflow = 0) (hlen : s.liu.notices.length < noticeCapacity) :
    s.notice n = { s with liu := { s.liu with
      notices := s.liu.notices ++ [n].filter fun n => n.enabled s.liu.params.noticeEnable } } := by
  unfold State.notice Liu.raise
  cases hn : n.enabled s.liu.params.noticeEnable with
  | false => simp [hn]
  | true => simp [hn, ho, hlen]

/-! ## The hold of the run at a detach -/

/-- R31, R42: nothing keeps the run from its hold point. -/
def Prc.settled (p : Prc) : Bool :=
  p.trsReq.isNone && p.unloadNext.isNone && p.planReq.isNone && p.expReq.isNone && (p.firstTile Tile.unexposed).isNone

theorem Prc.settled_eq (p : Prc) : p.settled = !p.outstanding := by
  simp [Prc.settled, Prc.outstanding]

/-- R42: the run state that a detach leaves. -/
def Prc.linkRun (p : Prc) : RunState :=
  match p.run with
  | .running => if p.settled then .held .link else .holding
  | .idle => .held .link
  | .held c => if c = .transport ∨ c = .sensor ∨ c = .lamp then .held c else .held .link
  | .holding => .holding
  | .quiescing => .quiescing

def Prc.runNotice (p : Prc) (r : RunState) : Notice := .runState r p.active p.queue.head?

/-- R42: the notices of a detach, before those not enabled are left out. -/
def Prc.linkTold (p : Prc) : List Notice :=
  match p.run with
  | .running => p.runNotice .holding :: if p.settled then [p.runNotice (.held .link)] else []
  | .idle => [p.runNotice (.held .link)]
  | .held c => if c = .transport ∨ c = .sensor ∨ c = .lamp ∨ c = .link then [] else [p.runNotice (.held .link)]
  | .holding | .quiescing => []

/-- R42: what a detach makes of the run. -/
def State.linkHeld (s : State) : State :=
  s.withRecords
    { s.prc with
      run := s.prc.linkRun
      holdByLink := s.prc.holdByLink || decide (s.prc.run = .running) || decide (s.prc.run = .holding) }
    { s.liu with notices := s.prc.linkTold.filter fun n => n.enabled s.liu.params.noticeEnable } s.sou

/-- A change of the run with no notice queued queues its own. -/
theorem State.setRun_first {r : RunState} (h : s.prc.run ≠ r) (ho : s.liu.overflow = 0) (hn : s.liu.notices = []) :
    s.setRun r = { s with
      prc := { s.prc with run := r }
      liu := { s.liu with notices := [s.prc.runNotice r].filter fun n => n.enabled s.liu.params.noticeEnable } } := by
  rw [State.setRun_of_ne h, State.notice_of_room _ (by exact ho) (by simp [hn, noticeCapacity])]
  simp [hn, Prc.runNotice]

/-- R42: the run stays as it is. -/
theorem State.linkHeld_same (hrun : s.prc.linkRun = s.prc.run) (htold : s.prc.linkTold = []) (hn : s.liu.notices = []) :
    s.linkHeld = { s with prc := { s.prc with
      holdByLink := s.prc.holdByLink || decide (s.prc.run = .running) || decide (s.prc.run = .holding) } } := by
  have hl : { s.liu with notices := [] } = s.liu := by rw [← hn]
  unfold State.linkHeld State.withRecords
  rw [hrun, htold, List.filter_nil, hl]

/-- R42: the run goes to HELD(LINK) with one notice. -/
theorem State.linkHeld_first (hrun : s.prc.linkRun = .held .link)
    (htold : s.prc.linkTold = [s.prc.runNotice (.held .link)]) (hne : s.prc.run ≠ .held .link)
    (hr : s.prc.run ≠ .running) (hh : s.prc.run ≠ .holding) (ho : s.liu.overflow = 0) (hn : s.liu.notices = []) :
    s.linkHeld = s.setRun (.held .link) := by
  rw [State.setRun_first hne ho hn]
  unfold State.linkHeld State.withRecords
  rw [hrun, htold, decide_eq_false hr, decide_eq_false hh, Bool.or_false, Bool.or_false]

theorem State.prcDetach_held {c : HoldCause} (hr : s.prc.run = .held c) (ho : s.liu.overflow = 0)
    (hn : s.liu.notices = []) : s.prcDetach = s.linkHeld := by
  have hd : s.prcDetach = if c.rank ≤ HoldCause.link.rank then s.setRun (.held .link) else s := by
    unfold State.prcDetach
    rw [hr]
    exact State.goHeld_of_held .link hr
  have hstays : s.prc.linkRun = s.prc.run → s.prc.linkTold = [] → s = s.linkHeld := fun h1 h2 => by
    rw [State.linkHeld_same h1 h2 hn, hr]
    simp
  rw [hd]
  by_cases hl : c = .link
  · rw [hl, if_pos (Nat.le_refl _), State.setRun_of_eq (hr.trans (by rw [hl]))]
    exact hstays (by simp [Prc.linkRun, hr, hl]) (by simp [Prc.linkTold, hr, hl])
  · by_cases hc : c = .transport ∨ c = .sensor ∨ c = .lamp
    · rw [if_neg (by obtain rfl | rfl | rfl := hc <;> decide)]
      exact hstays (by simp [Prc.linkRun, hr, hc])
        (by simp [Prc.linkTold, hr, show (c = .transport ∨ c = .sensor ∨ c = .lamp ∨ c = .link) from by tauto])
    · rw [if_pos (by cases c <;> simp_all [HoldCause.rank])]
      exact (State.linkHeld_first (by simp [Prc.linkRun, hr, hc])
        (by simp [Prc.linkTold, hr, show ¬ (c = .transport ∨ c = .sensor ∨ c = .lamp ∨ c = .link) from by tauto])
        (by simp [hr, hl]) (by simp [hr]) (by simp [hr]) ho hn).symm

theorem State.prcDetach_running (hr : s.prc.run = .running) (ho : s.liu.overflow = 0) (hn : s.liu.notices = []) :
    s.prcDetach = s.linkHeld := by
  obtain ⟨u, hu⟩ : ∃ u : State, u = { s with
    prc := { s.prc with run := .holding, holdByLink := true }
    liu := { s.liu with notices := [s.prc.runNotice .holding].filter fun n => n.enabled s.liu.params.noticeEnable } } :=
    ⟨_, rfl⟩
  have hd : s.prcDetach = u.tryHoldPoint := by
    unfold State.prcDetach
    rw [hr, hu]
    exact congrArg State.tryHoldPoint
      (State.setRun_first (s := { s with prc := { s.prc with holdByLink := true } }) (by simp [hr]) ho hn)
  have hout : u.prc.outstanding = s.prc.outstanding := by rw [hu]; rfl
  have hsettled := s.prc.settled_eq
  rw [hd]
  cases hp : s.prc.outstanding with
  | true =>
    rw [hp] at hsettled hout
    rw [State.tryHoldPoint_eq_self (by rw [hout]; simp), hu]
    simp [State.linkHeld, Prc.linkRun, Prc.linkTold, State.withRecords, hr, hsettled]
  | false =>
    rw [hp] at hsettled hout
    rw [State.tryHoldPoint_eq (by rw [hu]) hout, show u.prc.holdByLink = true by rw [hu], if_pos rfl,
      State.goHeld_of_unheld _ (.inr (.inl (by rw [hu]))), State.setRun_of_ne (by rw [hu]; nofun),
      State.notice_of_room _ (by rw [hu]; exact ho) ?_, hu]
    · simp [State.linkHeld, Prc.linkRun, Prc.linkTold, State.withRecords, hr, hsettled, Prc.runNotice, List.filter_cons]
      split <;> rfl
    · rw [hu]
      exact Nat.lt_of_le_of_lt (List.length_filter_le ..) (show 1 < noticeCapacity by decide)

/-- R42: the detach at PRC, with no notice queued. -/
theorem State.prcDetach_eq (ho : s.liu.overflow = 0) (hn : s.liu.notices = []) : s.prcDetach = s.linkHeld := by
  cases hr : s.prc.run with
  | running => exact State.prcDetach_running hr ho hn
  | held c => exact State.prcDetach_held hr ho hn
  | idle =>
    rw [State.linkHeld_first (by simp [Prc.linkRun, hr]) (by simp [Prc.linkTold, hr]) (by simp [hr]) (by simp [hr])
      (by simp [hr]) ho hn]
    unfold State.prcDetach
    rw [hr]
    exact State.goHeld_of_unheld _ (.inr (.inr hr))
  | holding =>
    rw [State.linkHeld_same (by simp [Prc.linkRun, hr]) (by simp [Prc.linkTold, hr]) hn]
    unfold State.prcDetach
    simp [hr]
  | quiescing =>
    rw [State.linkHeld_same (by simp [Prc.linkRun, hr]) (by simp [Prc.linkTold, hr]) hn]
    unfold State.prcDetach
    simp only [hr, reduceCtorEq, decide_false, Bool.or_false]
    rw [← hr]

/-! ## The output at a detach -/

/-- `s` once the output is to acknowledge a reset that waits for it. -/
def State.souAcked (s : State) : State :=
  { s with inFlight := s.inFlight ++
      if s.sou.quiesce && s.liu.resetWork.isSome then [Instr.quiesceAck .sou true] else [] }

theorem State.souAcked_eq (s : State) : (if s.sou.quiesce then s.ack .sou else s) = s.souAcked := by
  unfold State.souAcked
  rw [State.ack_eq]
  cases hq : s.sou.quiesce with
  | false => simp
  | true => cases hw : s.liu.resetWork <;> simp

theorem State.souAcked_of {u : State} (hq : u.sou.quiesce = s.sou.quiesce) (hw : u.liu.resetWork = s.liu.detach.resetWork)
    (hm : u.inFlight = s.inFlight) : u.souAcked = { u with inFlight := s.inFlight ++
      if s.sou.quiesce && s.liu.resetWork.isSome then [Instr.quiesceAck .sou true] else [] } := by
  unfold State.souAcked
  rw [hq, hw, hm, show s.liu.detach.resetWork.isSome = s.liu.resetWork.isSome from Option.isSome_map]

theorem Sou.dropFirst_of {q : Sou} {e : OutEntry} {rest : List OutEntry} (h : q.queue = e :: rest) :
    q.dropFirst = { q with queue := rest, index := 0, started := false, dropHead := false, restart := false } := by
  unfold Sou.dropFirst
  rw [h]
  rfl

/-- The link and the output at a detach, before the head of the output queue is looked at. -/
def State.linkDown (s : State) : State :=
  { s with liu := s.liu.detach, sou := { s.sou with credits := 0, transfer := none, restart := true } }

theorem State.exec_detach (ha : s.liu.attached = true) :
    exec .detach s = .next (State.souDetach { s with liu := s.liu.detach }).prcDetach :=
  congrArg Host.Outcome.next (if_pos ha)

theorem State.souDetach_transfer (ht : s.sou.transfer ≠ none) :
    State.souDetach { s with liu := s.liu.detach }
      = (if s.sou.dropHead then s.linkDown.removeHead else s.linkDown).souAcked := by
  obtain ⟨h, hh⟩ := Option.ne_none_iff_exists'.1 ht
  unfold State.souDetach
  dsimp only
  rw [hh, State.souAcked_eq]
  rfl

theorem State.afterFree_linkHeld (v : State) : v.afterFree.linkHeld = v.linkHeld.afterFree := by
  refine Eq.trans ?_ (v.afterFree_withRecords _ _ _).symm
  simp [State.linkHeld]

/-- Settles O60: SOU lets its stripe go and PRC holds the run, with the notices of the hold as the first queued. -/
theorem powerAndLink : Obligations.PowerAndLink := by
  refine fun s => ⟨fun seen => ?_, fun hc => ?_, fun hm => ?_, fun ha => ?_, fun ha => ?_⟩
  · cases seen <;> rfl
  · exact congrArg Host.Outcome.next (State.tryStripe_of_credits (by exact hc))
  · exact congrArg (fun u : State => Host.Outcome.next u.tryStripe)
      (State.deliver_eq_self (c := .stripeStart) (by exact hm)).symm
  · exact congrArg Host.Outcome.next (if_neg (by rw [ha]; nofun))
  · intro runNotice reached run told detached stopped
    have hexec := State.exec_detach ha
    refine ⟨fun ht => ?_, fun ht hd => ?_, fun e rest ht hd hq hs => ⟨fun hw hc => ?_, fun hquiet h => ?_⟩⟩
    · have hs : State.souDetach { s with liu := s.liu.detach }
          = { s with liu := s.liu.detach, sou := { s.sou with credits := 0 } } := by
        unfold State.souDetach
        dsimp only
        rw [ht]
      rw [hexec, hs, State.prcDetach_eq rfl rfl]
      rfl
    · rw [hexec, State.souDetach_transfer ht, if_neg (by rw [hd]; nofun), State.prcDetach_eq rfl rfl,
        State.souAcked_of (s := s) (u := s.linkDown) rfl rfl rfl]
      rfl
    · rw [hexec, State.souDetach_transfer ht, if_pos hd, State.removeHead_frees (s := s.linkDown) hq hs,
        State.afterFree_of_idle (by exact hw) (by exact hc), State.prcDetach_eq rfl rfl,
        State.souAcked_of (s := s) (by rfl) (by rfl) (by rfl), Sou.dropFirst_of (q := s.linkDown.sou) hq]
      rfl
    · obtain ⟨v, hv⟩ : ∃ v : State, v = { s.linkDown with
        sou := s.linkDown.sou.dropFirst, fst := s.linkDown.fst.setSlots [e.slot] .free } := ⟨_, rfl⟩
      have hstops : ∀ u : State, u.sou.quiesce = false → u.souAcked = u := fun u hu => by
        rw [← State.souAcked_eq, if_neg (by rw [hu]; nofun)]
      have hfrees : s.linkDown.removeHead = v.afterFree := by
        rw [hv]
        exact State.removeHead_frees hq hs
      have hidle : s.unwaited.linkDown.removeHead = v.unwaited := by
        rw [hv]
        exact State.removeHead_unwaited (s := s.linkDown) hq hs
      refine State.goesOn_of_afterFree (v := v.linkHeld) ?_ ?_
        (by rw [hv]; simp [State.linkHeld, State.withRecords, State.linkDown])
        (by rw [hv]; simp [State.linkHeld, State.withRecords, State.linkDown]) (by rw [hv]; rfl) h
      · rw [hexec, State.souDetach_transfer ht, if_pos hd, hfrees,
          hstops _ (by rw [hv]; simpa [Sou.dropFirst, State.linkDown] using hquiet),
          State.prcDetach_eq (by rw [hv]; simp; rfl) (by rw [hv]; simp; rfl), State.afterFree_linkHeld]
      · rw [State.exec_detach (s := s.unwaited) ha, State.souDetach_transfer (s := s.unwaited) ht, if_pos (by exact hd),
          hidle,
          hstops _ (by rw [hv]; exact hquiet), State.prcDetach_eq (by rw [hv]; rfl) (by rw [hv]; rfl)]
        rfl

end Sys2Proof.Machine
end

section
/-! PROOFS. What PRC does at the last completion of a tile, beside the take-up of the tile by BME (R22, R26, R28, R60). -/

namespace Sys2Proof.Machine

variable {s t u v : State} {p q : Prc} {r t' : TileRef}

/-! ## A captured tile, which PRC looks for no more -/

/-- The records of a tile show it past its capture. -/
def Prc.captured (p : Prc) (r : TileRef) : Prop :=
  ∀ j ∈ p.jobs, j.id = r.job → ∀ x ∈ j.tiles, x.seq = r.seq → x.state.uncaptured = false

theorem Prc.captured.ne (h : p.captured r) {j : Job} {x : Tile} (hj : p.activeJob? = some j) (hx : x ∈ j.tiles)
    (hun : x.state.uncaptured = true) : j.ref x ≠ r := by
  rintro rfl
  have := h j (Prc.job?_mem (Prc.activeJob?_eq_some hj).2) rfl x hx rfl
  rw [hun] at this
  cases this

theorem Tile.uncaptured_of_ended {x : Tile} (h : x.state.ended = true) : x.state.uncaptured = false := by
  revert h
  cases x.state <;> decide

theorem Tile.moved_captured {st : TileState} (hst : st.uncaptured = false) (x : Tile) :
    (x.moved st).state.uncaptured = false := by
  unfold Tile.moved
  split
  · next h => exact Tile.uncaptured_of_ended h
  · exact hst

theorem Prc.mem_mapTile {f : Tile → Tile} {j : Job} (hj : j ∈ (p.mapTile r f).jobs) :
    ∃ k ∈ p.jobs, j = if k.id = r.job then k.withTile r.seq f else k := by
  obtain ⟨k, hk, rfl⟩ := List.mem_map.1 hj
  exact ⟨k, hk, rfl⟩

theorem Prc.captured_mapTile_self {f : Tile → Tile} (hcap : ∀ x, (f x).state.uncaptured = false) :
    (p.mapTile r f).captured r := by
  intro j hj hid x hx hs
  obtain ⟨k, -, rfl⟩ := Prc.mem_mapTile hj
  by_cases hk : k.id = r.job
  · rw [if_pos hk] at hx
    obtain ⟨y, -, rfl⟩ := List.mem_map.1 hx
    by_cases hy : y.seq = r.seq
    · rw [if_pos hy]
      exact hcap y
    · rw [if_neg hy] at hs
      exact absurd hs hy
  · rw [if_neg hk] at hid
    exact absurd hid hk

theorem Prc.captured.mapTile (h : p.captured r) {t : TileRef} (ht : t ≠ r) {f : Tile → Tile}
    (hf : ∀ x, (f x).seq = x.seq) :
    (p.mapTile t f).captured r := by
  intro j hj hid x hx hs
  obtain ⟨k, hk, rfl⟩ := Prc.mem_mapTile hj
  by_cases hkt : k.id = t.job
  · rw [if_pos hkt] at hx hid
    obtain ⟨y, hy, rfl⟩ := List.mem_map.1 hx
    by_cases hyt : y.seq = t.seq
    · rw [if_pos hyt, hf] at hs
      exact absurd (show t = r from by cases t; cases r; cases hid; simp_all [Job.withTile]) ht
    · rw [if_neg hyt] at hs ⊢
      exact h k hk hid y hy hs
  · rw [if_neg hkt] at hx hid
    exact h k hk hid x hx hs

/-- A change of tiles that are not looked for finds the same tile. -/
theorem find?_mapTiles {l : List Tile} {n : Nat} {f : Tile → Tile} {q : Tile → Bool}
    (hno : ∀ x ∈ l, x.seq = n → q x = false ∧ q (f x) = false) :
    (l.map fun x => if x.seq = n then f x else x).find? q = l.find? q := by
  induction l with
  | nil => rfl
  | cons x l ih =>
    have ih := ih fun y hy => hno y (List.mem_cons_of_mem _ hy)
    rw [List.map_cons, List.find?_cons, List.find?_cons, ih]
    by_cases hs : x.seq = n
    · obtain ⟨h1, h2⟩ := hno x List.mem_cons_self hs
      rw [if_pos hs, h1, h2]
    · rw [if_neg hs]

/-- What finds tiles not yet captured finds the same one when a captured tile changes. -/
theorem find?_captured {l : List Tile} {n : Nat} {f : Tile → Tile} {q : Tile → Bool}
    (hcap : ∀ x ∈ l, x.seq = n → x.state.uncaptured = false)
    (hf : ∀ x, x.state.uncaptured = false → (f x).state.uncaptured = false)
    (hq : ∀ x, q x = true → x.state.uncaptured = true) :
    (l.map fun x => if x.seq = n then f x else x).find? q = l.find? q := by
  have hno : ∀ x : Tile, x.state.uncaptured = false → q x = false := fun x hx => by
    rw [Bool.eq_false_iff]
    intro k
    rw [hq x k] at hx
    cases hx
  exact find?_mapTiles fun x hx hs => ⟨hno x (hcap x hx hs), hno _ (hf x (hcap x hx hs))⟩

theorem any_eq_find? {α : Type} (l : List α) (q : α → Bool) : l.any q = (l.find? q).isSome := by
  rw [Bool.eq_iff_iff, List.any_eq_true, List.find?_isSome]

theorem Prc.job?_mapTile_eq (p : Prc) (r : TileRef) (f : Tile → Tile) (id : Nat) :
    (p.mapTile r f).job? id = (p.job? id).map fun j => if j.id = r.job then j.withTile r.seq f else j := by
  by_cases hid : id = r.job
  · rw [hid, Prc.job?_mapTile_self]
    cases hj : p.job? r.job with
    | none => rfl
    | some j => simp [Prc.job?_id hj, Job.withTile]
  · rw [Prc.job?_mapTile_ne _ _ _ _ hid]
    cases hj : p.job? id with
    | none => rfl
    | some j => simp [Prc.job?_id hj, hid]

theorem Prc.activeJob?_mapTile_eq (p : Prc) (r : TileRef) (f : Tile → Tile) :
    (p.mapTile r f).activeJob? = p.activeJob?.map fun j => if j.id = r.job then j.withTile r.seq f else j := by
  unfold Prc.activeJob?
  rw [show (p.mapTile r f).active = p.active from rfl]
  cases p.active with
  | none => rfl
  | some id => exact Prc.job?_mapTile_eq p r f id

theorem Job.withTile_comm (j : Job) {m n : Nat} {f g : Tile → Tile} (hmn : m ≠ n) (hf : ∀ x, (f x).seq = x.seq)
    (hg : ∀ x, (g x).seq = x.seq) : (j.withTile m f).withTile n g = (j.withTile n g).withTile m f := by
  refine congrArg (fun l => { j with tiles := l }) ?_
  show (j.tiles.map _).map _ = (j.tiles.map _).map _
  rw [List.map_map, List.map_map]
  refine List.map_congr_left fun x _ => ?_
  by_cases hm : x.seq = m
  · simp [hm, hf, hmn]
  · by_cases hn : x.seq = n
    · simp [hn, hg, hmn.symm]
    · simp [hm, hn]

theorem Prc.mapTile_comm (p : Prc) {a b : TileRef} {f g : Tile → Tile} (hab : a ≠ b) (hf : ∀ x, (f x).seq = x.seq)
    (hg : ∀ x, (g x).seq = x.seq) : (p.mapTile a f).mapTile b g = (p.mapTile b g).mapTile a f := by
  refine congrArg (fun l => { p with jobs := l }) ?_
  show (p.jobs.map fun j => if j.id = a.job then j.withTile a.seq f else j).map
      (fun j => if j.id = b.job then j.withTile b.seq g else j)
    = (p.jobs.map fun j => if j.id = b.job then j.withTile b.seq g else j).map
      (fun j => if j.id = a.job then j.withTile a.seq f else j)
  rw [List.map_map, List.map_map]
  refine List.map_congr_left fun j _ => ?_
  have hid : ∀ n h, (j.withTile n h).id = j.id := fun _ _ => rfl
  by_cases ha : j.id = a.job
  · by_cases hb : j.id = b.job
    · have hne : a.seq ≠ b.seq := fun e => hab (by cases a; cases b; simp_all)
      simp only [Function.comp, hid, if_pos ha, if_pos hb, j.withTile_comm hne hf hg]
    · simp only [Function.comp, hid, if_pos ha, if_neg hb]
  · by_cases hb : j.id = b.job
    · simp only [Function.comp, hid, if_neg ha, if_pos hb]
    · simp only [Function.comp, if_neg ha, if_neg hb]

theorem Prc.mapTile_id (p : Prc) (r : TileRef) : p.mapTile r id = p := by
  have h : ∀ j : Job, j.withTile r.seq id = j := fun j => by
    simp [Job.withTile]
  refine congrArg (fun l => { p with jobs := l }) ?_
  show p.jobs.map (fun j => if j.id = r.job then j.withTile r.seq id else j) = p.jobs
  simp [h]

section Captured

variable {g : Tile → Tile}

theorem Prc.captured.find? (h : p.captured r) {j : Job} (hj : p.activeJob? = some j) (hid : j.id = r.job)
    (hg : ∀ x, x.state.uncaptured = false → (g x).state.uncaptured = false) {f : Tile → Bool}
    (hf : ∀ x, f x = true → x.state.uncaptured = true) : (j.withTile r.seq g).tiles.find? f = j.tiles.find? f :=
  find?_captured (h j (Prc.job?_mem (Prc.activeJob?_eq_some hj).2) hid) hg hf

/-- A captured tile that changes is not what PRC finds first. -/
theorem Prc.captured.firstTile (h : p.captured r) (hg : ∀ x, x.state.uncaptured = false → (g x).state.uncaptured = false)
    {f : Tile → Bool} (hf : ∀ x, f x = true → x.state.uncaptured = true) :
    (p.mapTile r g).firstTile f = p.firstTile f := by
  unfold Prc.firstTile
  rw [Prc.activeJob?_mapTile_eq]
  cases hj : p.activeJob? with
  | none => rfl
  | some j =>
    rw [Option.map_some, Option.bind_some, Option.bind_some]
    split
    · next hid => rw [h.find? hj hid hg hf]; rfl
    · rfl

theorem Prc.captured.toPlan (h : p.captured r) (hg : ∀ x, x.state.uncaptured = false → (g x).state.uncaptured = false) :
    (p.mapTile r g).toPlan = p.toPlan := by
  unfold Prc.toPlan
  rw [Prc.activeJob?_mapTile_eq, show (p.mapTile r g).planReq = p.planReq from rfl,
    show (p.mapTile r g).admReq = p.admReq from rfl]
  cases hj : p.activeJob? with
  | none => rfl
  | some j =>
    rw [Option.map_some, Option.bind_some, Option.bind_some]
    split
    · rfl
    · split
      · next hid =>
        rw [h.find? hj hid hg fun x hx => ?_]
        · rfl
        · simp only [Bool.or_eq_true, Bool.and_eq_true, decide_eq_true_eq] at hx
          obtain hx | ⟨hx, -⟩ := hx <;> rw [hx] <;> rfl
      · rfl

theorem Prc.captured.any (h : p.captured r) {j : Job} (hj : p.activeJob? = some j)
    (hg : ∀ x, x.state.uncaptured = false → (g x).state.uncaptured = false) {f : Tile → Bool}
    (hf : ∀ x, f x = true → x.state.uncaptured = true) :
    (if j.id = r.job then j.withTile r.seq g else j).tiles.any f = j.tiles.any f := by
  split
  · next hid => rw [any_eq_find?, any_eq_find?, h.find? hj hid hg hf]
  · rfl

theorem Prc.captured.activeExposing (h : p.captured r)
    (hg : ∀ x, x.state.uncaptured = false → (g x).state.uncaptured = false) :
    (p.mapTile r g).activeExposing = p.activeExposing := by
  unfold Prc.activeExposing
  rw [Prc.activeJob?_mapTile_eq]
  cases hj : p.activeJob? with
  | none => rfl
  | some j => exact h.any hj hg fun x hx => by rw [of_decide_eq_true hx]; rfl

end Captured

theorem Prc.toPlan_some (h : p.toPlan = some t') : ∃ j x, p.activeJob? = some j ∧ x ∈ j.tiles ∧ x.state.uncaptured = true
    ∧ t' = j.ref x := by
  unfold Prc.toPlan at h
  split at h
  · cases h
  · obtain ⟨j, hj, h⟩ := Option.bind_eq_some_iff.1 h
    obtain ⟨x, hx, rfl⟩ := Option.map_eq_some_iff.1 h
    have hs := List.find?_some hx
    simp only [Bool.or_eq_true, Bool.and_eq_true, decide_eq_true_eq] at hs
    refine ⟨j, x, hj, List.mem_of_find?_eq_some hx, ?_, rfl⟩
    obtain hs | ⟨hs, -⟩ := hs <;> rw [hs] <;> rfl

theorem Prc.firstTile_some {f : Tile → Bool} (h : p.firstTile f = some t') :
    ∃ j x, p.activeJob? = some j ∧ x ∈ j.tiles ∧ f x = true ∧ t' = j.ref x := by
  obtain ⟨j, hj, h⟩ := Option.bind_eq_some_iff.1 h
  obtain ⟨x, hx, rfl⟩ := Option.map_eq_some_iff.1 h
  exact ⟨j, x, hj, List.mem_of_find?_eq_some hx, List.find?_some hx, rfl⟩

/-! ## What PRC does after a last completion, beside a change of the captured tile, of FST and of BME -/

/-- `s` with one tile record changed, and another FST and BME. -/
def State.beside (s : State) (r : TileRef) (g : Tile → Tile) (f : Fst) (b : Bme) : State :=
  { s with prc := s.prc.mapTile r g, fst := f, bme := b }

section Beside

variable {g : Tile → Tile} {f : Fst} {b : Bme}

theorem State.mapTile_beside {h : Tile → Tile} (ht : t' ≠ r) (hg : ∀ x, (g x).seq = x.seq) (hh : ∀ x, (h x).seq = x.seq) :
    (s.beside r g f b).mapTile t' h = (s.mapTile t' h).beside r g f b := by
  unfold State.mapTile
  rw [show (s.beside r g f b).prc.run = s.prc.run from rfl]
  split
  · rfl
  · show { s.beside r g f b with prc := (s.prc.mapTile r g).mapTile t' h } = _
    rw [Prc.mapTile_comm _ ht.symm hg hh]
    rfl

theorem State.moveTile_beside {st : TileState} (ht : t' ≠ r) (hg : ∀ x, (g x).seq = x.seq) :
    (s.beside r g f b).moveTile t' st = (s.moveTile t' st).beside r g f b :=
  State.mapTile_beside ht hg (Tile.moved_seq st)

theorem State.issuePlan_beside : (s.beside r g f b).issuePlan t' = (s.issuePlan t').beside r g f b := by
  unfold State.issuePlan
  rw [show (s.beside r g f b).calibrating = s.calibrating from rfl]
  split
  · rfl
  · rfl

theorem State.kickPlan_beside (h : s.prc.captured r) (hg : ∀ x, (g x).seq = x.seq)
    (hcap : ∀ x, x.state.uncaptured = false → (g x).state.uncaptured = false) :
    (s.beside r g f b).kickPlan = s.kickPlan.beside r g f b := by
  unfold State.kickPlan
  rw [show (s.beside r g f b).prc = s.prc.mapTile r g from rfl, h.toPlan hcap, h.activeExposing hcap,
    show (s.beside r g f b).calibrating = s.calibrating from rfl]
  cases ht : s.prc.toPlan with
  | none => rfl
  | some t' =>
    obtain ⟨j, x, hj, hx, hun, rfl⟩ := Prc.toPlan_some ht
    dsimp only
    split
    · rfl
    · rw [State.mapTile_beside (h := Tile.unplan) (h.ne hj hx hun) hg fun _ => rfl, State.issuePlan_beside]

theorem State.beginNext_beside (h : s.prc.captured r) (hg : ∀ x, (g x).seq = x.seq)
    (hcap : ∀ x, x.state.uncaptured = false → (g x).state.uncaptured = false) :
    (s.beside r g f b).beginNext = s.beginNext.beside r g f b := by
  unfold State.beginNext
  rw [show (s.beside r g f b).prc = s.prc.mapTile r g from rfl,
    h.firstTile hcap fun x hx => by rw [of_decide_eq_true hx]; rfl]
  cases ht : s.prc.firstTile fun x => decide (x.state = .pending) with
  | none => rfl
  | some t' =>
    obtain ⟨j, x, hj, hx, hp, rfl⟩ := Prc.firstTile_some ht
    have hne : j.ref x ≠ r := h.ne hj hx (by rw [of_decide_eq_true hp]; rfl)
    dsimp only
    unfold State.beginTile
    rw [show (s.beside r g f b).prc = s.prc.mapTile r g from rfl, Prc.tile?_mapTile_ne _ _ _ _ hg hne]
    cases s.prc.tile? (j.ref x) with
    | none => rfl
    | some y =>
      dsimp only
      rw [State.moveTile_beside hne hg]
      rfl

theorem Prc.mapTile_mapJob (p : Prc) (id : Nat) (st : JobState) (out : Option JobOutcome) :
    (p.mapTile r g).mapJob id (fun x => { x with state := st, outcome := out })
      = (p.mapJob id fun x => { x with state := st, outcome := out }).mapTile r g := by
  refine congrArg (fun l => { p with jobs := l }) ?_
  show (p.jobs.map _).map _ = (p.jobs.map _).map _
  rw [List.map_map, List.map_map]
  refine List.map_congr_left fun j _ => ?_
  by_cases ha : j.id = r.job
  · by_cases hb : j.id = id
    · simp [ha, ← hb]
    · simp [ha, show ¬ r.job = id from fun e => hb (ha.trans e)]
  · by_cases hb : j.id = id
    · simp [hb, show ¬ id = r.job from fun e => ha (hb.trans e)]
    · simp [ha, hb]

theorem State.setJob_beside (id : Nat) (st : JobState) (out : Option JobOutcome) :
    (s.beside r g f b).setJob id st out = (s.setJob id st out).beside r g f b := by
  unfold State.setJob
  rw [show (s.beside r g f b).prc = s.prc.mapTile r g from rfl, Prc.job?_mapTile_eq]
  cases s.prc.job? id with
  | none => rfl
  | some j =>
    rw [Option.map_some]
    obtain ⟨i, hi⟩ : ∃ i, i = if j.id = r.job then j.withTile r.seq g else j := ⟨_, rfl⟩
    have hsame : i.state = j.state ∧ ({ i with state := st, outcome := out } : Job).notice
        = ({ j with state := st, outcome := out } : Job).notice := by
      rw [hi]
      split
      · exact ⟨rfl, rfl⟩
      · exact ⟨rfl, rfl⟩
    rw [← hi]
    dsimp only
    rw [hsame.1, hsame.2, Prc.mapTile_mapJob, show (s.prc.mapTile r g).run = s.prc.run from rfl]
    split
    · rfl
    · rfl

theorem State.askUnload_beside (k : TrsRequest) : (s.beside r g f b).askUnload k = (s.askUnload k).beside r g f b := by
  unfold State.askUnload
  rw [show (s.beside r g f b).prc.trsReq = s.prc.trsReq from rfl]
  split <;> rfl

theorem State.captureCheck_beside (h : s.prc.captured r)
    (hcap : ∀ x, x.state.uncaptured = false → (g x).state.uncaptured = false) :
    (s.beside r g f b).captureCheck = s.captureCheck.beside r g f b := by
  unfold State.captureCheck
  rw [show (s.beside r g f b).prc = s.prc.mapTile r g from rfl, Prc.activeJob?_mapTile_eq]
  cases hj : s.prc.activeJob? with
  | none => rfl
  | some j =>
    rw [Option.map_some]
    obtain ⟨i, hi⟩ : ∃ i, i = if j.id = r.job then j.withTile r.seq g else j := ⟨_, rfl⟩
    have hany : i.tiles.any (fun x => x.state.uncaptured) = j.tiles.any fun x => x.state.uncaptured := by
      rw [hi]
      exact h.any hj hcap fun x hx => hx
    have hsame : i.state = j.state ∧ i.id = j.id := by
      rw [hi]
      split
      · exact ⟨rfl, rfl⟩
      · exact ⟨rfl, rfl⟩
    obtain ⟨hst, hid⟩ := hsame
    rw [← hi]
    dsimp only
    rw [hany, hst, hid, show (s.prc.mapTile r g).run = s.prc.run from rfl]
    split
    · rw [State.setJob_beside, State.askUnload_beside]
    · rfl

theorem State.kickNext_beside (h : s.prc.captured r) (hnext : s.beginNext.prc.captured r) (hg : ∀ x, (g x).seq = x.seq)
    (hcap : ∀ x, x.state.uncaptured = false → (g x).state.uncaptured = false) :
    (s.beside r g f b).kickNext = s.kickNext.beside r g f b := by
  have hbegin : (s.beside r g f b).beginNext.captureCheck = s.beginNext.captureCheck.beside r g f b := by
    rw [State.beginNext_beside h hg hcap, State.captureCheck_beside hnext hcap]
  unfold State.kickNext
  rw [hbegin, show (s.beside r g f b).prc = s.prc.mapTile r g from rfl, Prc.activeJob?_mapTile_eq]
  cases hj : s.prc.activeJob? with
  | none => rfl
  | some j =>
    rw [Option.map_some]
    obtain ⟨i, hi⟩ : ∃ i, i = if j.id = r.job then j.withTile r.seq g else j := ⟨_, rfl⟩
    have hany : i.tiles.any (fun x => x.state.inCycle) = j.tiles.any fun x => x.state.inCycle := by
      rw [hi]
      refine h.any hj hcap fun x hx => ?_
      revert hx
      cases x.state <;> decide
    have hst : i.state = j.state := by
      rw [hi]
      split
      · rfl
      · rfl
    rw [← hi]
    dsimp only
    rw [hany, hst, show (s.prc.mapTile r g).trsReq = s.prc.trsReq from rfl]
    split
    · rfl
    · rfl

theorem State.setRun_beside (st : RunState) : (s.beside r g f b).setRun st = (s.setRun st).beside r g f b := by
  unfold State.setRun
  rw [show (s.beside r g f b).prc.run = s.prc.run from rfl]
  split
  · rfl
  · rfl

theorem State.tryHoldPoint_beside (h : s.prc.captured r)
    (hcap : ∀ x, x.state.uncaptured = false → (g x).state.uncaptured = false) :
    (s.beside r g f b).tryHoldPoint = s.tryHoldPoint.beside r g f b := by
  have hout : (s.beside r g f b).prc.outstanding = s.prc.outstanding := by
    unfold Prc.outstanding
    rw [show (s.beside r g f b).prc = s.prc.mapTile r g from rfl, h.firstTile hcap fun x hx => ?_]
    · rfl
    · simp only [Tile.unexposed, Bool.and_eq_true, decide_eq_true_eq] at hx
      rw [hx.1]
      rfl
  by_cases hr : s.prc.run = .holding ∧ s.prc.outstanding = false
  · obtain ⟨hr, ho⟩ := hr
    rw [State.tryHoldPoint_eq hr ho, State.tryHoldPoint_eq (s := s.beside r g f b) hr (hout.trans ho),
      State.goHeld_of_unheld _ (.inr (.inl hr)), State.goHeld_of_unheld _ (.inr (.inl (by exact hr)))]
    exact State.setRun_beside _
  · rw [State.tryHoldPoint_eq_self hr, State.tryHoldPoint_eq_self (by rw [hout]; exact hr)]

end Beside

/-! ## What stays of a captured tile -/

/-- What a merge takes from the record of a job. -/
def Job.mergeTerms (j : Job) : Nat × Encoding × View := (j.profile, j.encoding, j.view)

/-- PRC has gone on with its active job, and the record of a captured tile is as it was. -/
def Prc.sparesTile (p q : Prc) (r : TileRef) : Prop :=
  q.tile? r = p.tile? r ∧ (q.job? r.job).map Job.mergeTerms = (p.job? r.job).map Job.mergeTerms
  ∧ (p.captured r → q.captured r) ∧ q.active = p.active ∧ q.expReq = p.expReq ∧ q.retryBack = p.retryBack
  ∧ ∀ k, p.active ≠ some k → q.job? k = p.job? k

theorem Prc.sparesTile.of_jobs (h : q.jobs = p.jobs) (ha : q.active = p.active) (he : q.expReq = p.expReq)
    (hb : q.retryBack = p.retryBack) : p.sparesTile q r :=
  ⟨Prc.tile?_congr h r, by rw [Prc.job?_congr h], fun hc => by unfold Prc.captured; rw [h]; exact hc, ha, he, hb,
    fun k _ => Prc.job?_congr h k⟩

theorem Prc.sparesTile.trans {w : Prc} (h1 : p.sparesTile q r) (h2 : q.sparesTile w r) : p.sparesTile w r := by
  obtain ⟨a1, a2, a3, a4, a5, a6, a7⟩ := h1
  obtain ⟨b1, b2, b3, b4, b5, b6, b7⟩ := h2
  exact ⟨b1.trans a1, b2.trans a2, fun h => b3 (a3 h), b4.trans a4, b5.trans a5, b6.trans a6,
    fun k hk => (b7 k (by rw [a4]; exact hk)).trans (a7 k hk)⟩

theorem Prc.sparesTile.mapTile {h : Tile → Tile} (ht : t' ≠ r) (hact : p.active = some t'.job)
    (hh : ∀ x, (h x).seq = x.seq) : p.sparesTile (p.mapTile t' h) r := by
  refine ⟨Prc.tile?_mapTile_ne _ _ _ _ hh ht.symm, ?_, fun hc => hc.mapTile ht hh, rfl, rfl, rfl, fun k hk => ?_⟩
  · rw [Prc.job?_mapTile_eq]
    cases p.job? r.job with
    | none => rfl
    | some j =>
      rw [Option.map_some, Option.map_some, Option.map_some]
      split
      · rfl
      · rfl
  · exact Prc.job?_mapTile_ne _ _ _ _ fun e => hk (by rw [e]; exact hact)

theorem Prc.sparesTile.setJob {id : Nat} (hact : s.prc.active = some id) (st : JobState) (out : Option JobOutcome) :
    s.prc.sparesTile (s.setJob id st out).prc r := by
  have hne : ∀ k, k ≠ id → (s.setJob id st out).prc.job? k = s.prc.job? k := fun k hk => State.setJob_job?_ne s st out hk
  obtain ⟨e, -⟩ | ⟨j, hj, hf, hr, e⟩ := s.setJob_cases id st out
  · rw [e]
    exact .of_jobs rfl rfl rfl rfl
  · have hself := State.setJob_job?_self (st := st) (out := out) hj hf hr
    have hjob : ∀ k, ∃ F : Job → Job, (∀ i, (F i).tiles = i.tiles ∧ (F i).mergeTerms = i.mergeTerms)
        ∧ (s.setJob id st out).prc.job? k = (s.prc.job? k).map F := fun k => by
      by_cases hk : k = id
      · rw [hk, hself, hj]
        exact ⟨fun i => { i with state := st, outcome := out }, fun _ => ⟨rfl, rfl⟩, rfl⟩
      · rw [hne k hk]
        exact ⟨fun i => i, fun _ => ⟨rfl, rfl⟩, by simp⟩
    obtain ⟨F, hF, hFjob⟩ := hjob r.job
    refine ⟨?_, ?_, fun hc => ?_, by rw [e]; rfl, by rw [e]; rfl, by rw [e]; rfl, fun k hk => ?_⟩
    · unfold Prc.tile?
      rw [hFjob]
      cases s.prc.job? r.job with
      | none => rfl
      | some i => simp [(hF i).1]
    · rw [hFjob]
      cases s.prc.job? r.job with
      | none => rfl
      | some i => simp [(hF i).2]
    · rw [e]
      intro k hk hid x hx hs
      obtain ⟨i, hi, rfl⟩ := List.mem_map.1 hk
      by_cases h : i.id = id
      · rw [if_pos h] at hx hid
        exact hc i hi hid x hx hs
      · rw [if_neg h] at hx hid
        exact hc i hi hid x hx hs
    · exact hne k fun h => hk (by rw [h]; exact hact)

theorem Prc.sparesTile.mapTile_state {h : Tile → Tile} (ht : t' ≠ r) (hact : s.prc.active = some t'.job)
    (hh : ∀ x, (h x).seq = x.seq) : s.prc.sparesTile (s.mapTile t' h).prc r := by
  unfold State.mapTile
  split
  · exact .of_jobs rfl rfl rfl rfl
  · exact .mapTile ht hact hh

theorem State.kickPlan_spares (h : s.prc.captured r) : s.prc.sparesTile s.kickPlan.prc r := by
  unfold State.kickPlan
  cases ht : s.prc.toPlan with
  | none => exact .of_jobs rfl rfl rfl rfl
  | some t' =>
    obtain ⟨j, x, hj, hx, hun, rfl⟩ := Prc.toPlan_some ht
    dsimp only
    split
    · exact .of_jobs rfl rfl rfl rfl
    · have hact := (Prc.activeJob?_eq_some hj).1
      refine (Prc.sparesTile.mapTile_state (h := Tile.unplan) (h.ne hj hx hun) hact fun _ => rfl).trans ?_
      unfold State.issuePlan
      split
      · exact .of_jobs rfl rfl rfl rfl
      · exact .of_jobs rfl rfl rfl rfl

theorem State.beginNext_spares (h : s.prc.captured r) : s.prc.sparesTile s.beginNext.prc r := by
  unfold State.beginNext
  cases ht : s.prc.firstTile fun x => decide (x.state = .pending) with
  | none => exact .of_jobs rfl rfl rfl rfl
  | some t' =>
    obtain ⟨j, x, hj, hx, hp, rfl⟩ := Prc.firstTile_some ht
    have hne : j.ref x ≠ r := h.ne hj hx (by rw [of_decide_eq_true hp]; rfl)
    dsimp only
    unfold State.beginTile
    split
    · exact (Prc.sparesTile.mapTile_state hne (Prc.activeJob?_eq_some hj).1 (Tile.moved_seq .positioning)).trans
        (.of_jobs rfl rfl rfl rfl)
    · exact .of_jobs rfl rfl rfl rfl

theorem State.captureCheck_spares (s : State) : s.prc.sparesTile s.captureCheck.prc r := by
  have hask : ∀ v : State, v.prc.sparesTile (v.askUnload .unload).prc r := fun v => by
    unfold State.askUnload
    split
    · exact .of_jobs rfl rfl rfl rfl
    · exact .of_jobs rfl rfl rfl rfl
    · exact .of_jobs rfl rfl rfl rfl
    · exact .of_jobs rfl rfl rfl rfl
    · exact .of_jobs rfl rfl rfl rfl
    · exact .of_jobs rfl rfl rfl rfl
  unfold State.captureCheck
  split
  · next j hj =>
    split
    · exact (Prc.sparesTile.setJob (Prc.activeJob?_eq_some hj).1 ..).trans (hask _)
    · exact .of_jobs rfl rfl rfl rfl
  · exact .of_jobs rfl rfl rfl rfl

theorem State.kickNext_spares (h : s.prc.captured r) : s.prc.sparesTile s.kickNext.prc r := by
  unfold State.kickNext
  split
  · split
    · exact (State.beginNext_spares h).trans (State.captureCheck_spares _)
    · exact .of_jobs rfl rfl rfl rfl
  · exact .of_jobs rfl rfl rfl rfl

theorem State.tryHoldPoint_spares (s : State) : s.prc.sparesTile s.tryHoldPoint.prc r := by
  unfold State.tryHoldPoint
  split
  · rw [State.goHeld_prc]
    exact .of_jobs rfl rfl rfl rfl
  · exact .of_jobs rfl rfl rfl rfl

/-! ## What PRC does after a last completion -/

/-- R22, R26, R28, R31: a plan request put off, the next tile, the end of the capture, the hold point. -/
def State.afterCapture (s : State) : State :=
  (if s.prc.run = .running then s.kickPlan.kickNext else s).captureCheck.tryHoldPoint

theorem State.workedOn.kickNext (s : State) : s.workedOn s.kickNext := by
  unfold State.kickNext
  split
  · split
    · exact (State.workedOn.beginNext _).trans (.captureCheck _)
    · exact .refl _
  · exact .refl _

theorem State.afterCapture_spares (h : s.prc.captured r) : s.prc.sparesTile s.afterCapture.prc r := by
  unfold State.afterCapture
  refine Prc.sparesTile.trans ?_ ((State.captureCheck_spares _).trans (State.tryHoldPoint_spares _))
  split
  · have hplan := State.kickPlan_spares h
    exact hplan.trans (State.kickNext_spares (hplan.2.2.1 h))
  · exact .of_jobs rfl rfl rfl rfl

theorem State.afterCapture_prcOnly (s : State) : s.prcOnly s.afterCapture := by
  unfold State.afterCapture
  refine State.prcOnly.tryHoldPoint (State.prcOnly.trans ?_ (State.workedOn.captureCheck _).1)
  split
  · exact (State.workedOn.kickPlan s).1.trans (State.workedOn.kickNext _).1
  · exact .of_prc

theorem State.afterCapture_run (h : s.prc.run ≠ .quiescing) : s.afterCapture.prc.run ≠ .quiescing := by
  unfold State.afterCapture
  obtain ⟨u, hu⟩ : ∃ u, u = (if s.prc.run = .running then s.kickPlan.kickNext else s).captureCheck := ⟨_, rfl⟩
  have hrun : u.prc.run ≠ .quiescing := by
    rw [hu, (State.workedOn.captureCheck _).2.1]
    split
    · rw [(State.workedOn.kickNext _).2.1, (State.workedOn.kickPlan _).2.1]
      exact h
    · exact h
  rw [← hu]
  unfold State.tryHoldPoint
  split
  · next hh =>
    rw [State.goHeld_prc_of_unheld _ (.inr (.inl hh.1))]
    nofun
  · exact hrun

theorem State.afterCapture_beside {g : Tile → Tile} {f : Fst} {b : Bme} (h : s.prc.captured r)
    (hg : ∀ x, (g x).seq = x.seq) (hcap : ∀ x, x.state.uncaptured = false → (g x).state.uncaptured = false) :
    (s.beside r g f b).afterCapture = s.afterCapture.beside r g f b := by
  obtain ⟨u, hu⟩ : ∃ u, u = if s.prc.run = .running then s.kickPlan.kickNext else s := ⟨_, rfl⟩
  have hspares : u.prc.captured r := by
    rw [hu]
    split
    · have hplan := (State.kickPlan_spares h).2.2.1 h
      exact (State.kickNext_spares hplan).2.2.1 hplan
    · exact h
  have hfirst : (if (s.beside r g f b).prc.run = .running then (s.beside r g f b).kickPlan.kickNext else s.beside r g f b)
      = u.beside r g f b := by
    rw [hu, show (s.beside r g f b).prc.run = s.prc.run from rfl]
    split
    · have hplan := (State.kickPlan_spares h).2.2.1 h
      rw [State.kickPlan_beside h hg hcap,
        State.kickNext_beside hplan ((State.beginNext_spares hplan).2.2.1 hplan) hg hcap]
    · rfl
  unfold State.afterCapture
  rw [hfirst, ← hu, State.captureCheck_beside hspares hcap,
    State.tryHoldPoint_beside ((State.captureCheck_spares u).2.2.1 hspares) hcap]

/-! ## The take-up in the event of a last completion -/

/-- R62: the slot that a merge writes becomes its destination. -/
def Fst.destTaken (f : Fst) (ctx : MergeCtx) (r : TileRef) : Fst :=
  match ctx.dest with
  | some d => if f.slot d = some (.reserved r) then f.setSlots [d] (.dest r) else f
  | none => f

theorem State.takeUp_beside (hs : s.bme.state = .idle) (hq : s.bme.queue = [r]) (hqu : s.bme.quiesce = false)
    (hr : s.prc.run ≠ .quiescing) : s.takeUp = s.beside r (Tile.moved .merging) (s.fst.destTaken (s.mergeCtx r) r)
      { s.bme with
        state := .merging, queue := [], merge := some { tile := r, ctx := s.mergeCtx r, band := 0, acc := {} } } := by
  unfold State.takeUp Fst.destTaken
  rw [hq]
  dsimp only
  rw [if_pos ⟨hs, hqu⟩]
  cases hd : (s.mergeCtx r).dest with
  | none =>
    dsimp only
    rw [State.moveTile_eq (by exact hr)]
    rfl
  | some d =>
    dsimp only
    by_cases hslot : s.fst.slot d = some (.reserved r)
    · rw [if_pos hslot, State.changeSlot_sets (by exact hslot) (by simp [SlotChange.after]), State.moveTile_eq (by exact hr)]
      rfl
    · rw [if_neg hslot, State.changeSlot_refused (by exact hslot), State.moveTile_eq (by exact hr)]
      rfl

theorem State.mergeCtx_spares (h : s.prc.sparesTile u.prc r) (ho : s.prcOnly u) : u.mergeCtx r = s.mergeCtx r := by
  obtain ⟨htile, hterms, -⟩ := h
  obtain ⟨-, hfst, -, -, -, -, hcru, -, -, -, n, o, k, hliu⟩ := ho
  unfold State.mergeCtx
  rw [htile, hfst, hcru, hliu]
  cases hu : u.prc.job? r.job with
  | none =>
    rw [hu] at hterms
    rw [Option.map_eq_none_iff.1 hterms.symm]
  | some i =>
    rw [hu] at hterms
    obtain ⟨j, hj, hsame⟩ := Option.map_eq_some_iff.1 hterms.symm
    simp only [Job.mergeTerms, Prod.mk.injEq] at hsame
    obtain ⟨h1, h2, h3⟩ := hsame
    rw [hj]
    simp only [h1, h2, h3]

theorem State.afterCapture_takeUp (h : s.prc.captured r) (hr : s.prc.run ≠ .quiescing) (hs : s.bme.state = .idle)
    (hq : s.bme.queue = [r]) : s.takeUp.afterCapture = s.afterCapture.takeUp := by
  have honly := s.afterCapture_prcOnly
  have hctx := State.mergeCtx_spares (State.afterCapture_spares h) honly
  obtain ⟨-, hfst, -, -, -, hbme, -⟩ := honly
  cases hqu : s.bme.quiesce with
  | true => rw [State.takeUp_quiet hqu, State.takeUp_quiet (by rw [hbme]; exact hqu)]
  | false =>
    rw [State.takeUp_beside hs hq hqu hr, State.afterCapture_beside h (Tile.moved_seq .merging)
      fun x _ => Tile.moved_captured rfl x, State.takeUp_beside (s := s.afterCapture) (by rw [hbme]; exact hs)
      (by rw [hbme]; exact hq) (by rw [hbme]; exact hqu) (State.afterCapture_run hr), hctx, hfst, hbme]

/-- R26: a tile at its last completion, before PRC goes on. -/
def State.exposedAt (s : State) (r : TileRef) : State :=
  { s with
    prc := { s.prc.mapTile r (Tile.moved .exposed) with retryBack := none }
    bme := { s.bme with queue := s.bme.queue ++ [r] } }

theorem State.exposedAt_captured (s : State) (r : TileRef) : (s.exposedAt r).prc.captured r :=
  Prc.captured_mapTile_self (f := Tile.moved .exposed) fun x => Tile.moved_captured rfl x

theorem State.tileExposed_busy (hr : s.prc.run ≠ .quiescing) (hs : s.bme.state ≠ .idle) :
    s.tileExposed r = (s.exposedAt r).afterCapture := by
  unfold State.tileExposed State.mergeAppend
  dsimp only
  rw [State.moveTile_eq hr, State.takeUp_eq_self (.inl (by exact hs))]
  rfl

theorem State.tileExposed_takes (hr : s.prc.run ≠ .quiescing) (hs : s.bme.state = .idle) (hq : s.bme.queue = []) :
    s.tileExposed r = (s.exposedAt r).afterCapture.takeUp := by
  have hqueue : (s.exposedAt r).bme.queue = [r] := by rw [State.exposedAt, hq]; rfl
  rw [← State.afterCapture_takeUp (s.exposedAt_captured r) hr hs hqueue]
  unfold State.tileExposed State.mergeAppend
  rw [State.moveTile_eq hr]
  obtain ⟨u, hu⟩ : ∃ u : State, u = { s with
    prc := s.prc.mapTile r (Tile.moved .exposed), bme := { s.bme with queue := s.bme.queue ++ [r] } } := ⟨_, rfl⟩
  have hback : { u.takeUp with prc := { u.takeUp.prc with retryBack := none } } = (s.exposedAt r).takeUp := by
    cases hqu : s.bme.quiesce with
    | true => rw [State.takeUp_quiet (by rw [hu]; exact hqu), State.takeUp_quiet (s := s.exposedAt r) hqu, hu]; rfl
    | false =>
      rw [State.takeUp_beside (r := r) (by rw [hu]; exact hs) (by rw [hu]; exact hqueue) (by rw [hu]; exact hqu)
        (by rw [hu]; exact hr), State.takeUp_beside (s := s.exposedAt r) hs hqueue hqu hr, hu]
      rfl
  rw [← hu, ← hback]
  rfl

/-- `s` with BME at work. -/
def State.merging (s : State) : State := { s with bme := { s.bme with state := .merging } }

/-- `s` with BME idle. -/
def State.bmeRested (s : State) : State := { s with bme := { s.bme with state := .idle } }

theorem State.merging_rested (hs : s.bme.state = .idle) : s.merging.bmeRested = s := by
  have h : { s.bme with state := .idle } = s.bme := by rw [← hs]
  show { s with bme := { s.bme with state := .idle } } = s
  rw [h]

theorem State.afterCapture_merging (h : s.prc.captured r) : s.merging.afterCapture = s.afterCapture.merging := by
  obtain ⟨-, hfst, -, -, -, hbme, -⟩ := s.afterCapture_prcOnly
  have haside : ∀ u : State, u.merging = u.beside r id u.fst u.merging.bme := fun u => by
    rw [State.beside, Prc.mapTile_id]
    rfl
  rw [haside s, State.afterCapture_beside (g := id) h (fun _ => rfl) (fun _ h => h), haside s.afterCapture, hfst]
  unfold State.merging
  rw [hbme]

theorem State.requestExposure_merging (s : State) : s.merging.requestExposure r = (s.requestExposure r).merging := by
  unfold State.requestExposure
  rw [show s.merging.prc = s.prc from rfl, show s.merging.fst = s.fst from rfl, show s.merging.blu = s.blu from rfl,
    show s.merging.calibrating = s.calibrating from rfl]
  split
  · split
    · split
      · rfl
      · unfold State.mapTile
        dsimp only
        rw [show s.merging.prc = s.prc from rfl]
        split
        · split
          · rfl
          · rfl
        · rfl
    · rfl
  · rfl

theorem State.tileExposed_waits (hr : s.prc.run ≠ .quiescing) (hs : s.bme.state = .idle) (hq : s.bme.queue = []) :
    s.tileExposed r = (s.merging.tileExposed r).bmeRested.takeUp := by
  have hbme : (s.exposedAt r).afterCapture.bme = (s.exposedAt r).bme := (State.afterCapture_prcOnly _).2.2.2.2.2.1
  have haside : s.merging.tileExposed r = (s.exposedAt r).afterCapture.merging := by
    rw [← State.afterCapture_merging (s.exposedAt_captured r)]
    exact State.tileExposed_busy (s := s.merging) hr nofun
  rw [State.tileExposed_takes hr hs hq, haside, State.merging_rested (by rw [hbme]; exact hs)]

/-- The record of a tile with the exposure done. -/
def State.recorded (s : State) (d : ExposureDone) : State :=
  { s with prc := Prc.mapTile { s.prc with expReq := none } d.tile fun y => y.addExposure d.record }

theorem State.tileExposureDone_of {d : ExposureDone} {x : Tile} (hr : s.prc.run ≠ .quiescing)
    (hx : s.prc.tile? d.tile = some x) : s.tileExposureDone d = if x.unexposed && d.withFrame then
      if x.lastExposure then (s.recorded d).tileExposed d.tile
      else if s.prc.run = .running ∨ s.prc.run = .holding then (s.recorded d).requestExposure d.tile else s.recorded d
    else s := by
  unfold State.tileExposureDone
  rw [hx]
  dsimp only
  rw [State.mapTile_eq (by exact hr)]
  rfl

/-- R60: a completion, with the take-up that an IDLE BME adds to its event. -/
theorem State.tileExposureDone_takes {d : ExposureDone} (hr : s.prc.run ≠ .quiescing) (hs : s.bme.state = .idle)
    (hq : s.bme.queue = []) : s.tileExposureDone d = (s.merging.tileExposureDone d).bmeRested.takeUp := by
  have hnone : ∀ u : State, u.bme = s.bme → u = u.merging.bmeRested.takeUp := fun u hu => by
    rw [State.merging_rested (by rw [hu]; exact hs), State.takeUp_eq_self (.inr (by rw [hu]; exact hq))]
  cases hx : s.prc.tile? d.tile with
  | none =>
    have hself : ∀ u : State, u.prc.tile? d.tile = none → u.tileExposureDone d = u := fun u hu => by
      unfold State.tileExposureDone
      rw [hu]
    rw [hself s hx, hself s.merging hx]
    exact hnone s rfl
  | some x =>
    rw [State.tileExposureDone_of hr hx, State.tileExposureDone_of (s := s.merging) hr hx,
      show s.merging.recorded d = (s.recorded d).merging from rfl, show s.merging.prc = s.prc from rfl]
    split
    · split
      · exact State.tileExposed_waits hr hs hq
      · split
        · rw [State.requestExposure_merging]
          exact hnone _ (by simp [State.recorded])
        · exact hnone _ rfl
    · exact hnone s rfl

/-- R60: BME takes the tile up in the event of its last completion, after what PRC does. -/
theorem State.exposureCompletion_goesOn {d : ExposureDone} (hr : s.prc.run ≠ .quiescing) (hs : s.bme.state = .idle)
    (hq : s.bme.queue = []) : s.goesOn (.exposureCompletion d) { s with bme := { s.bme with state := .merging } }
      (fun t => { t with bme := { t.bme with state := .idle } }) [.mergeTakeUp] := by
  have hexec : ∀ u : State, u.prc.run ≠ .quiescing →
      exec (.exposureCompletion d) u = .next ((u.deliver (.exposureCompletion d)).tileExposureDone d) := fun u hu =>
    congrArg Host.Outcome.next (if_neg (by exact hu))
  refine ⟨_, hexec _ hr, fun hno => ?_⟩
  have hmsg := hno .mergeTakeUp (List.mem_singleton_self _)
  have htake : ∀ u : State, .mergeTakeUp ∉ u.inFlight → execAll [.mergeTakeUp] u = .next u.takeUp := fun u hu => by
    have hd : exec .mergeTakeUp u = .next u.takeUp :=
      congrArg (fun v : State => Host.Outcome.next v.takeUp) (State.deliver_eq_self (s := u) hu)
    rw [execAll_cons hd, execAll_nil]
  rw [hexec s hr, htake _ (by exact hmsg),
    State.tileExposureDone_takes (s := s.deliver (.exposureCompletion d)) hr hs hq]
  rfl

end Sys2Proof.Machine
end

section
/-! PROOFS. The exposures of a tile at PRC (R22, R24 to R26, R55, R59). -/

namespace Sys2Proof.Machine

variable {s t u v : State} {p q : Prc} {r : TileRef}

/-! ## An exposure requested, under the throttle too -/

/-- R55: a tile whose realised time has been cut. -/
def Tile.cut (c : Bool) (y : Tile) : Tile := { y with flags := { y.flags with tCapped := y.flags.tCapped || c } }

theorem Prc.mapTile_cut_false (p : Prc) (r : TileRef) : p.mapTile r (Tile.cut false) = p := by
  have h : Tile.cut false = id := by
    funext y
    simp [Tile.cut]
  rw [h, Prc.mapTile_id]

/-- R25, R55: the next exposure of a tile is requested as the throttle flag lets it be. -/
theorem State.requestExposure_throttled {x : Tile} {plan : List PlanEntry} {e : PlanEntry} {n : Nat}
    (hr : s.prc.run ≠ .quiescing) (hx : s.prc.tile? r = some x) (hplan : x.plan = some plan)
    (he : plan[x.exposures.length]? = some e) (hn : s.fst.lowestReserved r = some n) (hc : s.cru.state = .idle)
    (hexp : s.prc.expReq = none) (hback : s.prc.retryBack = none) :
    s.requestExposure r = { s with
      prc := { s.prc.mapTile r (Tile.cut (realiseCapped s.blu.throttle e)) with expReq := some r }
      inFlight := s.inFlight ++ [.lightRequest (realise s.blu.throttle e).drive,
        .exposureRequest (tileRequest r n (realise s.blu.throttle e))] } := by
  unfold State.requestExposure
  rw [hx, hn]
  dsimp only
  rw [hplan, Option.getD_some, he]
  dsimp only
  rw [if_neg (by simp [State.calibrating, hc, hexp, hback])]
  have hmsg : ∀ v : State, ∀ a b : Instr, a.asMessage = a → b.asMessage = b →
      (v.emit a).emit b = { v with inFlight := v.inFlight ++ [a, b] } := fun v a b ha hb => by
    simp [State.emit, ha, hb]
  rw [hmsg _ _ _ rfl rfl]
  cases hcut : realiseCapped s.blu.throttle e with
  | true =>
    rw [if_pos rfl, State.mapTile_eq hr]
    have : (fun y : Tile => { y with flags := { y.flags with tCapped := true } }) = Tile.cut true := by
      funext y
      simp [Tile.cut]
    rw [this]
  | false => rw [if_neg (by nofun), Prc.mapTile_cut_false]

theorem Prc.mapTile_mapTile (p : Prc) (r : TileRef) {f g : Tile → Tile} (hf : ∀ x, (f x).seq = x.seq) :
    (p.mapTile r f).mapTile r g = p.mapTile r fun x => g (f x) := by
  have hjob : ∀ j : Job, (j.withTile r.seq f).withTile r.seq g = j.withTile r.seq fun x => g (f x) := fun j => by
    refine congrArg (fun l => { j with tiles := l }) ?_
    show (j.tiles.map _).map _ = _
    rw [List.map_map]
    refine List.map_congr_left fun x _ => ?_
    by_cases hx : x.seq = r.seq
    · simp [hx, hf]
    · simp [hx]
  refine congrArg (fun l => { p with jobs := l }) ?_
  show (p.jobs.map fun j => if j.id = r.job then j.withTile r.seq f else j).map
      (fun j => if j.id = r.job then j.withTile r.seq g else j) = _
  rw [List.map_map]
  refine List.map_congr_left fun j _ => ?_
  have hid : (j.withTile r.seq f).id = j.id := rfl
  by_cases hj : j.id = r.job
  · simp only [Function.comp, if_pos hj, hid, hjob]
    rfl
  · simp only [Function.comp, if_neg hj]

theorem lampDeviates_eq (m drive : Nat) : lampDeviates m drive = decide (drive < 20 * ((m : Int) - drive).natAbs) := by
  unfold lampDeviates
  refine decide_eq_decide.2 ?_
  omega

/-! ## The first exposures -/

theorem State.exec_admissionGrant (hr : s.prc.run ≠ .quiescing) (slots : List Nat) :
    exec (.admissionGrant r slots) s = .next ((s.deliver (.admissionGrant r slots)).admitted r) :=
  congrArg Host.Outcome.next (if_neg (by exact hr))

theorem State.admitted_eq {x : Tile} (hr : s.prc.run ≠ .quiescing) (hadm : s.prc.admReq = some r)
    (hx : s.prc.tile? r = some x) (hst : x.state = .planned) {w : State}
    (hw : w = { s with prc := { s.prc.mapTile r (Tile.moved .exposing) with admReq := none } }) :
    s.admitted r = if s.prc.run = .running ∨ s.prc.run = .holding then w.requestExposure r else w := by
  unfold State.admitted
  rw [if_pos ⟨hadm, by simp [Prc.tileState?, hx, hst]⟩, State.moveTile_eq (by exact hr), hw]
  rfl

/-- R24: the first exposure of an admitted tile. -/
theorem admissionGrant_requests {x : Tile} {e : PlanEntry} {es : List PlanEntry} {slots : List Nat} {n : Nat}
    (hr : s.prc.run ≠ .quiescing) (hadm : s.prc.admReq = some r) (hx : s.prc.tile? r = some x) (hst : x.state = .planned)
    (hplan : x.plan = some (e :: es)) (hno : x.exposures = []) (hn : s.fst.lowestReserved r = some n)
    (hc : s.cru.state = .idle) (hexp : s.prc.expReq = none) (hback : s.prc.retryBack = none) :
    let capped : Bool := s.blu.throttle && decide (1024 < e.drive)
    let long := (e.time * e.drive + 512) / 1024
    let g : PlanEntry := if capped then { time := min 80000 long, drive := 1024 } else e
    ∃ t, exec (.admissionGrant r slots) s = .next t ∧ s.prcOnly t ∧ t.prc.otherRecords s.prc r
      ∧ t.prc.admReq = none ∧ t.prc.run = s.prc.run
      ∧ (s.prc.run = .running ∨ s.prc.run = .holding →
        t.prc.tile? r = some { x with
          state := .exposing
          flags := { x.flags with tCapped := x.flags.tCapped || (capped && decide (80000 < long)) } }
        ∧ t.prc.expReq = some r
        ∧ t.inFlight = s.inFlight.erase (.admissionGrant r slots) ++ [.lightRequest g.drive,
          .exposureRequest { client := .prc r, time := g.time, target := .slot n r, lamp := .settled g.drive
                             stage := true }])
      ∧ ((∃ c, s.prc.run = .held c) → t.prc.tile? r = some { x with state := .exposing } ∧ t.prc.expReq = none
        ∧ t.inFlight = s.inFlight.erase (.admissionGrant r slots)) := by
  intro capped long g
  have hg : realise s.blu.throttle e = g := by
    rw [realise_eq]
    simp [g, capped, long]
  have hcut : realiseCapped s.blu.throttle e = (capped && decide (80000 < long)) := rfl
  obtain ⟨w, hw⟩ : ∃ w : State, w = { s.deliver (.admissionGrant r slots) with
    prc := { s.prc.mapTile r (Tile.moved .exposing) with admReq := none } } := ⟨_, rfl⟩
  have heq := (State.exec_admissionGrant hr slots).trans
    (congrArg Host.Outcome.next (State.admitted_eq (s := s.deliver (.admissionGrant r slots)) hr hadm hx hst hw))
  have htile : w.prc.tile? r = some { x with state := .exposing } := by
    rw [hw]
    exact Prc.tile?_moved hx (by rw [hst]; rfl) rfl
  have hother : w.prc.otherRecords s.prc r := by
    rw [hw]
    exact .of_mapTile (Tile.moved_seq .exposing) rfl
  by_cases hrun : s.prc.run = .running ∨ s.prc.run = .holding
  · rw [if_pos (by exact hrun), State.requestExposure_throttled (e := e) (by rw [hw]; exact hr) htile hplan (by simp [hno])
      (by rw [hw]; exact hn) (by rw [hw]; exact hc) (by rw [hw]; exact hexp) (by rw [hw]; exact hback)] at heq
    have hblu : w.blu = s.blu := by subst hw; rfl
    rw [hblu, hg, hcut] at heq
    refine ⟨_, heq, by rw [hw]; exact .of_prc, ?_, by subst hw; rfl, by subst hw; rfl,
      fun _ => ⟨?_, rfl, by subst hw; rfl⟩, fun ⟨c, h⟩ => ?_⟩
    · exact Prc.otherRecords.trans (.of_mapTile (f := Tile.cut (capped && decide (80000 < long))) (fun _ => rfl) rfl) hother
    · exact Prc.tile?_mapTile_of (f := Tile.cut (capped && decide (80000 < long))) htile fun _ => rfl
    · rw [h] at hrun
      obtain h | h := hrun <;> cases h
  · rw [if_neg (by exact hrun)] at heq
    exact ⟨w, heq, by rw [hw]; exact .of_prc, hother, by subst hw; rfl, by subst hw; rfl, fun h => absurd h hrun,
      fun _ => ⟨htile, by rw [hw]; exact hexp, by subst hw; rfl⟩⟩

/-! ## A completion -/

/-- The record of a tile with an exposure done. -/
def Tile.exposed (d : ExposureDone) (y : Tile) : Tile := y.addExposure d.record

theorem State.exec_exposureCompletion (d : ExposureDone) (hr : s.prc.run ≠ .quiescing) :
    exec (.exposureCompletion d) s = .next ((s.deliver (.exposureCompletion d)).tileExposureDone d) :=
  congrArg Host.Outcome.next (if_neg (by exact hr))

theorem Tile.exposed_eq (d : ExposureDone) (y : Tile) : y.exposed d = { y with
    exposures := y.exposures ++ [{ time := d.time, drive := d.drive, m := d.m, temp := d.temp, slot := d.slot
                                   lampDev := decide (d.drive < 20 * ((d.m : Int) - d.drive).natAbs)
                                   throttled := d.throttled }]
    flags := { y.flags with
      lampDev := y.flags.lampDev || decide (d.drive < 20 * ((d.m : Int) - d.drive).natAbs)
      throttled := y.flags.throttled || d.throttled } } := by
  unfold Tile.exposed Tile.addExposure ExposureDone.record TileFlags.addExposure
  rw [lampDeviates_eq]

/-- R25: a completion that is not the tile's last has the next exposure requested. -/
theorem exposureCompletion_requests {d : ExposureDone} {x : Tile} {plan : List PlanEntry} {e : PlanEntry} {n : Nat}
    (hr : s.prc.run ≠ .quiescing) (hx : s.prc.tile? d.tile = some x) (hst : x.state = .exposing)
    (hplan : x.plan = some plan) (hframe : d.withFrame = true) (he : plan[x.exposures.length + 1]? = some e)
    (hn : s.fst.lowestReserved d.tile = some n) (hc : s.cru.state = .idle) (hback : s.prc.retryBack = none)
    (hlow : s.blu.throttle = false ∨ e.drive ≤ 1024) :
    ∃ t, exec (.exposureCompletion d) s = .next t ∧ s.prcOnly t ∧ t.prc.otherRecords s.prc d.tile
      ∧ t.prc.tile? d.tile = some (x.exposed d) ∧ t.prc.run = s.prc.run
      ∧ (s.prc.run = .running ∨ s.prc.run = .holding → t.prc.expReq = some d.tile
        ∧ t.inFlight = s.inFlight.erase (.exposureCompletion d) ++ [.lightRequest e.drive,
          .exposureRequest { client := .prc d.tile, time := e.time, target := .slot n d.tile
                             lamp := .settled e.drive, stage := true }])
      ∧ ((∃ c, s.prc.run = .held c) → t.prc.expReq = none
        ∧ t.inFlight = s.inFlight.erase (.exposureCompletion d)) := by
  have hlt : x.exposures.length + 1 < plan.length := (List.getElem?_eq_some_iff.1 he).1
  have hun : x.unexposed = true := by
    simp [Tile.unexposed, Tile.planLength, hst, hplan, Nat.lt_of_succ_lt hlt]
  have hlast : ¬ x.lastExposure = true := fun h => Nat.ne_of_lt hlt ((Tile.lastExposure_iff hst hplan).1 h)
  obtain ⟨w, hw⟩ : ∃ w : State, w = (s.deliver (.exposureCompletion d)).recorded d := ⟨_, rfl⟩
  have heq := (State.exec_exposureCompletion d hr).trans
    (congrArg Host.Outcome.next (State.tileExposureDone_of (s := s.deliver (.exposureCompletion d)) hr hx))
  rw [if_pos (by rw [hun, hframe]; rfl), if_neg hlast, ← hw] at heq
  have htile : w.prc.tile? d.tile = some (x.exposed d) := by
    rw [hw]
    exact Prc.tile?_mapTile_of (p := { s.prc with expReq := none }) (f := Tile.exposed d) hx fun _ => rfl
  have hother : w.prc.otherRecords s.prc d.tile := by
    rw [hw]
    exact .of_mapTile (f := Tile.exposed d) (fun _ => rfl) rfl
  by_cases hrun : s.prc.run = .running ∨ s.prc.run = .holding
  · rw [if_pos (by exact hrun), State.requestExposure_eq (e := e) htile hplan
      (by simpa [Tile.exposed, Tile.addExposure] using he) (by rw [hw]; exact hn) (by rw [hw]; exact hc)
      (by subst hw; rfl) (by rw [hw]; exact hback) (by rw [hw]; exact hlow)] at heq
    refine ⟨_, heq, by rw [hw]; exact .of_prc, Prc.otherRecords.trans (.of_jobs rfl) hother, htile, by subst hw; rfl,
      fun _ => ⟨rfl, by subst hw; rfl⟩, fun ⟨c, h⟩ => ?_⟩
    rw [h] at hrun
    obtain h | h := hrun <;> cases h
  · rw [if_neg (by exact hrun)] at heq
    exact ⟨w, heq, by rw [hw]; exact .of_prc, hother, htile, by subst hw; rfl, fun h => absurd h hrun,
      fun _ => ⟨by subst hw; rfl, by subst hw; rfl⟩⟩

/-! ## What PRC does after a last completion, case by case -/

section After

variable {k : Job}

theorem Tile.not_inCycle_of_captured {y : Tile} (h : y.state.uncaptured = false) : y.state.inCycle = false := by
  revert h
  cases y.state <;> decide

theorem State.kick_of_unexposed (hr : s.prc.run = .running) (hj : s.prc.activeJob? = some k)
    (hno : ∀ y ∈ k.tiles, y.state ≠ .exposing) : s.kick = s.kickPlan.kickNext := by
  unfold State.kick
  rw [State.kickExposure_none hj hno]
  exact if_pos hr

theorem State.captureCheck_unloads (hr : s.prc.run = .running ∨ s.prc.run = .holding) (hj : s.prc.activeJob? = some k)
    (hst : k.state = .capturing) (hcap : ∀ y ∈ k.tiles, y.state.uncaptured = false) (htrs : s.prc.trsReq = none)
    (huniq : ∀ i ∈ s.prc.jobs, i.id = k.id → i = k) :
    s.captureCheck = (s.recordJob { k with state := .unloading, outcome := none }).issueUnload .unload := by
  have hne : s.prc.run ≠ .quiescing := by
    obtain h | h := hr <;> rw [h] <;> nofun
  unfold State.captureCheck
  rw [hj]
  dsimp only
  rw [if_pos ⟨hst, List.any_eq_false.2 fun y hy => by rw [hcap y hy]; nofun, hr⟩,
    State.setJob_eq s k _ _ (Prc.activeJob?_eq_some hj).2 huniq hne (by rw [hst]; rfl)]
  unfold State.askUnload
  rw [show (s.recordJob _).prc.trsReq = none from htrs]

/-- R28: the capture of the job is complete. -/
theorem State.afterCapture_unloads (hr : s.prc.run = .running ∨ s.prc.run = .holding) (hj : s.prc.activeJob? = some k)
    (hst : k.state = .capturing) (hcap : ∀ y ∈ k.tiles, y.state.uncaptured = false) (htrs : s.prc.trsReq = none)
    (huniq : ∀ i ∈ s.prc.jobs, i.id = k.id → i = k) :
    s.afterCapture = (s.recordJob { k with state := .unloading, outcome := none }).issueUnload .unload := by
  obtain ⟨hact, hid⟩ := Prc.activeJob?_eq_some hj
  obtain ⟨u, hu⟩ : ∃ u, u = (s.recordJob { k with state := .unloading, outcome := none }).issueUnload .unload :=
    ⟨_, rfl⟩
  have hcheck := State.captureCheck_unloads hr hj hst hcap htrs huniq
  rw [← hu] at hcheck ⊢
  have hjob : u.prc.activeJob? = some { k with state := .unloading, outcome := none } := by
    rw [hu]
    exact Prc.activeJob?_of hact (State.recordJob_job?_self (k := { k with state := .unloading, outcome := none }) hid)
  have hagain : u.captureCheck = u := by
    unfold State.captureCheck
    rw [hjob]
    exact if_neg fun h => by cases h.1
  have hhold : u.tryHoldPoint = u := State.tryHoldPoint_eq_self fun ⟨_, ho⟩ => by
    obtain ⟨htrs, -⟩ := Prc.outstanding_eq_false_iff.1 ho
    rw [hu] at htrs
    cases htrs
  unfold State.afterCapture
  by_cases hrun : s.prc.run = .running
  · have hstates : ∀ y ∈ k.tiles, y.state ≠ .exposing := fun y hy h => by
      have := hcap y hy
      rw [h] at this
      cases this
    have hnext : s.kickPlan.kickNext = u := by
      rw [← State.kick_of_unexposed hrun hj hstates, State.kick_next hrun hj hst htrs fun y hy =>
        Tile.not_inCycle_of_captured (hcap y hy)]
      have hbegin : s.beginNext = s := by
        unfold State.beginNext
        rw [Prc.firstTile_of_none hj fun y hy => ?_]
        have := hcap y hy
        rw [decide_eq_false_iff_not]
        intro h
        rw [h] at this
        cases this
      rw [hbegin, hcheck]
    rw [if_pos hrun, hnext, hagain, hhold]
  · rw [if_neg hrun, hcheck, hhold]

/-- R26: the plan request put off is issued. -/
theorem State.afterCapture_plans (hr : s.prc.run = .running) (hj : s.prc.activeJob? = some k)
    (hno : ∀ y ∈ k.tiles, y.state ≠ .exposing) {y : Tile}
    (hy : k.tiles.find? (fun z => decide (z.state = .metering ∨ z.state = .planned)) = some y) (hys : y.state = .metering)
    (hc : s.cru.state = .idle) (hplan : s.prc.planReq = none) :
    s.afterCapture = { s with
      prc := { s.prc.mapTile ⟨k.id, y.seq⟩ Tile.unplan with planReq := some ⟨k.id, y.seq⟩ }
      inFlight := s.inFlight ++ [.planRequest (.prc ⟨k.id, y.seq⟩)] } := by
  unfold State.afterCapture
  rw [if_pos hr, ← State.kick_of_unexposed hr hj hno,
    State.kick_plans hr hj hno hy (fun h => by rw [hys] at h; cases h) hc hplan,
    State.captureCheck_eq_self (j := k.withTile y.seq Tile.unplan) (by exact Prc.activeJob?_mapTile hj y.seq Tile.unplan)
      ⟨y.unplan, List.mem_map.2 ⟨y, List.mem_of_find?_eq_some hy, by simp⟩, rfl⟩]
  exact State.tryHoldPoint_of_ne (show s.prc.run ≠ .holding by rw [hr]; nofun)

theorem State.captureCheck_of_run (h1 : s.prc.run ≠ .running) (h2 : s.prc.run ≠ .holding) : s.captureCheck = s := by
  unfold State.captureCheck
  split
  · exact if_neg fun h => h.2.2.elim h1 h2
  · rfl

/-- A HELD run goes on with nothing. -/
theorem State.afterCapture_held {c : HoldCause} (hr : s.prc.run = .held c) : s.afterCapture = s := by
  unfold State.afterCapture
  rw [if_neg (by rw [hr]; nofun), State.captureCheck_of_run (by rw [hr]; nofun) (by rw [hr]; nofun),
    State.tryHoldPoint_of_ne (by rw [hr]; nofun)]

/-- R31: a HOLDING run with more to capture has reached its hold point. -/
theorem State.afterCapture_holds (hr : s.prc.run = .holding) (hj : s.prc.activeJob? = some k)
    (hno : ∀ y ∈ k.tiles, y.state ≠ .exposing) (hun : ∃ y ∈ k.tiles, y.state.uncaptured = true)
    (h1 : s.prc.trsReq = none) (h2 : s.prc.unloadNext = none) (h3 : s.prc.planReq = none) (h4 : s.prc.expReq = none) :
    s.afterCapture = s.goHeld (if s.prc.holdByLink then .link else .requested) := by
  unfold State.afterCapture
  rw [if_neg (by rw [hr]; nofun), State.captureCheck_eq_self hj hun]
  refine State.tryHoldPoint_eq hr (Prc.outstanding_of h1 h2 h3 h4 fun i hi => ?_)
  rw [hj] at hi
  cases hi
  exact hno

theorem State.afterCapture_running (hr : s.prc.run = .running) : s.afterCapture.prc.run = .running := by
  obtain ⟨u, hu⟩ : ∃ u, u = s.kickPlan.kickNext.captureCheck := ⟨_, rfl⟩
  have hrun : u.prc.run = .running := by
    rw [hu, (State.workedOn.captureCheck _).2.1, (State.workedOn.kickNext _).2.1, (State.workedOn.kickPlan _).2.1, hr]
  unfold State.afterCapture
  rw [if_pos hr, ← hu, State.tryHoldPoint_of_ne (by rw [hrun]; nofun), hrun]

end After

/-! ## The last completion -/

/-- R26: the record of a tile after its last completion. -/
def Tile.lastExposed (d : ExposureDone) (y : Tile) : Tile := (y.exposed d).moved .exposed

theorem Tile.lastExposed_seq (d : ExposureDone) (y : Tile) : (y.lastExposed d).seq = y.seq := Tile.moved_seq .exposed _

/-- `s` at a tile's last completion, the tile at the end of the merge queue, before PRC goes on. -/
def State.completed (s : State) (d : ExposureDone) : State :=
  { s with
    prc := { s.prc.mapTile d.tile (Tile.lastExposed d) with expReq := none, retryBack := none }
    bme := { s.bme with queue := s.bme.queue ++ [d.tile] } }

theorem State.recorded_exposedAt (s : State) (d : ExposureDone) : (s.recorded d).exposedAt d.tile = s.completed d := by
  have h : (s.recorded d).prc.mapTile d.tile (Tile.moved .exposed)
      = Prc.mapTile { s.prc with expReq := none } d.tile (Tile.lastExposed d) :=
    Prc.mapTile_mapTile { s.prc with expReq := none } d.tile (f := Tile.exposed d) (g := Tile.moved .exposed) fun _ => rfl
  unfold State.exposedAt
  rw [h]
  rfl

section Last

variable {d : ExposureDone} {j : Job} {x : Tile}

theorem State.exec_lastCompletion {plan : List PlanEntry} (hr : s.prc.run ≠ .quiescing) (hx : s.prc.tile? d.tile = some x)
    (hst : x.state = .exposing) (hplan : x.plan = some plan) (hframe : d.withFrame = true)
    (hlen : x.exposures.length + 1 = plan.length) (hs : s.bme.state ≠ .idle) :
    exec (.exposureCompletion d) s = .next (State.completed (s.deliver (.exposureCompletion d)) d).afterCapture := by
  have hun : x.unexposed = true := by
    simp [Tile.unexposed, Tile.planLength, hst, hplan, ← hlen]
  rw [State.exec_exposureCompletion d hr, State.tileExposureDone_of (s := s.deliver (.exposureCompletion d)) hr hx,
    if_pos (by rw [hun, hframe]; rfl), if_pos ((Tile.lastExposure_iff hst hplan).2 hlen),
    State.tileExposed_busy (s := State.recorded (s.deliver (.exposureCompletion d)) d) hr hs, State.recorded_exposedAt]

theorem State.completed_job (hj : s.prc.activeJob? = some j) (hid : j.id = d.tile.job) :
    (s.completed d).prc.activeJob? = some (j.withTile d.tile.seq (Tile.lastExposed d)) := by
  have h : (s.completed d).prc.activeJob? = _ := Prc.activeJob?_mapTile_eq s.prc d.tile (Tile.lastExposed d)
  rw [h, hj, Option.map_some, if_pos hid]

theorem State.completed_captured (s : State) (d : ExposureDone) : (s.completed d).prc.captured d.tile :=
  Prc.captured_mapTile_self (f := Tile.lastExposed d) fun y => Tile.moved_captured rfl (y.exposed d)

theorem State.completed_otherRecords (s : State) (d : ExposureDone) : (s.completed d).prc.otherRecords s.prc d.tile :=
  .of_mapTile (Tile.lastExposed_seq d) rfl

/-- A tile of the job after a last completion is the one captured, or one that has not changed. -/
theorem Job.mem_lastExposed {n : Nat} {z : Tile} (hz : z ∈ (j.withTile n (Tile.lastExposed d)).tiles) :
    z.state.uncaptured = false ∨ z ∈ j.tiles ∧ z.seq ≠ n := by
  obtain ⟨y, hy, rfl⟩ := List.mem_map.1 hz
  by_cases hs : y.seq = n
  · rw [if_pos hs]
    exact .inl (Tile.moved_captured rfl (y.exposed d))
  · rw [if_neg hs]
    exact .inr ⟨hy, hs⟩

theorem Job.lastExposed_unexposing {n : Nat} (h : ∀ y ∈ j.tiles, y.state = .exposing → y.seq = n) :
    ∀ z ∈ (j.withTile n (Tile.lastExposed d)).tiles, z.state ≠ .exposing := by
  intro z hz hs
  obtain hcap | ⟨hm, hne⟩ := Job.mem_lastExposed hz
  · rw [hs] at hcap
    cases hcap
  · exact hne (h z hm hs)

theorem Job.mem_lastExposed_of {n : Nat} {y : Tile} (hy : y ∈ j.tiles) (hs : y.seq ≠ n) :
    y ∈ (j.withTile n (Tile.lastExposed d)).tiles :=
  List.mem_map.2 ⟨y, hy, if_neg hs⟩

theorem State.completed_unique (htab : s.prc.tableLaw) (hj : s.prc.job? j.id = some j) (hid : j.id = d.tile.job) :
    ∀ i ∈ (s.completed d).prc.jobs, i.id = j.id → i = j.withTile d.tile.seq (Tile.lastExposed d) := by
  intro i hi e
  obtain ⟨m, hm, rfl⟩ := Prc.mem_mapTile hi
  have hmid : m.id = j.id := by
    split at e
    · exact e
    · exact e
  rw [Prc.unique_of_tableLaw htab hj m hm hmid, if_pos hid]

theorem State.completed_state (hj : s.prc.activeJob? = some j) (hid : j.id = d.tile.job) (hjs : j.state = .capturing) :
    ((s.completed d).prc.job? j.id).map (·.state) = some .capturing := by
  obtain ⟨-, hjob⟩ := Prc.activeJob?_eq_some (State.completed_job hj hid)
  rw [show (s.completed d).prc.job? j.id = _ from hjob, Option.map_some]
  exact congrArg some hjs

theorem State.completed_tile? (hx : s.prc.tile? d.tile = some x) (hst : x.state = .exposing) :
    (s.completed d).prc.tile? d.tile = some { x.exposed d with state := .exposed } := by
  refine (Prc.tile?_mapTile_of (p := s.prc) (f := Tile.lastExposed d) hx (Tile.lastExposed_seq d)).trans ?_
  rw [Tile.lastExposed, Tile.moved_of (by rw [Tile.exposed, Tile.addExposure, hst]; rfl)]

/-- R28: the capture of the job ends with the tile. -/
theorem State.completed_unloads (htab : s.prc.tableLaw) (hj : s.prc.activeJob? = some j) (hid : j.id = d.tile.job)
    (hjs : j.state = .capturing) (hrun : s.prc.run = .running ∨ s.prc.run = .holding)
    (hcap : ∀ y ∈ j.tiles, y.seq ≠ d.tile.seq → y.state.uncaptured = false) (htrs : s.prc.trsReq = none) :
    ((s.completed d).afterCapture.prc.job? j.id).map (·.state) = some .unloading
    ∧ (s.completed d).afterCapture.prc.otherRecords s.prc d.tile
    ∧ (s.completed d).afterCapture.prc.trsReq = some .unload ∧ (s.completed d).afterCapture.prc.run = s.prc.run
    ∧ (s.completed d).afterCapture.inFlight = s.inFlight ++ [.unloadRequest .prc true] := by
  obtain ⟨k, hk⟩ : ∃ k : Job, k = j.withTile d.tile.seq (Tile.lastExposed d) := ⟨_, rfl⟩
  have hkid : k.id = j.id := by rw [hk]; rfl
  have hact : (s.completed d).prc.activeJob? = some k := by rw [hk]; exact State.completed_job hj hid
  have hjob := (Prc.activeJob?_eq_some hact).2
  have hdone : ∀ z ∈ k.tiles, z.state.uncaptured = false := fun z hz => by
    rw [hk] at hz
    exact (Job.mem_lastExposed hz).elim id fun ⟨hm, hne⟩ => hcap z hm hne
  have huniq : ∀ m ∈ (s.completed d).prc.jobs, m.id = k.id → m = k := by
    rw [hkid, hk]
    exact State.completed_unique htab (Prc.activeJob?_eq_some hj).2 hid
  rw [State.afterCapture_unloads (s := s.completed d) hrun hact (by rw [hk]; exact hjs) hdone htrs huniq]
  refine ⟨?_, .trans (.of_jobs rfl) (.trans ?_ (State.completed_otherRecords s d)), rfl, rfl, rfl⟩
  · rw [← hkid]
    exact congrArg (Option.map (·.state))
      (State.recordJob_job?_self (k := { k with state := .unloading, outcome := none }) hjob)
  · exact State.recordJob_otherRecords (k := { k with state := .unloading, outcome := none }) hjob rfl
      (hid.symm.trans hkid.symm)

/-- R26: the plan request put off is issued at the last completion. -/
theorem State.completed_plans (hcount : j.countLaw) (hj : s.prc.activeJob? = some j) (hid : j.id = d.tile.job)
    (hjs : j.state = .capturing) (hrun : s.prc.run = .running)
    (honly : ∀ y ∈ j.tiles, y.state = .exposing → y.seq = d.tile.seq)
    (hthis : ∀ y ∈ j.tiles, y.seq = d.tile.seq → y.state = .exposing) {y : Tile}
    (hy : j.tiles.find? (fun z => decide (z.state = .metering ∨ z.state = .planned)) = some y) (hys : y.state = .metering)
    (hc : s.cru.state = .idle) (hplan : s.prc.planReq = none) :
    ((s.completed d).afterCapture.prc.job? j.id).map (·.state) = some .capturing
    ∧ (s.completed d).afterCapture.prc.planReq = some ⟨j.id, y.seq⟩
    ∧ (s.completed d).afterCapture.prc.tile? ⟨j.id, y.seq⟩ = some y.unplan
    ∧ (s.completed d).afterCapture.inFlight = s.inFlight ++ [.planRequest (.prc ⟨j.id, y.seq⟩)] := by
  have hym := List.mem_of_find?_eq_some hy
  have hne : y.seq ≠ d.tile.seq := fun e => by
    rw [hthis y hym e] at hys
    cases hys
  have hfind : (j.withTile d.tile.seq (Tile.lastExposed d)).tiles.find?
      (fun z => decide (z.state = .metering ∨ z.state = .planned)) = some y := by
    refine (find?_mapTiles fun z hz hzs => ⟨?_, ?_⟩).trans hy
    · rw [hthis z hz hzs]
      rfl
    · have hcap : (z.lastExposed d).state.uncaptured = false := Tile.moved_captured rfl (z.exposed d)
      rw [decide_eq_false_iff_not]
      rintro (h | h) <;> rw [h] at hcap <;> cases hcap
  have htile : (s.completed d).prc.tile? ⟨j.id, y.seq⟩ = some y := by
    have hkept := (State.completed_otherRecords s d).2 y.seq hne
    rw [← hid] at hkept
    exact hkept.symm.trans (Prc.tile?_of_mem (Prc.activeJob?_eq_some hj).2 hcount hym)
  rw [State.afterCapture_plans (s := s.completed d) hrun (State.completed_job hj hid) (Job.lastExposed_unexposing honly) hfind hys hc hplan]
  refine ⟨?_, rfl, Prc.tile?_mapTile_of (p := (s.completed d).prc) (f := Tile.unplan) htile fun _ => rfl, rfl⟩
  have hstate := State.completed_state hj hid hjs
  refine Eq.trans ?_ hstate
  refine (congrArg (Option.map (·.state)) (Prc.job?_mapTile_eq (s.completed d).prc ⟨j.id, y.seq⟩ Tile.unplan j.id)).trans ?_
  rw [Option.map_map]
  refine congrArg (Option.map · _) (funext fun i => ?_)
  dsimp only [Function.comp]
  split
  · rfl
  · rfl

/-- R31: the last completion takes a HOLDING run with more to capture to its hold point. -/
theorem State.completed_holds (hj : s.prc.activeJob? = some j) (hid : j.id = d.tile.job) (hjs : j.state = .capturing)
    (hrun : s.prc.run = .holding) (honly : ∀ y ∈ j.tiles, y.state = .exposing → y.seq = d.tile.seq) {y : Tile}
    (hy : y ∈ j.tiles) (hne : y.seq ≠ d.tile.seq) (hun : y.state.uncaptured = true) (htrs : s.prc.trsReq = none)
    (hunl : s.prc.unloadNext = none) (hplan : s.prc.planReq = none) :
    (s.completed d).afterCapture.prc.otherRecords s.prc d.tile
    ∧ (s.completed d).afterCapture.prc = { s.prc with
      jobs := (s.completed d).afterCapture.prc.jobs, expReq := none, retryBack := none
      run := .held (if s.prc.holdByLink then .link else .requested) }
    ∧ ((s.completed d).afterCapture.prc.job? j.id).map (·.state) = some .capturing
    ∧ (s.completed d).afterCapture.inFlight = s.inFlight := by
  have hheld := State.goHeld_prc_of_unheld (s := s.completed d) (if s.prc.holdByLink then .link else .requested)
    (.inr (.inl hrun))
  have heq : (s.completed d).afterCapture = (s.completed d).goHeld (if s.prc.holdByLink then .link else .requested) :=
    State.afterCapture_holds hrun (State.completed_job hj hid) (Job.lastExposed_unexposing honly)
      ⟨y, Job.mem_lastExposed_of hy hne, hun⟩ htrs hunl hplan rfl
  rw [heq]
  refine ⟨.trans (.of_jobs (by simp)) (State.completed_otherRecords s d), ?_, ?_, by simp [State.completed]⟩
  · rw [hheld]
    rfl
  · rw [hheld]
    exact State.completed_state hj hid hjs

end Last

/-- Settles O26: PRC's part of each completion in each run state, with the take-up by an IDLE BME in the event of the last. -/
theorem exposureRequests : Obligations.ExposureRequests := by
  refine ⟨?_, ?_, ?_, fun s d _ _ hr hs hq => State.exposureCompletion_goesOn hr hs hq⟩
  · intro s r x e es slots n hr hadm hx hst hplan hno hn hc hexp hback
    exact admissionGrant_requests hr hadm hx hst hplan hno hn hc hexp hback
  · intro s d x plan e n hr hx hst hplan hframe he hn hc hback hlow dev
    obtain ⟨t, hexec, honly, hother, htile, hrest⟩ :=
      exposureCompletion_requests hr hx hst hplan hframe he hn hc hback hlow
    rw [x.exposed_eq d] at htile
    exact ⟨t, hexec, honly, hother, htile, hrest⟩
  · intro s d j x plan htab hcount hr hj hid hjs hx hst hplan hframe hlen hs hc honly dev x'
    obtain ⟨u, hu⟩ : ∃ u : State, u = s.deliver (.exposureCompletion d) := ⟨_, rfl⟩
    obtain ⟨hprc, hmsg⟩ : u.prc = s.prc ∧ u.inFlight = s.inFlight.erase (.exposureCompletion d) := by
      rw [hu]
      exact ⟨rfl, rfl⟩
    obtain ⟨hact, hjob⟩ := Prc.activeJob?_eq_some hj
    obtain ⟨-, -, -, hseq⟩ := Prc.tile?_some hx
    rw [hseq] at honly
    have hthis : ∀ z ∈ j.tiles, z.seq = d.tile.seq → z.state = .exposing := fun z hz hzs => by
      have := Prc.tile?_of_mem hjob hcount hz
      rw [hid, hzs] at this
      rw [Option.some.inj (this.symm.trans hx), hst]
    have htile := State.completed_tile? (s := u) (by rw [hprc]; exact hx) hst
    rw [x.exposed_eq d] at htile
    obtain ⟨hstile, -, -, -, hsexp, hsback, hsjobs⟩ := State.afterCapture_spares (u.completed_captured d)
    obtain ⟨h1, h2, h3, h4, h5, h6, h7, h8, -⟩ := (u.completed d).afterCapture_prcOnly
    have hother := u.completed_otherRecords d
    rw [← hprc] at htab hj hr
    refine ⟨(u.completed d).afterCapture, ?_, h6.trans ?_, h2.trans ?_, h3.trans ?_, h4.trans ?_, h5.trans ?_, h7.trans ?_,
      h8.trans ?_, h1.trans ?_, hstile.trans htile, hsexp, hsback, fun i hi => ?_, fun hrun => ?_, fun hrun hcap htrs => ?_,
      fun y hrun hy hys hplan htrs _ => ?_, fun ⟨c, hrun⟩ => ?_, fun y hy hrun hyx hun htrs hunl hplan => ?_⟩
    case refine_1 =>
      rw [hu]
      exact State.exec_lastCompletion (by rw [← hprc]; exact hr) hx hst hplan hframe hlen hs
    case refine_10 =>
      rw [hsjobs i fun h => hi (Option.some.inj (h.symm.trans (by exact (Prc.activeJob?_eq_some hj).1))), ← hprc]
      exact (hother.1 i (by rw [← hid]; exact hi)).symm
    case refine_11 => exact State.afterCapture_running (s := u.completed d) (show u.prc.run = _ by rw [hprc]; exact hrun)
    case refine_12 =>
      rw [← hprc, ← hmsg]
      exact State.completed_unloads htab hj hid hjs (by rw [hprc]; exact hrun) (by rw [← hseq]; exact hcap)
        (by rw [hprc]; exact htrs)
    case refine_13 =>
      obtain ⟨g1, g2, g3, g4⟩ := State.completed_plans hcount hj hid hjs (by rw [hprc]; exact hrun) honly hthis hy hys
        (by rw [hu]; exact hc) (by rw [hprc]; exact hplan)
      rw [← hmsg]
      refine ⟨g1, g2, g3.trans ?_, g4⟩
      simp [Tile.unplan, TileFlags.clearPlanning, hys]
    case refine_14 =>
      rw [State.afterCapture_held (s := u.completed d) (c := c) (show u.prc.run = _ by rw [hprc]; exact hrun), ← hprc, ← hmsg]
      exact ⟨hother, rfl, State.completed_state hj hid hjs, rfl⟩
    case refine_15 =>
      rw [← hprc, ← hmsg]
      exact State.completed_holds hj hid hjs (by rw [hprc]; exact hrun) honly hy (by rw [← hseq]; exact hyx) hun
        (by rw [hprc]; exact htrs) (by rw [hprc]; exact hunl) (by rw [hprc]; exact hplan)
    all_goals rw [hu]; rfl

end Sys2Proof.Machine
end
